-- ==== Sys2Proof/Word.lean ====
section
/-! DEFINITION. The word types of the block and their plainest arithmetic: bytes, 32-bit register words (00 R7), RAW48
(00 R12) and the two's-complement reading of a bit field. -/

namespace Sys2Proof

/-- One byte. -/
abbrev Byte := BitVec 8
/-- One register word (00 R7). -/
abbrev Word := BitVec 32
/-- The raw core-cycle counter (00 R12, 02 R41). -/
abbrev Raw48 := BitVec 48

end Sys2Proof
end

