-- ==== Sys2Proof/RegTypes.lean ====
section
/-! DEFINITION. What a register map says of a register (00 R7 to R10): its fields with their access codes, the values a
field lists, its instances and its reset word. -/

namespace Sys2Proof

/-- The access codes of 00 R8, without the /C suffix. -/
inductive Access where
  | ro | rw | wo | w1c | w1p | rwl | roc
  deriving DecidableEq, Repr

/-- A named field of one register: the register's address and the field's bits, high and low. -/
structure Fld where
  addr : Nat
  hi : Nat
  lo : Nat
  deriving DecidableEq, Repr

/-- A field of a register map: bits, access code, /C suffix, and the listed values where the map lists them
(00 R10; an empty list means every value of the field's width). -/
structure FieldDesc where
  hi : Nat
  lo : Nat
  acc : Access
  cust : Bool
  legal : List (Nat × Nat)
  deriving DecidableEq, Repr

/-- A register of a map: the address of instance 0, the instance counts and strides (22 R554), whether it exists once per
host interface (02 R48), its reset word and its fields. -/
structure RegDesc where
  base : Nat
  dims : List (Nat × Nat)
  perIf : Bool
  reset : Nat
  fields : List FieldDesc
  deriving DecidableEq, Repr

end Sys2Proof
end

