-- ==== Sys2Proof/Machine/RegMap.lean ====
section
/-! DEFINITION. The register maps of the spec as data: per window, every register with its address, instance strides,
writable and readable fields, access codes (00 R8), listed values (00 R10) and reset value; and the mapped words (22 R555). -/

namespace Sys2Proof.Machine

def regsGEN0 : List RegDesc := [
  -- GEN_ID_W0
  ⟨0x000000, [], false, 0x16887A0F,
    [⟨31, 0, .ro, false, []⟩]⟩,
  -- GEN_ID_W1
  ⟨0x000004, [], false, 0x00000100,
    [⟨31, 0, .ro, false, []⟩]⟩,
  -- GEN_ID_W2
  ⟨0x000008, [], false, 0x00000000,
    [⟨31, 0, .ro, false, []⟩]⟩,
  -- GEN_ID_W3
  ⟨0x00000C, [], false, 0x00000000,
    [⟨31, 0, .ro, false, []⟩]⟩,
  -- GEN_LC
  ⟨0x000010, [], false, 0x00000001,
    [⟨2, 0, .ro, false, []⟩, ⟨7, 4, .ro, false, []⟩]⟩,
  -- GEN_LC_REQ
  ⟨0x000014, [], false, 0x00000000,
    [⟨2, 0, .rw, true, []⟩, ⟨15, 8, .rw, true, []⟩, ⟨18, 16, .ro, false, []⟩, ⟨31, 31, .w1p, true, []⟩]⟩,
  -- GEN_CLKID_LO
  ⟨0x000018, [], false, 0x00000000,
    [⟨31, 0, .rwl, true, []⟩]⟩,
  -- GEN_CLKID_HI
  ⟨0x00001C, [], false, 0x00000000,
    [⟨31, 0, .rwl, true, []⟩]⟩,
  -- GEN_STROKE_NUM
  ⟨0x000100, [], false, 0x00000000,
    [⟨31, 0, .ro, false, []⟩]⟩,
  -- GEN_STROKE_RAW_LO
  ⟨0x000104, [], false, 0x00000000,
    [⟨31, 0, .ro, false, []⟩]⟩,
  -- GEN_STROKE_RAW_HI
  ⟨0x000108, [], false, 0x00000000,
    [⟨15, 0, .ro, false, []⟩]⟩,
  -- GEN_STROKE_CTL
  ⟨0x00010C, [], false, 0x00000000,
    [⟨0, 0, .rw, true, []⟩, ⟨1, 1, .w1p, true, []⟩]⟩,
  -- GEN_STROKE_STAT
  ⟨0x000110, [], false, 0x00000000,
    [⟨0, 0, .ro, false, []⟩, ⟨1, 1, .w1c, true, []⟩, ⟨2, 2, .w1c, true, []⟩, ⟨8, 8, .w1c, true, []⟩, ⟨9, 9, .w1c, true, []⟩, ⟨24, 16, .ro, false, []⟩, ⟨26, 25, .ro, false, []⟩, ⟨31, 28, .ro, false, []⟩]⟩,
  -- GEN_SOLVER_LOAD
  ⟨0x000114, [], false, 0x00000000,
    [⟨7, 0, .ro, false, []⟩, ⟨15, 8, .ro, false, []⟩, ⟨23, 16, .ro, false, []⟩, ⟨31, 24, .ro, false, []⟩]⟩]

def regsGEN : List RegDesc := regsGEN0

def regsPWR0 : List RegDesc := [
  -- PWR_STAT
  ⟨0x010000, [], false, 0x00000000,
    [⟨0, 0, .ro, false, []⟩, ⟨1, 1, .ro, false, []⟩, ⟨2, 2, .ro, false, []⟩, ⟨3, 3, .ro, false, []⟩, ⟨4, 4, .ro, false, []⟩, ⟨5, 5, .ro, false, []⟩]⟩,
  -- PWR_EVT
  ⟨0x010004, [], false, 0x00000000,
    [⟨0, 0, .w1c, true, []⟩, ⟨1, 1, .w1c, true, []⟩, ⟨2, 2, .w1c, true, []⟩, ⟨3, 3, .w1c, true, []⟩, ⟨4, 4, .w1c, true, []⟩]⟩,
  -- PWR_RST_CAUSE
  ⟨0x010008, [], false, 0x00000000,
    [⟨2, 0, .ro, false, []⟩, ⟨3, 3, .ro, false, []⟩, ⟨4, 4, .ro, false, []⟩, ⟨24, 16, .ro, false, []⟩]⟩,
  -- PWR_RST_CMD
  ⟨0x01000C, [], false, 0x00000000,
    [⟨0, 0, .w1p, true, []⟩, ⟨15, 8, .wo, true, []⟩]⟩,
  -- PWR_SPLL_CFG
  ⟨0x010010, [], false, 0x00100000,
    [⟨7, 0, .rwl, true, [(1, 255)]⟩, ⟨19, 8, .rwl, true, [(1, 4095)]⟩, ⟨20, 20, .rw, true, []⟩, ⟨21, 21, .w1p, true, []⟩]⟩,
  -- PWR_SPLL_NUM
  ⟨0x010014, [], false, 0x00000000,
    [⟨31, 0, .rwl, true, []⟩]⟩,
  -- PWR_SPLL_DEN
  ⟨0x010018, [], false, 0x00000001,
    [⟨31, 0, .rwl, true, []⟩]⟩,
  -- PWR_SPLL_OSC_HZ
  ⟨0x01001C, [], false, 0x00000000,
    [⟨31, 0, .rwl, true, []⟩]⟩,
  -- PWR_SPLL_STAT
  ⟨0x010020, [], false, 0x1F400000,
    [⟨0, 0, .ro, false, []⟩, ⟨1, 1, .ro, false, []⟩, ⟨31, 16, .rw, true, [(1, 65535)]⟩]⟩,
  -- PWR_SPLL_CNT
  ⟨0x010024, [], false, 0x00000000,
    [⟨15, 0, .ro, false, []⟩, ⟨31, 16, .roc, false, []⟩]⟩,
  -- PWR_PFAIL_CFG
  ⟨0x010028, [], false, 0x00640000,
    [⟨0, 0, .rw, true, []⟩, ⟨1, 1, .rw, true, []⟩, ⟨2, 2, .rw, true, []⟩, ⟨3, 3, .rw, true, []⟩, ⟨31, 16, .rw, true, [(1, 65535)]⟩]⟩,
  -- PWR_RTC_SEC_LO
  ⟨0x010030, [], false, 0x00000000,
    [⟨31, 0, .ro, false, []⟩]⟩,
  -- PWR_RTC_SEC_HI
  ⟨0x010034, [], false, 0x00000000,
    [⟨15, 0, .ro, false, []⟩]⟩,
  -- PWR_RTC_SUB
  ⟨0x010038, [], false, 0x00000000,
    [⟨14, 0, .ro, false, []⟩]⟩,
  -- PWR_RTC_STAT
  ⟨0x01003C, [], false, 0x00000000,
    [⟨0, 0, .ro, false, []⟩, ⟨1, 1, .ro, false, []⟩]⟩,
  -- PWR_RTC_SET_LO
  ⟨0x010040, [], false, 0x00000000,
    [⟨31, 0, .rw, true, []⟩]⟩,
  -- PWR_RTC_SET_HI
  ⟨0x010044, [], false, 0x00000000,
    [⟨15, 0, .rw, true, []⟩]⟩,
  -- PWR_RTC_SET_SUB
  ⟨0x010048, [], false, 0x00000000,
    [⟨14, 0, .rw, true, []⟩]⟩,
  -- PWR_RTC_CMD
  ⟨0x01004C, [], false, 0x00000000,
    [⟨0, 0, .w1p, true, []⟩, ⟨1, 1, .w1p, true, []⟩]⟩,
  -- PWR_LTOL
  ⟨0x010100, [(9, 0x4)], false, 0x00000000,
    [⟨15, 0, .rw, true, []⟩]⟩,
  -- PWR_DOM
  ⟨0x010200, [(12, 0x4)], false, 0x00000000,
    [⟨1, 0, .ro, false, []⟩, ⟨2, 2, .ro, false, []⟩, ⟨3, 3, .ro, false, []⟩, ⟨31, 16, .roc, false, []⟩]⟩,
  -- PWR_RET_USER
  ⟨0x018000, [(512, 0x4)], false, 0x00000000,
    [⟨31, 0, .rw, true, []⟩]⟩]

def regsPWR : List RegDesc := regsPWR0

def regsETM0 : List RegDesc := [
  -- ETM_CTL
  ⟨0x020000, [], false, 0x00000018,
    [⟨0, 0, .w1p, true, []⟩, ⟨1, 1, .w1p, true, []⟩, ⟨3, 3, .rw, true, []⟩, ⟨4, 4, .rw, true, []⟩]⟩,
  -- ETM_STAT
  ⟨0x020004, [], false, 0x00000000,
    [⟨1, 0, .ro, false, []⟩, ⟨2, 2, .ro, false, []⟩, ⟨4, 3, .ro, false, []⟩, ⟨5, 5, .ro, false, []⟩, ⟨6, 6, .w1c, true, []⟩, ⟨10, 8, .ro, false, []⟩, ⟨31, 16, .ro, false, []⟩]⟩,
  -- ETM_STEP_STROKE
  ⟨0x020008, [], false, 0x00000000,
    [⟨31, 0, .ro, false, []⟩]⟩,
  -- ETM_NOW_W0
  ⟨0x020010, [], true, 0x00000000,
    [⟨31, 0, .ro, false, []⟩]⟩,
  -- ETM_NOW_W1
  ⟨0x020014, [], true, 0x00000000,
    [⟨31, 0, .ro, false, []⟩]⟩,
  -- ETM_NOW_W2
  ⟨0x020018, [], true, 0x00000000,
    [⟨31, 0, .ro, false, []⟩]⟩,
  -- ETM_NOW_RAWF_LO
  ⟨0x02001C, [], true, 0x00000000,
    [⟨31, 0, .ro, false, []⟩]⟩,
  -- ETM_NOW_RAWF_HI
  ⟨0x020020, [], true, 0x00000000,
    [⟨27, 0, .ro, false, []⟩]⟩,
  -- ETM_OFFSET_W0
  ⟨0x020030, [], true, 0x00000000,
    [⟨31, 0, .ro, false, []⟩]⟩,
  -- ETM_OFFSET_W1
  ⟨0x020034, [], true, 0x00000000,
    [⟨31, 0, .ro, false, []⟩]⟩,
  -- ETM_OFFSET_W2
  ⟨0x020038, [], true, 0x00000000,
    [⟨31, 0, .ro, false, []⟩]⟩,
  -- ETM_OFFSET_XF
  ⟨0x02003C, [], true, 0x00000000,
    [⟨31, 0, .ro, false, []⟩]⟩,
  -- ETM_ANCHOR_LO
  ⟨0x020040, [], true, 0x00000000,
    [⟨31, 0, .ro, false, []⟩]⟩,
  -- ETM_ANCHOR_HI
  ⟨0x020044, [], true, 0x00000000,
    [⟨15, 0, .ro, false, []⟩]⟩,
  -- ETM_RATE_LO
  ⟨0x020048, [], true, 0x00000000,
    [⟨31, 0, .ro, false, []⟩]⟩,
  -- ETM_RATE_HI
  ⟨0x02004C, [], true, 0x00000000,
    [⟨15, 0, .ro, false, []⟩]⟩,
  -- ETM_STEP_SEC_LO
  ⟨0x020050, [], false, 0x00000000,
    [⟨31, 0, .rw, true, []⟩]⟩,
  -- ETM_STEP_SEC_HI
  ⟨0x020054, [], false, 0x00000000,
    [⟨15, 0, .rw, true, []⟩]⟩,
  -- ETM_STEP_NS
  ⟨0x020058, [], false, 0x00000000,
    [⟨31, 0, .rw, true, [(0, 999999999)]⟩]⟩,
  -- ETM_STEP_FRAC
  ⟨0x02005C, [], false, 0x00000000,
    [⟨15, 0, .rw, true, []⟩]⟩,
  -- ETM_STEP_CMD
  ⟨0x020060, [], false, 0x00000000,
    [⟨0, 0, .w1p, true, []⟩, ⟨1, 1, .rw, true, []⟩]⟩,
  -- ETM_LAST_DELTA_W0
  ⟨0x020064, [], false, 0x00000000,
    [⟨31, 0, .ro, false, []⟩]⟩,
  -- ETM_LAST_DELTA_W1
  ⟨0x020068, [], false, 0x00000000,
    [⟨31, 0, .ro, false, []⟩]⟩,
  -- ETM_LAST_DELTA_W2
  ⟨0x02006C, [], false, 0x00000000,
    [⟨31, 0, .ro, false, []⟩]⟩,
  -- ETM_LAST_STEP_RAW_LO
  ⟨0x020070, [], false, 0x00000000,
    [⟨31, 0, .ro, false, []⟩]⟩,
  -- ETM_LAST_STEP_RAW_HI
  ⟨0x020074, [], false, 0x00000000,
    [⟨15, 0, .ro, false, []⟩]⟩,
  -- ETM_UTC
  ⟨0x020080, [], false, 0x00000000,
    [⟨15, 0, .ro, false, []⟩, ⟨16, 16, .ro, false, []⟩, ⟨19, 17, .ro, false, []⟩, ⟨21, 20, .ro, false, []⟩, ⟨22, 22, .w1c, true, []⟩]⟩,
  -- ETM_UTC_SET
  ⟨0x020084, [], false, 0x00000000,
    [⟨15, 0, .rw, true, []⟩, ⟨17, 16, .rw, true, [(0, 2)]⟩, ⟨18, 18, .rw, true, []⟩, ⟨19, 19, .rw, true, []⟩]⟩,
  -- ETM_LEAP_TAI_LO
  ⟨0x020088, [], false, 0x00000000,
    [⟨31, 0, .rw, true, []⟩]⟩,
  -- ETM_LEAP_TAI_HI
  ⟨0x02008C, [], false, 0x00000000,
    [⟨15, 0, .rw, true, []⟩]⟩]

def regsETM1 : List RegDesc := [
  -- ETM_CONV_IN_W0
  ⟨0x020090, [], true, 0x00000000,
    [⟨31, 0, .rw, false, []⟩]⟩,
  -- ETM_CONV_IN_W1
  ⟨0x020094, [], true, 0x00000000,
    [⟨31, 0, .rw, false, []⟩]⟩,
  -- ETM_CONV_IN_W2
  ⟨0x020098, [], true, 0x00000000,
    [⟨31, 0, .rw, false, []⟩]⟩,
  -- ETM_CONV_CMD
  ⟨0x02009C, [], true, 0x00000000,
    [⟨0, 0, .w1p, false, []⟩, ⟨1, 1, .rw, false, []⟩]⟩,
  -- ETM_CONV_OUT_W0
  ⟨0x0200A0, [], true, 0x00000000,
    [⟨31, 0, .ro, false, []⟩]⟩,
  -- ETM_CONV_OUT_W1
  ⟨0x0200A4, [], true, 0x00000000,
    [⟨31, 0, .ro, false, []⟩]⟩,
  -- ETM_CONV_OUT_W2
  ⟨0x0200A8, [], true, 0x00000000,
    [⟨31, 0, .ro, false, []⟩]⟩,
  -- ETM_CONV_STAT
  ⟨0x0200AC, [], true, 0x00000000,
    [⟨0, 0, .ro, false, []⟩, ⟨1, 1, .ro, false, []⟩, ⟨2, 2, .ro, false, []⟩, ⟨3, 3, .ro, false, []⟩]⟩,
  -- ETM_REEPOCH_CFG
  ⟨0x0200B0, [], false, 0x00081F40,
    [⟨15, 0, .rw, true, [(1, 65535)]⟩, ⟨23, 16, .rw, true, [(1, 255)]⟩]⟩,
  -- ETM_ALM_TGT_LO
  ⟨0x020100, [(8, 0x10)], false, 0x00000000,
    [⟨31, 0, .rw, true, []⟩]⟩,
  -- ETM_ALM_TGT_HI
  ⟨0x020104, [(8, 0x10)], false, 0x00000000,
    [⟨15, 0, .rw, true, []⟩]⟩,
  -- ETM_ALM_PERIOD
  ⟨0x020108, [(8, 0x10)], false, 0x00000000,
    [⟨31, 0, .rw, true, []⟩]⟩,
  -- ETM_ALM_CTL
  ⟨0x02010C, [(8, 0x10)], false, 0x00000000,
    [⟨0, 0, .rw, true, []⟩, ⟨1, 1, .rw, true, []⟩, ⟨8, 8, .w1c, true, []⟩, ⟨9, 9, .w1c, true, []⟩]⟩]

def regsETM : List RegDesc := regsETM0 ++ regsETM1

def regsCLP0 : List RegDesc := [
  -- CLP_CTL
  ⟨0x030000, [], false, 0x00000000,
    [⟨0, 0, .w1p, true, []⟩]⟩,
  -- CLP_CAL_CFG
  ⟨0x030004, [], false, 0x00000010,
    [⟨7, 0, .rw, true, [(1, 255)]⟩]⟩,
  -- CLP_INV_MAP
  ⟨0x030008, [], false, 0x00FFFFFF,
    [⟨23, 0, .ro, false, []⟩]⟩,
  -- CLP_AUX_CAL
  ⟨0x03000C, [], false, 0x00000000,
    [⟨15, 0, .ro, false, []⟩, ⟨16, 16, .ro, false, []⟩]⟩,
  -- CLP_CH_CFG
  ⟨0x031000, [(24, 0x80)], false, 0x01008000,
    [⟨1, 0, .rw, true, [(0, 2)]⟩, ⟨3, 2, .rw, true, [(0, 2)]⟩, ⟨8, 4, .rw, true, [(0, 16)]⟩, ⟨13, 9, .rw, true, [(0, 16)]⟩, ⟨14, 14, .rw, true, []⟩, ⟨15, 15, .rw, true, []⟩, ⟨16, 16, .rw, true, []⟩, ⟨18, 17, .rw, true, [(0, 2)]⟩, ⟨23, 19, .rw, true, [(0, 24)]⟩, ⟨24, 24, .rw, true, []⟩]⟩,
  -- CLP_CH_SRC
  ⟨0x031004, [(24, 0x80)], false, 0x00003F00,
    [⟨5, 0, .rw, true, [(0, 39), (63, 63)]⟩, ⟨13, 8, .rw, true, [(0, 39), (63, 63)]⟩]⟩,
  -- CLP_CH_CMD
  ⟨0x031008, [(24, 0x80)], false, 0x00000000,
    [⟨0, 0, .w1p, true, []⟩, ⟨1, 1, .w1p, true, []⟩, ⟨2, 2, .w1p, true, []⟩, ⟨3, 3, .w1p, true, []⟩, ⟨4, 4, .w1p, true, []⟩]⟩,
  -- CLP_CH_STAT
  ⟨0x03100C, [(24, 0x80)], false, 0x00000000,
    [⟨1, 0, .ro, false, []⟩, ⟨2, 2, .w1c, true, []⟩, ⟨3, 3, .w1c, true, []⟩, ⟨4, 4, .w1c, true, []⟩, ⟨5, 5, .ro, false, []⟩, ⟨6, 6, .ro, false, []⟩, ⟨7, 7, .ro, false, []⟩, ⟨8, 8, .ro, false, []⟩]⟩,
  -- CLP_CH_PRE_WIN
  ⟨0x031010, [(24, 0x80)], false, 0x00000000,
    [⟨31, 0, .rw, true, []⟩]⟩,
  -- CLP_CH_POST_WIN
  ⟨0x031014, [(24, 0x80)], false, 0x0003D090,
    [⟨31, 0, .rw, true, []⟩]⟩,
  -- CLP_CH_EXT_DELAY
  ⟨0x031018, [(24, 0x80)], false, 0x00000000,
    [⟨31, 0, .rw, true, []⟩]⟩,
  -- CLP_CH_NOMINAL_LO
  ⟨0x03101C, [(24, 0x80)], false, 0x00000000,
    [⟨31, 0, .rw, true, []⟩]⟩,
  -- CLP_CH_NOMINAL_HI
  ⟨0x031020, [(24, 0x80)], false, 0x00000000,
    [⟨31, 0, .rw, true, []⟩]⟩,
  -- CLP_CH_Q_LO
  ⟨0x031024, [(24, 0x80)], false, 0x00000000,
    [⟨31, 0, .ro, false, []⟩]⟩,
  -- CLP_CH_Q_HI
  ⟨0x031028, [(24, 0x80)], false, 0x00000000,
    [⟨31, 0, .ro, false, []⟩]⟩,
  -- CLP_CH_Q_LEVEL
  ⟨0x03102C, [(24, 0x80)], false, 0x02000000,
    [⟨10, 0, .ro, false, []⟩, ⟨26, 16, .rw, true, [(1, 1024)]⟩]⟩,
  -- CLP_CH_RES_LO
  ⟨0x031030, [(24, 0x80)], false, 0x00000000,
    [⟨31, 0, .ro, false, []⟩]⟩,
  -- CLP_CH_RES_HI
  ⟨0x031034, [(24, 0x80)], false, 0x00000000,
    [⟨31, 0, .ro, false, []⟩]⟩,
  -- CLP_CH_MEAN_W0
  ⟨0x031038, [(24, 0x80)], false, 0x00000000,
    [⟨31, 0, .ro, false, []⟩]⟩,
  -- CLP_CH_MEAN_W1
  ⟨0x03103C, [(24, 0x80)], false, 0x00000000,
    [⟨31, 0, .ro, false, []⟩]⟩,
  -- CLP_CH_MEAN_W2
  ⟨0x031040, [(24, 0x80)], false, 0x00000000,
    [⟨7, 0, .ro, false, []⟩]⟩,
  -- CLP_CH_SDEV
  ⟨0x031044, [(24, 0x80)], false, 0x00000000,
    [⟨31, 0, .ro, false, []⟩]⟩,
  -- CLP_CH_MIN_LO
  ⟨0x031048, [(24, 0x80)], false, 0x00000000,
    [⟨31, 0, .ro, false, []⟩]⟩,
  -- CLP_CH_MIN_HI
  ⟨0x03104C, [(24, 0x80)], false, 0x00000000,
    [⟨15, 0, .ro, false, []⟩]⟩,
  -- CLP_CH_MAX_LO
  ⟨0x031050, [(24, 0x80)], false, 0x00000000,
    [⟨31, 0, .ro, false, []⟩]⟩,
  -- CLP_CH_MAX_HI
  ⟨0x031054, [(24, 0x80)], false, 0x00000000,
    [⟨15, 0, .ro, false, []⟩]⟩,
  -- CLP_CH_STAT_N
  ⟨0x031058, [(24, 0x80)], false, 0x00000000,
    [⟨24, 0, .ro, false, []⟩, ⟨31, 25, .ro, false, []⟩]⟩,
  -- CLP_CH_DROP
  ⟨0x03105C, [(24, 0x80)], false, 0x00000000,
    [⟨31, 0, .roc, false, []⟩]⟩,
  -- CLP_CH_MISS
  ⟨0x031060, [(24, 0x80)], false, 0x00000000,
    [⟨15, 0, .roc, false, []⟩, ⟨31, 16, .roc, false, []⟩]⟩,
  -- CLP_CH_CAL
  ⟨0x031064, [(24, 0x80)], false, 0x00000000,
    [⟨15, 0, .ro, false, []⟩, ⟨23, 16, .ro, false, []⟩]⟩]

def regsCLP1 : List RegDesc := [
  -- CLP_CH_SNAP_CNT
  ⟨0x031068, [(24, 0x80)], false, 0x00000000,
    [⟨15, 0, .ro, false, []⟩, ⟨16, 16, .ro, false, []⟩, ⟨17, 17, .ro, false, []⟩, ⟨18, 18, .ro, false, []⟩]⟩,
  -- CLP_CH_SNAP_FIRST_LO
  ⟨0x03106C, [(24, 0x80)], false, 0x00000000,
    [⟨31, 0, .ro, false, []⟩]⟩,
  -- CLP_CH_SNAP_FIRST_HI
  ⟨0x031070, [(24, 0x80)], false, 0x00000000,
    [⟨27, 0, .ro, false, []⟩]⟩,
  -- CLP_CH_SNAP_LAST_LO
  ⟨0x031074, [(24, 0x80)], false, 0x00000000,
    [⟨31, 0, .ro, false, []⟩]⟩,
  -- CLP_CH_SNAP_LAST_HI
  ⟨0x031078, [(24, 0x80)], false, 0x00000000,
    [⟨27, 0, .ro, false, []⟩]⟩]

def regsCLP : List RegDesc := regsCLP0 ++ regsCLP1

def regsRMON0 : List RegDesc := [
  -- RMON_STATE_LO
  ⟨0x040000, [], false, 0x00000000,
    [⟨31, 0, .ro, false, []⟩]⟩,
  -- RMON_STATE_HI
  ⟨0x040004, [], false, 0x00000000,
    [⟨31, 0, .ro, false, []⟩]⟩,
  -- RMON_CHG
  ⟨0x040008, [], false, 0x00000000,
    [⟨31, 0, .w1c, true, []⟩]⟩,
  -- RMON_CFG_ERR
  ⟨0x04000C, [], false, 0xFFFFFFFF,
    [⟨31, 0, .ro, false, []⟩]⟩,
  -- RMON_MON_CFG
  ⟨0x041000, [(32, 0x80)], false, 0x00140400,
    [⟨2, 0, .rw, true, [(0, 4)]⟩, ⟨3, 3, .rw, true, []⟩, ⟨4, 4, .rw, true, []⟩, ⟨5, 5, .rw, true, []⟩, ⟨7, 6, .rw, true, [(0, 2)]⟩, ⟨8, 8, .rw, true, []⟩, ⟨9, 9, .rw, true, []⟩, ⟨10, 10, .rw, true, []⟩, ⟨11, 11, .rw, true, []⟩, ⟨12, 12, .rw, true, []⟩, ⟨19, 16, .rw, true, []⟩, ⟨21, 20, .rw, true, []⟩]⟩,
  -- RMON_MON_SRC
  ⟨0x041004, [(32, 0x80)], false, 0x00000000,
    [⟨2, 0, .rw, true, [(0, 5)]⟩, ⟨15, 4, .rw, true, []⟩]⟩,
  -- RMON_MON_NOM_PERIOD_LO
  ⟨0x041008, [(32, 0x80)], false, 0x00000000,
    [⟨31, 0, .rw, true, []⟩]⟩,
  -- RMON_MON_NOM_PERIOD_HI
  ⟨0x04100C, [(32, 0x80)], false, 0x00000000,
    [⟨31, 0, .rw, true, []⟩]⟩,
  -- RMON_MON_TAU0
  ⟨0x041010, [(32, 0x80)], false, 0x00030008,
    [⟨15, 0, .rw, true, [(1, 65535)]⟩, ⟨31, 16, .rw, true, [(1, 65535)]⟩]⟩,
  -- RMON_MON_FREQ_HARD
  ⟨0x041014, [(32, 0x80)], false, 0x00000000,
    [⟨31, 0, .rw, true, []⟩]⟩,
  -- RMON_MON_FREQ_SOFT
  ⟨0x041018, [(32, 0x80)], false, 0x00000000,
    [⟨31, 0, .rw, true, []⟩]⟩,
  -- RMON_MON_FREQ_WIN
  ⟨0x04101C, [(32, 0x80)], false, 0x00000080,
    [⟨15, 0, .rw, true, [(2, 65535)]⟩]⟩,
  -- RMON_MON_MTIE_WIN
  ⟨0x041020, [(32, 0x80)], false, 0x00000400,
    [⟨12, 0, .rw, true, [(1, 4096)]⟩]⟩,
  -- RMON_MON_MTIE_HARD
  ⟨0x041024, [(32, 0x80)], false, 0x00000000,
    [⟨31, 0, .rw, true, []⟩]⟩,
  -- RMON_MON_MTIE_SOFT
  ⟨0x041028, [(32, 0x80)], false, 0x00000000,
    [⟨31, 0, .rw, true, []⟩]⟩,
  -- RMON_MON_TDEV_CFG
  ⟨0x04102C, [(32, 0x80)], false, 0x04000001,
    [⟨10, 0, .rw, true, [(1, 1024)]⟩, ⟨31, 16, .rw, true, [(1, 65535)]⟩]⟩,
  -- RMON_MON_TDEV_HARD
  ⟨0x041030, [(32, 0x80)], false, 0x00000000,
    [⟨31, 0, .rw, true, []⟩]⟩,
  -- RMON_MON_TDEV_SOFT
  ⟨0x041034, [(32, 0x80)], false, 0x00000000,
    [⟨31, 0, .rw, true, []⟩]⟩,
  -- RMON_MON_PSTEP_THR
  ⟨0x041038, [(32, 0x80)], false, 0x00000000,
    [⟨31, 0, .rw, true, []⟩]⟩,
  -- RMON_MON_VAL_TIME
  ⟨0x04103C, [(32, 0x80)], false, 0x00013880,
    [⟨31, 0, .rw, true, []⟩]⟩,
  -- RMON_MON_CLR_TIME
  ⟨0x041040, [(32, 0x80)], false, 0x00013880,
    [⟨31, 0, .rw, true, []⟩]⟩,
  -- RMON_MON_QL_CFG
  ⟨0x041044, [(32, 0x80)], false, 0xFEFF0000,
    [⟨0, 0, .rw, true, []⟩, ⟨7, 4, .rw, true, [(0, 14)]⟩, ⟨11, 8, .rw, true, [(0, 14)]⟩, ⟨23, 16, .rw, true, []⟩, ⟨31, 24, .rw, true, []⟩]⟩,
  -- RMON_MON_CAR_SOFT
  ⟨0x041048, [(32, 0x80)], false, 0x00000000,
    [⟨31, 0, .rw, true, []⟩]⟩,
  -- RMON_MON_STAT
  ⟨0x04104C, [(32, 0x80)], false, 0x00000100,
    [⟨1, 0, .ro, false, []⟩, ⟨2, 2, .ro, false, []⟩, ⟨3, 3, .ro, false, []⟩, ⟨7, 4, .ro, false, []⟩, ⟨8, 8, .ro, false, []⟩]⟩,
  -- RMON_MON_CAUSE
  ⟨0x041050, [(32, 0x80)], false, 0x00000080,
    [⟨8, 0, .ro, false, []⟩, ⟨21, 16, .ro, false, []⟩]⟩,
  -- RMON_MON_FREQ_EST
  ⟨0x041054, [(32, 0x80)], false, 0x00000000,
    [⟨31, 0, .ro, false, []⟩]⟩,
  -- RMON_MON_MTIE_VAL
  ⟨0x041058, [(32, 0x80)], false, 0x00000000,
    [⟨31, 0, .ro, false, []⟩]⟩,
  -- RMON_MON_TDEV_VAL
  ⟨0x04105C, [(32, 0x80)], false, 0x00000000,
    [⟨31, 0, .ro, false, []⟩]⟩,
  -- RMON_MON_LAST_STEP
  ⟨0x041060, [(32, 0x80)], false, 0x00000000,
    [⟨31, 0, .ro, false, []⟩]⟩,
  -- RMON_MON_COUNTS
  ⟨0x041064, [(32, 0x80)], false, 0x00000000,
    [⟨15, 0, .roc, false, []⟩, ⟨31, 16, .roc, false, []⟩]⟩]

def regsRMON1 : List RegDesc := [
  -- RMON_MON_STATE_TIME
  ⟨0x041068, [(32, 0x80)], false, 0x00000000,
    [⟨31, 0, .ro, false, []⟩]⟩,
  -- RMON_MON_QL_RX
  ⟨0x04106C, [(32, 0x80)], false, 0xFEFFFF0F,
    [⟨3, 0, .ro, false, []⟩, ⟨15, 8, .ro, false, []⟩, ⟨23, 16, .ro, false, []⟩, ⟨31, 24, .ro, false, []⟩]⟩,
  -- RMON_MON_PHASE
  ⟨0x041070, [(32, 0x80)], false, 0x00000000,
    [⟨31, 0, .ro, false, []⟩]⟩]

def regsRMON : List RegDesc := regsRMON0 ++ regsRMON1

def regsSEL0 : List RegDesc := [
  -- SEL_CAR_CFG
  ⟨0x050000, [], false, 0x1F401080,
    [⟨7, 0, .rw, true, [(1, 255)]⟩, ⟨12, 8, .rw, true, [(4, 24)]⟩, ⟨31, 16, .rw, true, [(1, 65535)]⟩]⟩,
  -- SEL_CAR_FWIN
  ⟨0x050004, [], false, 0x00001F40,
    [⟨23, 0, .rw, true, [(8, 16777215)]⟩]⟩,
  -- SEL_CAR_MASK
  ⟨0x050008, [], false, 0xFFFDFFFF,
    [⟨31, 0, .rw, true, []⟩]⟩,
  -- SEL_CORR_TIME
  ⟨0x05000C, [], false, 0x00001F40,
    [⟨31, 0, .rw, true, [(1, 4294967295)]⟩]⟩,
  -- SEL_CORR_THR
  ⟨0x050010, [], false, 0x0000C800,
    [⟨31, 0, .rw, true, []⟩]⟩,
  -- SEL_CORR_FTHR
  ⟨0x050014, [], false, 0x000000B0,
    [⟨31, 0, .rw, true, []⟩]⟩,
  -- SEL_CAR_STAT
  ⟨0x050018, [], false, 0x00000000,
    [⟨4, 0, .ro, false, []⟩, ⟨8, 8, .ro, false, []⟩, ⟨9, 9, .ro, false, []⟩, ⟨14, 10, .ro, false, []⟩, ⟨31, 16, .ro, false, []⟩]⟩,
  -- SEL_CAR_MEMBERS
  ⟨0x05001C, [], false, 0x00000000,
    [⟨31, 0, .ro, false, []⟩]⟩,
  -- SEL_CAR_E_LO
  ⟨0x050020, [], false, 0x00000000,
    [⟨31, 0, .ro, false, []⟩]⟩,
  -- SEL_CAR_E_HI
  ⟨0x050024, [], false, 0x00000000,
    [⟨15, 0, .ro, false, []⟩]⟩,
  -- SEL_CAR_F
  ⟨0x050028, [], false, 0x00000000,
    [⟨31, 0, .ro, false, []⟩]⟩,
  -- SEL_ERA
  ⟨0x05002C, [], false, 0x00000000,
    [⟨0, 0, .ro, false, []⟩]⟩,
  -- SEL_CORR_LO
  ⟨0x050030, [], false, 0x00000000,
    [⟨31, 0, .ro, false, []⟩]⟩,
  -- SEL_CORR_HI
  ⟨0x050034, [], false, 0x00000000,
    [⟨31, 0, .ro, false, []⟩]⟩,
  -- SEL_ACCEPT
  ⟨0x050038, [], false, 0x00000000,
    [⟨31, 0, .w1p, true, []⟩]⟩,
  -- SEL_EVT
  ⟨0x05003C, [], false, 0x00000000,
    [⟨7, 0, .w1c, true, []⟩, ⟨15, 8, .w1c, true, []⟩, ⟨16, 16, .w1c, true, []⟩, ⟨17, 17, .w1c, true, []⟩]⟩,
  -- SEL_REF_Y_LO
  ⟨0x051000, [(32, 0x20)], false, 0x00000000,
    [⟨31, 0, .ro, false, []⟩]⟩,
  -- SEL_REF_Y_HI
  ⟨0x051004, [(32, 0x20)], false, 0x00000000,
    [⟨15, 0, .ro, false, []⟩]⟩,
  -- SEL_REF_DEV
  ⟨0x051008, [(32, 0x20)], false, 0x00000000,
    [⟨31, 0, .ro, false, []⟩]⟩,
  -- SEL_REF_FREQ
  ⟨0x05100C, [(32, 0x20)], false, 0x00000000,
    [⟨31, 0, .ro, false, []⟩]⟩,
  -- SEL_REF_FDEV
  ⟨0x051010, [(32, 0x20)], false, 0x00000000,
    [⟨31, 0, .ro, false, []⟩]⟩,
  -- SEL_REF_SIGMA
  ⟨0x051014, [(32, 0x20)], false, 0x00000000,
    [⟨31, 0, .ro, false, []⟩]⟩,
  -- SEL_REF_C_OFF
  ⟨0x051018, [(32, 0x20)], false, 0x00000000,
    [⟨31, 0, .ro, false, []⟩]⟩,
  -- SEL_REF_FLAGS
  ⟨0x05101C, [(32, 0x20)], false, 0x00000000,
    [⟨0, 0, .ro, false, []⟩, ⟨1, 1, .ro, false, []⟩, ⟨2, 2, .ro, false, []⟩, ⟨3, 3, .ro, false, []⟩, ⟨4, 4, .ro, false, []⟩, ⟨5, 5, .ro, false, []⟩, ⟨7, 6, .ro, false, []⟩, ⟨10, 8, .ro, false, []⟩, ⟨31, 16, .ro, false, []⟩]⟩,
  -- SEL_TCH_CTL
  ⟨0x052000, [(8, 0x100)], false, 0x00000000,
    [⟨0, 0, .rw, true, []⟩, ⟨1, 1, .rw, true, []⟩, ⟨12, 8, .rw, true, []⟩]⟩,
  -- SEL_TCH_WTR
  ⟨0x052004, [(8, 0x100)], false, 0x00249F00,
    [⟨31, 0, .rw, true, []⟩]⟩,
  -- SEL_TCH_DIS_FTHR
  ⟨0x052008, [(8, 0x100)], false, 0x00000058,
    [⟨31, 0, .rw, true, []⟩]⟩,
  -- SEL_TCH_STAT
  ⟨0x05200C, [(8, 0x100)], false, 0x0000003F,
    [⟨5, 0, .ro, false, []⟩, ⟨6, 6, .ro, false, []⟩, ⟨7, 7, .ro, false, []⟩, ⟨8, 8, .ro, false, []⟩, ⟨11, 9, .ro, false, []⟩, ⟨31, 16, .ro, false, []⟩]⟩,
  -- SEL_TCH_TBL_ERR
  ⟨0x052010, [(8, 0x100)], false, 0x00000000,
    [⟨31, 0, .ro, false, []⟩]⟩,
  -- SEL_TCH_WTR_DONE
  ⟨0x052014, [(8, 0x100)], false, 0x00000000,
    [⟨31, 0, .ro, false, []⟩]⟩]

def regsSEL1 : List RegDesc := [
  -- SEL_TCH_ENTRY
  ⟨0x052080, [(8, 0x100), (32, 0x4)], false, 0x00000000,
    [⟨4, 0, .rw, true, []⟩, ⟨11, 8, .rw, true, []⟩, ⟨15, 15, .rw, true, []⟩]⟩]

def regsSEL : List RegDesc := regsSEL0 ++ regsSEL1

def regsBND0 : List RegDesc := [
  -- BND_CTL
  ⟨0x060000, [], false, 0x00000001,
    [⟨0, 0, .rw, true, []⟩, ⟨1, 1, .w1p, true, []⟩, ⟨31, 16, .rw, true, []⟩]⟩,
  -- BND_STAT
  ⟨0x060004, [], false, 0x00000000,
    [⟨1, 0, .ro, false, []⟩, ⟨2, 2, .ro, false, []⟩, ⟨3, 3, .ro, false, []⟩, ⟨31, 8, .ro, false, []⟩]⟩,
  -- BND_EVT
  ⟨0x060008, [], false, 0x00000000,
    [⟨8, 0, .w1c, true, []⟩, ⟨24, 16, .w1c, true, []⟩, ⟨25, 25, .w1c, true, []⟩, ⟨26, 26, .w1c, true, []⟩]⟩,
  -- BND_TEMP
  ⟨0x06000C, [], false, 0x00040000,
    [⟨15, 0, .ro, false, []⟩, ⟨23, 16, .rw, true, []⟩]⟩,
  -- BND_P0_LO
  ⟨0x060100, [], false, 0x00000000,
    [⟨31, 0, .ro, false, []⟩]⟩,
  -- BND_P0_HI
  ⟨0x060104, [], false, 0x00000000,
    [⟨15, 0, .ro, false, []⟩]⟩,
  -- BND_A1
  ⟨0x060108, [], false, 0x00000000,
    [⟨31, 0, .ro, false, []⟩]⟩,
  -- BND_A2
  ⟨0x06010C, [], false, 0x00000000,
    [⟨31, 0, .ro, false, []⟩]⟩,
  -- BND_A3
  ⟨0x060110, [], false, 0x00000000,
    [⟨31, 0, .ro, false, []⟩]⟩,
  -- BND_B1
  ⟨0x060114, [], false, 0x00000000,
    [⟨31, 0, .ro, false, []⟩]⟩,
  -- BND_B2
  ⟨0x060118, [], false, 0x00000000,
    [⟨31, 0, .ro, false, []⟩]⟩,
  -- BND_B3
  ⟨0x06011C, [], false, 0x00000000,
    [⟨31, 0, .ro, false, []⟩]⟩,
  -- BND_TREF
  ⟨0x060120, [], false, 0x00000000,
    [⟨15, 0, .ro, false, []⟩]⟩,
  -- BND_TRANGE
  ⟨0x060124, [], false, 0x00000000,
    [⟨15, 0, .ro, false, []⟩, ⟨31, 16, .ro, false, []⟩]⟩,
  -- BND_D_F0
  ⟨0x060128, [], false, 0x00000000,
    [⟨31, 0, .ro, false, []⟩]⟩,
  -- BND_D_A1
  ⟨0x06012C, [], false, 0x00000000,
    [⟨31, 0, .ro, false, []⟩]⟩,
  -- BND_D_A2
  ⟨0x060130, [], false, 0x00000000,
    [⟨31, 0, .ro, false, []⟩]⟩,
  -- BND_D_A3
  ⟨0x060134, [], false, 0x00000000,
    [⟨31, 0, .ro, false, []⟩]⟩,
  -- BND_D_B1
  ⟨0x060138, [], false, 0x00000000,
    [⟨31, 0, .ro, false, []⟩]⟩,
  -- BND_D_B2
  ⟨0x06013C, [], false, 0x00000000,
    [⟨31, 0, .ro, false, []⟩]⟩,
  -- BND_D_B3
  ⟨0x060140, [], false, 0x00000000,
    [⟨31, 0, .ro, false, []⟩]⟩,
  -- BND_EPOCH_RAW_LO
  ⟨0x060144, [], false, 0x00000000,
    [⟨31, 0, .ro, false, []⟩]⟩,
  -- BND_EPOCH_RAW_HI
  ⟨0x060148, [], false, 0x00000000,
    [⟨15, 0, .ro, false, []⟩]⟩,
  -- BND_PRED_LO
  ⟨0x06014C, [], false, 0x00000000,
    [⟨31, 0, .ro, false, []⟩]⟩,
  -- BND_PRED_HI
  ⟨0x060150, [], false, 0x00000000,
    [⟨15, 0, .ro, false, []⟩]⟩,
  -- BND_SIG_FL
  ⟨0x060200, [], false, 0x00000000,
    [⟨31, 0, .rw, true, []⟩]⟩,
  -- BND_SIG_RW
  ⟨0x060204, [], false, 0x00000000,
    [⟨31, 0, .rw, true, []⟩]⟩,
  -- BND_DEF_AGE
  ⟨0x060208, [], false, 0x00000000,
    [⟨31, 0, .rw, true, []⟩]⟩,
  -- BND_DEF_TCO
  ⟨0x06020C, [], false, 0x00000000,
    [⟨31, 0, .rw, true, []⟩]⟩,
  -- BND_LCFG
  ⟨0x060210, [], false, 0x00640543,
    [⟨3, 0, .rw, true, [(1, 15)]⟩, ⟨7, 4, .rw, true, [(1, 15)]⟩, ⟨15, 8, .rw, true, []⟩, ⟨31, 16, .rw, true, [(1, 65535)]⟩]⟩]

def regsBND1 : List RegDesc := [
  -- BND_LEARN_MIN
  ⟨0x060214, [], false, 0x00015180,
    [⟨31, 0, .rw, true, [(1, 4294967295)]⟩]⟩,
  -- BND_F0_MIN
  ⟨0x060218, [], false, 0x000003E8,
    [⟨15, 0, .rw, true, [(1, 65535)]⟩]⟩,
  -- BND_LWIN
  ⟨0x06021C, [], false, 0x00006540,
    [⟨15, 0, .rw, true, [(1, 65535)]⟩]⟩,
  -- BND_UPS_RATE
  ⟨0x060220, [], false, 0x04000000,
    [⟨31, 0, .rw, true, []⟩]⟩,
  -- BND_SET_BOUND_W0
  ⟨0x061000, [(9, 0x100)], false, 0xFFFFFFFF,
    [⟨31, 0, .ro, false, []⟩]⟩,
  -- BND_SET_BOUND_W1
  ⟨0x061004, [(9, 0x100)], false, 0xFFFFFFFF,
    [⟨15, 0, .ro, false, []⟩, ⟨31, 16, .ro, false, []⟩]⟩,
  -- BND_SET_BOUND_W2
  ⟨0x061008, [(9, 0x100)], false, 0xFFFFFFFF,
    [⟨31, 0, .ro, false, []⟩]⟩,
  -- BND_SET_BOUND_W3
  ⟨0x06100C, [(9, 0x100)], false, 0x00000001,
    [⟨0, 0, .ro, false, []⟩]⟩,
  -- BND_SET_STAT
  ⟨0x061010, [(9, 0x100)], false, 0x00000200,
    [⟨1, 0, .ro, false, []⟩, ⟨2, 2, .ro, false, []⟩, ⟨3, 3, .ro, false, []⟩, ⟨15, 8, .ro, false, []⟩]⟩,
  -- BND_SET_TRACE
  ⟨0x061014, [(9, 0x100)], false, 0x00000000,
    [⟨2, 0, .ro, false, []⟩, ⟨23, 8, .ro, false, []⟩]⟩,
  -- BND_SET_SEQ
  ⟨0x061018, [(9, 0x100)], false, 0x00000000,
    [⟨15, 0, .ro, false, []⟩]⟩,
  -- BND_SET_HOLD_TAU
  ⟨0x06101C, [(9, 0x100)], false, 0x00000000,
    [⟨31, 0, .ro, false, []⟩]⟩,
  -- BND_SET_MARGIN
  ⟨0x061020, [(9, 0x100)], false, 0x00000000,
    [⟨31, 0, .rw, true, []⟩]⟩,
  -- BND_SET_TARGET
  ⟨0x061024, [(9, 0x100)], false, 0x00000000,
    [⟨23, 0, .rw, true, []⟩, ⟨26, 24, .rw, true, [(0, 4)]⟩]⟩,
  -- BND_SET_TRK_FLOOR
  ⟨0x061028, [(9, 0x100)], false, 0x00000290,
    [⟨31, 0, .rw, true, []⟩]⟩,
  -- BND_SET_TRK_AGE
  ⟨0x06102C, [(9, 0x100)], false, 0x00003E80,
    [⟨31, 0, .rw, true, []⟩]⟩,
  -- BND_SET_TERM_U
  ⟨0x061040, [(9, 0x100), (24, 0x8)], false, 0x00000000,
    [⟨31, 0, .ro, false, []⟩]⟩,
  -- BND_SET_TERM_L
  ⟨0x061044, [(9, 0x100), (24, 0x8)], false, 0x00000000,
    [⟨31, 0, .ro, false, []⟩]⟩,
  -- BND_REF_SRC_UNC
  ⟨0x063000, [(32, 0x10)], false, 0x00000000,
    [⟨31, 0, .rw, true, []⟩]⟩,
  -- BND_REF_CAL_UNC
  ⟨0x063004, [(32, 0x10)], false, 0x00000000,
    [⟨31, 0, .rw, true, []⟩]⟩,
  -- BND_REF_FENV
  ⟨0x063008, [(32, 0x10)], false, 0x00000000,
    [⟨31, 0, .rw, true, []⟩]⟩,
  -- BND_REF_FLAGS
  ⟨0x06300C, [(32, 0x10)], false, 0x00000000,
    [⟨0, 0, .rw, true, []⟩, ⟨1, 1, .rw, true, []⟩]⟩]

def regsBND : List RegDesc := regsBND0 ++ regsBND1

def regsTCH0 : List RegDesc := [
  -- TCH_EVT
  ⟨0x070000, [], false, 0x00000000,
    [⟨7, 0, .w1c, true, []⟩, ⟨15, 8, .w1c, true, []⟩, ⟨16, 16, .w1c, true, []⟩]⟩,
  -- TCH_STEER_CFG
  ⟨0x070010, [], false, 0x00640000,
    [⟨1, 0, .rw, true, [(0, 2)]⟩, ⟨3, 2, .rw, true, [(0, 2)]⟩, ⟨15, 8, .rw, true, []⟩, ⟨31, 16, .rw, true, [(1, 65535)]⟩]⟩,
  -- TCH_STEER_KDAC
  ⟨0x070014, [], false, 0x00000000,
    [⟨31, 0, .rw, true, []⟩]⟩,
  -- TCH_STEER_KUNC
  ⟨0x070018, [], false, 0x00000000,
    [⟨31, 0, .rw, true, []⟩]⟩,
  -- TCH_STEER_STEP
  ⟨0x07001C, [], false, 0x00000064,
    [⟨23, 0, .rw, true, []⟩]⟩,
  -- TCH_STEER_CODE
  ⟨0x070020, [], false, 0x00800000,
    [⟨23, 0, .rw, true, []⟩]⟩,
  -- TCH_STEER_STAT
  ⟨0x070024, [], false, 0x00000000,
    [⟨0, 0, .ro, false, []⟩, ⟨15, 8, .ro, false, []⟩, ⟨31, 16, .roc, false, []⟩]⟩,
  -- TCH_CH_CTL
  ⟨0x071000, [(8, 0x100)], false, 0x00313CC0,
    [⟨1, 0, .rw, true, [(0, 2)]⟩, ⟨8, 4, .rw, true, [(0, 21)]⟩, ⟨14, 10, .rw, true, [(0, 21)]⟩, ⟨18, 16, .rw, true, [(0, 4)]⟩, ⟨20, 20, .rw, true, []⟩, ⟨21, 21, .rw, true, []⟩]⟩,
  -- TCH_CH_PSLEW
  ⟨0x071004, [(8, 0x100)], false, 0x0008637C,
    [⟨31, 0, .rw, true, [(1, 4294967295)]⟩]⟩,
  -- TCH_CH_FCLAMP
  ⟨0x071008, [(8, 0x100)], false, 0x08000000,
    [⟨31, 0, .rw, true, [(1, 4294967295)]⟩]⟩,
  -- TCH_CH_LOCK_THR
  ⟨0x07100C, [(8, 0x100)], false, 0x00002800,
    [⟨31, 0, .rw, true, []⟩]⟩,
  -- TCH_CH_LOCK_CNT
  ⟨0x071010, [(8, 0x100)], false, 0x00000008,
    [⟨15, 0, .rw, true, [(1, 65535)]⟩]⟩,
  -- TCH_CH_STEP_THR
  ⟨0x071014, [(8, 0x100)], false, 0x000003E8,
    [⟨31, 0, .rw, true, []⟩]⟩,
  -- TCH_CH_HIST
  ⟨0x071018, [(8, 0x100)], false, 0x1F400010,
    [⟨4, 0, .rw, true, [(8, 24)]⟩, ⟨31, 16, .rw, true, []⟩]⟩,
  -- TCH_CH_STAT
  ⟨0x071020, [(8, 0x100)], false, 0x003F0000,
    [⟨2, 0, .ro, false, []⟩, ⟨3, 3, .ro, false, []⟩, ⟨7, 4, .ro, false, []⟩, ⟨8, 8, .ro, false, []⟩, ⟨9, 9, .ro, false, []⟩, ⟨10, 10, .ro, false, []⟩, ⟨12, 11, .ro, false, []⟩, ⟨13, 13, .ro, false, []⟩, ⟨14, 14, .ro, false, []⟩, ⟨21, 16, .ro, false, []⟩]⟩,
  -- TCH_CH_RATE_LO
  ⟨0x071024, [(8, 0x100)], false, 0x00000000,
    [⟨31, 0, .ro, false, []⟩]⟩,
  -- TCH_CH_RATE_HI
  ⟨0x071028, [(8, 0x100)], false, 0x00000000,
    [⟨15, 0, .ro, false, []⟩]⟩,
  -- TCH_CH_HIST_LO
  ⟨0x07102C, [(8, 0x100)], false, 0x00000000,
    [⟨31, 0, .ro, false, []⟩]⟩,
  -- TCH_CH_HIST_HI
  ⟨0x071030, [(8, 0x100)], false, 0x00000000,
    [⟨15, 0, .ro, false, []⟩]⟩,
  -- TCH_CH_PERR
  ⟨0x071034, [(8, 0x100)], false, 0x00000000,
    [⟨31, 0, .ro, false, []⟩]⟩,
  -- TCH_CH_PBO_LO
  ⟨0x071038, [(8, 0x100)], false, 0x00000000,
    [⟨31, 0, .ro, false, []⟩]⟩,
  -- TCH_CH_PBO_HI
  ⟨0x07103C, [(8, 0x100)], false, 0x00000000,
    [⟨15, 0, .ro, false, []⟩]⟩,
  -- TCH_CH_PBO_LAST
  ⟨0x071040, [(8, 0x100)], false, 0x00000000,
    [⟨31, 0, .ro, false, []⟩]⟩,
  -- TCH_CH_COUNTS
  ⟨0x071044, [(8, 0x100)], false, 0x00000000,
    [⟨15, 0, .roc, false, []⟩, ⟨31, 16, .roc, false, []⟩]⟩,
  -- TCH_CH_FRZ_MAX
  ⟨0x071048, [(8, 0x100)], false, 0x00000000,
    [⟨15, 0, .roc, false, []⟩]⟩,
  -- TCH_CH_PHASE_LO
  ⟨0x07104C, [(8, 0x100)], false, 0x00000000,
    [⟨31, 0, .ro, false, []⟩]⟩,
  -- TCH_CH_PHASE_HI
  ⟨0x071050, [(8, 0x100)], false, 0x00000000,
    [⟨15, 0, .ro, false, []⟩]⟩,
  -- TCH_CH_HO_TIME
  ⟨0x071054, [(8, 0x100)], false, 0x00000000,
    [⟨31, 0, .ro, false, []⟩]⟩]

def regsTCH : List RegDesc := regsTCH0

def regsAPL0 : List RegDesc := [
  -- APL_EVT
  ⟨0x080000, [], false, 0x00000000,
    [⟨3, 0, .w1c, true, []⟩, ⟨7, 4, .w1c, true, []⟩, ⟨11, 8, .w1c, true, []⟩, ⟨15, 12, .w1c, true, []⟩, ⟨19, 16, .w1c, true, []⟩]⟩,
  -- APL_APLL_CTL
  ⟨0x081000, [(4, 0x400)], false, 0x08080F00,
    [⟨0, 0, .rw, true, []⟩, ⟨7, 4, .rw, true, []⟩, ⟨11, 8, .rw, true, [(0, 7), (15, 15)]⟩, ⟨14, 12, .rw, true, []⟩, ⟨23, 16, .rw, true, [(1, 255)]⟩, ⟨31, 24, .rw, true, []⟩]⟩,
  -- APL_APLL_LOCK_CFG
  ⟨0x081004, [(4, 0x400)], false, 0x081F4064,
    [⟨11, 0, .rw, true, []⟩, ⟨23, 12, .rw, true, []⟩, ⟨27, 24, .rw, true, [(4, 12)]⟩]⟩,
  -- APL_APLL_STAT
  ⟨0x081008, [(4, 0x400)], false, 0x00000000,
    [⟨2, 0, .ro, false, []⟩, ⟨3, 3, .ro, false, []⟩, ⟨7, 4, .ro, false, []⟩, ⟨15, 8, .ro, false, []⟩, ⟨16, 16, .ro, false, []⟩, ⟨31, 24, .ro, false, []⟩]⟩,
  -- APL_APLL_COUNTS
  ⟨0x08100C, [(4, 0x400)], false, 0x00000000,
    [⟨15, 0, .roc, false, []⟩, ⟨31, 16, .roc, false, []⟩]⟩,
  -- APL_APLL_PD_ERR
  ⟨0x081010, [(4, 0x400)], false, 0x00000000,
    [⟨31, 0, .ro, false, []⟩]⟩,
  -- APL_APLL_FINE_LO
  ⟨0x081014, [(4, 0x400)], false, 0x00000000,
    [⟨31, 0, .ro, false, []⟩]⟩,
  -- APL_APLL_FINE_HI
  ⟨0x081018, [(4, 0x400)], false, 0x00000000,
    [⟨15, 0, .ro, false, []⟩]⟩,
  -- APL_APLL_PLAN_W0
  ⟨0x081100, [(4, 0x400), (16, 0x10)], false, 0x04E20001,
    [⟨7, 0, .rw, true, [(1, 255)]⟩, ⟨31, 16, .rw, true, []⟩]⟩,
  -- APL_APLL_PLAN_W1
  ⟨0x081104, [(4, 0x400), (16, 0x10)], false, 0x00000000,
    [⟨31, 0, .rw, true, []⟩]⟩,
  -- APL_APLL_PLAN_W2
  ⟨0x081108, [(4, 0x400), (16, 0x10)], false, 0x00000001,
    [⟨31, 0, .rw, true, []⟩]⟩,
  -- APL_APLL_PLAN_W3
  ⟨0x08110C, [(4, 0x400), (16, 0x10)], false, 0x00000000,
    [⟨7, 0, .rw, true, []⟩, ⟨8, 8, .rw, true, []⟩, ⟨31, 16, .ro, false, []⟩]⟩]

def regsAPL : List RegDesc := regsAPL0

def regsOUT0 : List RegDesc := [
  -- OUT_EVT
  ⟨0x090000, [], false, 0x00000000,
    [⟨15, 0, .w1c, true, []⟩, ⟨31, 16, .w1c, true, []⟩]⟩,
  -- OUT_MAP
  ⟨0x090004, [], false, 0x00000000,
    [⟨15, 0, .ro, false, []⟩, ⟨31, 16, .ro, false, []⟩]⟩,
  -- OUT_CFG
  ⟨0x091000, [(16, 0x80)], false, 0x00000000,
    [⟨0, 0, .rw, true, []⟩, ⟨3, 1, .rw, true, [(0, 6)]⟩, ⟨5, 4, .rw, true, []⟩, ⟨6, 6, .rw, true, []⟩, ⟨7, 7, .rw, true, []⟩, ⟨9, 8, .rw, true, []⟩, ⟨13, 11, .rw, true, []⟩, ⟨14, 14, .rw, true, []⟩, ⟨15, 15, .rw, true, []⟩, ⟨17, 16, .rw, true, [(0, 2)]⟩, ⟨18, 18, .rw, true, []⟩, ⟨19, 19, .rw, true, []⟩, ⟨20, 20, .rw, true, []⟩]⟩,
  -- OUT_DIV_INT_LO
  ⟨0x091004, [(16, 0x80)], false, 0x00000000,
    [⟨31, 0, .rw, true, []⟩]⟩,
  -- OUT_DIV_INT_HI
  ⟨0x091008, [(16, 0x80)], false, 0x00000000,
    [⟨7, 0, .rw, true, []⟩]⟩,
  -- OUT_DIV_NUM
  ⟨0x09100C, [(16, 0x80)], false, 0x00000000,
    [⟨31, 0, .rw, true, []⟩]⟩,
  -- OUT_DIV_DEN
  ⟨0x091010, [(16, 0x80)], false, 0x00000001,
    [⟨31, 0, .rw, true, []⟩]⟩,
  -- OUT_PULSE_PER
  ⟨0x091014, [(16, 0x80)], false, 0x3B9ACA00,
    [⟨31, 0, .rw, true, []⟩]⟩,
  -- OUT_WIDTH
  ⟨0x091018, [(16, 0x80)], false, 0x000186A0,
    [⟨31, 0, .rw, true, []⟩]⟩,
  -- OUT_PHASE_OFS_LO
  ⟨0x09101C, [(16, 0x80)], false, 0x00000000,
    [⟨31, 0, .rw, true, []⟩]⟩,
  -- OUT_PHASE_OFS_HI
  ⟨0x091020, [(16, 0x80)], false, 0x00000000,
    [⟨15, 0, .rw, true, []⟩]⟩,
  -- OUT_ROLL_RATE
  ⟨0x091024, [(16, 0x80)], false, 0x00A7C5AC,
    [⟨31, 0, .rw, true, [(1, 4294967295)]⟩]⟩,
  -- OUT_STAT
  ⟨0x091028, [(16, 0x80)], false, 0x00000000,
    [⟨1, 0, .ro, false, []⟩, ⟨2, 2, .ro, false, []⟩, ⟨3, 3, .ro, false, []⟩, ⟨4, 4, .ro, false, []⟩, ⟨15, 8, .ro, false, []⟩]⟩,
  -- OUT_ALIGN_ERR_LO
  ⟨0x09102C, [(16, 0x80)], false, 0x00000000,
    [⟨31, 0, .ro, false, []⟩]⟩,
  -- OUT_ALIGN_ERR_HI
  ⟨0x091030, [(16, 0x80)], false, 0x00000000,
    [⟨15, 0, .ro, false, []⟩]⟩,
  -- OUT_QERR
  ⟨0x091034, [(16, 0x80)], false, 0x00000000,
    [⟨15, 0, .ro, false, []⟩]⟩,
  -- OUT_LAST_EDGE_W0
  ⟨0x091038, [(16, 0x80)], false, 0x00000000,
    [⟨31, 0, .ro, false, []⟩]⟩,
  -- OUT_LAST_EDGE_W1
  ⟨0x09103C, [(16, 0x80)], false, 0x00000000,
    [⟨31, 0, .ro, false, []⟩]⟩,
  -- OUT_LAST_EDGE_W2
  ⟨0x091040, [(16, 0x80)], false, 0x00000000,
    [⟨31, 0, .ro, false, []⟩]⟩,
  -- OUT_COUNTS
  ⟨0x091044, [(16, 0x80)], false, 0x00000000,
    [⟨15, 0, .roc, false, []⟩]⟩]

def regsOUT : List RegDesc := regsOUT0

def regsGNS0 : List RegDesc := [
  -- GNS_CTL
  ⟨0x0A0000, [], false, 0x000000FE,
    [⟨0, 0, .rw, true, []⟩, ⟨1, 1, .rw, true, []⟩, ⟨2, 2, .rw, true, []⟩, ⟨3, 3, .rw, true, []⟩, ⟨7, 4, .rw, true, []⟩, ⟨10, 8, .rw, true, [(0, 5)]⟩, ⟨12, 11, .rw, true, [(0, 2)]⟩, ⟨13, 13, .rw, true, []⟩]⟩,
  -- GNS_STAT
  ⟨0x0A0004, [], false, 0x00000000,
    [⟨0, 0, .ro, false, []⟩, ⟨1, 1, .ro, false, []⟩, ⟨2, 2, .ro, false, []⟩, ⟨3, 3, .ro, false, []⟩, ⟨5, 4, .ro, false, []⟩, ⟨6, 6, .ro, false, []⟩, ⟨7, 7, .ro, false, []⟩, ⟨14, 8, .ro, false, []⟩, ⟨15, 15, .ro, false, []⟩, ⟨22, 16, .ro, false, []⟩]⟩,
  -- GNS_EVT
  ⟨0x0A0008, [], false, 0x00000000,
    [⟨0, 0, .w1c, true, []⟩, ⟨1, 1, .w1c, true, []⟩, ⟨2, 2, .w1c, true, []⟩, ⟨3, 3, .w1c, true, []⟩, ⟨4, 4, .w1c, true, []⟩, ⟨5, 5, .w1c, true, []⟩, ⟨6, 6, .w1c, true, []⟩, ⟨7, 7, .w1c, true, []⟩]⟩,
  -- GNS_PORT
  ⟨0x0A0010, [], false, 0x00000003,
    [⟨1, 0, .rw, true, []⟩, ⟨2, 2, .rw, true, []⟩, ⟨3, 3, .rw, true, []⟩, ⟨4, 4, .rw, true, []⟩, ⟨5, 5, .rw, true, []⟩, ⟨6, 6, .rw, true, []⟩]⟩,
  -- GNS_IF_B1
  ⟨0x0A0014, [], false, 0x00000000,
    [⟨31, 0, .rw, true, []⟩]⟩,
  -- GNS_IF_B5
  ⟨0x0A0018, [], false, 0x00000000,
    [⟨31, 0, .rw, true, []⟩]⟩,
  -- GNS_SCLK_RATE
  ⟨0x0A001C, [], false, 0x00000000,
    [⟨31, 0, .ro, false, []⟩]⟩,
  -- GNS_EPOCH_OFS
  ⟨0x0A0020, [], false, 0x00000000,
    [⟨29, 0, .rw, true, []⟩]⟩,
  -- GNS_EPOCH_SEQ
  ⟨0x0A0024, [], false, 0x00000000,
    [⟨31, 0, .ro, false, []⟩]⟩,
  -- GNS_MEAS_CTL
  ⟨0x0A0028, [], true, 0x00000000,
    [⟨0, 0, .w1p, false, []⟩, ⟨1, 1, .w1p, false, []⟩]⟩,
  -- GNS_EXCL_GPS
  ⟨0x0A0030, [], false, 0x00000000,
    [⟨31, 0, .rw, true, []⟩]⟩,
  -- GNS_EXCL_GAL_LO
  ⟨0x0A0034, [], false, 0x00000000,
    [⟨31, 0, .rw, true, []⟩]⟩,
  -- GNS_EXCL_GAL_HI
  ⟨0x0A0038, [], false, 0x00000000,
    [⟨3, 0, .rw, true, []⟩]⟩,
  -- GNS_EXCL_BDS_LO
  ⟨0x0A003C, [], false, 0x00000000,
    [⟨31, 0, .rw, true, []⟩]⟩,
  -- GNS_EXCL_BDS_HI
  ⟨0x0A0040, [], false, 0x00000000,
    [⟨30, 0, .rw, true, []⟩]⟩,
  -- GNS_EXCL_QZS
  ⟨0x0A0044, [], false, 0x00000000,
    [⟨9, 0, .rw, true, []⟩]⟩,
  -- GNS_ACQ_CFG
  ⟨0x0A0050, [], false, 0x25844860,
    [⟨7, 0, .rw, true, []⟩, ⟨11, 8, .rw, true, [(1, 15)]⟩, ⟨15, 12, .rw, true, [(1, 15)]⟩, ⟨19, 16, .rw, true, [(1, 15)]⟩, ⟨31, 20, .rw, true, []⟩]⟩,
  -- GNS_ACQ_CFG2
  ⟨0x0A0054, [], false, 0x01140096,
    [⟨15, 0, .rw, true, []⟩, ⟨23, 16, .rw, true, []⟩, ⟨31, 24, .rw, true, []⟩]⟩,
  -- GNS_ACQ_STAT
  ⟨0x0A0058, [], false, 0x00000000,
    [⟨15, 0, .roc, false, []⟩, ⟨23, 16, .roc, false, []⟩, ⟨31, 24, .roc, false, []⟩]⟩,
  -- GNS_LOOP_B1
  ⟨0x0A0060, [], false, 0x002128ED,
    [⟨2, 0, .rw, true, []⟩, ⟨3, 3, .rw, true, []⟩, ⟨5, 4, .rw, true, []⟩, ⟨8, 6, .rw, true, [(0, 5)]⟩, ⟨13, 9, .rw, true, [(1, 20)]⟩, ⟨17, 14, .rw, true, [(1, 15)]⟩, ⟨21, 18, .rw, true, [(1, 15)]⟩]⟩,
  -- GNS_LOOP_B5
  ⟨0x0A0064, [], false, 0x002228ED,
    [⟨2, 0, .rw, true, []⟩, ⟨3, 3, .rw, true, []⟩, ⟨5, 4, .rw, true, []⟩, ⟨8, 6, .rw, true, [(0, 5)]⟩, ⟨13, 9, .rw, true, [(1, 20)]⟩, ⟨17, 14, .rw, true, [(1, 15)]⟩, ⟨21, 18, .rw, true, [(1, 15)]⟩]⟩,
  -- GNS_LOCK_CFG
  ⟨0x0A0068, [], false, 0x015080B3,
    [⟨7, 0, .rw, true, []⟩, ⟨15, 8, .rw, true, []⟩, ⟨23, 16, .rw, true, []⟩, ⟨25, 24, .rw, true, []⟩]⟩,
  -- GNS_LOCK_TIME
  ⟨0x0A006C, [], false, 0x07D03C14,
    [⟨7, 0, .rw, true, []⟩, ⟨15, 8, .rw, true, []⟩, ⟨31, 16, .rw, true, []⟩]⟩,
  -- GNS_PULL_TIME
  ⟨0x0A0070, [], false, 0x000001F4,
    [⟨15, 0, .rw, true, []⟩]⟩,
  -- GNS_NOTCH_CTL
  ⟨0x0A0100, [(2, 0x40), (4, 0x10)], false, 0x00006006,
    [⟨1, 0, .rw, true, [(0, 2)]⟩, ⟨3, 2, .rw, true, []⟩, ⟨15, 8, .rw, true, []⟩]⟩,
  -- GNS_NOTCH_FREQ
  ⟨0x0A0104, [(2, 0x40), (4, 0x10)], false, 0x00000000,
    [⟨31, 0, .rw, true, []⟩]⟩,
  -- GNS_NOTCH_STAT
  ⟨0x0A0108, [(2, 0x40), (4, 0x10)], false, 0x00000000,
    [⟨0, 0, .ro, false, []⟩, ⟨15, 8, .ro, false, []⟩, ⟨23, 16, .ro, false, []⟩]⟩,
  -- GNS_JAM
  ⟨0x0A0180, [], false, 0x00000000,
    [⟨7, 0, .ro, false, []⟩, ⟨15, 8, .ro, false, []⟩, ⟨23, 16, .ro, false, []⟩, ⟨31, 24, .ro, false, []⟩]⟩,
  -- GNS_JAM_CFG
  ⟨0x0A0184, [], false, 0x00005030,
    [⟨7, 0, .rw, true, []⟩, ⟨15, 8, .rw, true, []⟩, ⟨16, 16, .rw, true, []⟩, ⟨17, 17, .rw, true, []⟩]⟩,
  -- GNS_AGC_CFG
  ⟨0x0A0188, [], false, 0x080A0000,
    [⟨5, 0, .rw, true, []⟩, ⟨13, 8, .rw, true, []⟩, ⟨23, 16, .rw, true, [(1, 255)]⟩, ⟨31, 24, .rw, true, []⟩]⟩]

def regsGNS1 : List RegDesc := [
  -- GNS_AGC_REF
  ⟨0x0A018C, [], false, 0x00000000,
    [⟨7, 0, .rw, true, []⟩, ⟨15, 8, .rw, true, []⟩, ⟨23, 16, .ro, false, []⟩, ⟨31, 24, .ro, false, []⟩]⟩,
  -- GNS_FE_CFG
  ⟨0x0A0200, [], false, 0x00000409,
    [⟨6, 0, .rw, true, [(4, 124)]⟩, ⟨9, 8, .rw, true, []⟩, ⟨10, 10, .rw, true, []⟩, ⟨22, 16, .rw, true, [(0, 64)]⟩]⟩,
  -- GNS_FE_CMD
  ⟨0x0A0204, [], false, 0x00000000,
    [⟨0, 0, .w1p, true, []⟩, ⟨1, 1, .w1p, true, []⟩]⟩,
  -- GNS_FE_STAT
  ⟨0x0A0208, [], false, 0x00000000,
    [⟨0, 0, .ro, false, []⟩, ⟨1, 1, .w1c, true, []⟩, ⟨7, 2, .ro, false, []⟩]⟩,
  -- GNS_FE_TBL_CTRL
  ⟨0x0A0400, [(64, 0x10)], false, 0x00000000,
    [⟨4, 0, .rw, true, []⟩, ⟨8, 8, .rw, true, []⟩, ⟨9, 9, .rw, true, []⟩, ⟨10, 10, .rw, true, []⟩, ⟨31, 16, .rw, true, []⟩]⟩,
  -- GNS_FE_TBL_DATA
  ⟨0x0A0404, [(64, 0x10)], false, 0x00000000,
    [⟨31, 0, .rw, true, []⟩]⟩,
  -- GNS_FE_TBL_RX
  ⟨0x0A0408, [(64, 0x10)], false, 0x00000000,
    [⟨31, 0, .ro, false, []⟩]⟩,
  -- GNS_CH_STAT
  ⟨0x0A1000, [(96, 0x20)], false, 0x00000000,
    [⟨1, 0, .ro, false, []⟩, ⟨3, 2, .ro, false, []⟩, ⟨9, 4, .ro, false, []⟩, ⟨11, 10, .ro, false, []⟩, ⟨13, 12, .ro, false, []⟩, ⟨23, 16, .ro, false, []⟩, ⟨31, 24, .ro, false, []⟩]⟩,
  -- GNS_CH_CN0
  ⟨0x0A1004, [(96, 0x20)], false, 0x00000000,
    [⟨7, 0, .ro, false, []⟩, ⟨15, 8, .ro, false, []⟩, ⟨23, 16, .ro, false, []⟩, ⟨31, 24, .ro, false, []⟩]⟩,
  -- GNS_CH_LOCK
  ⟨0x0A1008, [(96, 0x20)], false, 0x00000000,
    [⟨15, 0, .ro, false, []⟩, ⟨31, 16, .ro, false, []⟩]⟩,
  -- GNS_CH_DOP_B1
  ⟨0x0A100C, [(96, 0x20)], false, 0x00000000,
    [⟨31, 0, .ro, false, []⟩]⟩,
  -- GNS_CH_DOP_B5
  ⟨0x0A1010, [(96, 0x20)], false, 0x00000000,
    [⟨31, 0, .ro, false, []⟩]⟩,
  -- GNS_CH_FLAGS
  ⟨0x0A1014, [(96, 0x20)], false, 0x00000000,
    [⟨7, 0, .ro, false, []⟩, ⟨15, 8, .ro, false, []⟩]⟩,
  -- GNS_CH_CTL
  ⟨0x0A1018, [(96, 0x20)], false, 0x00000000,
    [⟨0, 0, .w1p, true, []⟩]⟩,
  -- GNS_MEAS
  ⟨0x0A8000, [(1548, 0x4)], false, 0x00000000,
    [⟨31, 0, .ro, false, []⟩]⟩]

def regsGNS : List RegDesc := regsGNS0 ++ regsGNS1

def regsGNT0 : List RegDesc := [
  -- GNT_CTL
  ⟨0x0B0000, [], false, 0x00000006,
    [⟨0, 0, .rw, true, []⟩, ⟨1, 1, .rw, true, []⟩, ⟨2, 2, .rw, true, []⟩, ⟨4, 3, .rw, true, []⟩, ⟨5, 5, .w1p, true, []⟩]⟩,
  -- GNT_STAT
  ⟨0x0B0004, [], false, 0x00000000,
    [⟨1, 0, .ro, false, []⟩, ⟨3, 2, .ro, false, []⟩, ⟨4, 4, .ro, false, []⟩, ⟨6, 5, .ro, false, []⟩, ⟨14, 8, .ro, false, []⟩, ⟨22, 16, .ro, false, []⟩, ⟨31, 24, .ro, false, []⟩]⟩,
  -- GNT_EVT
  ⟨0x0B0008, [], false, 0x00000000,
    [⟨0, 0, .w1c, true, []⟩, ⟨1, 1, .w1c, true, []⟩, ⟨2, 2, .w1c, true, []⟩, ⟨3, 3, .w1c, true, []⟩, ⟨4, 4, .w1c, true, []⟩, ⟨5, 5, .w1c, true, []⟩, ⟨6, 6, .w1c, true, []⟩, ⟨7, 7, .w1c, true, []⟩, ⟨8, 8, .w1c, true, []⟩, ⟨9, 9, .w1c, true, []⟩]⟩,
  -- GNT_SOL_CFG
  ⟨0x0B0010, [], false, 0x780A650A,
    [⟨7, 0, .rw, true, [(1, 255)]⟩, ⟨11, 8, .rw, true, [(2, 15)]⟩, ⟨15, 12, .rw, true, [(2, 15)]⟩, ⟨23, 16, .rw, true, [(0, 90)]⟩, ⟨31, 24, .rw, true, []⟩]⟩,
  -- GNT_RAIM
  ⟨0x0B0014, [], false, 0x00644350,
    [⟨7, 0, .rw, true, []⟩, ⟨11, 8, .rw, true, []⟩, ⟨15, 12, .rw, true, [(1, 15)]⟩, ⟨31, 16, .rw, true, []⟩]⟩,
  -- GNT_SIG_A
  ⟨0x0B0018, [], false, 0x00010000,
    [⟨31, 0, .rw, true, []⟩]⟩,
  -- GNT_SIG_B
  ⟨0x0B001C, [], false, 0x00010000,
    [⟨31, 0, .rw, true, []⟩]⟩,
  -- GNT_TROPO_RES
  ⟨0x0B0020, [], false, 0x00004000,
    [⟨31, 0, .rw, true, []⟩]⟩,
  -- GNT_IONO_FLOOR
  ⟨0x0B0024, [], false, 0x00020000,
    [⟨31, 0, .rw, true, []⟩]⟩,
  -- GNT_IONO_FRAC
  ⟨0x0B0028, [], false, 0x00000080,
    [⟨7, 0, .rw, true, []⟩]⟩,
  -- GNT_ISB_UNC_GAL
  ⟨0x0B002C, [], false, 0x00020000,
    [⟨31, 0, .rw, true, []⟩]⟩,
  -- GNT_ISB_UNC_BDS
  ⟨0x0B0030, [], false, 0x00020000,
    [⟨31, 0, .rw, true, []⟩]⟩,
  -- GNT_ISB_UNC_QZS
  ⟨0x0B0034, [], false, 0x00020000,
    [⟨31, 0, .rw, true, []⟩]⟩,
  -- GNT_UTC_UNC
  ⟨0x0B0038, [], false, 0x000A0000,
    [⟨31, 0, .rw, true, []⟩]⟩,
  -- GNT_UNC_MAX
  ⟨0x0B003C, [], false, 0x00640000,
    [⟨31, 0, .rw, true, []⟩]⟩,
  -- GNT_POS_X_LO
  ⟨0x0B0040, [], false, 0x00000000,
    [⟨31, 0, .rw, true, []⟩]⟩,
  -- GNT_POS_X_HI
  ⟨0x0B0044, [], false, 0x00000000,
    [⟨7, 0, .rw, true, []⟩]⟩,
  -- GNT_POS_Y_LO
  ⟨0x0B0048, [], false, 0x00000000,
    [⟨31, 0, .rw, true, []⟩]⟩,
  -- GNT_POS_Y_HI
  ⟨0x0B004C, [], false, 0x00000000,
    [⟨7, 0, .rw, true, []⟩]⟩,
  -- GNT_POS_Z_LO
  ⟨0x0B0050, [], false, 0x00000000,
    [⟨31, 0, .rw, true, []⟩]⟩,
  -- GNT_POS_Z_HI
  ⟨0x0B0054, [], false, 0x00000000,
    [⟨7, 0, .rw, true, []⟩]⟩,
  -- GNT_POS_UNC
  ⟨0x0B0058, [], false, 0x00000000,
    [⟨31, 0, .rw, true, []⟩]⟩,
  -- GNT_SURVEY_CFG
  ⟨0x0B005C, [], false, 0x07D0003C,
    [⟨15, 0, .rw, true, []⟩, ⟨31, 16, .rw, true, []⟩]⟩,
  -- GNT_ANT_DELAY
  ⟨0x0B0060, [], false, 0x00000000,
    [⟨31, 0, .rw, true, []⟩]⟩,
  -- GNT_ANT_DIFF_B5
  ⟨0x0B0064, [], false, 0x00000000,
    [⟨31, 0, .rw, true, []⟩]⟩,
  -- GNT_RX_DELAY_B1
  ⟨0x0B0068, [], false, 0x00000000,
    [⟨31, 0, .ro, false, []⟩]⟩,
  -- GNT_RX_DELAY_B5
  ⟨0x0B006C, [], false, 0x00000000,
    [⟨31, 0, .ro, false, []⟩]⟩,
  -- GNT_ISB_UNC_GPS
  ⟨0x0B0070, [], false, 0x00020000,
    [⟨31, 0, .rw, true, []⟩]⟩,
  -- GNT_SOL_Y_LO
  ⟨0x0B0080, [], false, 0x00000000,
    [⟨31, 0, .ro, false, []⟩]⟩,
  -- GNT_SOL_Y_HI
  ⟨0x0B0084, [], false, 0x00000000,
    [⟨15, 0, .ro, false, []⟩]⟩]

def regsGNT1 : List RegDesc := [
  -- GNT_SOL_UNC
  ⟨0x0B0088, [], false, 0x00000000,
    [⟨31, 0, .ro, false, []⟩]⟩,
  -- GNT_SOL_SEQ
  ⟨0x0B008C, [], false, 0x00000000,
    [⟨31, 0, .ro, false, []⟩]⟩,
  -- GNT_SOL_AGE
  ⟨0x0B0090, [], false, 0x00000000,
    [⟨31, 0, .ro, false, []⟩]⟩,
  -- GNT_USED_0
  ⟨0x0B0094, [], false, 0x00000000,
    [⟨31, 0, .ro, false, []⟩]⟩,
  -- GNT_USED_1
  ⟨0x0B0098, [], false, 0x00000000,
    [⟨31, 0, .ro, false, []⟩]⟩,
  -- GNT_USED_2
  ⟨0x0B009C, [], false, 0x00000000,
    [⟨31, 0, .ro, false, []⟩]⟩,
  -- GNT_EXCL_0
  ⟨0x0B00A0, [], false, 0x00000000,
    [⟨31, 0, .ro, false, []⟩]⟩,
  -- GNT_EXCL_1
  ⟨0x0B00A4, [], false, 0x00000000,
    [⟨31, 0, .ro, false, []⟩]⟩,
  -- GNT_EXCL_2
  ⟨0x0B00A8, [], false, 0x00000000,
    [⟨31, 0, .ro, false, []⟩]⟩,
  -- GNT_UTC
  ⟨0x0B00B0, [], false, 0x00000000,
    [⟨15, 0, .ro, false, []⟩, ⟨16, 16, .ro, false, []⟩, ⟨18, 17, .ro, false, []⟩]⟩,
  -- GNT_LEAP_TAI_LO
  ⟨0x0B00B4, [], false, 0x00000000,
    [⟨31, 0, .ro, false, []⟩]⟩,
  -- GNT_LEAP_TAI_HI
  ⟨0x0B00B8, [], false, 0x00000000,
    [⟨15, 0, .ro, false, []⟩]⟩,
  -- GNT_TP_CFG
  ⟨0x0B0100, [], false, 0x00000000,
    [⟨3, 0, .rw, true, []⟩, ⟨4, 4, .rw, true, []⟩, ⟨5, 5, .ro, false, []⟩]⟩,
  -- GNT_TP_W
  ⟨0x0B0110, [(12, 0x4)], false, 0x00000000,
    [⟨31, 0, .ro, false, []⟩]⟩,
  -- GNT_SLEEP_CTL
  ⟨0x0B0180, [], false, 0x0000000C,
    [⟨0, 0, .w1p, true, []⟩, ⟨1, 1, .w1p, true, []⟩, ⟨2, 2, .rw, true, []⟩, ⟨3, 3, .rw, true, []⟩]⟩,
  -- GNT_SLEEP_CFG
  ⟨0x0B0184, [], false, 0x000003E8,
    [⟨15, 0, .rw, true, []⟩, ⟨31, 16, .rw, true, []⟩]⟩,
  -- GNT_SLEEP_STAT
  ⟨0x0B0188, [], false, 0x00000000,
    [⟨1, 0, .ro, false, []⟩, ⟨2, 2, .ro, false, []⟩, ⟨15, 8, .ro, false, []⟩, ⟨31, 16, .ro, false, []⟩]⟩]

def regsGNT : List RegDesc := regsGNT0 ++ regsGNT1

def regsLAN0 : List RegDesc := [
  -- LAN_EVT
  ⟨0x0C0000, [], false, 0x00000000,
    [⟨15, 0, .w1c, true, []⟩, ⟨19, 16, .w1c, true, []⟩]⟩,
  -- LAN_QUAD_CFG
  ⟨0x0C0100, [(4, 0x10)], false, 0x00005002,
    [⟨1, 0, .rw, true, []⟩, ⟨3, 2, .rw, true, []⟩, ⟨6, 4, .rw, true, [(0, 4)]⟩, ⟨15, 8, .rw, true, [(1, 255)]⟩]⟩,
  -- LAN_QUAD_STAT
  ⟨0x0C0104, [(4, 0x10)], false, 0x00000000,
    [⟨2, 0, .ro, false, []⟩, ⟨3, 3, .ro, false, []⟩, ⟨4, 4, .ro, false, []⟩, ⟨5, 5, .ro, false, []⟩, ⟨6, 6, .ro, false, []⟩]⟩,
  -- LAN_LANE_CFG
  ⟨0x0C1000, [(16, 0x100)], false, 0x00000028,
    [⟨0, 0, .rw, true, []⟩, ⟨2, 1, .rw, true, [(0, 1)]⟩, ⟨4, 3, .rw, true, [(0, 2)]⟩, ⟨5, 5, .rw, true, []⟩, ⟨6, 6, .rw, true, []⟩, ⟨7, 7, .rw, true, []⟩, ⟨9, 8, .rw, true, [(0, 1)]⟩, ⟨10, 10, .rw, true, []⟩, ⟨11, 11, .rw, true, []⟩, ⟨12, 12, .rw, true, []⟩]⟩,
  -- LAN_LANE_AN_ADV
  ⟨0x0C1004, [(16, 0x100)], false, 0x00000004,
    [⟨22, 0, .rw, true, []⟩, ⟨24, 24, .rw, true, []⟩]⟩,
  -- LAN_LANE_TXEQ
  ⟨0x0C1008, [(16, 0x100)], false, 0x00002800,
    [⟨4, 0, .rw, true, []⟩, ⟨13, 8, .rw, true, []⟩, ⟨20, 16, .rw, true, []⟩]⟩,
  -- LAN_LANE_RXEQ
  ⟨0x0C100C, [(16, 0x100)], false, 0x00000000,
    [⟨3, 0, .ro, false, []⟩, ⟨11, 4, .ro, false, []⟩]⟩,
  -- LAN_LANE_TMR0
  ⟨0x0C1010, [(16, 0x100)], false, 0x01F40A01,
    [⟨7, 0, .rw, true, [(1, 255)]⟩, ⟨15, 8, .rw, true, [(1, 255)]⟩, ⟨31, 16, .rw, true, [(1, 65535)]⟩]⟩,
  -- LAN_LANE_TMR1
  ⟨0x0C1014, [(16, 0x100)], false, 0x030801F4,
    [⟨15, 0, .rw, true, [(1, 65535)]⟩, ⟨23, 16, .rw, true, []⟩, ⟨31, 24, .rw, true, [(1, 255)]⟩]⟩,
  -- LAN_LANE_STAT
  ⟨0x0C1018, [(16, 0x100)], false, 0x00000000,
    [⟨2, 0, .ro, false, []⟩, ⟨3, 3, .ro, false, []⟩, ⟨4, 4, .ro, false, []⟩, ⟨5, 5, .ro, false, []⟩, ⟨6, 6, .ro, false, []⟩, ⟨7, 7, .ro, false, []⟩, ⟨8, 8, .ro, false, []⟩, ⟨9, 9, .ro, false, []⟩, ⟨12, 10, .ro, false, []⟩, ⟨19, 16, .ro, false, []⟩, ⟨31, 24, .ro, false, []⟩]⟩,
  -- LAN_LANE_EVT
  ⟨0x0C101C, [(16, 0x100)], false, 0x00000000,
    [⟨0, 0, .w1c, true, []⟩, ⟨1, 1, .w1c, true, []⟩, ⟨2, 2, .w1c, true, []⟩, ⟨3, 3, .w1c, true, []⟩, ⟨4, 4, .w1c, true, []⟩, ⟨5, 5, .w1c, true, []⟩]⟩,
  -- LAN_LANE_COUNTS
  ⟨0x0C1020, [(16, 0x100)], false, 0x00000000,
    [⟨15, 0, .roc, false, []⟩, ⟨31, 16, .roc, false, []⟩]⟩,
  -- LAN_LANE_ALIGN
  ⟨0x0C1024, [(16, 0x100)], false, 0x00000000,
    [⟨6, 0, .ro, false, []⟩]⟩,
  -- LAN_LANE_RX_STAMP_LO
  ⟨0x0C1030, [(16, 0x100)], false, 0x00000000,
    [⟨31, 0, .ro, false, []⟩]⟩,
  -- LAN_LANE_RX_STAMP_HI
  ⟨0x0C1034, [(16, 0x100)], false, 0x00000000,
    [⟨27, 0, .ro, false, []⟩]⟩,
  -- LAN_LANE_RX_WIDX_LO
  ⟨0x0C1038, [(16, 0x100)], false, 0x00000000,
    [⟨31, 0, .ro, false, []⟩]⟩,
  -- LAN_LANE_RX_WIDX_HI
  ⟨0x0C103C, [(16, 0x100)], false, 0x00000000,
    [⟨15, 0, .ro, false, []⟩]⟩,
  -- LAN_LANE_TX_STAMP_LO
  ⟨0x0C1040, [(16, 0x100)], false, 0x00000000,
    [⟨31, 0, .ro, false, []⟩]⟩,
  -- LAN_LANE_TX_STAMP_HI
  ⟨0x0C1044, [(16, 0x100)], false, 0x00000000,
    [⟨27, 0, .ro, false, []⟩]⟩,
  -- LAN_LANE_TX_WIDX_LO
  ⟨0x0C1048, [(16, 0x100)], false, 0x00000000,
    [⟨31, 0, .ro, false, []⟩]⟩,
  -- LAN_LANE_TX_WIDX_HI
  ⟨0x0C104C, [(16, 0x100)], false, 0x00000000,
    [⟨15, 0, .ro, false, []⟩]⟩,
  -- LAN_LANE_RX_RATE
  ⟨0x0C1050, [(16, 0x100)], false, 0x00000000,
    [⟨31, 0, .ro, false, []⟩]⟩,
  -- LAN_LANE_SYNCE_X_LO
  ⟨0x0C1054, [(16, 0x100)], false, 0x00000000,
    [⟨31, 0, .ro, false, []⟩]⟩,
  -- LAN_LANE_SYNCE_X_HI
  ⟨0x0C1058, [(16, 0x100)], false, 0x00000000,
    [⟨15, 0, .ro, false, []⟩]⟩,
  -- LAN_LANE_TRK_STAT
  ⟨0x0C105C, [(16, 0x100)], false, 0x00000000,
    [⟨0, 0, .ro, false, []⟩, ⟨1, 1, .ro, false, []⟩, ⟨2, 2, .ro, false, []⟩]⟩,
  -- LAN_LANE_PRBS_CTL
  ⟨0x0C1080, [(16, 0x100)], false, 0x00010000,
    [⟨2, 0, .rw, true, [(0, 5)]⟩, ⟨6, 4, .rw, true, [(0, 5)]⟩, ⟨8, 8, .w1p, true, []⟩, ⟨9, 9, .w1p, true, []⟩, ⟨10, 10, .w1p, true, []⟩, ⟨23, 16, .rw, true, [(1, 255)]⟩]⟩,
  -- LAN_LANE_USER0
  ⟨0x0C1084, [(16, 0x100)], false, 0x00000000,
    [⟨31, 0, .rw, true, []⟩]⟩,
  -- LAN_LANE_USER1
  ⟨0x0C1088, [(16, 0x100)], false, 0x00000000,
    [⟨31, 0, .rw, true, []⟩]⟩,
  -- LAN_LANE_USER2
  ⟨0x0C108C, [(16, 0x100)], false, 0x00000000,
    [⟨15, 0, .rw, true, []⟩]⟩,
  -- LAN_LANE_PRBS_STAT
  ⟨0x0C1090, [(16, 0x100)], false, 0x00000000,
    [⟨0, 0, .ro, false, []⟩, ⟨1, 1, .ro, false, []⟩]⟩]

def regsLAN1 : List RegDesc := [
  -- LAN_LANE_ERR_LO
  ⟨0x0C1094, [(16, 0x100)], false, 0x00000000,
    [⟨31, 0, .ro, false, []⟩]⟩,
  -- LAN_LANE_ERR_HI
  ⟨0x0C1098, [(16, 0x100)], false, 0x00000000,
    [⟨15, 0, .ro, false, []⟩]⟩,
  -- LAN_LANE_BITS_LO
  ⟨0x0C109C, [(16, 0x100)], false, 0x00000000,
    [⟨31, 0, .ro, false, []⟩]⟩,
  -- LAN_LANE_BITS_HI
  ⟨0x0C10A0, [(16, 0x100)], false, 0x00000000,
    [⟨15, 0, .ro, false, []⟩]⟩]

def regsLAN : List RegDesc := regsLAN0 ++ regsLAN1

def regsMAC0 : List RegDesc := [
  -- MAC_EVT
  ⟨0x0D0000, [], false, 0x00000000,
    [⟨15, 0, .w1c, true, []⟩, ⟨16, 16, .w1c, true, []⟩, ⟨17, 17, .w1c, true, []⟩, ⟨18, 18, .w1c, true, []⟩]⟩,
  -- MAC_HOST_CTL
  ⟨0x0D0004, [], false, 0x00000000,
    [⟨15, 0, .rw, true, []⟩, ⟨31, 16, .rw, true, []⟩]⟩,
  -- MAC_HRX_STAT
  ⟨0x0D0008, [], false, 0x04000000,
    [⟨10, 0, .ro, false, []⟩, ⟨26, 16, .ro, false, []⟩]⟩,
  -- MAC_HRX_W0
  ⟨0x0D0010, [], false, 0x00000000,
    [⟨3, 0, .ro, false, []⟩, ⟨5, 4, .ro, false, []⟩, ⟨7, 6, .ro, false, []⟩, ⟨8, 8, .ro, false, []⟩, ⟨9, 9, .ro, false, []⟩, ⟨10, 10, .ro, false, []⟩, ⟨29, 16, .ro, false, []⟩]⟩,
  -- MAC_HRX_W1
  ⟨0x0D0014, [], false, 0x00000000,
    [⟨31, 0, .ro, false, []⟩]⟩,
  -- MAC_HRX_W2
  ⟨0x0D0018, [], false, 0x00000000,
    [⟨27, 0, .ro, false, []⟩]⟩,
  -- MAC_HRX_W3
  ⟨0x0D001C, [], false, 0x00000000,
    [⟨15, 0, .ro, false, []⟩]⟩,
  -- MAC_HRX_DATA
  ⟨0x0D0020, [], false, 0x00000000,
    [⟨31, 0, .ro, false, []⟩]⟩,
  -- MAC_HRX_POP
  ⟨0x0D0024, [], false, 0x00000000,
    [⟨0, 0, .w1p, false, []⟩]⟩,
  -- MAC_HTX_DESC_W0
  ⟨0x0D0030, [], false, 0x00000000,
    [⟨3, 0, .rw, true, []⟩, ⟨4, 4, .rw, true, []⟩, ⟨5, 5, .rw, true, []⟩, ⟨6, 6, .rw, true, []⟩, ⟨7, 7, .rw, true, []⟩, ⟨8, 8, .rw, true, []⟩, ⟨29, 16, .rw, true, []⟩]⟩,
  -- MAC_HTX_DESC_W1
  ⟨0x0D0034, [], false, 0x00000000,
    [⟨15, 0, .rw, true, []⟩, ⟨23, 16, .rw, true, []⟩]⟩,
  -- MAC_HTX_DATA
  ⟨0x0D0040, [], false, 0x00000000,
    [⟨31, 0, .wo, true, []⟩]⟩,
  -- MAC_HTX_CMD
  ⟨0x0D0044, [], false, 0x00000000,
    [⟨0, 0, .w1p, true, []⟩, ⟨1, 1, .w1p, true, []⟩]⟩,
  -- MAC_HTX_STAT
  ⟨0x0D0048, [], false, 0x00000400,
    [⟨10, 0, .ro, false, []⟩, ⟨16, 16, .w1c, true, []⟩, ⟨19, 17, .ro, false, []⟩]⟩,
  -- MAC_HTX_TAG
  ⟨0x0D004C, [], false, 0x00000000,
    [⟨15, 0, .ro, false, []⟩]⟩,
  -- MAC_PORT_CFG
  ⟨0x0D1000, [(16, 0x200)], false, 0x10FF85EE,
    [⟨13, 0, .rw, true, [(1518, 9216)]⟩, ⟨14, 14, .rw, true, []⟩, ⟨15, 15, .rw, true, []⟩, ⟨23, 16, .rw, true, []⟩, ⟨27, 24, .rw, true, []⟩, ⟨28, 28, .rw, true, []⟩]⟩,
  -- MAC_PORT_ADDR_LO
  ⟨0x0D1004, [(16, 0x200)], false, 0x00000000,
    [⟨31, 0, .rw, true, []⟩]⟩,
  -- MAC_PORT_ADDR_HI
  ⟨0x0D1008, [(16, 0x200)], false, 0x00000000,
    [⟨15, 0, .rw, true, []⟩]⟩,
  -- MAC_PORT_USER_j_LO
  ⟨0x0D1010, [(16, 0x200), (4, 0x8)], false, 0x00000000,
    [⟨31, 0, .rw, true, []⟩]⟩,
  -- MAC_PORT_USER_j_HI
  ⟨0x0D1014, [(16, 0x200), (4, 0x8)], false, 0x00000000,
    [⟨15, 0, .rw, true, []⟩]⟩,
  -- MAC_PORT_HASH_0
  ⟨0x0D1040, [(16, 0x200)], false, 0x00000000,
    [⟨31, 0, .rw, true, []⟩]⟩,
  -- MAC_PORT_HASH_1
  ⟨0x0D1044, [(16, 0x200)], false, 0x00000000,
    [⟨31, 0, .rw, true, []⟩]⟩,
  -- MAC_PORT_HASH_2
  ⟨0x0D1048, [(16, 0x200)], false, 0x00000000,
    [⟨31, 0, .rw, true, []⟩]⟩,
  -- MAC_PORT_HASH_3
  ⟨0x0D104C, [(16, 0x200)], false, 0x00000000,
    [⟨31, 0, .rw, true, []⟩]⟩,
  -- MAC_PORT_HASH_4
  ⟨0x0D1050, [(16, 0x200)], false, 0x00000000,
    [⟨31, 0, .rw, true, []⟩]⟩,
  -- MAC_PORT_HASH_5
  ⟨0x0D1054, [(16, 0x200)], false, 0x00000000,
    [⟨31, 0, .rw, true, []⟩]⟩,
  -- MAC_PORT_HASH_6
  ⟨0x0D1058, [(16, 0x200)], false, 0x00000000,
    [⟨31, 0, .rw, true, []⟩]⟩,
  -- MAC_PORT_HASH_7
  ⟨0x0D105C, [(16, 0x200)], false, 0x00000000,
    [⟨31, 0, .rw, true, []⟩]⟩,
  -- MAC_PORT_HASH_8
  ⟨0x0D1060, [(16, 0x200)], false, 0x00000000,
    [⟨31, 0, .rw, true, []⟩]⟩,
  -- MAC_PORT_HASH_9
  ⟨0x0D1064, [(16, 0x200)], false, 0x00000000,
    [⟨31, 0, .rw, true, []⟩]⟩]

def regsMAC1 : List RegDesc := [
  -- MAC_PORT_HASH_10
  ⟨0x0D1068, [(16, 0x200)], false, 0x00000000,
    [⟨31, 0, .rw, true, []⟩]⟩,
  -- MAC_PORT_HASH_11
  ⟨0x0D106C, [(16, 0x200)], false, 0x00000000,
    [⟨31, 0, .rw, true, []⟩]⟩,
  -- MAC_PORT_HASH_12
  ⟨0x0D1070, [(16, 0x200)], false, 0x00000000,
    [⟨31, 0, .rw, true, []⟩]⟩,
  -- MAC_PORT_HASH_13
  ⟨0x0D1074, [(16, 0x200)], false, 0x00000000,
    [⟨31, 0, .rw, true, []⟩]⟩,
  -- MAC_PORT_HASH_14
  ⟨0x0D1078, [(16, 0x200)], false, 0x00000000,
    [⟨31, 0, .rw, true, []⟩]⟩,
  -- MAC_PORT_HASH_15
  ⟨0x0D107C, [(16, 0x200)], false, 0x00000000,
    [⟨31, 0, .rw, true, []⟩]⟩,
  -- MAC_PORT_RX_CORR
  ⟨0x0D1080, [(16, 0x200)], false, 0x00000000,
    [⟨31, 0, .rw, true, []⟩]⟩,
  -- MAC_PORT_TX_CORR
  ⟨0x0D1084, [(16, 0x200)], false, 0x00000000,
    [⟨31, 0, .rw, true, []⟩]⟩,
  -- MAC_PORT_DLY_UNC
  ⟨0x0D1088, [(16, 0x200)], false, 0x00000000,
    [⟨31, 0, .rw, true, []⟩]⟩,
  -- MAC_PORT_ESMC_CFG
  ⟨0x0D1090, [(16, 0x200)], false, 0x0000FFFE,
    [⟨0, 0, .rw, true, []⟩, ⟨1, 1, .rw, true, []⟩, ⟨2, 2, .rw, true, []⟩, ⟨3, 3, .rw, true, []⟩, ⟨7, 4, .rw, true, []⟩, ⟨15, 8, .rw, true, []⟩]⟩,
  -- MAC_PORT_ESMC_OSC
  ⟨0x0D1094, [(16, 0x200)], false, 0x0000FF0B,
    [⟨3, 0, .rw, true, []⟩, ⟨15, 8, .rw, true, []⟩]⟩,
  -- MAC_PORT_ESMC_HO
  ⟨0x0D1098, [(16, 0x200)], false, 0x0000FF0B,
    [⟨3, 0, .rw, true, []⟩, ⟨15, 8, .rw, true, []⟩]⟩,
  -- MAC_PORT_ESMC_STAT
  ⟨0x0D109C, [(16, 0x200)], false, 0x0000FF0F,
    [⟨3, 0, .ro, false, []⟩, ⟨15, 8, .ro, false, []⟩, ⟨16, 16, .ro, false, []⟩]⟩,
  -- MAC_PORT_TSQ_STAT
  ⟨0x0D10A0, [(16, 0x200)], false, 0x00000000,
    [⟨9, 0, .ro, false, []⟩, ⟨16, 16, .ro, false, []⟩, ⟨17, 17, .w1c, true, []⟩]⟩,
  -- MAC_PORT_TSQ_W0
  ⟨0x0D10A4, [(16, 0x200)], false, 0x00000000,
    [⟨31, 0, .ro, false, []⟩]⟩,
  -- MAC_PORT_TSQ_W1
  ⟨0x0D10A8, [(16, 0x200)], false, 0x00000000,
    [⟨31, 0, .ro, false, []⟩]⟩,
  -- MAC_PORT_TSQ_W2
  ⟨0x0D10AC, [(16, 0x200)], false, 0x00000000,
    [⟨31, 0, .ro, false, []⟩]⟩,
  -- MAC_PORT_RX_FRAMES
  ⟨0x0D10C0, [(16, 0x200)], false, 0x00000000,
    [⟨31, 0, .roc, false, []⟩]⟩,
  -- MAC_PORT_RX_RUNT
  ⟨0x0D10C4, [(16, 0x200)], false, 0x00000000,
    [⟨31, 0, .roc, false, []⟩]⟩,
  -- MAC_PORT_RX_OVERSIZE
  ⟨0x0D10C8, [(16, 0x200)], false, 0x00000000,
    [⟨31, 0, .roc, false, []⟩]⟩,
  -- MAC_PORT_RX_FCS
  ⟨0x0D10CC, [(16, 0x200)], false, 0x00000000,
    [⟨31, 0, .roc, false, []⟩]⟩,
  -- MAC_PORT_RX_DA_MISS
  ⟨0x0D10D0, [(16, 0x200)], false, 0x00000000,
    [⟨31, 0, .roc, false, []⟩]⟩,
  -- MAC_PORT_RX_NOHOST
  ⟨0x0D10D4, [(16, 0x200)], false, 0x00000000,
    [⟨31, 0, .roc, false, []⟩]⟩,
  -- MAC_PORT_RX_TRUNC
  ⟨0x0D10D8, [(16, 0x200)], false, 0x00000000,
    [⟨31, 0, .roc, false, []⟩]⟩,
  -- MAC_PORT_HRX_DROP
  ⟨0x0D10DC, [(16, 0x200)], false, 0x00000000,
    [⟨31, 0, .roc, false, []⟩]⟩,
  -- MAC_PORT_TX_FRAMES
  ⟨0x0D10E0, [(16, 0x200)], false, 0x00000000,
    [⟨31, 0, .roc, false, []⟩]⟩,
  -- MAC_PORT_TX_PAD
  ⟨0x0D10E4, [(16, 0x200)], false, 0x00000000,
    [⟨31, 0, .roc, false, []⟩]⟩,
  -- MAC_PORT_TX_DOWN
  ⟨0x0D10E8, [(16, 0x200)], false, 0x00000000,
    [⟨31, 0, .roc, false, []⟩]⟩,
  -- MAC_PORT_TSQ_DROP
  ⟨0x0D10EC, [(16, 0x200)], false, 0x00000000,
    [⟨31, 0, .roc, false, []⟩]⟩,
  -- MAC_PORT_FU_SUPP
  ⟨0x0D10F0, [(16, 0x200)], false, 0x00000000,
    [⟨31, 0, .roc, false, []⟩]⟩]

def regsMAC2 : List RegDesc := [
  -- MAC_PORT_TX_NOTRAILER
  ⟨0x0D10F4, [(16, 0x200)], false, 0x00000000,
    [⟨31, 0, .roc, false, []⟩]⟩]

def regsMAC : List RegDesc := regsMAC0 ++ regsMAC1 ++ regsMAC2

def regsTSV0 : List RegDesc := [
  -- TSV_CTL
  ⟨0x0E0000, [], false, 0x00000059,
    [⟨0, 0, .rw, true, []⟩, ⟨1, 1, .rw, true, []⟩, ⟨2, 2, .rw, true, []⟩, ⟨3, 3, .rw, true, []⟩, ⟨4, 4, .rw, true, []⟩, ⟨5, 5, .rw, true, []⟩, ⟨6, 6, .rw, true, []⟩]⟩,
  -- TSV_STAT
  ⟨0x0E0004, [], false, 0x0000000B,
    [⟨0, 0, .ro, false, []⟩, ⟨4, 1, .ro, false, []⟩, ⟨10, 8, .ro, false, []⟩, ⟨11, 11, .ro, false, []⟩, ⟨28, 16, .ro, false, []⟩]⟩,
  -- TSV_EVT
  ⟨0x0E0008, [], false, 0x00000000,
    [⟨0, 0, .w1c, true, []⟩, ⟨1, 1, .w1c, true, []⟩, ⟨2, 2, .w1c, true, []⟩, ⟨3, 3, .w1c, true, []⟩, ⟨4, 4, .w1c, true, []⟩, ⟨5, 5, .w1c, true, []⟩, ⟨6, 6, .w1c, true, []⟩, ⟨7, 7, .w1c, true, []⟩]⟩,
  -- TSV_CUR_KEY_ID
  ⟨0x0E000C, [], false, 0x00000000,
    [⟨31, 0, .ro, false, []⟩]⟩,
  -- TSV_NTP_CFG
  ⟨0x0E0010, [], false, 0x0040E201,
    [⟨7, 0, .rw, true, [(1, 15)]⟩, ⟨15, 8, .rw, true, []⟩, ⟨23, 16, .rw, true, []⟩]⟩,
  -- TSV_NTP_REFID
  ⟨0x0E0014, [], false, 0x00000000,
    [⟨31, 0, .rw, true, []⟩]⟩,
  -- TSV_SYNC_MAX
  ⟨0x0E0018, [], false, 0x00000000,
    [⟨31, 0, .rw, true, []⟩]⟩,
  -- TSV_RATE_CFG
  ⟨0x0E001C, [], false, 0x00200010,
    [⟨15, 0, .rw, true, []⟩, ⟨23, 16, .rw, true, [(1, 255)]⟩]⟩,
  -- TSV_NTS_CFG
  ⟨0x0E0020, [], false, 0x00000080,
    [⟨2, 0, .rw, true, []⟩, ⟨3, 3, .rw, true, []⟩, ⟨7, 4, .rw, true, [(1, 8)]⟩, ⟨8, 8, .w1c, true, []⟩]⟩,
  -- TSV_NTS_KEY_KEY_ID
  ⟨0x0E0100, [(8, 0x10)], false, 0x00000000,
    [⟨31, 0, .rw, true, []⟩]⟩,
  -- TSV_NTS_KEY_NOT_AFTER_LO
  ⟨0x0E0104, [(8, 0x10)], false, 0x00000000,
    [⟨31, 0, .rw, true, []⟩]⟩,
  -- TSV_NTS_KEY_NOT_AFTER_HI
  ⟨0x0E0108, [(8, 0x10)], false, 0x00000000,
    [⟨15, 0, .rw, true, []⟩]⟩,
  -- TSV_NTS_KEY_STAT
  ⟨0x0E010C, [(8, 0x10)], false, 0x00000000,
    [⟨1, 0, .ro, false, []⟩, ⟨2, 2, .ro, false, []⟩, ⟨3, 3, .rw, true, []⟩]⟩,
  -- TSV_PTP_CFG
  ⟨0x0E0200, [], false, 0x80800000,
    [⟨1, 0, .rw, true, [(0, 2)]⟩, ⟨15, 8, .rw, true, []⟩, ⟨23, 16, .rw, true, []⟩, ⟨31, 24, .rw, true, []⟩]⟩,
  -- TSV_CLASS
  ⟨0x0E0204, [], false, 0xF88C0706,
    [⟨7, 0, .rw, true, []⟩, ⟨15, 8, .rw, true, []⟩, ⟨23, 16, .rw, true, []⟩, ⟨31, 24, .rw, true, []⟩]⟩,
  -- TSV_CLASS2
  ⟨0x0E0208, [], false, 0x0000A587,
    [⟨7, 0, .rw, true, []⟩, ⟨15, 8, .rw, true, []⟩]⟩,
  -- TSV_PTP_ASYM_UNC
  ⟨0x0E020C, [], false, 0x00000000,
    [⟨31, 0, .rw, true, []⟩]⟩,
  -- TSV_UNI_CFG
  ⟨0x0E0210, [], false, 0x7D2C0000,
    [⟨11, 0, .rw, true, []⟩, ⟨25, 16, .rw, true, [(1, 1023)]⟩, ⟨28, 26, .rw, true, []⟩, ⟨31, 29, .rw, true, []⟩]⟩,
  -- TSV_SESS_IDX
  ⟨0x0E0220, [], false, 0x00000000,
    [⟨11, 0, .rw, false, []⟩]⟩,
  -- TSV_SESS_CMD
  ⟨0x0E0224, [], false, 0x00000000,
    [⟨0, 0, .w1p, false, []⟩, ⟨1, 1, .w1p, true, []⟩, ⟨2, 2, .w1p, true, []⟩, ⟨8, 8, .ro, false, []⟩, ⟨9, 9, .w1c, true, []⟩]⟩,
  -- TSV_SESS_W
  ⟨0x0E0240, [(16, 0x4)], false, 0x00000000,
    [⟨31, 0, .rw, true, []⟩]⟩,
  -- TSV_PORT_CFG
  ⟨0x0E1000, [(16, 0x40)], false, 0x00800020,
    [⟨0, 0, .rw, true, []⟩, ⟨2, 1, .rw, true, [(0, 2)]⟩, ⟨3, 3, .rw, true, []⟩, ⟨4, 4, .rw, true, []⟩, ⟨5, 5, .rw, true, []⟩, ⟨7, 6, .rw, true, [(0, 2)]⟩, ⟨8, 8, .rw, true, []⟩, ⟨9, 9, .rw, true, []⟩, ⟨23, 16, .rw, true, []⟩, ⟨31, 24, .rw, true, []⟩]⟩,
  -- TSV_PORT_LOG
  ⟨0x0E1004, [(16, 0x40)], false, 0x00FCFCFD,
    [⟨7, 0, .rw, true, []⟩, ⟨15, 8, .rw, true, []⟩, ⟨23, 16, .rw, true, []⟩]⟩,
  -- TSV_PORT_MC_SESS
  ⟨0x0E1008, [(16, 0x40)], false, 0x00000000,
    [⟨11, 0, .rw, true, []⟩, ⟨15, 15, .rw, true, []⟩]⟩,
  -- TSV_PORT_STAT
  ⟨0x0E100C, [(16, 0x40)], false, 0x00000001,
    [⟨3, 0, .ro, false, []⟩, ⟨4, 4, .ro, false, []⟩]⟩,
  -- TSV_PORT_TX_MSG
  ⟨0x0E1010, [(16, 0x40)], false, 0x00000000,
    [⟨31, 0, .roc, false, []⟩]⟩,
  -- TSV_PORT_RX_MSG
  ⟨0x0E1014, [(16, 0x40)], false, 0x00000000,
    [⟨31, 0, .roc, false, []⟩]⟩,
  -- TSV_PORT_AUTH_FAIL
  ⟨0x0E1018, [(16, 0x40)], false, 0x00000000,
    [⟨31, 0, .roc, false, []⟩]⟩,
  -- TSV_PORT_NOGRANT
  ⟨0x0E101C, [(16, 0x40)], false, 0x00000000,
    [⟨31, 0, .roc, false, []⟩]⟩,
  -- TSV_PORT_DENY
  ⟨0x0E1020, [(16, 0x40)], false, 0x00000000,
    [⟨31, 0, .roc, false, []⟩]⟩]

def regsTSV1 : List RegDesc := [
  -- TSV_PORT_TB_RX
  ⟨0x0E1024, [(16, 0x40)], false, 0x00000000,
    [⟨31, 0, .roc, false, []⟩]⟩,
  -- TSV_ADDR_IP_W0
  ⟨0x0E2000, [(32, 0x20)], false, 0x00000000,
    [⟨31, 0, .rw, true, []⟩]⟩,
  -- TSV_ADDR_IP_W1
  ⟨0x0E2004, [(32, 0x20)], false, 0x00000000,
    [⟨31, 0, .rw, true, []⟩]⟩,
  -- TSV_ADDR_IP_W2
  ⟨0x0E2008, [(32, 0x20)], false, 0x00000000,
    [⟨31, 0, .rw, true, []⟩]⟩,
  -- TSV_ADDR_IP_W3
  ⟨0x0E200C, [(32, 0x20)], false, 0x00000000,
    [⟨31, 0, .rw, true, []⟩]⟩,
  -- TSV_ADDR_PORTS
  ⟨0x0E2010, [(32, 0x20)], false, 0x00000000,
    [⟨15, 0, .rw, true, []⟩]⟩,
  -- TSV_ADDR_VLAN
  ⟨0x0E2014, [(32, 0x20)], false, 0x00000000,
    [⟨11, 0, .rw, true, []⟩, ⟨12, 12, .rw, true, []⟩]⟩,
  -- TSV_ADDR_SVC
  ⟨0x0E2018, [(32, 0x20)], false, 0x00000000,
    [⟨0, 0, .rw, true, []⟩, ⟨1, 1, .rw, true, []⟩, ⟨2, 2, .rw, true, []⟩, ⟨3, 3, .rw, true, []⟩, ⟨4, 4, .rw, true, []⟩, ⟨13, 8, .rw, true, []⟩]⟩,
  -- TSV_MAL_LEVEL
  ⟨0x0E3000, [(8, 0x40)], false, 0x00000000,
    [⟨8, 0, .ro, false, []⟩]⟩,
  -- TSV_MAL_RX
  ⟨0x0E3004, [(8, 0x40)], false, 0x00000000,
    [⟨31, 0, .roc, false, []⟩]⟩,
  -- TSV_MAL_TX
  ⟨0x0E3008, [(8, 0x40)], false, 0x00000000,
    [⟨31, 0, .roc, false, []⟩]⟩,
  -- TSV_MAL_QFULL
  ⟨0x0E300C, [(8, 0x40)], false, 0x00000000,
    [⟨31, 0, .roc, false, []⟩]⟩,
  -- TSV_MAL_CSUM
  ⟨0x0E3010, [(8, 0x40)], false, 0x00000000,
    [⟨31, 0, .roc, false, []⟩]⟩,
  -- TSV_MAL_MALFORMED
  ⟨0x0E3014, [(8, 0x40)], false, 0x00000000,
    [⟨31, 0, .roc, false, []⟩]⟩,
  -- TSV_MAL_RATED
  ⟨0x0E3018, [(8, 0x40)], false, 0x00000000,
    [⟨31, 0, .roc, false, []⟩]⟩,
  -- TSV_MAL_NTSN
  ⟨0x0E301C, [(8, 0x40)], false, 0x00000000,
    [⟨31, 0, .roc, false, []⟩]⟩,
  -- TSV_MAL_NTS_OK
  ⟨0x0E3020, [(8, 0x40)], false, 0x00000000,
    [⟨31, 0, .roc, false, []⟩]⟩,
  -- TSV_MAL_NTP_OK
  ⟨0x0E3024, [(8, 0x40)], false, 0x00000000,
    [⟨31, 0, .roc, false, []⟩]⟩,
  -- TSV_MAL_PTP_OK
  ⟨0x0E3028, [(8, 0x40)], false, 0x00000000,
    [⟨31, 0, .roc, false, []⟩]⟩,
  -- TSV_MAL_TO_HOST
  ⟨0x0E302C, [(8, 0x40)], false, 0x00000000,
    [⟨31, 0, .roc, false, []⟩]⟩,
  -- TSV_MAL_NOTSENT
  ⟨0x0E3030, [(8, 0x40)], false, 0x00000000,
    [⟨31, 0, .roc, false, []⟩]⟩]

def regsTSV : List RegDesc := regsTSV0 ++ regsTSV1

def regsKEY0 : List RegDesc := [
  -- KEY_CTL
  ⟨0x0F0000, [], false, 0x000003E8,
    [⟨15, 0, .rw, true, [(1, 65535)]⟩]⟩,
  -- KEY_STAT
  ⟨0x0F0004, [], false, 0x00000000,
    [⟨1, 0, .ro, false, []⟩, ⟨3, 2, .ro, false, []⟩, ⟨8, 4, .ro, false, []⟩, ⟨9, 9, .ro, false, []⟩, ⟨10, 10, .ro, false, []⟩, ⟨11, 11, .w1c, true, []⟩, ⟨12, 12, .ro, false, []⟩, ⟨13, 13, .ro, false, []⟩, ⟨22, 16, .ro, false, []⟩]⟩,
  -- KEY_EVT
  ⟨0x0F0008, [], false, 0x00000000,
    [⟨0, 0, .w1c, true, []⟩, ⟨1, 1, .w1c, true, []⟩, ⟨2, 2, .w1c, true, []⟩, ⟨3, 3, .w1c, true, []⟩, ⟨4, 4, .w1c, true, []⟩, ⟨5, 5, .w1c, true, []⟩, ⟨6, 6, .w1c, true, []⟩, ⟨7, 7, .w1c, true, []⟩]⟩,
  -- KEY_CMD
  ⟨0x0F000C, [], false, 0x00000000,
    [⟨0, 0, .w1p, true, []⟩, ⟨1, 1, .w1p, true, []⟩, ⟨2, 2, .w1p, true, []⟩, ⟨3, 3, .w1p, true, []⟩]⟩,
  -- KEY_ERR
  ⟨0x0F0010, [], false, 0x00000000,
    [⟨3, 0, .ro, false, []⟩, ⟨11, 8, .ro, false, []⟩]⟩,
  -- KEY_JNL
  ⟨0x0F0014, [], false, 0x00000000,
    [⟨31, 0, .ro, false, []⟩]⟩,
  -- KEY_JNL_USE
  ⟨0x0F0018, [], false, 0x00000000,
    [⟨15, 0, .ro, false, []⟩, ⟨31, 16, .roc, false, []⟩]⟩,
  -- KEY_STG_OP
  ⟨0x0F0100, [], false, 0x00000000,
    [⟨2, 0, .rw, true, [(1, 6)]⟩, ⟨13, 8, .rw, true, []⟩, ⟨21, 16, .rw, true, []⟩]⟩,
  -- KEY_STG_ATTR
  ⟨0x0F0104, [], false, 0x00000000,
    [⟨3, 0, .rw, true, [(1, 8)]⟩, ⟨5, 4, .rw, true, [(0, 2)]⟩, ⟨11, 6, .rw, true, []⟩, ⟨13, 12, .rw, true, [(0, 2)]⟩, ⟨23, 16, .rw, true, []⟩]⟩,
  -- KEY_STG_ROLE
  ⟨0x0F0108, [], false, 0x00000000,
    [⟨31, 0, .rw, true, []⟩]⟩,
  -- KEY_STG_USES
  ⟨0x0F010C, [], false, 0x00000000,
    [⟨31, 0, .rw, true, []⟩]⟩,
  -- KEY_STG_DATA_W0
  ⟨0x0F0120, [], false, 0x00000000,
    [⟨31, 0, .wo, true, []⟩]⟩,
  -- KEY_STG_DATA_W1
  ⟨0x0F0124, [], false, 0x00000000,
    [⟨31, 0, .wo, true, []⟩]⟩,
  -- KEY_STG_DATA_W2
  ⟨0x0F0128, [], false, 0x00000000,
    [⟨31, 0, .wo, true, []⟩]⟩,
  -- KEY_STG_DATA_W3
  ⟨0x0F012C, [], false, 0x00000000,
    [⟨31, 0, .wo, true, []⟩]⟩,
  -- KEY_STG_DATA_W4
  ⟨0x0F0130, [], false, 0x00000000,
    [⟨31, 0, .wo, true, []⟩]⟩,
  -- KEY_STG_DATA_W5
  ⟨0x0F0134, [], false, 0x00000000,
    [⟨31, 0, .wo, true, []⟩]⟩,
  -- KEY_STG_DATA_W6
  ⟨0x0F0138, [], false, 0x00000000,
    [⟨31, 0, .wo, true, []⟩]⟩,
  -- KEY_STG_DATA_W7
  ⟨0x0F013C, [], false, 0x00000000,
    [⟨31, 0, .wo, true, []⟩]⟩,
  -- KEY_STG_DATA_W8
  ⟨0x0F0140, [], false, 0x00000000,
    [⟨31, 0, .wo, true, []⟩]⟩,
  -- KEY_STG_DATA_W9
  ⟨0x0F0144, [], false, 0x00000000,
    [⟨31, 0, .wo, true, []⟩]⟩,
  -- KEY_STG_DATA_W10
  ⟨0x0F0148, [], false, 0x00000000,
    [⟨31, 0, .wo, true, []⟩]⟩,
  -- KEY_STG_DATA_W11
  ⟨0x0F014C, [], false, 0x00000000,
    [⟨31, 0, .wo, true, []⟩]⟩,
  -- KEY_SA_CFG
  ⟨0x0F0200, [(16, 0x10)], false, 0x00000000,
    [⟨0, 0, .rw, true, []⟩, ⟨1, 1, .rw, true, []⟩, ⟨15, 8, .rw, true, []⟩]⟩,
  -- KEY_SA_TX_KEY_ID
  ⟨0x0F0204, [(16, 0x10)], false, 0x00000000,
    [⟨31, 0, .rw, true, []⟩]⟩,
  -- KEY_ATT_CHAL_W0
  ⟨0x0F0300, [], true, 0x00000000,
    [⟨31, 0, .rw, false, []⟩]⟩,
  -- KEY_ATT_CHAL_W1
  ⟨0x0F0304, [], true, 0x00000000,
    [⟨31, 0, .rw, false, []⟩]⟩,
  -- KEY_ATT_CHAL_W2
  ⟨0x0F0308, [], true, 0x00000000,
    [⟨31, 0, .rw, false, []⟩]⟩,
  -- KEY_ATT_CHAL_W3
  ⟨0x0F030C, [], true, 0x00000000,
    [⟨31, 0, .rw, false, []⟩]⟩,
  -- KEY_ATT_CHAL_W4
  ⟨0x0F0310, [], true, 0x00000000,
    [⟨31, 0, .rw, false, []⟩]⟩]

def regsKEY1 : List RegDesc := [
  -- KEY_ATT_CHAL_W5
  ⟨0x0F0314, [], true, 0x00000000,
    [⟨31, 0, .rw, false, []⟩]⟩,
  -- KEY_ATT_CHAL_W6
  ⟨0x0F0318, [], true, 0x00000000,
    [⟨31, 0, .rw, false, []⟩]⟩,
  -- KEY_ATT_CHAL_W7
  ⟨0x0F031C, [], true, 0x00000000,
    [⟨31, 0, .rw, false, []⟩]⟩,
  -- KEY_ATT_CMD
  ⟨0x0F0320, [], true, 0x00000000,
    [⟨0, 0, .w1p, false, []⟩]⟩,
  -- KEY_ATT_STAT
  ⟨0x0F0324, [], true, 0x00000000,
    [⟨0, 0, .ro, false, []⟩, ⟨1, 1, .ro, false, []⟩, ⟨2, 2, .ro, false, []⟩, ⟨15, 8, .ro, false, []⟩]⟩,
  -- KEY_ATT_DIGEST_W0
  ⟨0x0F0328, [], true, 0x00000000,
    [⟨31, 0, .ro, false, []⟩]⟩,
  -- KEY_ATT_DIGEST_W1
  ⟨0x0F032C, [], true, 0x00000000,
    [⟨31, 0, .ro, false, []⟩]⟩,
  -- KEY_ATT_DIGEST_W2
  ⟨0x0F0330, [], true, 0x00000000,
    [⟨31, 0, .ro, false, []⟩]⟩,
  -- KEY_ATT_DIGEST_W3
  ⟨0x0F0334, [], true, 0x00000000,
    [⟨31, 0, .ro, false, []⟩]⟩,
  -- KEY_ATT_DIGEST_W4
  ⟨0x0F0338, [], true, 0x00000000,
    [⟨31, 0, .ro, false, []⟩]⟩,
  -- KEY_ATT_DIGEST_W5
  ⟨0x0F033C, [], true, 0x00000000,
    [⟨31, 0, .ro, false, []⟩]⟩,
  -- KEY_ATT_DIGEST_W6
  ⟨0x0F0340, [], true, 0x00000000,
    [⟨31, 0, .ro, false, []⟩]⟩,
  -- KEY_ATT_DIGEST_W7
  ⟨0x0F0344, [], true, 0x00000000,
    [⟨31, 0, .ro, false, []⟩]⟩,
  -- KEY_ATT_RESP_W0
  ⟨0x0F034C, [], true, 0x00000000,
    [⟨31, 0, .ro, false, []⟩]⟩,
  -- KEY_ATT_RESP_W1
  ⟨0x0F0350, [], true, 0x00000000,
    [⟨31, 0, .ro, false, []⟩]⟩,
  -- KEY_ATT_RESP_W2
  ⟨0x0F0354, [], true, 0x00000000,
    [⟨31, 0, .ro, false, []⟩]⟩,
  -- KEY_ATT_RESP_W3
  ⟨0x0F0358, [], true, 0x00000000,
    [⟨31, 0, .ro, false, []⟩]⟩,
  -- KEY_ATT_RESP_W4
  ⟨0x0F035C, [], true, 0x00000000,
    [⟨31, 0, .ro, false, []⟩]⟩,
  -- KEY_ATT_RESP_W5
  ⟨0x0F0360, [], true, 0x00000000,
    [⟨31, 0, .ro, false, []⟩]⟩,
  -- KEY_ATT_RESP_W6
  ⟨0x0F0364, [], true, 0x00000000,
    [⟨31, 0, .ro, false, []⟩]⟩,
  -- KEY_ATT_RESP_W7
  ⟨0x0F0368, [], true, 0x00000000,
    [⟨31, 0, .ro, false, []⟩]⟩,
  -- KEY_SLOT_ATTR
  ⟨0x0F1000, [(64, 0x20)], false, 0x00000000,
    [⟨2, 0, .ro, false, []⟩, ⟨7, 4, .ro, false, []⟩, ⟨9, 8, .ro, false, []⟩, ⟨15, 10, .ro, false, []⟩, ⟨17, 16, .ro, false, []⟩, ⟨20, 18, .ro, false, []⟩, ⟨29, 24, .ro, false, []⟩]⟩,
  -- KEY_SLOT_ROLE_ID
  ⟨0x0F1004, [(64, 0x20)], false, 0x00000000,
    [⟨31, 0, .ro, false, []⟩]⟩,
  -- KEY_SLOT_USES
  ⟨0x0F1008, [(64, 0x20)], false, 0x00000000,
    [⟨31, 0, .ro, false, []⟩]⟩,
  -- KEY_SLOT_USE_MAX
  ⟨0x0F100C, [(64, 0x20)], false, 0x00000000,
    [⟨31, 0, .ro, false, []⟩]⟩,
  -- KEY_SLOT_GEN
  ⟨0x0F1010, [(64, 0x20)], false, 0x00000000,
    [⟨15, 0, .ro, false, []⟩, ⟨31, 16, .ro, false, []⟩]⟩,
  -- KEY_SLOT_SPP
  ⟨0x0F1014, [(64, 0x20)], false, 0x00000000,
    [⟨7, 0, .ro, false, []⟩]⟩,
  -- KEY_SLOT_FLOOR
  ⟨0x0F1018, [(64, 0x20)], false, 0x00000000,
    [⟨31, 0, .ro, false, []⟩]⟩]

def regsKEY : List RegDesc := regsKEY0 ++ regsKEY1

def regsPRL0 : List RegDesc := [
  -- PRL_EVT
  ⟨0x100000, [], false, 0x00000000,
    [⟨7, 0, .w1c, true, []⟩, ⟨15, 8, .w1c, true, []⟩, ⟨23, 16, .w1c, true, []⟩, ⟨31, 24, .w1c, true, []⟩]⟩,
  -- PRL_EVT2
  ⟨0x100004, [], false, 0x00000000,
    [⟨7, 0, .w1c, true, []⟩, ⟨15, 8, .w1c, true, []⟩, ⟨23, 16, .w1c, true, []⟩]⟩,
  -- PRL_CFG
  ⟨0x100010, [], false, 0x0010030A,
    [⟨7, 0, .rw, true, [(1, 255)]⟩, ⟨11, 8, .rw, true, [(2, 15)]⟩, ⟨23, 16, .rw, true, [(1, 255)]⟩]⟩,
  -- PRL_CAL_CFG
  ⟨0x100014, [], false, 0x0064040E,
    [⟨4, 0, .rw, true, [(8, 20)]⟩, ⟨11, 8, .rw, true, [(1, 15)]⟩, ⟨31, 16, .rw, true, [(1, 65535)]⟩]⟩,
  -- PRL_CAL_CFG2
  ⟨0x100018, [], false, 0x04000040,
    [⟨15, 0, .rw, true, [(1, 65535)]⟩, ⟨31, 16, .rw, true, []⟩]⟩,
  -- PRL_PP_CTL
  ⟨0x101000, [(8, 0x100)], false, 0x00000000,
    [⟨0, 0, .rw, true, []⟩, ⟨1, 1, .rw, true, []⟩, ⟨2, 2, .w1p, true, []⟩, ⟨4, 4, .rw, true, []⟩, ⟨5, 5, .rw, true, []⟩]⟩,
  -- PRL_PP_STAT
  ⟨0x101004, [(8, 0x100)], false, 0x00000000,
    [⟨1, 0, .ro, false, []⟩, ⟨2, 2, .ro, false, []⟩, ⟨3, 3, .ro, false, []⟩, ⟨6, 4, .ro, false, []⟩, ⟨10, 8, .ro, false, []⟩, ⟨14, 12, .ro, false, []⟩]⟩,
  -- PRL_PP_PARTNER
  ⟨0x101008, [(8, 0x100)], false, 0x00000000,
    [⟨15, 0, .ro, false, []⟩, ⟨18, 16, .ro, false, []⟩]⟩,
  -- PRL_PP_COUNTS
  ⟨0x10100C, [(8, 0x100)], false, 0x00000000,
    [⟨15, 0, .roc, false, []⟩, ⟨31, 16, .roc, false, []⟩]⟩,
  -- PRL_PP_X_LO
  ⟨0x101010, [(8, 0x100)], false, 0x00000000,
    [⟨31, 0, .ro, false, []⟩]⟩,
  -- PRL_PP_X_HI
  ⟨0x101014, [(8, 0x100)], false, 0x00000000,
    [⟨15, 0, .ro, false, []⟩]⟩,
  -- PRL_PP_UPS_W0
  ⟨0x101018, [(8, 0x100)], false, 0x00000000,
    [⟨31, 0, .ro, false, []⟩]⟩,
  -- PRL_PP_UPS_W1
  ⟨0x10101C, [(8, 0x100)], false, 0x00000000,
    [⟨31, 0, .ro, false, []⟩]⟩,
  -- PRL_PP_UPS_W2
  ⟨0x101020, [(8, 0x100)], false, 0x00000000,
    [⟨31, 0, .ro, false, []⟩]⟩,
  -- PRL_PP_UPS_W3
  ⟨0x101024, [(8, 0x100)], false, 0x00000000,
    [⟨31, 0, .ro, false, []⟩]⟩,
  -- PRL_PP_UPS_TRACE
  ⟨0x101028, [(8, 0x100)], false, 0x00000000,
    [⟨2, 0, .ro, false, []⟩, ⟨5, 4, .ro, false, []⟩, ⟨6, 6, .ro, false, []⟩, ⟨23, 8, .ro, false, []⟩, ⟨31, 24, .ro, false, []⟩]⟩,
  -- PRL_PP_UPS_INFO
  ⟨0x10102C, [(8, 0x100)], false, 0xFEFF0000,
    [⟨15, 0, .ro, false, []⟩, ⟨23, 16, .ro, false, []⟩, ⟨31, 24, .ro, false, []⟩]⟩,
  -- PRL_PP_UPS_UTC
  ⟨0x101030, [(8, 0x100)], false, 0x00000000,
    [⟨15, 0, .ro, false, []⟩, ⟨17, 16, .ro, false, []⟩, ⟨18, 18, .ro, false, []⟩]⟩,
  -- PRL_PP_UPS_AGE
  ⟨0x101034, [(8, 0x100)], false, 0x00000000,
    [⟨31, 0, .ro, false, []⟩]⟩,
  -- PRL_PP_ASYM
  ⟨0x101038, [(8, 0x100)], false, 0x00000000,
    [⟨31, 0, .ro, false, []⟩]⟩,
  -- PRL_PP_HOP
  ⟨0x10103C, [(8, 0x100)], false, 0x00000000,
    [⟨31, 0, .ro, false, []⟩]⟩,
  -- PRL_PP_MSGCNT
  ⟨0x101040, [(8, 0x100)], false, 0x00000000,
    [⟨15, 0, .roc, false, []⟩, ⟨31, 16, .roc, false, []⟩]⟩,
  -- PRL_PP_MSGCNT2
  ⟨0x101044, [(8, 0x100)], false, 0x00000000,
    [⟨15, 0, .roc, false, []⟩, ⟨31, 16, .roc, false, []⟩]⟩,
  -- PRL_PP_PATH_PSTAT
  ⟨0x101080, [(8, 0x100), (2, 0x40)], false, 0x00000000,
    [⟨2, 0, .ro, false, []⟩, ⟨6, 4, .ro, false, []⟩, ⟨7, 7, .ro, false, []⟩, ⟨8, 8, .ro, false, []⟩, ⟨31, 16, .ro, false, []⟩]⟩,
  -- PRL_PP_PATH_ASYM_DECL
  ⟨0x101084, [(8, 0x100), (2, 0x40)], false, 0x00000000,
    [⟨31, 0, .rw, true, []⟩]⟩,
  -- PRL_PP_PATH_ASYM_UNC
  ⟨0x101088, [(8, 0x100), (2, 0x40)], false, 0x00000000,
    [⟨31, 0, .rw, true, []⟩]⟩,
  -- PRL_PP_PATH_COR
  ⟨0x10108C, [(8, 0x100), (2, 0x40)], false, 0x00000000,
    [⟨31, 0, .ro, false, []⟩]⟩,
  -- PRL_PP_PATH_COR_UNC
  ⟨0x101090, [(8, 0x100), (2, 0x40)], false, 0x00000000,
    [⟨31, 0, .ro, false, []⟩]⟩,
  -- PRL_PP_PATH_DELAY
  ⟨0x101094, [(8, 0x100), (2, 0x40)], false, 0x00000000,
    [⟨31, 0, .ro, false, []⟩]⟩,
  -- PRL_PP_PATH_THETA
  ⟨0x101098, [(8, 0x100), (2, 0x40)], false, 0x00000000,
    [⟨31, 0, .ro, false, []⟩]⟩]

def regsPRL1 : List RegDesc := [
  -- PRL_PP_PATH_SDEV
  ⟨0x10109C, [(8, 0x100), (2, 0x40)], false, 0x00000000,
    [⟨31, 0, .ro, false, []⟩]⟩,
  -- PRL_PP_PATH_HOP_FAC
  ⟨0x1010A0, [(8, 0x100), (2, 0x40)], false, 0x00000000,
    [⟨15, 0, .ro, false, []⟩, ⟨31, 16, .ro, false, []⟩]⟩,
  -- PRL_PP_PATH_CNT
  ⟨0x1010A4, [(8, 0x100), (2, 0x40)], false, 0x00000000,
    [⟨15, 0, .roc, false, []⟩, ⟨31, 16, .roc, false, []⟩]⟩]

def regsPRL : List RegDesc := regsPRL0 ++ regsPRL1

def regsDOM0 : List RegDesc := [
  -- DOM_ID
  ⟨0x110000, [], false, 0x00000000,
    [⟨15, 0, .rwl, true, []⟩, ⟨31, 16, .rwl, true, []⟩]⟩,
  -- DOM_CFG
  ⟨0x110004, [], false, 0xF8808006,
    [⟨0, 0, .rw, true, []⟩, ⟨1, 1, .rw, true, []⟩, ⟨2, 2, .rw, true, []⟩, ⟨15, 8, .rw, true, []⟩, ⟨23, 16, .rw, true, []⟩, ⟨31, 24, .rw, true, []⟩]⟩,
  -- DOM_CFG2
  ⟨0x110008, [], false, 0xFF10FFFF,
    [⟨15, 0, .rw, true, []⟩, ⟨23, 16, .rw, true, [(2, 255)]⟩, ⟨31, 24, .rw, true, [(1, 255)]⟩]⟩,
  -- DOM_CFG3
  ⟨0x11000C, [], false, 0x00006410,
    [⟨7, 0, .rw, true, []⟩, ⟨15, 8, .rw, true, [(1, 255)]⟩]⟩,
  -- DOM_MGROW
  ⟨0x110010, [], false, 0x0008637C,
    [⟨31, 0, .rw, true, []⟩]⟩,
  -- DOM_STAT
  ⟨0x110014, [], false, 0x0000FF00,
    [⟨1, 0, .ro, false, []⟩, ⟨2, 2, .ro, false, []⟩, ⟨3, 3, .ro, false, []⟩, ⟨4, 4, .ro, false, []⟩, ⟨5, 5, .ro, false, []⟩, ⟨15, 8, .ro, false, []⟩, ⟨18, 16, .ro, false, []⟩, ⟨19, 19, .ro, false, []⟩]⟩,
  -- DOM_LEADER
  ⟨0x110018, [], false, 0x00000000,
    [⟨15, 0, .ro, false, []⟩, ⟨31, 16, .ro, false, []⟩]⟩,
  -- DOM_EPOCH
  ⟨0x11001C, [], false, 0x00000000,
    [⟨15, 0, .ro, false, []⟩, ⟨31, 16, .ro, false, []⟩]⟩,
  -- DOM_EPOCH_RAW_LO
  ⟨0x110020, [], false, 0x00000000,
    [⟨31, 0, .ro, false, []⟩]⟩,
  -- DOM_EPOCH_RAW_HI
  ⟨0x110024, [], false, 0x00000000,
    [⟨15, 0, .ro, false, []⟩]⟩,
  -- DOM_U_L
  ⟨0x110028, [], false, 0xFFFFFFFF,
    [⟨31, 0, .ro, false, []⟩]⟩,
  -- DOM_MOFS_LO
  ⟨0x11002C, [], false, 0x00000000,
    [⟨31, 0, .ro, false, []⟩]⟩,
  -- DOM_MOFS_HI
  ⟨0x110030, [], false, 0x00000000,
    [⟨15, 0, .ro, false, []⟩]⟩,
  -- DOM_LSEQ
  ⟨0x110034, [], false, 0x00000000,
    [⟨31, 0, .ro, false, []⟩]⟩,
  -- DOM_EVT
  ⟨0x110038, [], false, 0x00000000,
    [⟨0, 0, .w1c, true, []⟩, ⟨1, 1, .w1c, true, []⟩, ⟨2, 2, .w1c, true, []⟩, ⟨3, 3, .w1c, true, []⟩, ⟨4, 4, .w1c, true, []⟩, ⟨5, 5, .w1c, true, []⟩, ⟨6, 6, .w1c, true, []⟩, ⟨7, 7, .w1c, true, []⟩, ⟨8, 8, .w1c, true, []⟩]⟩,
  -- DOM_RELAY_CNT
  ⟨0x11003C, [], false, 0x00000000,
    [⟨7, 0, .roc, false, []⟩, ⟨15, 8, .roc, false, []⟩, ⟨23, 16, .roc, false, []⟩, ⟨31, 24, .roc, false, []⟩]⟩,
  -- DOM_PP_ROLE
  ⟨0x111000, [(8, 0x40)], false, 0x00FFFF00,
    [⟨1, 0, .ro, false, []⟩, ⟨2, 2, .ro, false, []⟩, ⟨3, 3, .ro, false, []⟩, ⟨15, 8, .ro, false, []⟩, ⟨23, 16, .ro, false, []⟩]⟩,
  -- DOM_PP_P_LEADER
  ⟨0x111004, [(8, 0x40)], false, 0x00000000,
    [⟨15, 0, .ro, false, []⟩, ⟨31, 16, .ro, false, []⟩]⟩,
  -- DOM_PP_P_LSEQ
  ⟨0x111008, [(8, 0x40)], false, 0x00000000,
    [⟨31, 0, .ro, false, []⟩]⟩,
  -- DOM_PP_P_FLAGS
  ⟨0x11100C, [(8, 0x40)], false, 0x00000000,
    [⟨7, 0, .ro, false, []⟩]⟩,
  -- DOM_PP_P_MOFS_LO
  ⟨0x111010, [(8, 0x40)], false, 0x00000000,
    [⟨31, 0, .ro, false, []⟩]⟩,
  -- DOM_PP_P_MOFS_HI
  ⟨0x111014, [(8, 0x40)], false, 0x00000000,
    [⟨15, 0, .ro, false, []⟩]⟩,
  -- DOM_PP_P_U_L
  ⟨0x111018, [(8, 0x40)], false, 0xFFFFFFFF,
    [⟨31, 0, .ro, false, []⟩]⟩,
  -- DOM_PP_P_AGE
  ⟨0x11101C, [(8, 0x40)], false, 0x00000000,
    [⟨31, 0, .ro, false, []⟩]⟩]

def regsDOM : List RegDesc := regsDOM0

def regsFLT0 : List RegDesc := [
  -- FLT_CTL
  ⟨0x120000, [], false, 0x00000A3C,
    [⟨7, 0, .rw, true, [(1, 255)]⟩, ⟨15, 8, .rw, true, [(1, 255)]⟩]⟩,
  -- FLT_STAT
  ⟨0x120004, [], false, 0x00000000,
    [⟨8, 0, .ro, false, []⟩, ⟨9, 9, .ro, false, []⟩, ⟨24, 16, .ro, false, []⟩]⟩,
  -- FLT_EVT
  ⟨0x120008, [], false, 0x00000000,
    [⟨0, 0, .w1c, true, []⟩, ⟨1, 1, .w1c, true, []⟩, ⟨2, 2, .w1c, true, []⟩, ⟨3, 3, .w1c, true, []⟩, ⟨4, 4, .w1c, true, []⟩]⟩,
  -- FLT_TEMP
  ⟨0x12000C, [], false, 0xFD8007D0,
    [⟨15, 0, .rw, true, []⟩, ⟨31, 16, .rw, true, []⟩]⟩,
  -- FLT_CLR
  ⟨0x120010, [], false, 0x00000000,
    [⟨8, 0, .rw, true, []⟩, ⟨31, 31, .w1p, true, []⟩]⟩,
  -- FLT_CLR_STAT
  ⟨0x120014, [], false, 0x00000000,
    [⟨2, 0, .ro, false, []⟩]⟩,
  -- FLT_COUNTS
  ⟨0x120018, [], false, 0x00000000,
    [⟨15, 0, .roc, false, []⟩, ⟨31, 16, .roc, false, []⟩]⟩,
  -- FLT_LATCH
  ⟨0x120100, [(10, 0x4)], false, 0x00000000,
    [⟨31, 0, .ro, false, []⟩]⟩,
  -- FLT_HIT
  ⟨0x120140, [(10, 0x4)], false, 0x00000000,
    [⟨31, 0, .w1c, true, []⟩]⟩,
  -- FLT_ESC
  ⟨0x120180, [(10, 0x4)], false, 0x00000000,
    [⟨31, 0, .ro, false, []⟩]⟩,
  -- FLT_DD_IDX
  ⟨0x120200, [], false, 0x00000000,
    [⟨7, 0, .rw, false, []⟩]⟩,
  -- FLT_DD_W0
  ⟨0x120204, [], false, 0x00000000,
    [⟨15, 0, .ro, false, []⟩, ⟨24, 16, .ro, false, []⟩, ⟨31, 31, .ro, false, []⟩]⟩,
  -- FLT_DD_W1
  ⟨0x120208, [], false, 0x00000000,
    [⟨15, 0, .ro, false, []⟩]⟩,
  -- FLT_DD_W2
  ⟨0x12020C, [], false, 0x00000000,
    [⟨31, 0, .ro, false, []⟩]⟩,
  -- FLT_SRC
  ⟨0x121000, [(320, 0x4)], false, 0x00000000,
    [⟨2, 0, .rw, true, []⟩, ⟨5, 4, .ro, false, []⟩, ⟨6, 6, .ro, false, []⟩, ⟨7, 7, .ro, false, []⟩, ⟨15, 8, .ro, false, []⟩]⟩]

def regsFLT : List RegDesc := regsFLT0

def regsREC0 : List RegDesc := [
  -- REC_CTL
  ⟨0x130000, [], false, 0x02584B00,
    [⟨0, 0, .rw, true, []⟩, ⟨1, 1, .w1p, true, []⟩, ⟨2, 2, .w1p, true, []⟩, ⟨3, 3, .w1p, true, []⟩, ⟨4, 4, .w1p, true, []⟩, ⟨15, 8, .rw, true, [(10, 100)]⟩, ⟨31, 16, .rw, true, []⟩]⟩,
  -- REC_STAT
  ⟨0x130004, [], false, 0x00000001,
    [⟨1, 0, .ro, false, []⟩, ⟨2, 2, .ro, false, []⟩, ⟨3, 3, .ro, false, []⟩, ⟨4, 4, .ro, false, []⟩, ⟨14, 8, .ro, false, []⟩]⟩,
  -- REC_EVT
  ⟨0x130008, [], false, 0x00000000,
    [⟨0, 0, .w1c, true, []⟩, ⟨1, 1, .w1c, true, []⟩, ⟨2, 2, .w1c, true, []⟩, ⟨3, 3, .w1c, true, []⟩]⟩,
  -- REC_SEQ
  ⟨0x13000C, [], false, 0x00000000,
    [⟨31, 0, .ro, false, []⟩]⟩,
  -- REC_USE
  ⟨0x130010, [], false, 0x00000000,
    [⟨15, 0, .ro, false, []⟩, ⟨31, 16, .ro, false, []⟩]⟩,
  -- REC_LOST
  ⟨0x130014, [], false, 0x00000000,
    [⟨15, 0, .roc, false, []⟩, ⟨31, 16, .roc, false, []⟩]⟩,
  -- REC_CODE_IDX
  ⟨0x130020, [], false, 0x00000000,
    [⟨8, 0, .rw, false, []⟩]⟩,
  -- REC_CODE_CFG
  ⟨0x130024, [], false, 0x00000000,
    [⟨1, 0, .rw, true, []⟩, ⟨4, 2, .rw, true, []⟩, ⟨5, 5, .rw, true, []⟩, ⟨7, 6, .rw, true, []⟩, ⟨15, 8, .rw, true, []⟩]⟩,
  -- REC_RD_CTL
  ⟨0x130040, [], true, 0x00000000,
    [⟨1, 0, .rw, false, [(0, 2)]⟩, ⟨2, 2, .w1p, false, []⟩]⟩,
  -- REC_RD_SEQ
  ⟨0x130044, [], true, 0x00000000,
    [⟨31, 0, .rw, false, []⟩]⟩,
  -- REC_RD_STAT
  ⟨0x130048, [], true, 0x00000000,
    [⟨0, 0, .ro, false, []⟩, ⟨1, 1, .ro, false, []⟩, ⟨11, 8, .ro, false, []⟩]⟩,
  -- REC_SET
  ⟨0x130100, [(8, 0x20), (8, 0x4)], false, 0x00000000,
    [⟨23, 0, .rw, true, []⟩, ⟨26, 24, .rw, true, []⟩, ⟨31, 31, .rw, true, []⟩]⟩,
  -- REC_RD_DATA_W
  ⟨0x130200, [(80, 0x4)], true, 0x00000000,
    [⟨31, 0, .ro, false, []⟩]⟩]

def regsREC : List RegDesc := regsREC0

def regsIRQ0 : List RegDesc := [
  -- IRQ_PEND
  ⟨0x140000, [(8, 0x4)], false, 0x00000000,
    [⟨31, 0, .ro, false, []⟩]⟩,
  -- IRQ_TGT_CLAIM
  ⟨0x140100, [(6, 0x20)], false, 0x00000000,
    [⟨7, 0, .ro, false, []⟩]⟩,
  -- IRQ_TGT_COMPLETE
  ⟨0x140104, [(6, 0x20)], false, 0x00000000,
    [⟨7, 0, .wo, false, []⟩]⟩,
  -- IRQ_TGT_CFG
  ⟨0x140108, [(6, 0x20)], false, 0x00000001,
    [⟨7, 0, .rw, true, [(1, 255)]⟩, ⟨8, 8, .rw, true, []⟩, ⟨9, 9, .rw, true, []⟩, ⟨31, 16, .rw, true, []⟩]⟩,
  -- IRQ_TGT_SLEEP_LAT
  ⟨0x14010C, [(6, 0x20)], false, 0x000003E8,
    [⟨15, 0, .rw, true, []⟩]⟩,
  -- IRQ_TGT_STAT
  ⟨0x140110, [(6, 0x20)], false, 0x00000000,
    [⟨1, 0, .ro, false, []⟩, ⟨2, 2, .w1c, true, []⟩, ⟨15, 8, .ro, false, []⟩, ⟨23, 16, .ro, false, []⟩]⟩,
  -- IRQ_TGT_COUNTS
  ⟨0x140114, [(6, 0x20)], false, 0x00000000,
    [⟨15, 0, .roc, false, []⟩, ⟨31, 16, .roc, false, []⟩]⟩,
  -- IRQ_SRC
  ⟨0x141000, [(256, 0x4)], false, 0x00000000,
    [⟨0, 0, .rw, true, []⟩, ⟨3, 1, .rw, true, []⟩, ⟨4, 4, .rw, true, []⟩, ⟨7, 5, .rw, true, [(0, 3)]⟩, ⟨8, 8, .rw, true, []⟩, ⟨9, 9, .ro, false, []⟩, ⟨10, 10, .ro, false, []⟩, ⟨11, 11, .w1c, true, []⟩]⟩]

def regsIRQ : List RegDesc := regsIRQ0

def regsPMC0 : List RegDesc := [
  -- PMC_CTL
  ⟨0x150000, [], false, 0x00000000,
    [⟨4, 0, .rw, true, [(0, 0), (4, 20)]⟩, ⟨5, 5, .rw, true, []⟩, ⟨7, 6, .rw, true, []⟩, ⟨8, 8, .rw, true, []⟩, ⟨31, 31, .w1p, false, []⟩]⟩,
  -- PMC_PERM
  ⟨0x150004, [], false, 0x00000000,
    [⟨15, 0, .rw, true, []⟩, ⟨16, 16, .rw, true, []⟩]⟩,
  -- PMC_STAT
  ⟨0x150008, [], false, 0x00000000,
    [⟨0, 0, .ro, false, []⟩, ⟨24, 16, .ro, false, []⟩]⟩,
  -- PMC_EVT
  ⟨0x15000C, [], false, 0x00000000,
    [⟨0, 0, .w1c, true, []⟩, ⟨1, 1, .w1c, true, []⟩]⟩,
  -- PMC_TAG_LOST
  ⟨0x150010, [], false, 0x00000000,
    [⟨31, 0, .roc, false, []⟩]⟩,
  -- PMC_OVF
  ⟨0x150100, [(16, 0x4)], false, 0x00000000,
    [⟨31, 0, .w1c, true, []⟩]⟩,
  -- PMC_FILT_CTL
  ⟨0x150200, [(4, 0x20)], false, 0x003FFF00,
    [⟨1, 0, .rw, true, []⟩, ⟨15, 8, .rw, true, []⟩, ⟨21, 16, .rw, true, []⟩]⟩,
  -- PMC_FILT_PORTS
  ⟨0x150204, [(4, 0x20)], false, 0x0000FFFF,
    [⟨15, 0, .rw, true, []⟩]⟩,
  -- PMC_FILT_ADDR_LO
  ⟨0x150208, [(4, 0x20)], false, 0x00000000,
    [⟨23, 0, .rw, true, []⟩]⟩,
  -- PMC_FILT_ADDR_HI
  ⟨0x15020C, [(4, 0x20)], false, 0x00FFFFFF,
    [⟨23, 0, .rw, true, []⟩]⟩,
  -- PMC_TAG_W
  ⟨0x150300, [(8, 0x4)], false, 0x00000000,
    [⟨31, 0, .ro, false, []⟩]⟩,
  -- PMC_CNT
  ⟨0x151000, [(512, 0x4)], false, 0x00000000,
    [⟨31, 0, .ro, false, []⟩]⟩,
  -- PMC_SNAP
  ⟨0x152000, [(512, 0x4)], false, 0x00000000,
    [⟨31, 0, .ro, false, []⟩]⟩,
  -- PMC_CCFG
  ⟨0x153000, [(512, 0x4)], false, 0x00000000,
    [⟨0, 0, .rw, true, []⟩, ⟨1, 1, .rw, true, []⟩, ⟨3, 2, .rw, true, []⟩]⟩]

def regsPMC : List RegDesc := regsPMC0

def regsCFG0 : List RegDesc := [
  -- CFG_STAT
  ⟨0x160000, [], false, 0x00000000,
    [⟨2, 0, .ro, false, []⟩, ⟨3, 3, .ro, false, []⟩, ⟨4, 4, .ro, false, []⟩, ⟨5, 5, .ro, false, []⟩, ⟨11, 8, .ro, false, []⟩, ⟨15, 12, .ro, false, []⟩]⟩,
  -- CFG_EVT
  ⟨0x160004, [], false, 0x00000000,
    [⟨0, 0, .w1c, true, []⟩, ⟨1, 1, .w1c, true, []⟩, ⟨2, 2, .w1c, true, []⟩, ⟨3, 3, .w1c, true, []⟩, ⟨4, 4, .w1c, true, []⟩, ⟨5, 5, .w1c, true, []⟩, ⟨6, 6, .w1c, true, []⟩]⟩,
  -- CFG_PREV
  ⟨0x160008, [], false, 0x00000000,
    [⟨0, 0, .ro, false, []⟩, ⟨31, 16, .ro, false, []⟩]⟩,
  -- CFG_IMG_SEQ
  ⟨0x16000C, [], false, 0x00000000,
    [⟨31, 0, .ro, false, []⟩]⟩,
  -- CFG_MIN_SEQ
  ⟨0x160010, [], false, 0x00000000,
    [⟨31, 0, .rw, true, []⟩]⟩,
  -- CFG_CMD
  ⟨0x160014, [], false, 0x00000000,
    [⟨0, 0, .w1p, true, []⟩, ⟨1, 1, .w1p, true, []⟩, ⟨6, 4, .rw, true, []⟩]⟩,
  -- CFG_NVM_STAT
  ⟨0x160018, [], false, 0x00000000,
    [⟨1, 0, .ro, false, []⟩, ⟨3, 2, .ro, false, []⟩, ⟨6, 4, .ro, false, []⟩, ⟨9, 8, .ro, false, []⟩, ⟨31, 16, .roc, false, []⟩]⟩,
  -- CFG_NVM_CFG
  ⟨0x16001C, [], false, 0x01180190,
    [⟨15, 0, .rw, true, [(200, 65535)]⟩, ⟨23, 16, .rw, true, []⟩, ⟨24, 24, .rw, true, []⟩]⟩,
  -- CFG_STORE_SEQ
  ⟨0x160020, [(3, 0x4)], false, 0x00000000,
    [⟨31, 0, .ro, false, []⟩]⟩,
  -- CFG_DIGEST_W
  ⟨0x160040, [(8, 0x4)], false, 0x00000000,
    [⟨31, 0, .ro, false, []⟩]⟩,
  -- CFG_OVL_CTL
  ⟨0x160060, [], false, 0x00000000,
    [⟨12, 0, .ro, false, []⟩, ⟨16, 16, .w1p, true, []⟩, ⟨17, 17, .w1p, true, []⟩]⟩,
  -- CFG_OVL_ADDR
  ⟨0x160064, [], false, 0x00000000,
    [⟨23, 0, .rw, true, []⟩]⟩,
  -- CFG_OVL_DATA
  ⟨0x160068, [], false, 0x00000000,
    [⟨31, 0, .rw, true, []⟩]⟩,
  -- CFG_OVL_RES
  ⟨0x16006C, [], false, 0x00000000,
    [⟨12, 0, .ro, false, []⟩, ⟨28, 16, .ro, false, []⟩]⟩,
  -- CFG_IK_W0
  ⟨0x160080, [], false, 0x00000000,
    [⟨31, 0, .wo, true, []⟩]⟩,
  -- CFG_IK_W1
  ⟨0x160084, [], false, 0x00000000,
    [⟨31, 0, .wo, true, []⟩]⟩,
  -- CFG_IK_W2
  ⟨0x160088, [], false, 0x00000000,
    [⟨31, 0, .wo, true, []⟩]⟩,
  -- CFG_IK_W3
  ⟨0x16008C, [], false, 0x00000000,
    [⟨31, 0, .wo, true, []⟩]⟩,
  -- CFG_IK_W4
  ⟨0x160090, [], false, 0x00000000,
    [⟨31, 0, .wo, true, []⟩]⟩,
  -- CFG_IK_W5
  ⟨0x160094, [], false, 0x00000000,
    [⟨31, 0, .wo, true, []⟩]⟩,
  -- CFG_IK_W6
  ⟨0x160098, [], false, 0x00000000,
    [⟨31, 0, .wo, true, []⟩]⟩,
  -- CFG_IK_W7
  ⟨0x16009C, [], false, 0x00000000,
    [⟨31, 0, .wo, true, []⟩]⟩,
  -- CFG_IK_CMD
  ⟨0x1600A0, [], false, 0x00000000,
    [⟨1, 0, .rw, true, []⟩, ⟨2, 2, .w1p, true, []⟩, ⟨3, 3, .w1p, true, []⟩]⟩,
  -- CFG_IK_STAT
  ⟨0x1600A4, [], false, 0x00000000,
    [⟨3, 0, .ro, false, []⟩, ⟨7, 4, .ro, false, []⟩, ⟨9, 8, .ro, false, []⟩, ⟨10, 10, .w1c, true, []⟩]⟩]

def regsCFG : List RegDesc := regsCFG0

def regsHST0 : List RegDesc := [
  -- HST_STAT
  ⟨0x170000, [], true, 0x00000000,
    [⟨0, 0, .ro, false, []⟩, ⟨1, 1, .ro, false, []⟩, ⟨3, 2, .ro, false, []⟩, ⟨7, 4, .ro, false, []⟩]⟩,
  -- HST_ERR_ADDR
  ⟨0x170004, [], true, 0x00000000,
    [⟨23, 0, .ro, false, []⟩]⟩,
  -- HST_CUST_CMD
  ⟨0x170008, [], true, 0x00000000,
    [⟨0, 0, .w1p, false, []⟩, ⟨1, 1, .w1p, false, []⟩, ⟨2, 2, .w1p, false, []⟩, ⟨3, 3, .w1p, false, []⟩]⟩,
  -- HST_CHAL_W0
  ⟨0x170010, [], true, 0x00000000,
    [⟨31, 0, .ro, false, []⟩]⟩,
  -- HST_CHAL_W1
  ⟨0x170014, [], true, 0x00000000,
    [⟨31, 0, .ro, false, []⟩]⟩,
  -- HST_CHAL_W2
  ⟨0x170018, [], true, 0x00000000,
    [⟨31, 0, .ro, false, []⟩]⟩,
  -- HST_CHAL_W3
  ⟨0x17001C, [], true, 0x00000000,
    [⟨31, 0, .ro, false, []⟩]⟩,
  -- HST_CHAL_W4
  ⟨0x170020, [], true, 0x00000000,
    [⟨31, 0, .ro, false, []⟩]⟩,
  -- HST_CHAL_W5
  ⟨0x170024, [], true, 0x00000000,
    [⟨31, 0, .ro, false, []⟩]⟩,
  -- HST_CHAL_W6
  ⟨0x170028, [], true, 0x00000000,
    [⟨31, 0, .ro, false, []⟩]⟩,
  -- HST_CHAL_W7
  ⟨0x17002C, [], true, 0x00000000,
    [⟨31, 0, .ro, false, []⟩]⟩,
  -- HST_RESP_W0
  ⟨0x170030, [], true, 0x00000000,
    [⟨31, 0, .wo, false, []⟩]⟩,
  -- HST_RESP_W1
  ⟨0x170034, [], true, 0x00000000,
    [⟨31, 0, .wo, false, []⟩]⟩,
  -- HST_RESP_W2
  ⟨0x170038, [], true, 0x00000000,
    [⟨31, 0, .wo, false, []⟩]⟩,
  -- HST_RESP_W3
  ⟨0x17003C, [], true, 0x00000000,
    [⟨31, 0, .wo, false, []⟩]⟩,
  -- HST_RESP_W4
  ⟨0x170040, [], true, 0x00000000,
    [⟨31, 0, .wo, false, []⟩]⟩,
  -- HST_RESP_W5
  ⟨0x170044, [], true, 0x00000000,
    [⟨31, 0, .wo, false, []⟩]⟩,
  -- HST_RESP_W6
  ⟨0x170048, [], true, 0x00000000,
    [⟨31, 0, .wo, false, []⟩]⟩,
  -- HST_RESP_W7
  ⟨0x17004C, [], true, 0x00000000,
    [⟨31, 0, .wo, false, []⟩]⟩,
  -- HST_MGMT_CFG
  ⟨0x170100, [], false, 0x02000000,
    [⟨15, 0, .rw, true, []⟩, ⟨23, 16, .rw, true, []⟩, ⟨24, 24, .rw, true, []⟩, ⟨31, 25, .rw, true, []⟩]⟩,
  -- HST_MGMT_ETYPE
  ⟨0x170104, [], false, 0x000088B5,
    [⟨15, 0, .rw, true, []⟩]⟩,
  -- HST_BOOT_ID
  ⟨0x170108, [], false, 0x00000000,
    [⟨31, 0, .ro, false, []⟩]⟩,
  -- HST_EVT
  ⟨0x170110, [], false, 0x00000000,
    [⟨0, 0, .w1c, true, []⟩, ⟨1, 1, .w1c, true, []⟩, ⟨2, 2, .w1c, true, []⟩, ⟨3, 3, .w1c, true, []⟩]⟩,
  -- HST_MGMT_CNT
  ⟨0x170114, [], false, 0x00000000,
    [⟨7, 0, .roc, false, []⟩, ⟨15, 8, .roc, false, []⟩, ⟨23, 16, .roc, false, []⟩, ⟨31, 24, .roc, false, []⟩]⟩]

def regsHST : List RegDesc := regsHST0

/-- The mapped words of a window (22 R555): inclusive ranges of offsets. -/
def mappedRanges (w : Nat) : List (Nat × Nat) :=
  match w with
  | 0 => [(0x0, 0x1F), (0x100, 0x117)]
  | 1 => [(0x0, 0x2B), (0x30, 0x4F), (0x100, 0x123), (0x200, 0x22F), (0x8000, 0x87FF)]
  | 2 => [(0x0, 0xB), (0x10, 0x23), (0x30, 0x77), (0x80, 0xB3), (0x100, 0x17F)]
  | 3 => [(0x0, 0xF), (0x1000, 0x1BFF)]
  | 4 => [(0x0, 0xF), (0x1000, 0x1FFF)]
  | 5 => [(0x0, 0x3F), (0x1000, 0x13FF), (0x2000, 0x27FF)]
  | 6 => [(0x0, 0xF), (0x100, 0x153), (0x200, 0x223), (0x1000, 0x18FF), (0x3000, 0x31FF)]
  | 7 => [(0x0, 0x3), (0x10, 0x27), (0x1000, 0x17FF)]
  | 8 => [(0x0, 0x3), (0x1000, 0x1FFF)]
  | 9 => [(0x0, 0x7), (0x1000, 0x17FF)]
  | 10 => [(0x0, 0xB), (0x10, 0x2B), (0x30, 0x47), (0x50, 0x5B), (0x60, 0x73), (0x100, 0x18F), (0x200, 0x20B), (0x400, 0x7FF), (0x1000, 0x1BFF), (0x8000, 0x982F)]
  | 11 => [(0x0, 0xB), (0x10, 0x73), (0x80, 0xBB), (0x100, 0x103), (0x110, 0x13F), (0x180, 0x18B)]
  | 12 => [(0x0, 0x3), (0x100, 0x13F), (0x1000, 0x1FFF)]
  | 13 => [(0x0, 0xB), (0x10, 0x27), (0x30, 0x4F), (0x1000, 0x2FFF)]
  | 14 => [(0x0, 0x23), (0x100, 0x17F), (0x200, 0x213), (0x220, 0x227), (0x240, 0x27F), (0x1000, 0x13FF), (0x2000, 0x23FF), (0x3000, 0x31FF)]
  | 15 => [(0x0, 0x1B), (0x100, 0x14F), (0x200, 0x36F), (0x1000, 0x17FF)]
  | 16 => [(0x0, 0x7), (0x10, 0x1B), (0x1000, 0x17FF)]
  | 17 => [(0x0, 0x3F), (0x1000, 0x11FF)]
  | 18 => [(0x0, 0x1B), (0x100, 0x127), (0x140, 0x167), (0x180, 0x1A7), (0x200, 0x20F), (0x1000, 0x14FF)]
  | 19 => [(0x0, 0x17), (0x20, 0x27), (0x40, 0x4B), (0x100, 0x33F)]
  | 20 => [(0x0, 0x1F), (0x100, 0x1BF), (0x1000, 0x13FF)]
  | 21 => [(0x0, 0x13), (0x100, 0x13F), (0x200, 0x27F), (0x300, 0x31F), (0x1000, 0x17FF), (0x2000, 0x27FF), (0x3000, 0x37FF)]
  | 22 => [(0x0, 0x2B), (0x40, 0x6F), (0x80, 0xA7)]
  | 23 => [(0x0, 0x5F), (0x100, 0x10B), (0x110, 0x117)]
  | _ => []

/-- The registers of window w (22 R553). -/
def windowRegs (w : Nat) : List RegDesc :=
  match w with
  | 0 => regsGEN
  | 1 => regsPWR
  | 2 => regsETM
  | 3 => regsCLP
  | 4 => regsRMON
  | 5 => regsSEL
  | 6 => regsBND
  | 7 => regsTCH
  | 8 => regsAPL
  | 9 => regsOUT
  | 10 => regsGNS
  | 11 => regsGNT
  | 12 => regsLAN
  | 13 => regsMAC
  | 14 => regsTSV
  | 15 => regsKEY
  | 16 => regsPRL
  | 17 => regsDOM
  | 18 => regsFLT
  | 19 => regsREC
  | 20 => regsIRQ
  | 21 => regsPMC
  | 22 => regsCFG
  | 23 => regsHST
  | _ => []

end Sys2Proof.Machine
end

