-- ==== Sys2Proof/Machine/RegNames.lean ====
section
/-! DEFINITION. The register fields of the spec's maps by name: R.<register>_<field> is the address and the bit range that
the map of its chapter gives (22 R553, R554); an instance block's field takes its instance index. -/

namespace Sys2Proof.R

def GEN_ID_W0_ID : Fld := ⟨0x000000, 31, 0⟩
def GEN_ID_W1_ID : Fld := ⟨0x000004, 31, 0⟩
def GEN_ID_W2_ID : Fld := ⟨0x000008, 31, 0⟩
def GEN_ID_W3_ID : Fld := ⟨0x00000C, 31, 0⟩
def GEN_LC_STATE : Fld := ⟨0x000010, 2, 0⟩
def GEN_LC_RETURNS : Fld := ⟨0x000010, 7, 4⟩
def GEN_LC_REQ_TARGET : Fld := ⟨0x000014, 2, 0⟩
def GEN_LC_REQ_CONFIRM : Fld := ⟨0x000014, 15, 8⟩
def GEN_LC_REQ_RESULT : Fld := ⟨0x000014, 18, 16⟩
def GEN_LC_REQ_GO : Fld := ⟨0x000014, 31, 31⟩
def GEN_CLKID_LO_CLKID : Fld := ⟨0x000018, 31, 0⟩
def GEN_CLKID_HI_CLKID : Fld := ⟨0x00001C, 31, 0⟩
def GEN_STROKE_NUM_NUM : Fld := ⟨0x000100, 31, 0⟩
def GEN_STROKE_RAW_LO_RAW_LO : Fld := ⟨0x000104, 31, 0⟩
def GEN_STROKE_RAW_HI_RAW_HI : Fld := ⟨0x000108, 15, 0⟩
def GEN_STROKE_CTL_HOLD_APPLY : Fld := ⟨0x00010C, 0, 0⟩
def GEN_STROKE_CTL_DISCARD : Fld := ⟨0x00010C, 1, 1⟩
def GEN_STROKE_STAT_APPLY_PENDING : Fld := ⟨0x000110, 0, 0⟩
def GEN_STROKE_STAT_HOLD_OVERFLOW : Fld := ⟨0x000110, 1, 1⟩
def GEN_STROKE_STAT_HOLD_EXPIRED : Fld := ⟨0x000110, 2, 2⟩
def GEN_STROKE_STAT_OVR_A : Fld := ⟨0x000110, 8, 8⟩
def GEN_STROKE_STAT_OVR_B : Fld := ⟨0x000110, 9, 9⟩
def GEN_STROKE_STAT_HOLD_COUNT : Fld := ⟨0x000110, 24, 16⟩
def GEN_STROKE_STAT_HOLD_OWNER : Fld := ⟨0x000110, 26, 25⟩
def GEN_STROKE_STAT_PUB_SEQ : Fld := ⟨0x000110, 31, 28⟩
def GEN_SOLVER_LOAD_LOAD_A : Fld := ⟨0x000114, 7, 0⟩
def GEN_SOLVER_LOAD_LOAD_B : Fld := ⟨0x000114, 15, 8⟩
def GEN_SOLVER_LOAD_OVR_CNT_A : Fld := ⟨0x000114, 23, 16⟩
def GEN_SOLVER_LOAD_OVR_CNT_B : Fld := ⟨0x000114, 31, 24⟩
def PWR_STAT_BACKUP : Fld := ⟨0x010000, 0, 0⟩
def PWR_STAT_SPLL_LOCK : Fld := ⟨0x010000, 1, 1⟩
def PWR_STAT_PFAIL : Fld := ⟨0x010000, 2, 2⟩
def PWR_STAT_SHED : Fld := ⟨0x010000, 3, 3⟩
def PWR_STAT_VBAT_LOW : Fld := ⟨0x010000, 4, 4⟩
def PWR_STAT_RET_PEND : Fld := ⟨0x010000, 5, 5⟩
def PWR_EVT_SPLL_LOSS : Fld := ⟨0x010004, 0, 0⟩
def PWR_EVT_SPLL_RETURN : Fld := ⟨0x010004, 1, 1⟩
def PWR_EVT_PFAIL : Fld := ⟨0x010004, 2, 2⟩
def PWR_EVT_PFAIL_CLR : Fld := ⟨0x010004, 3, 3⟩
def PWR_EVT_RTC_INVALID : Fld := ⟨0x010004, 4, 4⟩
def PWR_RST_CAUSE_KIND : Fld := ⟨0x010008, 2, 0⟩
def PWR_RST_CAUSE_BOR : Fld := ⟨0x010008, 3, 3⟩
def PWR_RST_CAUSE_FLUSH_CUT : Fld := ⟨0x010008, 4, 4⟩
def PWR_RST_CAUSE_SRC : Fld := ⟨0x010008, 24, 16⟩
def PWR_RST_CMD_CHIP : Fld := ⟨0x01000C, 0, 0⟩
def PWR_RST_CMD_CONFIRM : Fld := ⟨0x01000C, 15, 8⟩
def PWR_SPLL_CFG_SPRE : Fld := ⟨0x010010, 7, 0⟩
def PWR_SPLL_CFG_SFB_INT : Fld := ⟨0x010010, 19, 8⟩
def PWR_SPLL_CFG_AUTO_RET : Fld := ⟨0x010010, 20, 20⟩
def PWR_SPLL_CFG_RETURN : Fld := ⟨0x010010, 21, 21⟩
def PWR_SPLL_NUM_SFB_NUM : Fld := ⟨0x010014, 31, 0⟩
def PWR_SPLL_DEN_SFB_DEN : Fld := ⟨0x010018, 31, 0⟩
def PWR_SPLL_OSC_HZ_OSC_HZ : Fld := ⟨0x01001C, 31, 0⟩
def PWR_SPLL_STAT_LOCK : Fld := ⟨0x010020, 0, 0⟩
def PWR_SPLL_STAT_CFG_ERR : Fld := ⟨0x010020, 1, 1⟩
def PWR_SPLL_STAT_SPLL_STABLE : Fld := ⟨0x010020, 31, 16⟩
def PWR_SPLL_CNT_STABLE_CNT : Fld := ⟨0x010024, 15, 0⟩
def PWR_SPLL_CNT_LOSS_CNT : Fld := ⟨0x010024, 31, 16⟩
def PWR_PFAIL_CFG_SHED_LANES : Fld := ⟨0x010028, 0, 0⟩
def PWR_PFAIL_CFG_SHED_GNSS : Fld := ⟨0x010028, 1, 1⟩
def PWR_PFAIL_CFG_SHED_APLL : Fld := ⟨0x010028, 2, 2⟩
def PWR_PFAIL_CFG_SHED_MSG : Fld := ⟨0x010028, 3, 3⟩
def PWR_PFAIL_CFG_REARM : Fld := ⟨0x010028, 31, 16⟩
def PWR_RTC_SEC_LO_SEC : Fld := ⟨0x010030, 31, 0⟩
def PWR_RTC_SEC_HI_SEC : Fld := ⟨0x010034, 15, 0⟩
def PWR_RTC_SUB_SUB : Fld := ⟨0x010038, 14, 0⟩
def PWR_RTC_STAT_RTC_VALID : Fld := ⟨0x01003C, 0, 0⟩
def PWR_RTC_STAT_XTAL_OK : Fld := ⟨0x01003C, 1, 1⟩
def PWR_RTC_SET_LO_SET : Fld := ⟨0x010040, 31, 0⟩
def PWR_RTC_SET_HI_SET : Fld := ⟨0x010044, 15, 0⟩
def PWR_RTC_SET_SUB_SET : Fld := ⟨0x010048, 14, 0⟩
def PWR_RTC_CMD_LOAD : Fld := ⟨0x01004C, 0, 0⟩
def PWR_RTC_CMD_INVALIDATE : Fld := ⟨0x01004C, 1, 1⟩
def PWR_LTOL_LTOL (i0 : Nat) : Fld := ⟨0x010100 + 0x4 * i0, 15, 0⟩
def PWR_DOM_STATE (i0 : Nat) : Fld := ⟨0x010200 + 0x4 * i0, 1, 0⟩
def PWR_DOM_IN_USE (i0 : Nat) : Fld := ⟨0x010200 + 0x4 * i0, 2, 2⟩
def PWR_DOM_CHANGING (i0 : Nat) : Fld := ⟨0x010200 + 0x4 * i0, 3, 3⟩
def PWR_DOM_WAKE_CNT (i0 : Nat) : Fld := ⟨0x010200 + 0x4 * i0, 31, 16⟩
def PWR_RET_USER_USER (i0 : Nat) : Fld := ⟨0x018000 + 0x4 * i0, 31, 0⟩
def ETM_CTL_REEPOCH : Fld := ⟨0x020000, 0, 0⟩
def ETM_CTL_ABORT : Fld := ⟨0x020000, 1, 1⟩
def ETM_CTL_AUTO_STEP_EN : Fld := ⟨0x020000, 3, 3⟩
def ETM_CTL_RTC_SYNC_EN : Fld := ⟨0x020000, 4, 4⟩
def ETM_STAT_TIME_SRC : Fld := ⟨0x020004, 1, 0⟩
def ETM_STAT_STEP_USED : Fld := ⟨0x020004, 2, 2⟩
def ETM_STAT_RE_STATE : Fld := ⟨0x020004, 4, 3⟩
def ETM_STAT_BACKUP_CLK : Fld := ⟨0x020004, 5, 5⟩
def ETM_STAT_STEP_REFUSED : Fld := ⟨0x020004, 6, 6⟩
def ETM_STAT_REFUSE_REASON : Fld := ⟨0x020004, 10, 8⟩
def ETM_STAT_ERA : Fld := ⟨0x020004, 31, 16⟩
def ETM_STEP_STROKE_STROKE : Fld := ⟨0x020008, 31, 0⟩
def ETM_NOW_W0_NOW : Fld := ⟨0x020010, 31, 0⟩
def ETM_NOW_W1_NOW : Fld := ⟨0x020014, 31, 0⟩
def ETM_NOW_W2_NOW : Fld := ⟨0x020018, 31, 0⟩
def ETM_NOW_RAWF_LO_RAWF : Fld := ⟨0x02001C, 31, 0⟩
def ETM_NOW_RAWF_HI_RAWF : Fld := ⟨0x020020, 27, 0⟩
def ETM_OFFSET_W0_OFFSET : Fld := ⟨0x020030, 31, 0⟩
def ETM_OFFSET_W1_OFFSET : Fld := ⟨0x020034, 31, 0⟩
def ETM_OFFSET_W2_OFFSET : Fld := ⟨0x020038, 31, 0⟩
def ETM_OFFSET_XF_XF : Fld := ⟨0x02003C, 31, 0⟩
def ETM_ANCHOR_LO_ANCHOR : Fld := ⟨0x020040, 31, 0⟩
def ETM_ANCHOR_HI_ANCHOR : Fld := ⟨0x020044, 15, 0⟩
def ETM_RATE_LO_RATE : Fld := ⟨0x020048, 31, 0⟩
def ETM_RATE_HI_RATE : Fld := ⟨0x02004C, 15, 0⟩
def ETM_STEP_SEC_LO_SEC : Fld := ⟨0x020050, 31, 0⟩
def ETM_STEP_SEC_HI_SEC : Fld := ⟨0x020054, 15, 0⟩
def ETM_STEP_NS_NS : Fld := ⟨0x020058, 31, 0⟩
def ETM_STEP_FRAC_FRAC : Fld := ⟨0x02005C, 15, 0⟩
def ETM_STEP_CMD_GO : Fld := ⟨0x020060, 0, 0⟩
def ETM_STEP_CMD_ABS : Fld := ⟨0x020060, 1, 1⟩
def ETM_LAST_DELTA_W0_DELTA : Fld := ⟨0x020064, 31, 0⟩
def ETM_LAST_DELTA_W1_DELTA : Fld := ⟨0x020068, 31, 0⟩
def ETM_LAST_DELTA_W2_DELTA : Fld := ⟨0x02006C, 31, 0⟩
def ETM_LAST_STEP_RAW_LO_RAW : Fld := ⟨0x020070, 31, 0⟩
def ETM_LAST_STEP_RAW_HI_RAW : Fld := ⟨0x020074, 15, 0⟩
def ETM_UTC_UTC_OFFSET : Fld := ⟨0x020080, 15, 0⟩
def ETM_UTC_VALID : Fld := ⟨0x020080, 16, 16⟩
def ETM_UTC_SRC : Fld := ⟨0x020080, 19, 17⟩
def ETM_UTC_LEAP : Fld := ⟨0x020080, 21, 20⟩
def ETM_UTC_CONFLICT : Fld := ⟨0x020080, 22, 22⟩
def ETM_UTC_SET_OFFSET : Fld := ⟨0x020084, 15, 0⟩
def ETM_UTC_SET_LEAP : Fld := ⟨0x020084, 17, 16⟩
def ETM_UTC_SET_LOCK : Fld := ⟨0x020084, 18, 18⟩
def ETM_UTC_SET_CFG_VALID : Fld := ⟨0x020084, 19, 19⟩
def ETM_LEAP_TAI_LO_LEAP_TAI : Fld := ⟨0x020088, 31, 0⟩
def ETM_LEAP_TAI_HI_LEAP_TAI : Fld := ⟨0x02008C, 15, 0⟩
def ETM_CONV_IN_W0_IN : Fld := ⟨0x020090, 31, 0⟩
def ETM_CONV_IN_W1_IN : Fld := ⟨0x020094, 31, 0⟩
def ETM_CONV_IN_W2_IN : Fld := ⟨0x020098, 31, 0⟩
def ETM_CONV_CMD_GO : Fld := ⟨0x02009C, 0, 0⟩
def ETM_CONV_CMD_DIR : Fld := ⟨0x02009C, 1, 1⟩
def ETM_CONV_OUT_W0_OUT : Fld := ⟨0x0200A0, 31, 0⟩
def ETM_CONV_OUT_W1_OUT : Fld := ⟨0x0200A4, 31, 0⟩
def ETM_CONV_OUT_W2_OUT : Fld := ⟨0x0200A8, 31, 0⟩
def ETM_CONV_STAT_DONE : Fld := ⟨0x0200AC, 0, 0⟩
def ETM_CONV_STAT_RANGE : Fld := ⟨0x0200AC, 1, 1⟩
def ETM_CONV_STAT_PRE_STEP : Fld := ⟨0x0200AC, 2, 2⟩
def ETM_CONV_STAT_INVALID : Fld := ⟨0x0200AC, 3, 3⟩
def ETM_REEPOCH_CFG_STEP_WAIT : Fld := ⟨0x0200B0, 15, 0⟩
def ETM_REEPOCH_CFG_SETTLE : Fld := ⟨0x0200B0, 23, 16⟩
def ETM_ALM_TGT_LO_TGT_LO (i0 : Nat) : Fld := ⟨0x020100 + 0x10 * i0, 31, 0⟩
def ETM_ALM_TGT_HI_TGT_HI (i0 : Nat) : Fld := ⟨0x020104 + 0x10 * i0, 15, 0⟩
def ETM_ALM_PERIOD_PERIOD (i0 : Nat) : Fld := ⟨0x020108 + 0x10 * i0, 31, 0⟩
def ETM_ALM_CTL_ARM (i0 : Nat) : Fld := ⟨0x02010C + 0x10 * i0, 0, 0⟩
def ETM_ALM_CTL_PERIODIC (i0 : Nat) : Fld := ⟨0x02010C + 0x10 * i0, 1, 1⟩
def ETM_ALM_CTL_FIRED (i0 : Nat) : Fld := ⟨0x02010C + 0x10 * i0, 8, 8⟩
def ETM_ALM_CTL_LATE (i0 : Nat) : Fld := ⟨0x02010C + 0x10 * i0, 9, 9⟩
def CLP_CTL_SYNC_ALL : Fld := ⟨0x030000, 0, 0⟩
def CLP_CAL_CFG_CAL_HOLD : Fld := ⟨0x030004, 7, 0⟩
def CLP_INV_MAP_INV : Fld := ⟨0x030008, 23, 0⟩
def CLP_AUX_CAL_LANE_BAD : Fld := ⟨0x03000C, 15, 0⟩
def CLP_AUX_CAL_LATCH_BAD : Fld := ⟨0x03000C, 16, 16⟩
def CLP_CH_CFG_MODE (i0 : Nat) : Fld := ⟨0x031000 + 0x80 * i0, 1, 0⟩
def CLP_CH_CFG_EDGE (i0 : Nat) : Fld := ⟨0x031000 + 0x80 * i0, 3, 2⟩
def CLP_CH_CFG_PRESC (i0 : Nat) : Fld := ⟨0x031000 + 0x80 * i0, 8, 4⟩
def CLP_CH_CFG_STOP_PRESC (i0 : Nat) : Fld := ⟨0x031000 + 0x80 * i0, 13, 9⟩
def CLP_CH_CFG_SIGNED (i0 : Nat) : Fld := ⟨0x031000 + 0x80 * i0, 14, 14⟩
def CLP_CH_CFG_REARM (i0 : Nat) : Fld := ⟨0x031000 + 0x80 * i0, 15, 15⟩
def CLP_CH_CFG_OVF_MODE (i0 : Nat) : Fld := ⟨0x031000 + 0x80 * i0, 16, 16⟩
def CLP_CH_CFG_STAT_SRC (i0 : Nat) : Fld := ⟨0x031000 + 0x80 * i0, 18, 17⟩
def CLP_CH_CFG_N_EXP (i0 : Nat) : Fld := ⟨0x031000 + 0x80 * i0, 23, 19⟩
def CLP_CH_CFG_STAT_CONT (i0 : Nat) : Fld := ⟨0x031000 + 0x80 * i0, 24, 24⟩
def CLP_CH_SRC_START_SRC (i0 : Nat) : Fld := ⟨0x031004 + 0x80 * i0, 5, 0⟩
def CLP_CH_SRC_STOP_SRC (i0 : Nat) : Fld := ⟨0x031004 + 0x80 * i0, 13, 8⟩
def CLP_CH_CMD_ARM (i0 : Nat) : Fld := ⟨0x031008 + 0x80 * i0, 0, 0⟩
def CLP_CH_CMD_DISARM (i0 : Nat) : Fld := ⟨0x031008 + 0x80 * i0, 1, 1⟩
def CLP_CH_CMD_PRESC_SYNC (i0 : Nat) : Fld := ⟨0x031008 + 0x80 * i0, 2, 2⟩
def CLP_CH_CMD_STAT_RESTART (i0 : Nat) : Fld := ⟨0x031008 + 0x80 * i0, 3, 3⟩
def CLP_CH_CMD_FLUSH (i0 : Nat) : Fld := ⟨0x031008 + 0x80 * i0, 4, 4⟩
def CLP_CH_STAT_STATE (i0 : Nat) : Fld := ⟨0x03100C + 0x80 * i0, 1, 0⟩
def CLP_CH_STAT_OVERFLOW (i0 : Nat) : Fld := ⟨0x03100C + 0x80 * i0, 2, 2⟩
def CLP_CH_STAT_UNDERRUN (i0 : Nat) : Fld := ⟨0x03100C + 0x80 * i0, 3, 3⟩
def CLP_CH_STAT_STAT_DONE (i0 : Nat) : Fld := ⟨0x03100C + 0x80 * i0, 4, 4⟩
def CLP_CH_STAT_SDEV_SAT (i0 : Nat) : Fld := ⟨0x03100C + 0x80 * i0, 5, 5⟩
def CLP_CH_STAT_CAL_HELD (i0 : Nat) : Fld := ⟨0x03100C + 0x80 * i0, 6, 6⟩
def CLP_CH_STAT_CAL_BAD (i0 : Nat) : Fld := ⟨0x03100C + 0x80 * i0, 7, 7⟩
def CLP_CH_STAT_ACTIVE_SLICE (i0 : Nat) : Fld := ⟨0x03100C + 0x80 * i0, 8, 8⟩
def CLP_CH_PRE_WIN_PRE_WIN (i0 : Nat) : Fld := ⟨0x031010 + 0x80 * i0, 31, 0⟩
def CLP_CH_POST_WIN_POST_WIN (i0 : Nat) : Fld := ⟨0x031014 + 0x80 * i0, 31, 0⟩
def CLP_CH_EXT_DELAY_EXT_DELAY (i0 : Nat) : Fld := ⟨0x031018 + 0x80 * i0, 31, 0⟩
def CLP_CH_NOMINAL_LO_NOMINAL (i0 : Nat) : Fld := ⟨0x03101C + 0x80 * i0, 31, 0⟩
def CLP_CH_NOMINAL_HI_NOMINAL (i0 : Nat) : Fld := ⟨0x031020 + 0x80 * i0, 31, 0⟩
def CLP_CH_Q_LO_Q (i0 : Nat) : Fld := ⟨0x031024 + 0x80 * i0, 31, 0⟩
def CLP_CH_Q_HI_Q (i0 : Nat) : Fld := ⟨0x031028 + 0x80 * i0, 31, 0⟩
def CLP_CH_Q_LEVEL_LEVEL (i0 : Nat) : Fld := ⟨0x03102C + 0x80 * i0, 10, 0⟩
def CLP_CH_Q_LEVEL_Q_THR (i0 : Nat) : Fld := ⟨0x03102C + 0x80 * i0, 26, 16⟩
def CLP_CH_RES_LO_RES (i0 : Nat) : Fld := ⟨0x031030 + 0x80 * i0, 31, 0⟩
def CLP_CH_RES_HI_RES (i0 : Nat) : Fld := ⟨0x031034 + 0x80 * i0, 31, 0⟩
def CLP_CH_MEAN_W0_MEAN (i0 : Nat) : Fld := ⟨0x031038 + 0x80 * i0, 31, 0⟩
def CLP_CH_MEAN_W1_MEAN (i0 : Nat) : Fld := ⟨0x03103C + 0x80 * i0, 31, 0⟩
def CLP_CH_MEAN_W2_MEAN (i0 : Nat) : Fld := ⟨0x031040 + 0x80 * i0, 7, 0⟩
def CLP_CH_SDEV_SDEV (i0 : Nat) : Fld := ⟨0x031044 + 0x80 * i0, 31, 0⟩
def CLP_CH_MIN_LO_MIN (i0 : Nat) : Fld := ⟨0x031048 + 0x80 * i0, 31, 0⟩
def CLP_CH_MIN_HI_MIN (i0 : Nat) : Fld := ⟨0x03104C + 0x80 * i0, 15, 0⟩
def CLP_CH_MAX_LO_MAX (i0 : Nat) : Fld := ⟨0x031050 + 0x80 * i0, 31, 0⟩
def CLP_CH_MAX_HI_MAX (i0 : Nat) : Fld := ⟨0x031054 + 0x80 * i0, 15, 0⟩
def CLP_CH_STAT_N_N (i0 : Nat) : Fld := ⟨0x031058 + 0x80 * i0, 24, 0⟩
def CLP_CH_STAT_N_BLOCK_SEQ (i0 : Nat) : Fld := ⟨0x031058 + 0x80 * i0, 31, 25⟩
def CLP_CH_DROP_DROP (i0 : Nat) : Fld := ⟨0x03105C + 0x80 * i0, 31, 0⟩
def CLP_CH_MISS_DEAD (i0 : Nat) : Fld := ⟨0x031060 + 0x80 * i0, 15, 0⟩
def CLP_CH_MISS_TIMEOUT (i0 : Nat) : Fld := ⟨0x031060 + 0x80 * i0, 31, 16⟩
def CLP_CH_CAL_CAL_RES (i0 : Nat) : Fld := ⟨0x031064 + 0x80 * i0, 15, 0⟩
def CLP_CH_CAL_BIN_MAX (i0 : Nat) : Fld := ⟨0x031064 + 0x80 * i0, 23, 16⟩
def CLP_CH_SNAP_CNT_CNT (i0 : Nat) : Fld := ⟨0x031068 + 0x80 * i0, 15, 0⟩
def CLP_CH_SNAP_CNT_INV (i0 : Nat) : Fld := ⟨0x031068 + 0x80 * i0, 16, 16⟩
def CLP_CH_SNAP_CNT_LOS (i0 : Nat) : Fld := ⟨0x031068 + 0x80 * i0, 17, 17⟩
def CLP_CH_SNAP_CNT_STEP (i0 : Nat) : Fld := ⟨0x031068 + 0x80 * i0, 18, 18⟩
def CLP_CH_SNAP_FIRST_LO_FIRST (i0 : Nat) : Fld := ⟨0x03106C + 0x80 * i0, 31, 0⟩
def CLP_CH_SNAP_FIRST_HI_FIRST (i0 : Nat) : Fld := ⟨0x031070 + 0x80 * i0, 27, 0⟩
def CLP_CH_SNAP_LAST_LO_LAST (i0 : Nat) : Fld := ⟨0x031074 + 0x80 * i0, 31, 0⟩
def CLP_CH_SNAP_LAST_HI_LAST (i0 : Nat) : Fld := ⟨0x031078 + 0x80 * i0, 27, 0⟩
def RMON_STATE_LO_STATES : Fld := ⟨0x040000, 31, 0⟩
def RMON_STATE_HI_STATES : Fld := ⟨0x040004, 31, 0⟩
def RMON_CHG_CHG : Fld := ⟨0x040008, 31, 0⟩
def RMON_CFG_ERR_CFG_ERR : Fld := ⟨0x04000C, 31, 0⟩
def RMON_MON_CFG_INPUT_MODE (i0 : Nat) : Fld := ⟨0x041000 + 0x80 * i0, 2, 0⟩
def RMON_MON_CFG_TERM (i0 : Nat) : Fld := ⟨0x041000 + 0x80 * i0, 3, 3⟩
def RMON_MON_CFG_AC (i0 : Nat) : Fld := ⟨0x041000 + 0x80 * i0, 4, 4⟩
def RMON_MON_CFG_FBASE (i0 : Nat) : Fld := ⟨0x041000 + 0x80 * i0, 5, 5⟩
def RMON_MON_CFG_PSTEP_ACT (i0 : Nat) : Fld := ⟨0x041000 + 0x80 * i0, 7, 6⟩
def RMON_MON_CFG_MTIE_EN (i0 : Nat) : Fld := ⟨0x041000 + 0x80 * i0, 8, 8⟩
def RMON_MON_CFG_TDEV_EN (i0 : Nat) : Fld := ⟨0x041000 + 0x80 * i0, 9, 9⟩
def RMON_MON_CFG_CAR_EN (i0 : Nat) : Fld := ⟨0x041000 + 0x80 * i0, 10, 10⟩
def RMON_MON_CFG_QL_EN (i0 : Nat) : Fld := ⟨0x041000 + 0x80 * i0, 11, 11⟩
def RMON_MON_CFG_LOCKOUT (i0 : Nat) : Fld := ⟨0x041000 + 0x80 * i0, 12, 12⟩
def RMON_MON_CFG_HYST (i0 : Nat) : Fld := ⟨0x041000 + 0x80 * i0, 19, 16⟩
def RMON_MON_CFG_LOS_GAP (i0 : Nat) : Fld := ⟨0x041000 + 0x80 * i0, 21, 20⟩
def RMON_MON_SRC_VTYPE (i0 : Nat) : Fld := ⟨0x041004 + 0x80 * i0, 2, 0⟩
def RMON_MON_SRC_VIDX (i0 : Nat) : Fld := ⟨0x041004 + 0x80 * i0, 15, 4⟩
def RMON_MON_NOM_PERIOD_LO_NOM_PERIOD (i0 : Nat) : Fld := ⟨0x041008 + 0x80 * i0, 31, 0⟩
def RMON_MON_NOM_PERIOD_HI_NOM_PERIOD (i0 : Nat) : Fld := ⟨0x04100C + 0x80 * i0, 31, 0⟩
def RMON_MON_TAU0_TAU0 (i0 : Nat) : Fld := ⟨0x041010 + 0x80 * i0, 15, 0⟩
def RMON_MON_TAU0_LOS_CLR (i0 : Nat) : Fld := ⟨0x041010 + 0x80 * i0, 31, 16⟩
def RMON_MON_FREQ_HARD_FREQ_HARD (i0 : Nat) : Fld := ⟨0x041014 + 0x80 * i0, 31, 0⟩
def RMON_MON_FREQ_SOFT_FREQ_SOFT (i0 : Nat) : Fld := ⟨0x041018 + 0x80 * i0, 31, 0⟩
def RMON_MON_FREQ_WIN_FREQ_WIN (i0 : Nat) : Fld := ⟨0x04101C + 0x80 * i0, 15, 0⟩
def RMON_MON_MTIE_WIN_MTIE_WIN (i0 : Nat) : Fld := ⟨0x041020 + 0x80 * i0, 12, 0⟩
def RMON_MON_MTIE_HARD_LIMIT (i0 : Nat) : Fld := ⟨0x041024 + 0x80 * i0, 31, 0⟩
def RMON_MON_MTIE_SOFT_LIMIT (i0 : Nat) : Fld := ⟨0x041028 + 0x80 * i0, 31, 0⟩
def RMON_MON_TDEV_CFG_TDEV_N (i0 : Nat) : Fld := ⟨0x04102C + 0x80 * i0, 10, 0⟩
def RMON_MON_TDEV_CFG_TDEV_WIN (i0 : Nat) : Fld := ⟨0x04102C + 0x80 * i0, 31, 16⟩
def RMON_MON_TDEV_HARD_LIMIT (i0 : Nat) : Fld := ⟨0x041030 + 0x80 * i0, 31, 0⟩
def RMON_MON_TDEV_SOFT_LIMIT (i0 : Nat) : Fld := ⟨0x041034 + 0x80 * i0, 31, 0⟩
def RMON_MON_PSTEP_THR_PSTEP_THR (i0 : Nat) : Fld := ⟨0x041038 + 0x80 * i0, 31, 0⟩
def RMON_MON_VAL_TIME_VAL_TIME (i0 : Nat) : Fld := ⟨0x04103C + 0x80 * i0, 31, 0⟩
def RMON_MON_CLR_TIME_CLR_TIME (i0 : Nat) : Fld := ⟨0x041040 + 0x80 * i0, 31, 0⟩
def RMON_MON_QL_CFG_QL_OPT (i0 : Nat) : Fld := ⟨0x041044 + 0x80 * i0, 0, 0⟩
def RMON_MON_QL_CFG_QL_HARD_MIN (i0 : Nat) : Fld := ⟨0x041044 + 0x80 * i0, 7, 4⟩
def RMON_MON_QL_CFG_QL_SOFT_MIN (i0 : Nat) : Fld := ⟨0x041044 + 0x80 * i0, 11, 8⟩
def RMON_MON_QL_CFG_CLASS_MAX (i0 : Nat) : Fld := ⟨0x041044 + 0x80 * i0, 23, 16⟩
def RMON_MON_QL_CFG_ACC_MAX (i0 : Nat) : Fld := ⟨0x041044 + 0x80 * i0, 31, 24⟩
def RMON_MON_CAR_SOFT_CAR_SOFT (i0 : Nat) : Fld := ⟨0x041048 + 0x80 * i0, 31, 0⟩
def RMON_MON_STAT_STATE (i0 : Nat) : Fld := ⟨0x04104C + 0x80 * i0, 1, 0⟩
def RMON_MON_STAT_INV_HOLD (i0 : Nat) : Fld := ⟨0x04104C + 0x80 * i0, 2, 2⟩
def RMON_MON_STAT_WIN_FULL (i0 : Nat) : Fld := ⟨0x04104C + 0x80 * i0, 3, 3⟩
def RMON_MON_STAT_QL_RANK (i0 : Nat) : Fld := ⟨0x04104C + 0x80 * i0, 7, 4⟩
def RMON_MON_STAT_CFG_ERR (i0 : Nat) : Fld := ⟨0x04104C + 0x80 * i0, 8, 8⟩
def RMON_MON_CAUSE_HARD (i0 : Nat) : Fld := ⟨0x041050 + 0x80 * i0, 8, 0⟩
def RMON_MON_CAUSE_SOFT (i0 : Nat) : Fld := ⟨0x041050 + 0x80 * i0, 21, 16⟩
def RMON_MON_FREQ_EST_FREQ_EST (i0 : Nat) : Fld := ⟨0x041054 + 0x80 * i0, 31, 0⟩
def RMON_MON_MTIE_VAL_MTIE_VAL (i0 : Nat) : Fld := ⟨0x041058 + 0x80 * i0, 31, 0⟩
def RMON_MON_TDEV_VAL_TDEV_VAL (i0 : Nat) : Fld := ⟨0x04105C + 0x80 * i0, 31, 0⟩
def RMON_MON_LAST_STEP_LAST_STEP (i0 : Nat) : Fld := ⟨0x041060 + 0x80 * i0, 31, 0⟩
def RMON_MON_COUNTS_STEP_CNT (i0 : Nat) : Fld := ⟨0x041064 + 0x80 * i0, 15, 0⟩
def RMON_MON_COUNTS_TRANS_CNT (i0 : Nat) : Fld := ⟨0x041064 + 0x80 * i0, 31, 16⟩
def RMON_MON_STATE_TIME_STATE_TIME (i0 : Nat) : Fld := ⟨0x041068 + 0x80 * i0, 31, 0⟩
def RMON_MON_QL_RX_SSM (i0 : Nat) : Fld := ⟨0x04106C + 0x80 * i0, 3, 0⟩
def RMON_MON_QL_RX_ESSM (i0 : Nat) : Fld := ⟨0x04106C + 0x80 * i0, 15, 8⟩
def RMON_MON_QL_RX_CLASS (i0 : Nat) : Fld := ⟨0x04106C + 0x80 * i0, 23, 16⟩
def RMON_MON_QL_RX_ACC (i0 : Nat) : Fld := ⟨0x04106C + 0x80 * i0, 31, 24⟩
def RMON_MON_PHASE_PHASE (i0 : Nat) : Fld := ⟨0x041070 + 0x80 * i0, 31, 0⟩
def SEL_CAR_CFG_W_MAX : Fld := ⟨0x050000, 7, 0⟩
def SEL_CAR_CFG_CAR_TC : Fld := ⟨0x050000, 12, 8⟩
def SEL_CAR_CFG_CAR_JOIN : Fld := ⟨0x050000, 31, 16⟩
def SEL_CAR_FWIN_FWIN : Fld := ⟨0x050004, 23, 0⟩
def SEL_CAR_MASK_MASK : Fld := ⟨0x050008, 31, 0⟩
def SEL_CORR_TIME_CORR_TIME : Fld := ⟨0x05000C, 31, 0⟩
def SEL_CORR_THR_CORR_THR : Fld := ⟨0x050010, 31, 0⟩
def SEL_CORR_FTHR_CORR_FTHR : Fld := ⟨0x050014, 31, 0⟩
def SEL_CAR_STAT_N_MEM : Fld := ⟨0x050018, 4, 0⟩
def SEL_CAR_STAT_EST_VALID : Fld := ⟨0x050018, 8, 8⟩
def SEL_CAR_STAT_STALE : Fld := ⟨0x050018, 9, 9⟩
def SEL_CAR_STAT_N_TIME : Fld := ⟨0x050018, 14, 10⟩
def SEL_CAR_STAT_AGE : Fld := ⟨0x050018, 31, 16⟩
def SEL_CAR_MEMBERS_MEMBERS : Fld := ⟨0x05001C, 31, 0⟩
def SEL_CAR_E_LO_E : Fld := ⟨0x050020, 31, 0⟩
def SEL_CAR_E_HI_E : Fld := ⟨0x050024, 15, 0⟩
def SEL_CAR_F_F : Fld := ⟨0x050028, 31, 0⟩
def SEL_ERA_ERA_LOCKED : Fld := ⟨0x05002C, 0, 0⟩
def SEL_CORR_LO_STATES : Fld := ⟨0x050030, 31, 0⟩
def SEL_CORR_HI_STATES : Fld := ⟨0x050034, 31, 0⟩
def SEL_ACCEPT_ACCEPT : Fld := ⟨0x050038, 31, 0⟩
def SEL_EVT_DISAGREE : Fld := ⟨0x05003C, 7, 0⟩
def SEL_EVT_SWITCH : Fld := ⟨0x05003C, 15, 8⟩
def SEL_EVT_DISPUTED : Fld := ⟨0x05003C, 16, 16⟩
def SEL_EVT_CORROBORATED : Fld := ⟨0x05003C, 17, 17⟩
def SEL_REF_Y_LO_Y (i0 : Nat) : Fld := ⟨0x051000 + 0x20 * i0, 31, 0⟩
def SEL_REF_Y_HI_Y (i0 : Nat) : Fld := ⟨0x051004 + 0x20 * i0, 15, 0⟩
def SEL_REF_DEV_DEV (i0 : Nat) : Fld := ⟨0x051008 + 0x20 * i0, 31, 0⟩
def SEL_REF_FREQ_F_M (i0 : Nat) : Fld := ⟨0x05100C + 0x20 * i0, 31, 0⟩
def SEL_REF_FDEV_FDEV (i0 : Nat) : Fld := ⟨0x051010 + 0x20 * i0, 31, 0⟩
def SEL_REF_SIGMA_SIGMA (i0 : Nat) : Fld := ⟨0x051014 + 0x20 * i0, 31, 0⟩
def SEL_REF_C_OFF_C_OFF (i0 : Nat) : Fld := ⟨0x051018 + 0x20 * i0, 31, 0⟩
def SEL_REF_FLAGS_MEASURED (i0 : Nat) : Fld := ⟨0x05101C + 0x20 * i0, 0, 0⟩
def SEL_REF_FLAGS_MEMBER (i0 : Nat) : Fld := ⟨0x05101C + 0x20 * i0, 1, 1⟩
def SEL_REF_FLAGS_CLASS (i0 : Nat) : Fld := ⟨0x05101C + 0x20 * i0, 2, 2⟩
def SEL_REF_FLAGS_C_VALID (i0 : Nat) : Fld := ⟨0x05101C + 0x20 * i0, 3, 3⟩
def SEL_REF_FLAGS_DEV_VALID (i0 : Nat) : Fld := ⟨0x05101C + 0x20 * i0, 4, 4⟩
def SEL_REF_FLAGS_F_FULL (i0 : Nat) : Fld := ⟨0x05101C + 0x20 * i0, 5, 5⟩
def SEL_REF_FLAGS_CORR (i0 : Nat) : Fld := ⟨0x05101C + 0x20 * i0, 7, 6⟩
def SEL_REF_FLAGS_CORR_WHY (i0 : Nat) : Fld := ⟨0x05101C + 0x20 * i0, 10, 8⟩
def SEL_REF_FLAGS_WEIGHT (i0 : Nat) : Fld := ⟨0x05101C + 0x20 * i0, 31, 16⟩
def SEL_TCH_CTL_REVERT (i0 : Nat) : Fld := ⟨0x052000 + 0x100 * i0, 0, 0⟩
def SEL_TCH_CTL_FORCE_EN (i0 : Nat) : Fld := ⟨0x052000 + 0x100 * i0, 1, 1⟩
def SEL_TCH_CTL_FORCE_REF (i0 : Nat) : Fld := ⟨0x052000 + 0x100 * i0, 12, 8⟩
def SEL_TCH_WTR_WTR (i0 : Nat) : Fld := ⟨0x052004 + 0x100 * i0, 31, 0⟩
def SEL_TCH_DIS_FTHR_DIS_FTHR (i0 : Nat) : Fld := ⟨0x052008 + 0x100 * i0, 31, 0⟩
def SEL_TCH_STAT_SELECTED (i0 : Nat) : Fld := ⟨0x05200C + 0x100 * i0, 5, 0⟩
def SEL_TCH_STAT_TIER (i0 : Nat) : Fld := ⟨0x05200C + 0x100 * i0, 6, 6⟩
def SEL_TCH_STAT_DIS_HOLD (i0 : Nat) : Fld := ⟨0x05200C + 0x100 * i0, 7, 7⟩
def SEL_TCH_STAT_FORCE_IGN (i0 : Nat) : Fld := ⟨0x05200C + 0x100 * i0, 8, 8⟩
def SEL_TCH_STAT_SW_CAUSE (i0 : Nat) : Fld := ⟨0x05200C + 0x100 * i0, 11, 9⟩
def SEL_TCH_STAT_SW_SEQ (i0 : Nat) : Fld := ⟨0x05200C + 0x100 * i0, 31, 16⟩
def SEL_TCH_TBL_ERR_TBL_ERR (i0 : Nat) : Fld := ⟨0x052010 + 0x100 * i0, 31, 0⟩
def SEL_TCH_WTR_DONE_WTR_DONE (i0 : Nat) : Fld := ⟨0x052014 + 0x100 * i0, 31, 0⟩
def SEL_TCH_ENTRY_REF (i0 i1 : Nat) : Fld := ⟨0x052080 + 0x100 * i0 + 0x4 * i1, 4, 0⟩
def SEL_TCH_ENTRY_RANK (i0 i1 : Nat) : Fld := ⟨0x052080 + 0x100 * i0 + 0x4 * i1, 11, 8⟩
def SEL_TCH_ENTRY_EN (i0 i1 : Nat) : Fld := ⟨0x052080 + 0x100 * i0 + 0x4 * i1, 15, 15⟩
def BND_CTL_LEARN_EN : Fld := ⟨0x060000, 0, 0⟩
def BND_CTL_MODEL_CLR : Fld := ⟨0x060000, 1, 1⟩
def BND_CTL_HOLD_MAX : Fld := ⟨0x060000, 31, 16⟩
def BND_STAT_MODEL_STATE : Fld := ⟨0x060004, 1, 0⟩
def BND_STAT_ENV_VIOL : Fld := ⟨0x060004, 2, 2⟩
def BND_STAT_RESTORED : Fld := ⟨0x060004, 3, 3⟩
def BND_STAT_GOOD_SEC : Fld := ⟨0x060004, 31, 8⟩
def BND_EVT_UNB : Fld := ⟨0x060008, 8, 0⟩
def BND_EVT_TGT : Fld := ⟨0x060008, 24, 16⟩
def BND_EVT_TRACE_BREAK : Fld := ⟨0x060008, 25, 25⟩
def BND_EVT_ENV : Fld := ⟨0x060008, 26, 26⟩
def BND_TEMP_TJ : Fld := ⟨0x06000C, 15, 0⟩
def BND_TEMP_TSLEW : Fld := ⟨0x06000C, 23, 16⟩
def BND_P0_LO_P0 : Fld := ⟨0x060100, 31, 0⟩
def BND_P0_HI_P0 : Fld := ⟨0x060104, 15, 0⟩
def BND_A1_A_k : Fld := ⟨0x060108, 31, 0⟩
def BND_A2_A_k : Fld := ⟨0x06010C, 31, 0⟩
def BND_A3_A_k : Fld := ⟨0x060110, 31, 0⟩
def BND_B1_B_k : Fld := ⟨0x060114, 31, 0⟩
def BND_B2_B_k : Fld := ⟨0x060118, 31, 0⟩
def BND_B3_B_k : Fld := ⟨0x06011C, 31, 0⟩
def BND_TREF_T0 : Fld := ⟨0x060120, 15, 0⟩
def BND_TRANGE_TMIN : Fld := ⟨0x060124, 15, 0⟩
def BND_TRANGE_TMAX : Fld := ⟨0x060124, 31, 16⟩
def BND_D_F0_D_F0 : Fld := ⟨0x060128, 31, 0⟩
def BND_D_A1_D_A_k : Fld := ⟨0x06012C, 31, 0⟩
def BND_D_A2_D_A_k : Fld := ⟨0x060130, 31, 0⟩
def BND_D_A3_D_A_k : Fld := ⟨0x060134, 31, 0⟩
def BND_D_B1_D_B_k : Fld := ⟨0x060138, 31, 0⟩
def BND_D_B2_D_B_k : Fld := ⟨0x06013C, 31, 0⟩
def BND_D_B3_D_B_k : Fld := ⟨0x060140, 31, 0⟩
def BND_EPOCH_RAW_LO_EPOCH : Fld := ⟨0x060144, 31, 0⟩
def BND_EPOCH_RAW_HI_EPOCH : Fld := ⟨0x060148, 15, 0⟩
def BND_PRED_LO_PRED : Fld := ⟨0x06014C, 31, 0⟩
def BND_PRED_HI_PRED : Fld := ⟨0x060150, 15, 0⟩
def BND_SIG_FL_SIG_FL : Fld := ⟨0x060200, 31, 0⟩
def BND_SIG_RW_SIG_RW : Fld := ⟨0x060204, 31, 0⟩
def BND_DEF_AGE_DEF_AGE : Fld := ⟨0x060208, 31, 0⟩
def BND_DEF_TCO_DEF_TCO : Fld := ⟨0x06020C, 31, 0⟩
def BND_LCFG_NK : Fld := ⟨0x060210, 3, 0⟩
def BND_LCFG_KSIG : Fld := ⟨0x060210, 7, 4⟩
def BND_LCFG_TEXT : Fld := ⟨0x060210, 15, 8⟩
def BND_LCFG_LBIN : Fld := ⟨0x060210, 31, 16⟩
def BND_LEARN_MIN_LEARN_MIN : Fld := ⟨0x060214, 31, 0⟩
def BND_F0_MIN_F0_MIN : Fld := ⟨0x060218, 15, 0⟩
def BND_LWIN_LWIN : Fld := ⟨0x06021C, 15, 0⟩
def BND_UPS_RATE_UPS_RATE : Fld := ⟨0x060220, 31, 0⟩
def BND_SET_BOUND_W0_LOWER (i0 : Nat) : Fld := ⟨0x061000 + 0x100 * i0, 31, 0⟩
def BND_SET_BOUND_W1_LOWER (i0 : Nat) : Fld := ⟨0x061004 + 0x100 * i0, 15, 0⟩
def BND_SET_BOUND_W1_UPPER (i0 : Nat) : Fld := ⟨0x061004 + 0x100 * i0, 31, 16⟩
def BND_SET_BOUND_W2_UPPER (i0 : Nat) : Fld := ⟨0x061008 + 0x100 * i0, 31, 0⟩
def BND_SET_BOUND_W3_UNBOUNDED (i0 : Nat) : Fld := ⟨0x06100C + 0x100 * i0, 0, 0⟩
def BND_SET_STAT_BASIS (i0 : Nat) : Fld := ⟨0x061010 + 0x100 * i0, 1, 0⟩
def BND_SET_STAT_FROZEN (i0 : Nat) : Fld := ⟨0x061010 + 0x100 * i0, 2, 2⟩
def BND_SET_STAT_TGT_EXC (i0 : Nat) : Fld := ⟨0x061010 + 0x100 * i0, 3, 3⟩
def BND_SET_STAT_UNB_CAUSE (i0 : Nat) : Fld := ⟨0x061010 + 0x100 * i0, 15, 8⟩
def BND_SET_TRACE_KIND (i0 : Nat) : Fld := ⟨0x061014 + 0x100 * i0, 2, 0⟩
def BND_SET_TRACE_ID (i0 : Nat) : Fld := ⟨0x061014 + 0x100 * i0, 23, 8⟩
def BND_SET_SEQ_TRACE_SEQ (i0 : Nat) : Fld := ⟨0x061018 + 0x100 * i0, 15, 0⟩
def BND_SET_HOLD_TAU_HOLD_TAU (i0 : Nat) : Fld := ⟨0x06101C + 0x100 * i0, 31, 0⟩
def BND_SET_MARGIN_MARGIN (i0 : Nat) : Fld := ⟨0x061020 + 0x100 * i0, 31, 0⟩
def BND_SET_TARGET_TGT_NS (i0 : Nat) : Fld := ⟨0x061024 + 0x100 * i0, 23, 0⟩
def BND_SET_TARGET_PRESET (i0 : Nat) : Fld := ⟨0x061024 + 0x100 * i0, 26, 24⟩
def BND_SET_TRK_FLOOR_TRK_FLOOR (i0 : Nat) : Fld := ⟨0x061028 + 0x100 * i0, 31, 0⟩
def BND_SET_TRK_AGE_TRK_AGE (i0 : Nat) : Fld := ⟨0x06102C + 0x100 * i0, 31, 0⟩
def BND_SET_TERM_U_UPPER (i0 i1 : Nat) : Fld := ⟨0x061040 + 0x100 * i0 + 0x8 * i1, 31, 0⟩
def BND_SET_TERM_L_LOWER (i0 i1 : Nat) : Fld := ⟨0x061044 + 0x100 * i0 + 0x8 * i1, 31, 0⟩
def BND_REF_SRC_UNC_SRC_UNC (i0 : Nat) : Fld := ⟨0x063000 + 0x10 * i0, 31, 0⟩
def BND_REF_CAL_UNC_CAL_UNC (i0 : Nat) : Fld := ⟨0x063004 + 0x10 * i0, 31, 0⟩
def BND_REF_FENV_FENV (i0 : Nat) : Fld := ⟨0x063008 + 0x10 * i0, 31, 0⟩
def BND_REF_FLAGS_SRC_DECL (i0 : Nat) : Fld := ⟨0x06300C + 0x10 * i0, 0, 0⟩
def BND_REF_FLAGS_FENV_DECL (i0 : Nat) : Fld := ⟨0x06300C + 0x10 * i0, 1, 1⟩
def TCH_EVT_STATE_CHG : Fld := ⟨0x070000, 7, 0⟩
def TCH_EVT_HO_ENTER : Fld := ⟨0x070000, 15, 8⟩
def TCH_EVT_STEP_REQ : Fld := ⟨0x070000, 16, 16⟩
def TCH_STEER_CFG_PORT : Fld := ⟨0x070010, 1, 0⟩
def TCH_STEER_CFG_BITS : Fld := ⟨0x070010, 3, 2⟩
def TCH_STEER_CFG_PFX : Fld := ⟨0x070010, 15, 8⟩
def TCH_STEER_CFG_PER : Fld := ⟨0x070010, 31, 16⟩
def TCH_STEER_KDAC_KDAC : Fld := ⟨0x070014, 31, 0⟩
def TCH_STEER_KUNC_KUNC : Fld := ⟨0x070018, 31, 0⟩
def TCH_STEER_STEP_STEER_STEP : Fld := ⟨0x07001C, 23, 0⟩
def TCH_STEER_CODE_CODE : Fld := ⟨0x070020, 23, 0⟩
def TCH_STEER_STAT_HELD : Fld := ⟨0x070024, 0, 0⟩
def TCH_STEER_STAT_SEQ : Fld := ⟨0x070024, 15, 8⟩
def TCH_STEER_STAT_UPD_CNT : Fld := ⟨0x070024, 31, 16⟩
def TCH_CH_CTL_MODE (i0 : Nat) : Fld := ⟨0x071000 + 0x100 * i0, 1, 0⟩
def TCH_CH_CTL_BW (i0 : Nat) : Fld := ⟨0x071000 + 0x100 * i0, 8, 4⟩
def TCH_CH_CTL_ACQ_BW (i0 : Nat) : Fld := ⟨0x071000 + 0x100 * i0, 14, 10⟩
def TCH_CH_CTL_DAMP (i0 : Nat) : Fld := ⟨0x071000 + 0x100 * i0, 18, 16⟩
def TCH_CH_CTL_PBO_EN (i0 : Nat) : Fld := ⟨0x071000 + 0x100 * i0, 20, 20⟩
def TCH_CH_CTL_HO_MODEL (i0 : Nat) : Fld := ⟨0x071000 + 0x100 * i0, 21, 21⟩
def TCH_CH_PSLEW_PSLEW (i0 : Nat) : Fld := ⟨0x071004 + 0x100 * i0, 31, 0⟩
def TCH_CH_FCLAMP_FCLAMP (i0 : Nat) : Fld := ⟨0x071008 + 0x100 * i0, 31, 0⟩
def TCH_CH_LOCK_THR_LOCK_THR (i0 : Nat) : Fld := ⟨0x07100C + 0x100 * i0, 31, 0⟩
def TCH_CH_LOCK_CNT_LOCK_CNT (i0 : Nat) : Fld := ⟨0x071010 + 0x100 * i0, 15, 0⟩
def TCH_CH_STEP_THR_STEP_THR (i0 : Nat) : Fld := ⟨0x071014 + 0x100 * i0, 31, 0⟩
def TCH_CH_HIST_HIST_TC (i0 : Nat) : Fld := ⟨0x071018 + 0x100 * i0, 4, 0⟩
def TCH_CH_HIST_HO_GUARD (i0 : Nat) : Fld := ⟨0x071018 + 0x100 * i0, 31, 16⟩
def TCH_CH_STAT_STATE (i0 : Nat) : Fld := ⟨0x071020 + 0x100 * i0, 2, 0⟩
def TCH_CH_STAT_FROZEN (i0 : Nat) : Fld := ⟨0x071020 + 0x100 * i0, 3, 3⟩
def TCH_CH_STAT_FRZ_CAUSE (i0 : Nat) : Fld := ⟨0x071020 + 0x100 * i0, 7, 4⟩
def TCH_CH_STAT_SLEW_ACT (i0 : Nat) : Fld := ⟨0x071020 + 0x100 * i0, 8, 8⟩
def TCH_CH_STAT_CLAMP_ACT (i0 : Nat) : Fld := ⟨0x071020 + 0x100 * i0, 9, 9⟩
def TCH_CH_STAT_BW_LIM (i0 : Nat) : Fld := ⟨0x071020 + 0x100 * i0, 10, 10⟩
def TCH_CH_STAT_HO_SRC (i0 : Nat) : Fld := ⟨0x071020 + 0x100 * i0, 12, 11⟩
def TCH_CH_STAT_HIST_VALID (i0 : Nat) : Fld := ⟨0x071020 + 0x100 * i0, 13, 13⟩
def TCH_CH_STAT_STEP_ERA (i0 : Nat) : Fld := ⟨0x071020 + 0x100 * i0, 14, 14⟩
def TCH_CH_STAT_REF (i0 : Nat) : Fld := ⟨0x071020 + 0x100 * i0, 21, 16⟩
def TCH_CH_RATE_LO_RATE (i0 : Nat) : Fld := ⟨0x071024 + 0x100 * i0, 31, 0⟩
def TCH_CH_RATE_HI_RATE (i0 : Nat) : Fld := ⟨0x071028 + 0x100 * i0, 15, 0⟩
def TCH_CH_HIST_LO_HIST (i0 : Nat) : Fld := ⟨0x07102C + 0x100 * i0, 31, 0⟩
def TCH_CH_HIST_HI_HIST (i0 : Nat) : Fld := ⟨0x071030 + 0x100 * i0, 15, 0⟩
def TCH_CH_PERR_PERR (i0 : Nat) : Fld := ⟨0x071034 + 0x100 * i0, 31, 0⟩
def TCH_CH_PBO_LO_PBO (i0 : Nat) : Fld := ⟨0x071038 + 0x100 * i0, 31, 0⟩
def TCH_CH_PBO_HI_PBO (i0 : Nat) : Fld := ⟨0x07103C + 0x100 * i0, 15, 0⟩
def TCH_CH_PBO_LAST_PBO_LAST (i0 : Nat) : Fld := ⟨0x071040 + 0x100 * i0, 31, 0⟩
def TCH_CH_COUNTS_PBO_CNT (i0 : Nat) : Fld := ⟨0x071044 + 0x100 * i0, 15, 0⟩
def TCH_CH_COUNTS_FRZ_CNT (i0 : Nat) : Fld := ⟨0x071044 + 0x100 * i0, 31, 16⟩
def TCH_CH_FRZ_MAX_FRZ_MAX (i0 : Nat) : Fld := ⟨0x071048 + 0x100 * i0, 15, 0⟩
def TCH_CH_PHASE_LO_PHI (i0 : Nat) : Fld := ⟨0x07104C + 0x100 * i0, 31, 0⟩
def TCH_CH_PHASE_HI_PHI (i0 : Nat) : Fld := ⟨0x071050 + 0x100 * i0, 15, 0⟩
def TCH_CH_HO_TIME_HO_TIME (i0 : Nat) : Fld := ⟨0x071054 + 0x100 * i0, 31, 0⟩
def APL_EVT_UNLOCK : Fld := ⟨0x080000, 3, 0⟩
def APL_EVT_LOCKED : Fld := ⟨0x080000, 7, 4⟩
def APL_EVT_HOP_DONE : Fld := ⟨0x080000, 11, 8⟩
def APL_EVT_FENCED : Fld := ⟨0x080000, 15, 12⟩
def APL_EVT_BAND_STORE : Fld := ⟨0x080000, 19, 16⟩
def APL_APLL_CTL_EN (i0 : Nat) : Fld := ⟨0x081000 + 0x400 * i0, 0, 0⟩
def APL_APLL_CTL_PLAN_SEL (i0 : Nat) : Fld := ⟨0x081000 + 0x400 * i0, 7, 4⟩
def APL_APLL_CTL_FINE_TCH (i0 : Nat) : Fld := ⟨0x081000 + 0x400 * i0, 11, 8⟩
def APL_APLL_CTL_LK_GAIN (i0 : Nat) : Fld := ⟨0x081000 + 0x400 * i0, 14, 12⟩
def APL_APLL_CTL_LOCK_STABLE (i0 : Nat) : Fld := ⟨0x081000 + 0x400 * i0, 23, 16⟩
def APL_APLL_CTL_RELOCK_MAX (i0 : Nat) : Fld := ⟨0x081000 + 0x400 * i0, 31, 24⟩
def APL_APLL_LOCK_CFG_LOCK_WIN (i0 : Nat) : Fld := ⟨0x081004 + 0x400 * i0, 11, 0⟩
def APL_APLL_LOCK_CFG_UNLOCK_WIN (i0 : Nat) : Fld := ⟨0x081004 + 0x400 * i0, 23, 12⟩
def APL_APLL_LOCK_CFG_LOCK_N (i0 : Nat) : Fld := ⟨0x081004 + 0x400 * i0, 27, 24⟩
def APL_APLL_STAT_STATE (i0 : Nat) : Fld := ⟨0x081008 + 0x400 * i0, 2, 0⟩
def APL_APLL_STAT_LOCK (i0 : Nat) : Fld := ⟨0x081008 + 0x400 * i0, 3, 3⟩
def APL_APLL_STAT_PLAN_ACT (i0 : Nat) : Fld := ⟨0x081008 + 0x400 * i0, 7, 4⟩
def APL_APLL_STAT_BAND (i0 : Nat) : Fld := ⟨0x081008 + 0x400 * i0, 15, 8⟩
def APL_APLL_STAT_PLAN_ERR (i0 : Nat) : Fld := ⟨0x081008 + 0x400 * i0, 16, 16⟩
def APL_APLL_STAT_RECENT_UNL (i0 : Nat) : Fld := ⟨0x081008 + 0x400 * i0, 31, 24⟩
def APL_APLL_COUNTS_UNLOCK_CNT (i0 : Nat) : Fld := ⟨0x08100C + 0x400 * i0, 15, 0⟩
def APL_APLL_COUNTS_HOP_CNT (i0 : Nat) : Fld := ⟨0x08100C + 0x400 * i0, 31, 16⟩
def APL_APLL_PD_ERR_PD_ERR (i0 : Nat) : Fld := ⟨0x081010 + 0x400 * i0, 31, 0⟩
def APL_APLL_FINE_LO_R_A (i0 : Nat) : Fld := ⟨0x081014 + 0x400 * i0, 31, 0⟩
def APL_APLL_FINE_HI_R_A (i0 : Nat) : Fld := ⟨0x081018 + 0x400 * i0, 15, 0⟩
def APL_APLL_PLAN_W0_PRE_DIV (i0 i1 : Nat) : Fld := ⟨0x081100 + 0x400 * i0 + 0x10 * i1, 7, 0⟩
def APL_APLL_PLAN_W0_FB_INT (i0 i1 : Nat) : Fld := ⟨0x081100 + 0x400 * i0 + 0x10 * i1, 31, 16⟩
def APL_APLL_PLAN_W1_FB_NUM (i0 i1 : Nat) : Fld := ⟨0x081104 + 0x400 * i0 + 0x10 * i1, 31, 0⟩
def APL_APLL_PLAN_W2_FB_DEN (i0 i1 : Nat) : Fld := ⟨0x081108 + 0x400 * i0 + 0x10 * i1, 31, 0⟩
def APL_APLL_PLAN_W3_BAND (i0 i1 : Nat) : Fld := ⟨0x08110C + 0x400 * i0 + 0x10 * i1, 7, 0⟩
def APL_APLL_PLAN_W3_BAND_VALID (i0 i1 : Nat) : Fld := ⟨0x08110C + 0x400 * i0 + 0x10 * i1, 8, 8⟩
def APL_APLL_PLAN_W3_BAND_TJ (i0 i1 : Nat) : Fld := ⟨0x08110C + 0x400 * i0 + 0x10 * i1, 31, 16⟩
def OUT_EVT_MUFFLED : Fld := ⟨0x090000, 15, 0⟩
def OUT_EVT_RELEASED : Fld := ⟨0x090000, 31, 16⟩
def OUT_MAP_NOT_RUN : Fld := ⟨0x090004, 15, 0⟩
def OUT_MAP_ROLLING : Fld := ⟨0x090004, 31, 16⟩
def OUT_CFG_EN (i0 : Nat) : Fld := ⟨0x091000 + 0x80 * i0, 0, 0⟩
def OUT_CFG_FORMAT (i0 : Nat) : Fld := ⟨0x091000 + 0x80 * i0, 3, 1⟩
def OUT_CFG_SWING (i0 : Nat) : Fld := ⟨0x091000 + 0x80 * i0, 5, 4⟩
def OUT_CFG_IDLE (i0 : Nat) : Fld := ⟨0x091000 + 0x80 * i0, 6, 6⟩
def OUT_CFG_CLASS (i0 : Nat) : Fld := ⟨0x091000 + 0x80 * i0, 7, 7⟩
def OUT_CFG_APLL (i0 : Nat) : Fld := ⟨0x091000 + 0x80 * i0, 9, 8⟩
def OUT_CFG_TCH (i0 : Nat) : Fld := ⟨0x091000 + 0x80 * i0, 13, 11⟩
def OUT_CFG_ALIGN (i0 : Nat) : Fld := ⟨0x091000 + 0x80 * i0, 14, 14⟩
def OUT_CFG_POL (i0 : Nat) : Fld := ⟨0x091000 + 0x80 * i0, 15, 15⟩
def OUT_CFG_RELEASE (i0 : Nat) : Fld := ⟨0x091000 + 0x80 * i0, 17, 16⟩
def OUT_CFG_MUF_HO (i0 : Nat) : Fld := ⟨0x091000 + 0x80 * i0, 18, 18⟩
def OUT_CFG_MUF_TGT (i0 : Nat) : Fld := ⟨0x091000 + 0x80 * i0, 19, 19⟩
def OUT_CFG_MUFFLE (i0 : Nat) : Fld := ⟨0x091000 + 0x80 * i0, 20, 20⟩
def OUT_DIV_INT_LO_DIV_INT (i0 : Nat) : Fld := ⟨0x091004 + 0x80 * i0, 31, 0⟩
def OUT_DIV_INT_HI_DIV_INT (i0 : Nat) : Fld := ⟨0x091008 + 0x80 * i0, 7, 0⟩
def OUT_DIV_NUM_DIV_NUM (i0 : Nat) : Fld := ⟨0x09100C + 0x80 * i0, 31, 0⟩
def OUT_DIV_DEN_DIV_DEN (i0 : Nat) : Fld := ⟨0x091010 + 0x80 * i0, 31, 0⟩
def OUT_PULSE_PER_PULSE_PER (i0 : Nat) : Fld := ⟨0x091014 + 0x80 * i0, 31, 0⟩
def OUT_WIDTH_WIDTH (i0 : Nat) : Fld := ⟨0x091018 + 0x80 * i0, 31, 0⟩
def OUT_PHASE_OFS_LO_PHASE_OFS (i0 : Nat) : Fld := ⟨0x09101C + 0x80 * i0, 31, 0⟩
def OUT_PHASE_OFS_HI_PHASE_OFS (i0 : Nat) : Fld := ⟨0x091020 + 0x80 * i0, 15, 0⟩
def OUT_ROLL_RATE_ROLL_RATE (i0 : Nat) : Fld := ⟨0x091024 + 0x80 * i0, 31, 0⟩
def OUT_STAT_STATE (i0 : Nat) : Fld := ⟨0x091028 + 0x80 * i0, 1, 0⟩
def OUT_STAT_ALIGNED (i0 : Nat) : Fld := ⟨0x091028 + 0x80 * i0, 2, 2⟩
def OUT_STAT_ROLLING (i0 : Nat) : Fld := ⟨0x091028 + 0x80 * i0, 3, 3⟩
def OUT_STAT_CFG_ERR (i0 : Nat) : Fld := ⟨0x091028 + 0x80 * i0, 4, 4⟩
def OUT_STAT_MUF_CAUSE (i0 : Nat) : Fld := ⟨0x091028 + 0x80 * i0, 15, 8⟩
def OUT_ALIGN_ERR_LO_A (i0 : Nat) : Fld := ⟨0x09102C + 0x80 * i0, 31, 0⟩
def OUT_ALIGN_ERR_HI_A (i0 : Nat) : Fld := ⟨0x091030 + 0x80 * i0, 15, 0⟩
def OUT_QERR_QERR (i0 : Nat) : Fld := ⟨0x091034 + 0x80 * i0, 15, 0⟩
def OUT_LAST_EDGE_W0_LAST_EDGE (i0 : Nat) : Fld := ⟨0x091038 + 0x80 * i0, 31, 0⟩
def OUT_LAST_EDGE_W1_LAST_EDGE (i0 : Nat) : Fld := ⟨0x09103C + 0x80 * i0, 31, 0⟩
def OUT_LAST_EDGE_W2_LAST_EDGE (i0 : Nat) : Fld := ⟨0x091040 + 0x80 * i0, 31, 0⟩
def OUT_COUNTS_MUF_CNT (i0 : Nat) : Fld := ⟨0x091044 + 0x80 * i0, 15, 0⟩
def GNS_CTL_EN : Fld := ⟨0x0A0000, 0, 0⟩
def GNS_CTL_B1_EN : Fld := ⟨0x0A0000, 1, 1⟩
def GNS_CTL_B5_EN : Fld := ⟨0x0A0000, 2, 2⟩
def GNS_CTL_JOINT_EN : Fld := ⟨0x0A0000, 3, 3⟩
def GNS_CTL_SYS_EN : Fld := ⟨0x0A0000, 7, 4⟩
def GNS_CTL_EPOCH_RATE : Fld := ⟨0x0A0000, 10, 8⟩
def GNS_CTL_ACQ_BAND : Fld := ⟨0x0A0000, 12, 11⟩
def GNS_CTL_L1C_EN : Fld := ⟨0x0A0000, 13, 13⟩
def GNS_STAT_SCLK_OK : Fld := ⟨0x0A0004, 0, 0⟩
def GNS_STAT_SCLK_LOS : Fld := ⟨0x0A0004, 1, 1⟩
def GNS_STAT_CODE_AIDED : Fld := ⟨0x0A0004, 2, 2⟩
def GNS_STAT_DOP_AIDED : Fld := ⟨0x0A0004, 3, 3⟩
def GNS_STAT_SRCH_STATE : Fld := ⟨0x0A0004, 5, 4⟩
def GNS_STAT_PORT_ERR : Fld := ⟨0x0A0004, 6, 6⟩
def GNS_STAT_FE_BUSY : Fld := ⟨0x0A0004, 7, 7⟩
def GNS_STAT_N_CH : Fld := ⟨0x0A0004, 14, 8⟩
def GNS_STAT_MEAS_HELD : Fld := ⟨0x0A0004, 15, 15⟩
def GNS_STAT_N_DUAL : Fld := ⟨0x0A0004, 22, 16⟩
def GNS_EVT_EPOCH : Fld := ⟨0x0A0008, 0, 0⟩
def GNS_EVT_SCLK_LOS : Fld := ⟨0x0A0008, 1, 1⟩
def GNS_EVT_SCLK_OK : Fld := ⟨0x0A0008, 2, 2⟩
def GNS_EVT_JAM_B1 : Fld := ⟨0x0A0008, 3, 3⟩
def GNS_EVT_JAM_B5 : Fld := ⟨0x0A0008, 4, 4⟩
def GNS_EVT_FE_DONE : Fld := ⟨0x0A0008, 5, 5⟩
def GNS_EVT_FE_ERR : Fld := ⟨0x0A0008, 6, 6⟩
def GNS_EVT_CH_FULL : Fld := ⟨0x0A0008, 7, 7⟩
def GNS_PORT_SCLK_NOM : Fld := ⟨0x0A0010, 1, 0⟩
def GNS_PORT_SCLK_EDGE : Fld := ⟨0x0A0010, 2, 2⟩
def GNS_PORT_IQ_SWAP_B1 : Fld := ⟨0x0A0010, 3, 3⟩
def GNS_PORT_IQ_SWAP_B5 : Fld := ⟨0x0A0010, 4, 4⟩
def GNS_PORT_SIGN_POL : Fld := ⟨0x0A0010, 5, 5⟩
def GNS_PORT_MAG_POL : Fld := ⟨0x0A0010, 6, 6⟩
def GNS_IF_B1_IF : Fld := ⟨0x0A0014, 31, 0⟩
def GNS_IF_B5_IF : Fld := ⟨0x0A0018, 31, 0⟩
def GNS_SCLK_RATE_SCLK_RATE : Fld := ⟨0x0A001C, 31, 0⟩
def GNS_EPOCH_OFS_OFS : Fld := ⟨0x0A0020, 29, 0⟩
def GNS_EPOCH_SEQ_SEQ : Fld := ⟨0x0A0024, 31, 0⟩
def GNS_MEAS_CTL_HOLD : Fld := ⟨0x0A0028, 0, 0⟩
def GNS_MEAS_CTL_UNHOLD : Fld := ⟨0x0A0028, 1, 1⟩
def GNS_EXCL_GPS_GPS : Fld := ⟨0x0A0030, 31, 0⟩
def GNS_EXCL_GAL_LO_GAL : Fld := ⟨0x0A0034, 31, 0⟩
def GNS_EXCL_GAL_HI_GAL : Fld := ⟨0x0A0038, 3, 0⟩
def GNS_EXCL_BDS_LO_BDS : Fld := ⟨0x0A003C, 31, 0⟩
def GNS_EXCL_BDS_HI_BDS : Fld := ⟨0x0A0040, 30, 0⟩
def GNS_EXCL_QZS_QZS : Fld := ⟨0x0A0044, 9, 0⟩
def GNS_ACQ_CFG_ACQ_THR : Fld := ⟨0x0A0050, 7, 0⟩
def GNS_ACQ_CFG_NC_CA : Fld := ⟨0x0A0050, 11, 8⟩
def GNS_ACQ_CFG_NC_BOC : Fld := ⟨0x0A0050, 15, 12⟩
def GNS_ACQ_CFG_NC_B5 : Fld := ⟨0x0A0050, 19, 16⟩
def GNS_ACQ_CFG_DOP_SPAN : Fld := ⟨0x0A0050, 31, 20⟩
def GNS_ACQ_CFG2_HO_WIN : Fld := ⟨0x0A0054, 15, 0⟩
def GNS_ACQ_CFG2_HO_DELAY : Fld := ⟨0x0A0054, 23, 16⟩
def GNS_ACQ_CFG2_RETRY : Fld := ⟨0x0A0054, 31, 24⟩
def GNS_ACQ_STAT_DWELLS : Fld := ⟨0x0A0058, 15, 0⟩
def GNS_ACQ_STAT_VER_FAIL : Fld := ⟨0x0A0058, 23, 16⟩
def GNS_ACQ_STAT_CH_FULL : Fld := ⟨0x0A0058, 31, 24⟩
def GNS_LOOP_B1_PLL_BW : Fld := ⟨0x0A0060, 2, 0⟩
def GNS_LOOP_B1_PLL_ORD : Fld := ⟨0x0A0060, 3, 3⟩
def GNS_LOOP_B1_FLL_BW : Fld := ⟨0x0A0060, 5, 4⟩
def GNS_LOOP_B1_DLL_BW : Fld := ⟨0x0A0060, 8, 6⟩
def GNS_LOOP_B1_T_COH : Fld := ⟨0x0A0060, 13, 9⟩
def GNS_LOOP_B1_EL_SP : Fld := ⟨0x0A0060, 17, 14⟩
def GNS_LOOP_B1_VEVL_SP : Fld := ⟨0x0A0060, 21, 18⟩
def GNS_LOOP_B5_PLL_BW : Fld := ⟨0x0A0064, 2, 0⟩
def GNS_LOOP_B5_PLL_ORD : Fld := ⟨0x0A0064, 3, 3⟩
def GNS_LOOP_B5_FLL_BW : Fld := ⟨0x0A0064, 5, 4⟩
def GNS_LOOP_B5_DLL_BW : Fld := ⟨0x0A0064, 8, 6⟩
def GNS_LOOP_B5_T_COH : Fld := ⟨0x0A0064, 13, 9⟩
def GNS_LOOP_B5_EL_SP : Fld := ⟨0x0A0064, 17, 14⟩
def GNS_LOOP_B5_VEVL_SP : Fld := ⟨0x0A0064, 21, 18⟩
def GNS_LOCK_CFG_PLI_LOCK : Fld := ⟨0x0A0068, 7, 0⟩
def GNS_LOCK_CFG_PLI_LOSS : Fld := ⟨0x0A0068, 15, 8⟩
def GNS_LOCK_CFG_CN0_MIN : Fld := ⟨0x0A0068, 23, 16⟩
def GNS_LOCK_CFG_IONO_BW : Fld := ⟨0x0A0068, 25, 24⟩
def GNS_LOCK_TIME_PLI_CNT : Fld := ⟨0x0A006C, 7, 0⟩
def GNS_LOCK_TIME_LOSS_MS : Fld := ⟨0x0A006C, 15, 8⟩
def GNS_LOCK_TIME_COAST_MAX : Fld := ⟨0x0A006C, 31, 16⟩
def GNS_PULL_TIME_PULL_TIME : Fld := ⟨0x0A0070, 15, 0⟩
def GNS_NOTCH_CTL_MODE (i0 i1 : Nat) : Fld := ⟨0x0A0100 + 0x40 * i0 + 0x10 * i1, 1, 0⟩
def GNS_NOTCH_CTL_WIDTH (i0 i1 : Nat) : Fld := ⟨0x0A0100 + 0x40 * i0 + 0x10 * i1, 3, 2⟩
def GNS_NOTCH_CTL_NOTCH_THR (i0 i1 : Nat) : Fld := ⟨0x0A0100 + 0x40 * i0 + 0x10 * i1, 15, 8⟩
def GNS_NOTCH_FREQ_FREQ (i0 i1 : Nat) : Fld := ⟨0x0A0104 + 0x40 * i0 + 0x10 * i1, 31, 0⟩
def GNS_NOTCH_STAT_ACTIVE (i0 i1 : Nat) : Fld := ⟨0x0A0108 + 0x40 * i0 + 0x10 * i1, 0, 0⟩
def GNS_NOTCH_STAT_TONE (i0 i1 : Nat) : Fld := ⟨0x0A0108 + 0x40 * i0 + 0x10 * i1, 15, 8⟩
def GNS_NOTCH_STAT_DEPTH (i0 i1 : Nat) : Fld := ⟨0x0A0108 + 0x40 * i0 + 0x10 * i1, 23, 16⟩
def GNS_JAM_JI_B1 : Fld := ⟨0x0A0180, 7, 0⟩
def GNS_JAM_JI_B5 : Fld := ⟨0x0A0180, 15, 8⟩
def GNS_JAM_PEAK_B1 : Fld := ⟨0x0A0180, 23, 16⟩
def GNS_JAM_PEAK_B5 : Fld := ⟨0x0A0180, 31, 24⟩
def GNS_JAM_CFG_PEAK_FLOOR : Fld := ⟨0x0A0184, 7, 0⟩
def GNS_JAM_CFG_JAM_THR : Fld := ⟨0x0A0184, 15, 8⟩
def GNS_JAM_CFG_AGC_EN_B1 : Fld := ⟨0x0A0184, 16, 16⟩
def GNS_JAM_CFG_AGC_EN_B5 : Fld := ⟨0x0A0184, 17, 17⟩
def GNS_AGC_CFG_AGC_IDX_B1 : Fld := ⟨0x0A0188, 5, 0⟩
def GNS_AGC_CFG_AGC_IDX_B5 : Fld := ⟨0x0A0188, 13, 8⟩
def GNS_AGC_CFG_AGC_PER : Fld := ⟨0x0A0188, 23, 16⟩
def GNS_AGC_CFG_AGC_STEP : Fld := ⟨0x0A0188, 31, 24⟩
def GNS_AGC_REF_REF_B1 : Fld := ⟨0x0A018C, 7, 0⟩
def GNS_AGC_REF_REF_B5 : Fld := ⟨0x0A018C, 15, 8⟩
def GNS_AGC_REF_AGC_B1 : Fld := ⟨0x0A018C, 23, 16⟩
def GNS_AGC_REF_AGC_B5 : Fld := ⟨0x0A018C, 31, 24⟩
def GNS_FE_CFG_DIV : Fld := ⟨0x0A0200, 6, 0⟩
def GNS_FE_CFG_MODE : Fld := ⟨0x0A0200, 9, 8⟩
def GNS_FE_CFG_AUTO_RUN : Fld := ⟨0x0A0200, 10, 10⟩
def GNS_FE_CFG_N_ENT : Fld := ⟨0x0A0200, 22, 16⟩
def GNS_FE_CMD_RUN : Fld := ⟨0x0A0204, 0, 0⟩
def GNS_FE_CMD_ABORT : Fld := ⟨0x0A0204, 1, 1⟩
def GNS_FE_STAT_BUSY : Fld := ⟨0x0A0208, 0, 0⟩
def GNS_FE_STAT_ERR : Fld := ⟨0x0A0208, 1, 1⟩
def GNS_FE_STAT_ERR_IDX : Fld := ⟨0x0A0208, 7, 2⟩
def GNS_FE_TBL_CTRL_LEN (i0 : Nat) : Fld := ⟨0x0A0400 + 0x10 * i0, 4, 0⟩
def GNS_FE_TBL_CTRL_READ (i0 : Nat) : Fld := ⟨0x0A0400 + 0x10 * i0, 8, 8⟩
def GNS_FE_TBL_CTRL_VERIFY (i0 : Nat) : Fld := ⟨0x0A0400 + 0x10 * i0, 9, 9⟩
def GNS_FE_TBL_CTRL_HOLD_CS (i0 : Nat) : Fld := ⟨0x0A0400 + 0x10 * i0, 10, 10⟩
def GNS_FE_TBL_CTRL_DELAY (i0 : Nat) : Fld := ⟨0x0A0400 + 0x10 * i0, 31, 16⟩
def GNS_FE_TBL_DATA_DATA (i0 : Nat) : Fld := ⟨0x0A0404 + 0x10 * i0, 31, 0⟩
def GNS_FE_TBL_RX_RX (i0 : Nat) : Fld := ⟨0x0A0408 + 0x10 * i0, 31, 0⟩
def GNS_CH_STAT_CH_STATE (i0 : Nat) : Fld := ⟨0x0A1000 + 0x20 * i0, 1, 0⟩
def GNS_CH_STAT_SYS (i0 : Nat) : Fld := ⟨0x0A1000 + 0x20 * i0, 3, 2⟩
def GNS_CH_STAT_SVID (i0 : Nat) : Fld := ⟨0x0A1000 + 0x20 * i0, 9, 4⟩
def GNS_CH_STAT_B1_STATE (i0 : Nat) : Fld := ⟨0x0A1000 + 0x20 * i0, 11, 10⟩
def GNS_CH_STAT_B5_STATE (i0 : Nat) : Fld := ⟨0x0A1000 + 0x20 * i0, 13, 12⟩
def GNS_CH_STAT_SIG_B1 (i0 : Nat) : Fld := ⟨0x0A1000 + 0x20 * i0, 23, 16⟩
def GNS_CH_STAT_SIG_B5 (i0 : Nat) : Fld := ⟨0x0A1000 + 0x20 * i0, 31, 24⟩
def GNS_CH_CN0_CN0_B1 (i0 : Nat) : Fld := ⟨0x0A1004 + 0x20 * i0, 7, 0⟩
def GNS_CH_CN0_CN0_B5 (i0 : Nat) : Fld := ⟨0x0A1004 + 0x20 * i0, 15, 8⟩
def GNS_CH_CN0_PLI_B1 (i0 : Nat) : Fld := ⟨0x0A1004 + 0x20 * i0, 23, 16⟩
def GNS_CH_CN0_PLI_B5 (i0 : Nat) : Fld := ⟨0x0A1004 + 0x20 * i0, 31, 24⟩
def GNS_CH_LOCK_LOCK_MS_B1 (i0 : Nat) : Fld := ⟨0x0A1008 + 0x20 * i0, 15, 0⟩
def GNS_CH_LOCK_LOCK_MS_B5 (i0 : Nat) : Fld := ⟨0x0A1008 + 0x20 * i0, 31, 16⟩
def GNS_CH_DOP_B1_DOP (i0 : Nat) : Fld := ⟨0x0A100C + 0x20 * i0, 31, 0⟩
def GNS_CH_DOP_B5_DOP (i0 : Nat) : Fld := ⟨0x0A1010 + 0x20 * i0, 31, 0⟩
def GNS_CH_FLAGS_BF_B1 (i0 : Nat) : Fld := ⟨0x0A1014 + 0x20 * i0, 7, 0⟩
def GNS_CH_FLAGS_BF_B5 (i0 : Nat) : Fld := ⟨0x0A1014 + 0x20 * i0, 15, 8⟩
def GNS_CH_CTL_RELEASE (i0 : Nat) : Fld := ⟨0x0A1018 + 0x20 * i0, 0, 0⟩
def GNS_MEAS_MEAS (i0 : Nat) : Fld := ⟨0x0A8000 + 0x4 * i0, 31, 0⟩
def GNT_CTL_EN : Fld := ⟨0x0B0000, 0, 0⟩
def GNT_CTL_POS_MODE : Fld := ⟨0x0B0000, 1, 1⟩
def GNT_CTL_SINGLE_EN : Fld := ⟨0x0B0000, 2, 2⟩
def GNT_CTL_UTC_SYS : Fld := ⟨0x0B0000, 4, 3⟩
def GNT_CTL_SURVEY_RST : Fld := ⟨0x0B0000, 5, 5⟩
def GNT_STAT_SOL_STATE : Fld := ⟨0x0B0004, 1, 0⟩
def GNT_STAT_POS_STATE : Fld := ⟨0x0B0004, 3, 2⟩
def GNT_STAT_INTEG_WARN : Fld := ⟨0x0B0004, 4, 4⟩
def GNT_STAT_AMB : Fld := ⟨0x0B0004, 6, 5⟩
def GNT_STAT_N_USED : Fld := ⟨0x0B0004, 14, 8⟩
def GNT_STAT_N_EXCL : Fld := ⟨0x0B0004, 22, 16⟩
def GNT_STAT_CONV_CNT : Fld := ⟨0x0B0004, 31, 24⟩
def GNT_EVT_SOL_VALID : Fld := ⟨0x0B0008, 0, 0⟩
def GNT_EVT_SOL_LOST : Fld := ⟨0x0B0008, 1, 1⟩
def GNT_EVT_EXCL : Fld := ⟨0x0B0008, 2, 2⟩
def GNT_EVT_INTEG : Fld := ⟨0x0B0008, 3, 3⟩
def GNT_EVT_SURVEY_DONE : Fld := ⟨0x0B0008, 4, 4⟩
def GNT_EVT_DELAY_CHG : Fld := ⟨0x0B0008, 5, 5⟩
def GNT_EVT_TP : Fld := ⟨0x0B0008, 6, 6⟩
def GNT_EVT_ASLEEP : Fld := ⟨0x0B0008, 7, 7⟩
def GNT_EVT_AWAKE : Fld := ⟨0x0B0008, 8, 8⟩
def GNT_EVT_WAKE_SLOW : Fld := ⟨0x0B0008, 9, 9⟩
def GNT_SOL_CFG_CONV_N : Fld := ⟨0x0B0010, 7, 0⟩
def GNT_SOL_CFG_MIN_SV : Fld := ⟨0x0B0010, 11, 8⟩
def GNT_SOL_CFG_DET_MIN : Fld := ⟨0x0B0010, 15, 12⟩
def GNT_SOL_CFG_EL_MASK : Fld := ⟨0x0B0010, 23, 16⟩
def GNT_SOL_CFG_CN0_MASK : Fld := ⟨0x0B0010, 31, 24⟩
def GNT_RAIM_EXCL_K : Fld := ⟨0x0B0014, 7, 0⟩
def GNT_RAIM_MAX_EXCL : Fld := ⟨0x0B0014, 11, 8⟩
def GNT_RAIM_KU : Fld := ⟨0x0B0014, 15, 12⟩
def GNT_RAIM_SMOOTH_S : Fld := ⟨0x0B0014, 31, 16⟩
def GNT_SIG_A_SIG_A : Fld := ⟨0x0B0018, 31, 0⟩
def GNT_SIG_B_SIG_B : Fld := ⟨0x0B001C, 31, 0⟩
def GNT_TROPO_RES_TROPO_RES : Fld := ⟨0x0B0020, 31, 0⟩
def GNT_IONO_FLOOR_IONO_FLOOR : Fld := ⟨0x0B0024, 31, 0⟩
def GNT_IONO_FRAC_IONO_FRAC : Fld := ⟨0x0B0028, 7, 0⟩
def GNT_ISB_UNC_GAL_ISB_UNC : Fld := ⟨0x0B002C, 31, 0⟩
def GNT_ISB_UNC_BDS_ISB_UNC : Fld := ⟨0x0B0030, 31, 0⟩
def GNT_ISB_UNC_QZS_ISB_UNC : Fld := ⟨0x0B0034, 31, 0⟩
def GNT_UTC_UNC_UTC_UNC : Fld := ⟨0x0B0038, 31, 0⟩
def GNT_UNC_MAX_UNC_MAX : Fld := ⟨0x0B003C, 31, 0⟩
def GNT_POS_X_LO_POS_X : Fld := ⟨0x0B0040, 31, 0⟩
def GNT_POS_X_HI_POS_X : Fld := ⟨0x0B0044, 7, 0⟩
def GNT_POS_Y_LO_POS_Y : Fld := ⟨0x0B0048, 31, 0⟩
def GNT_POS_Y_HI_POS_Y : Fld := ⟨0x0B004C, 7, 0⟩
def GNT_POS_Z_LO_POS_Z : Fld := ⟨0x0B0050, 31, 0⟩
def GNT_POS_Z_HI_POS_Z : Fld := ⟨0x0B0054, 7, 0⟩
def GNT_POS_UNC_POS_UNC : Fld := ⟨0x0B0058, 31, 0⟩
def GNT_SURVEY_CFG_SURVEY_MIN : Fld := ⟨0x0B005C, 15, 0⟩
def GNT_SURVEY_CFG_SURVEY_ACC : Fld := ⟨0x0B005C, 31, 16⟩
def GNT_ANT_DELAY_ANT_DELAY : Fld := ⟨0x0B0060, 31, 0⟩
def GNT_ANT_DIFF_B5_ANT_DIFF_B5 : Fld := ⟨0x0B0064, 31, 0⟩
def GNT_RX_DELAY_B1_RX_DELAY_B1 : Fld := ⟨0x0B0068, 31, 0⟩
def GNT_RX_DELAY_B5_RX_DELAY_B5 : Fld := ⟨0x0B006C, 31, 0⟩
def GNT_ISB_UNC_GPS_ISB_UNC_GPS : Fld := ⟨0x0B0070, 31, 0⟩
def GNT_SOL_Y_LO_Y : Fld := ⟨0x0B0080, 31, 0⟩
def GNT_SOL_Y_HI_Y : Fld := ⟨0x0B0084, 15, 0⟩
def GNT_SOL_UNC_SOL_UNC : Fld := ⟨0x0B0088, 31, 0⟩
def GNT_SOL_SEQ_SEQ : Fld := ⟨0x0B008C, 31, 0⟩
def GNT_SOL_AGE_AGE : Fld := ⟨0x0B0090, 31, 0⟩
def GNT_USED_0_USED : Fld := ⟨0x0B0094, 31, 0⟩
def GNT_USED_1_USED : Fld := ⟨0x0B0098, 31, 0⟩
def GNT_USED_2_USED : Fld := ⟨0x0B009C, 31, 0⟩
def GNT_EXCL_0_EXCL : Fld := ⟨0x0B00A0, 31, 0⟩
def GNT_EXCL_1_EXCL : Fld := ⟨0x0B00A4, 31, 0⟩
def GNT_EXCL_2_EXCL : Fld := ⟨0x0B00A8, 31, 0⟩
def GNT_UTC_UTC_OFS : Fld := ⟨0x0B00B0, 15, 0⟩
def GNT_UTC_VALID : Fld := ⟨0x0B00B0, 16, 16⟩
def GNT_UTC_LEAP : Fld := ⟨0x0B00B0, 18, 17⟩
def GNT_LEAP_TAI_LO_LEAP_TAI : Fld := ⟨0x0B00B4, 31, 0⟩
def GNT_LEAP_TAI_HI_LEAP_TAI : Fld := ⟨0x0B00B8, 15, 0⟩
def GNT_TP_CFG_OUT_TP : Fld := ⟨0x0B0100, 3, 0⟩
def GNT_TP_CFG_TP_EN : Fld := ⟨0x0B0100, 4, 4⟩
def GNT_TP_CFG_TP_CFG_ERR : Fld := ⟨0x0B0100, 5, 5⟩
def GNT_TP_W_TP (i0 : Nat) : Fld := ⟨0x0B0110 + 0x4 * i0, 31, 0⟩
def GNT_SLEEP_CTL_SLEEP : Fld := ⟨0x0B0180, 0, 0⟩
def GNT_SLEEP_CTL_WAKE : Fld := ⟨0x0B0180, 1, 1⟩
def GNT_SLEEP_CTL_SLEEP_STORE : Fld := ⟨0x0B0180, 2, 2⟩
def GNT_SLEEP_CTL_AUTO_WAKE_UNB : Fld := ⟨0x0B0180, 3, 3⟩
def GNT_SLEEP_CFG_WAKE_BOUND : Fld := ⟨0x0B0184, 15, 0⟩
def GNT_SLEEP_CFG_SLEEP_MAX : Fld := ⟨0x0B0184, 31, 16⟩
def GNT_SLEEP_STAT_SLP_STATE : Fld := ⟨0x0B0188, 1, 0⟩
def GNT_SLEEP_STAT_CACHE_OK : Fld := ⟨0x0B0188, 2, 2⟩
def GNT_SLEEP_STAT_N_EPH : Fld := ⟨0x0B0188, 15, 8⟩
def GNT_SLEEP_STAT_WAKE_MS : Fld := ⟨0x0B0188, 31, 16⟩
def LAN_EVT_STAGE_CHG : Fld := ⟨0x0C0000, 15, 0⟩
def LAN_EVT_QREF_SW : Fld := ⟨0x0C0000, 19, 16⟩
def LAN_QUAD_CFG_PLL0_RATE (i0 : Nat) : Fld := ⟨0x0C0100 + 0x10 * i0, 1, 0⟩
def LAN_QUAD_CFG_PLL1_RATE (i0 : Nat) : Fld := ⟨0x0C0100 + 0x10 * i0, 3, 2⟩
def LAN_QUAD_CFG_TXREF (i0 : Nat) : Fld := ⟨0x0C0100 + 0x10 * i0, 6, 4⟩
def LAN_QUAD_CFG_QDIV (i0 : Nat) : Fld := ⟨0x0C0100 + 0x10 * i0, 15, 8⟩
def LAN_QUAD_STAT_TXREF_ACT (i0 : Nat) : Fld := ⟨0x0C0104 + 0x10 * i0, 2, 0⟩
def LAN_QUAD_STAT_PLL0_LOCK (i0 : Nat) : Fld := ⟨0x0C0104 + 0x10 * i0, 3, 3⟩
def LAN_QUAD_STAT_PLL1_LOCK (i0 : Nat) : Fld := ⟨0x0C0104 + 0x10 * i0, 4, 4⟩
def LAN_QUAD_STAT_QCFG_ERR (i0 : Nat) : Fld := ⟨0x0C0104 + 0x10 * i0, 5, 5⟩
def LAN_QUAD_STAT_REF_FALLBACK (i0 : Nat) : Fld := ⟨0x0C0104 + 0x10 * i0, 6, 6⟩
def LAN_LANE_CFG_EN (i0 : Nat) : Fld := ⟨0x0C1000 + 0x100 * i0, 0, 0⟩
def LAN_LANE_CFG_MODE (i0 : Nat) : Fld := ⟨0x0C1000 + 0x100 * i0, 2, 1⟩
def LAN_LANE_CFG_RATE (i0 : Nat) : Fld := ⟨0x0C1000 + 0x100 * i0, 4, 3⟩
def LAN_LANE_CFG_DET_EN (i0 : Nat) : Fld := ⟨0x0C1000 + 0x100 * i0, 5, 5⟩
def LAN_LANE_CFG_AN_EN (i0 : Nat) : Fld := ⟨0x0C1000 + 0x100 * i0, 6, 6⟩
def LAN_LANE_CFG_TRN_EN (i0 : Nat) : Fld := ⟨0x0C1000 + 0x100 * i0, 7, 7⟩
def LAN_LANE_CFG_FEC (i0 : Nat) : Fld := ⟨0x0C1000 + 0x100 * i0, 9, 8⟩
def LAN_LANE_CFG_TX_INV (i0 : Nat) : Fld := ⟨0x0C1000 + 0x100 * i0, 10, 10⟩
def LAN_LANE_CFG_RX_INV (i0 : Nat) : Fld := ⟨0x0C1000 + 0x100 * i0, 11, 11⟩
def LAN_LANE_CFG_TEST_EN (i0 : Nat) : Fld := ⟨0x0C1000 + 0x100 * i0, 12, 12⟩
def LAN_LANE_AN_ADV_TECH (i0 : Nat) : Fld := ⟨0x0C1004 + 0x100 * i0, 22, 0⟩
def LAN_LANE_AN_ADV_F2 (i0 : Nat) : Fld := ⟨0x0C1004 + 0x100 * i0, 24, 24⟩
def LAN_LANE_TXEQ_PRE (i0 : Nat) : Fld := ⟨0x0C1008 + 0x100 * i0, 4, 0⟩
def LAN_LANE_TXEQ_MAIN (i0 : Nat) : Fld := ⟨0x0C1008 + 0x100 * i0, 13, 8⟩
def LAN_LANE_TXEQ_POST (i0 : Nat) : Fld := ⟨0x0C1008 + 0x100 * i0, 20, 16⟩
def LAN_LANE_RXEQ_CTLE (i0 : Nat) : Fld := ⟨0x0C100C + 0x100 * i0, 3, 0⟩
def LAN_LANE_RXEQ_DFE1 (i0 : Nat) : Fld := ⟨0x0C100C + 0x100 * i0, 11, 4⟩
def LAN_LANE_TMR0_DET_PER (i0 : Nat) : Fld := ⟨0x0C1010 + 0x100 * i0, 7, 0⟩
def LAN_LANE_TMR0_LOCK_MAX (i0 : Nat) : Fld := ⟨0x0C1010 + 0x100 * i0, 15, 8⟩
def LAN_LANE_TMR0_TRAIN_MAX (i0 : Nat) : Fld := ⟨0x0C1010 + 0x100 * i0, 31, 16⟩
def LAN_LANE_TMR1_EXCH_MAX (i0 : Nat) : Fld := ⟨0x0C1014 + 0x100 * i0, 15, 0⟩
def LAN_LANE_TMR1_RELINK_MAX (i0 : Nat) : Fld := ⟨0x0C1014 + 0x100 * i0, 23, 16⟩
def LAN_LANE_TMR1_FAIL_EVT (i0 : Nat) : Fld := ⟨0x0C1014 + 0x100 * i0, 31, 24⟩
def LAN_LANE_STAT_STAGE (i0 : Nat) : Fld := ⟨0x0C1018 + 0x100 * i0, 2, 0⟩
def LAN_LANE_STAT_LOS (i0 : Nat) : Fld := ⟨0x0C1018 + 0x100 * i0, 3, 3⟩
def LAN_LANE_STAT_LOL (i0 : Nat) : Fld := ⟨0x0C1018 + 0x100 * i0, 4, 4⟩
def LAN_LANE_STAT_BLOCK_LOCK (i0 : Nat) : Fld := ⟨0x0C1018 + 0x100 * i0, 5, 5⟩
def LAN_LANE_STAT_HI_BER (i0 : Nat) : Fld := ⟨0x0C1018 + 0x100 * i0, 6, 6⟩
def LAN_LANE_STAT_PARTNER (i0 : Nat) : Fld := ⟨0x0C1018 + 0x100 * i0, 7, 7⟩
def LAN_LANE_STAT_CFG_ERR (i0 : Nat) : Fld := ⟨0x0C1018 + 0x100 * i0, 8, 8⟩
def LAN_LANE_STAT_FEC_ACT (i0 : Nat) : Fld := ⟨0x0C1018 + 0x100 * i0, 9, 9⟩
def LAN_LANE_STAT_FAIL_STAGE (i0 : Nat) : Fld := ⟨0x0C1018 + 0x100 * i0, 12, 10⟩
def LAN_LANE_STAT_FAIL_WHY (i0 : Nat) : Fld := ⟨0x0C1018 + 0x100 * i0, 19, 16⟩
def LAN_LANE_STAT_RECENT_LOL (i0 : Nat) : Fld := ⟨0x0C1018 + 0x100 * i0, 31, 24⟩
def LAN_LANE_EVT_UP (i0 : Nat) : Fld := ⟨0x0C101C + 0x100 * i0, 0, 0⟩
def LAN_LANE_EVT_DOWN (i0 : Nat) : Fld := ⟨0x0C101C + 0x100 * i0, 1, 1⟩
def LAN_LANE_EVT_LINK_FAIL (i0 : Nat) : Fld := ⟨0x0C101C + 0x100 * i0, 2, 2⟩
def LAN_LANE_EVT_FENCED (i0 : Nat) : Fld := ⟨0x0C101C + 0x100 * i0, 3, 3⟩
def LAN_LANE_EVT_PRBS_LOCK (i0 : Nat) : Fld := ⟨0x0C101C + 0x100 * i0, 4, 4⟩
def LAN_LANE_EVT_PRBS_LOST (i0 : Nat) : Fld := ⟨0x0C101C + 0x100 * i0, 5, 5⟩
def LAN_LANE_COUNTS_UP_CNT (i0 : Nat) : Fld := ⟨0x0C1020 + 0x100 * i0, 15, 0⟩
def LAN_LANE_COUNTS_LOL_CNT (i0 : Nat) : Fld := ⟨0x0C1020 + 0x100 * i0, 31, 16⟩
def LAN_LANE_ALIGN_RX_ALIGN (i0 : Nat) : Fld := ⟨0x0C1024 + 0x100 * i0, 6, 0⟩
def LAN_LANE_RX_STAMP_LO_RX_STAMP (i0 : Nat) : Fld := ⟨0x0C1030 + 0x100 * i0, 31, 0⟩
def LAN_LANE_RX_STAMP_HI_RX_STAMP (i0 : Nat) : Fld := ⟨0x0C1034 + 0x100 * i0, 27, 0⟩
def LAN_LANE_RX_WIDX_LO_RX_WIDX (i0 : Nat) : Fld := ⟨0x0C1038 + 0x100 * i0, 31, 0⟩
def LAN_LANE_RX_WIDX_HI_RX_WIDX (i0 : Nat) : Fld := ⟨0x0C103C + 0x100 * i0, 15, 0⟩
def LAN_LANE_TX_STAMP_LO_TX_STAMP (i0 : Nat) : Fld := ⟨0x0C1040 + 0x100 * i0, 31, 0⟩
def LAN_LANE_TX_STAMP_HI_TX_STAMP (i0 : Nat) : Fld := ⟨0x0C1044 + 0x100 * i0, 27, 0⟩
def LAN_LANE_TX_WIDX_LO_TX_WIDX (i0 : Nat) : Fld := ⟨0x0C1048 + 0x100 * i0, 31, 0⟩
def LAN_LANE_TX_WIDX_HI_TX_WIDX (i0 : Nat) : Fld := ⟨0x0C104C + 0x100 * i0, 15, 0⟩
def LAN_LANE_RX_RATE_RX_RATE (i0 : Nat) : Fld := ⟨0x0C1050 + 0x100 * i0, 31, 0⟩
def LAN_LANE_SYNCE_X_LO_X (i0 : Nat) : Fld := ⟨0x0C1054 + 0x100 * i0, 31, 0⟩
def LAN_LANE_SYNCE_X_HI_X (i0 : Nat) : Fld := ⟨0x0C1058 + 0x100 * i0, 15, 0⟩
def LAN_LANE_TRK_STAT_RX_INV_STAMP (i0 : Nat) : Fld := ⟨0x0C105C + 0x100 * i0, 0, 0⟩
def LAN_LANE_TRK_STAT_TX_INV_STAMP (i0 : Nat) : Fld := ⟨0x0C105C + 0x100 * i0, 1, 1⟩
def LAN_LANE_TRK_STAT_X_VALID (i0 : Nat) : Fld := ⟨0x0C105C + 0x100 * i0, 2, 2⟩
def LAN_LANE_PRBS_CTL_TX_PAT (i0 : Nat) : Fld := ⟨0x0C1080 + 0x100 * i0, 2, 0⟩
def LAN_LANE_PRBS_CTL_RX_PAT (i0 : Nat) : Fld := ⟨0x0C1080 + 0x100 * i0, 6, 4⟩
def LAN_LANE_PRBS_CTL_INJ_1 (i0 : Nat) : Fld := ⟨0x0C1080 + 0x100 * i0, 8, 8⟩
def LAN_LANE_PRBS_CTL_INJ_BURST (i0 : Nat) : Fld := ⟨0x0C1080 + 0x100 * i0, 9, 9⟩
def LAN_LANE_PRBS_CTL_CHK_CLR (i0 : Nat) : Fld := ⟨0x0C1080 + 0x100 * i0, 10, 10⟩
def LAN_LANE_PRBS_CTL_BURST_LEN (i0 : Nat) : Fld := ⟨0x0C1080 + 0x100 * i0, 23, 16⟩
def LAN_LANE_USER0_USER (i0 : Nat) : Fld := ⟨0x0C1084 + 0x100 * i0, 31, 0⟩
def LAN_LANE_USER1_USER (i0 : Nat) : Fld := ⟨0x0C1088 + 0x100 * i0, 31, 0⟩
def LAN_LANE_USER2_USER (i0 : Nat) : Fld := ⟨0x0C108C + 0x100 * i0, 15, 0⟩
def LAN_LANE_PRBS_STAT_LOCK (i0 : Nat) : Fld := ⟨0x0C1090 + 0x100 * i0, 0, 0⟩
def LAN_LANE_PRBS_STAT_SAT (i0 : Nat) : Fld := ⟨0x0C1090 + 0x100 * i0, 1, 1⟩
def LAN_LANE_ERR_LO_ERR (i0 : Nat) : Fld := ⟨0x0C1094 + 0x100 * i0, 31, 0⟩
def LAN_LANE_ERR_HI_ERR (i0 : Nat) : Fld := ⟨0x0C1098 + 0x100 * i0, 15, 0⟩
def LAN_LANE_BITS_LO_BITS (i0 : Nat) : Fld := ⟨0x0C109C + 0x100 * i0, 31, 0⟩
def LAN_LANE_BITS_HI_BITS (i0 : Nat) : Fld := ⟨0x0C10A0 + 0x100 * i0, 15, 0⟩
def MAC_EVT_TSQ_GAP : Fld := ⟨0x0D0000, 15, 0⟩
def MAC_EVT_HRX_AVAIL : Fld := ⟨0x0D0000, 16, 16⟩
def MAC_EVT_HRX_DROP : Fld := ⟨0x0D0000, 17, 17⟩
def MAC_EVT_HTX_REJECT : Fld := ⟨0x0D0000, 18, 18⟩
def MAC_HOST_CTL_HOST_EN : Fld := ⟨0x0D0004, 15, 0⟩
def MAC_HOST_CTL_ESMC_COPY : Fld := ⟨0x0D0004, 31, 16⟩
def MAC_HRX_STAT_N_FRAMES : Fld := ⟨0x0D0008, 10, 0⟩
def MAC_HRX_STAT_FREE : Fld := ⟨0x0D0008, 26, 16⟩
def MAC_HRX_W0_PORT : Fld := ⟨0x0D0010, 3, 0⟩
def MAC_HRX_W0_CLASS : Fld := ⟨0x0D0010, 5, 4⟩
def MAC_HRX_W0_NTAGS : Fld := ⟨0x0D0010, 7, 6⟩
def MAC_HRX_W0_IP4_BAD : Fld := ⟨0x0D0010, 8, 8⟩
def MAC_HRX_W0_UDP_BAD : Fld := ⟨0x0D0010, 9, 9⟩
def MAC_HRX_W0_TS_INV : Fld := ⟨0x0D0010, 10, 10⟩
def MAC_HRX_W0_LEN : Fld := ⟨0x0D0010, 29, 16⟩
def MAC_HRX_W1_RAWF : Fld := ⟨0x0D0014, 31, 0⟩
def MAC_HRX_W2_RAWF : Fld := ⟨0x0D0018, 27, 0⟩
def MAC_HRX_W3_SEQ : Fld := ⟨0x0D001C, 15, 0⟩
def MAC_HRX_DATA_DATA : Fld := ⟨0x0D0020, 31, 0⟩
def MAC_HRX_POP_POP : Fld := ⟨0x0D0024, 0, 0⟩
def MAC_HTX_DESC_W0_PORT : Fld := ⟨0x0D0030, 3, 0⟩
def MAC_HTX_DESC_W0_TS_REQ : Fld := ⟨0x0D0030, 4, 4⟩
def MAC_HTX_DESC_W0_FU : Fld := ⟨0x0D0030, 5, 5⟩
def MAC_HTX_DESC_W0_CSUM_IP : Fld := ⟨0x0D0030, 6, 6⟩
def MAC_HTX_DESC_W0_CSUM_UDP : Fld := ⟨0x0D0030, 7, 7⟩
def MAC_HTX_DESC_W0_ONESTEP : Fld := ⟨0x0D0030, 8, 8⟩
def MAC_HTX_DESC_W0_LEN : Fld := ⟨0x0D0030, 29, 16⟩
def MAC_HTX_DESC_W1_FU_TAG : Fld := ⟨0x0D0034, 15, 0⟩
def MAC_HTX_DESC_W1_OS_OFS : Fld := ⟨0x0D0034, 23, 16⟩
def MAC_HTX_DATA_DATA : Fld := ⟨0x0D0040, 31, 0⟩
def MAC_HTX_CMD_SUBMIT : Fld := ⟨0x0D0044, 0, 0⟩
def MAC_HTX_CMD_ABANDON : Fld := ⟨0x0D0044, 1, 1⟩
def MAC_HTX_STAT_FREE : Fld := ⟨0x0D0048, 10, 0⟩
def MAC_HTX_STAT_REJECT : Fld := ⟨0x0D0048, 16, 16⟩
def MAC_HTX_STAT_REJ_WHY : Fld := ⟨0x0D0048, 19, 17⟩
def MAC_HTX_TAG_TAG : Fld := ⟨0x0D004C, 15, 0⟩
def MAC_PORT_CFG_MAX_LEN (i0 : Nat) : Fld := ⟨0x0D1000 + 0x200 * i0, 13, 0⟩
def MAC_PORT_CFG_PROMISC (i0 : Nat) : Fld := ⟨0x0D1000 + 0x200 * i0, 14, 14⟩
def MAC_PORT_CFG_HASH_EN (i0 : Nat) : Fld := ⟨0x0D1000 + 0x200 * i0, 15, 15⟩
def MAC_PORT_CFG_EXACT_EN (i0 : Nat) : Fld := ⟨0x0D1000 + 0x200 * i0, 23, 16⟩
def MAC_PORT_CFG_USER_EN (i0 : Nat) : Fld := ⟨0x0D1000 + 0x200 * i0, 27, 24⟩
def MAC_PORT_CFG_V4_ZERO (i0 : Nat) : Fld := ⟨0x0D1000 + 0x200 * i0, 28, 28⟩
def MAC_PORT_ADDR_LO_ADDR (i0 : Nat) : Fld := ⟨0x0D1004 + 0x200 * i0, 31, 0⟩
def MAC_PORT_ADDR_HI_ADDR (i0 : Nat) : Fld := ⟨0x0D1008 + 0x200 * i0, 15, 0⟩
def MAC_PORT_USER_j_LO_USER_j (i0 i1 : Nat) : Fld := ⟨0x0D1010 + 0x200 * i0 + 0x8 * i1, 31, 0⟩
def MAC_PORT_USER_j_HI_USER_j (i0 i1 : Nat) : Fld := ⟨0x0D1014 + 0x200 * i0 + 0x8 * i1, 15, 0⟩
def MAC_PORT_HASH_0_HASH (i0 : Nat) : Fld := ⟨0x0D1040 + 0x200 * i0, 31, 0⟩
def MAC_PORT_HASH_1_HASH (i0 : Nat) : Fld := ⟨0x0D1044 + 0x200 * i0, 31, 0⟩
def MAC_PORT_HASH_2_HASH (i0 : Nat) : Fld := ⟨0x0D1048 + 0x200 * i0, 31, 0⟩
def MAC_PORT_HASH_3_HASH (i0 : Nat) : Fld := ⟨0x0D104C + 0x200 * i0, 31, 0⟩
def MAC_PORT_HASH_4_HASH (i0 : Nat) : Fld := ⟨0x0D1050 + 0x200 * i0, 31, 0⟩
def MAC_PORT_HASH_5_HASH (i0 : Nat) : Fld := ⟨0x0D1054 + 0x200 * i0, 31, 0⟩
def MAC_PORT_HASH_6_HASH (i0 : Nat) : Fld := ⟨0x0D1058 + 0x200 * i0, 31, 0⟩
def MAC_PORT_HASH_7_HASH (i0 : Nat) : Fld := ⟨0x0D105C + 0x200 * i0, 31, 0⟩
def MAC_PORT_HASH_8_HASH (i0 : Nat) : Fld := ⟨0x0D1060 + 0x200 * i0, 31, 0⟩
def MAC_PORT_HASH_9_HASH (i0 : Nat) : Fld := ⟨0x0D1064 + 0x200 * i0, 31, 0⟩
def MAC_PORT_HASH_10_HASH (i0 : Nat) : Fld := ⟨0x0D1068 + 0x200 * i0, 31, 0⟩
def MAC_PORT_HASH_11_HASH (i0 : Nat) : Fld := ⟨0x0D106C + 0x200 * i0, 31, 0⟩
def MAC_PORT_HASH_12_HASH (i0 : Nat) : Fld := ⟨0x0D1070 + 0x200 * i0, 31, 0⟩
def MAC_PORT_HASH_13_HASH (i0 : Nat) : Fld := ⟨0x0D1074 + 0x200 * i0, 31, 0⟩
def MAC_PORT_HASH_14_HASH (i0 : Nat) : Fld := ⟨0x0D1078 + 0x200 * i0, 31, 0⟩
def MAC_PORT_HASH_15_HASH (i0 : Nat) : Fld := ⟨0x0D107C + 0x200 * i0, 31, 0⟩
def MAC_PORT_RX_CORR_RX_CORR (i0 : Nat) : Fld := ⟨0x0D1080 + 0x200 * i0, 31, 0⟩
def MAC_PORT_TX_CORR_TX_CORR (i0 : Nat) : Fld := ⟨0x0D1084 + 0x200 * i0, 31, 0⟩
def MAC_PORT_DLY_UNC_DLY_UNC (i0 : Nat) : Fld := ⟨0x0D1088 + 0x200 * i0, 31, 0⟩
def MAC_PORT_ESMC_CFG_ESMC_EN (i0 : Nat) : Fld := ⟨0x0D1090 + 0x200 * i0, 0, 0⟩
def MAC_PORT_ESMC_CFG_QL_SRC (i0 : Nat) : Fld := ⟨0x0D1090 + 0x200 * i0, 1, 1⟩
def MAC_PORT_ESMC_CFG_EXT (i0 : Nat) : Fld := ⟨0x0D1090 + 0x200 * i0, 2, 2⟩
def MAC_PORT_ESMC_CFG_DNU_EN (i0 : Nat) : Fld := ⟨0x0D1090 + 0x200 * i0, 3, 3⟩
def MAC_PORT_ESMC_CFG_SSM_TX (i0 : Nat) : Fld := ⟨0x0D1090 + 0x200 * i0, 7, 4⟩
def MAC_PORT_ESMC_CFG_ESSM_TX (i0 : Nat) : Fld := ⟨0x0D1090 + 0x200 * i0, 15, 8⟩
def MAC_PORT_ESMC_OSC_SSM (i0 : Nat) : Fld := ⟨0x0D1094 + 0x200 * i0, 3, 0⟩
def MAC_PORT_ESMC_OSC_ESSM (i0 : Nat) : Fld := ⟨0x0D1094 + 0x200 * i0, 15, 8⟩
def MAC_PORT_ESMC_HO_SSM (i0 : Nat) : Fld := ⟨0x0D1098 + 0x200 * i0, 3, 0⟩
def MAC_PORT_ESMC_HO_ESSM (i0 : Nat) : Fld := ⟨0x0D1098 + 0x200 * i0, 15, 8⟩
def MAC_PORT_ESMC_STAT_SSM_SENT (i0 : Nat) : Fld := ⟨0x0D109C + 0x200 * i0, 3, 0⟩
def MAC_PORT_ESMC_STAT_ESSM_SENT (i0 : Nat) : Fld := ⟨0x0D109C + 0x200 * i0, 15, 8⟩
def MAC_PORT_ESMC_STAT_DNU_ACT (i0 : Nat) : Fld := ⟨0x0D109C + 0x200 * i0, 16, 16⟩
def MAC_PORT_TSQ_STAT_LEVEL (i0 : Nat) : Fld := ⟨0x0D10A0 + 0x200 * i0, 9, 0⟩
def MAC_PORT_TSQ_STAT_GAP_PEND (i0 : Nat) : Fld := ⟨0x0D10A0 + 0x200 * i0, 16, 16⟩
def MAC_PORT_TSQ_STAT_UNDERRUN (i0 : Nat) : Fld := ⟨0x0D10A0 + 0x200 * i0, 17, 17⟩
def MAC_PORT_TSQ_W0_TSQ (i0 : Nat) : Fld := ⟨0x0D10A4 + 0x200 * i0, 31, 0⟩
def MAC_PORT_TSQ_W1_TSQ (i0 : Nat) : Fld := ⟨0x0D10A8 + 0x200 * i0, 31, 0⟩
def MAC_PORT_TSQ_W2_TSQ (i0 : Nat) : Fld := ⟨0x0D10AC + 0x200 * i0, 31, 0⟩
def MAC_PORT_RX_FRAMES_RX_FRAMES (i0 : Nat) : Fld := ⟨0x0D10C0 + 0x200 * i0, 31, 0⟩
def MAC_PORT_RX_RUNT_RX_RUNT (i0 : Nat) : Fld := ⟨0x0D10C4 + 0x200 * i0, 31, 0⟩
def MAC_PORT_RX_OVERSIZE_RX_OVERSIZE (i0 : Nat) : Fld := ⟨0x0D10C8 + 0x200 * i0, 31, 0⟩
def MAC_PORT_RX_FCS_RX_FCS (i0 : Nat) : Fld := ⟨0x0D10CC + 0x200 * i0, 31, 0⟩
def MAC_PORT_RX_DA_MISS_RX_DA_MISS (i0 : Nat) : Fld := ⟨0x0D10D0 + 0x200 * i0, 31, 0⟩
def MAC_PORT_RX_NOHOST_RX_NOHOST (i0 : Nat) : Fld := ⟨0x0D10D4 + 0x200 * i0, 31, 0⟩
def MAC_PORT_RX_TRUNC_RX_TRUNC (i0 : Nat) : Fld := ⟨0x0D10D8 + 0x200 * i0, 31, 0⟩
def MAC_PORT_HRX_DROP_HRX_DROP (i0 : Nat) : Fld := ⟨0x0D10DC + 0x200 * i0, 31, 0⟩
def MAC_PORT_TX_FRAMES_TX_FRAMES (i0 : Nat) : Fld := ⟨0x0D10E0 + 0x200 * i0, 31, 0⟩
def MAC_PORT_TX_PAD_TX_PAD (i0 : Nat) : Fld := ⟨0x0D10E4 + 0x200 * i0, 31, 0⟩
def MAC_PORT_TX_DOWN_TX_DOWN (i0 : Nat) : Fld := ⟨0x0D10E8 + 0x200 * i0, 31, 0⟩
def MAC_PORT_TSQ_DROP_TSQ_DROP (i0 : Nat) : Fld := ⟨0x0D10EC + 0x200 * i0, 31, 0⟩
def MAC_PORT_FU_SUPP_FU_SUPP (i0 : Nat) : Fld := ⟨0x0D10F0 + 0x200 * i0, 31, 0⟩
def MAC_PORT_TX_NOTRAILER_TX_NOTRAILER (i0 : Nat) : Fld := ⟨0x0D10F4 + 0x200 * i0, 31, 0⟩
def TSV_CTL_NTP_EN : Fld := ⟨0x0E0000, 0, 0⟩
def TSV_CTL_NTS_EN : Fld := ⟨0x0E0000, 1, 1⟩
def TSV_CTL_PTP_EN : Fld := ⟨0x0E0000, 2, 2⟩
def TSV_CTL_ARP_EN : Fld := ⟨0x0E0000, 3, 3⟩
def TSV_CTL_ND_EN : Fld := ⟨0x0E0000, 4, 4⟩
def TSV_CTL_RATE_EN : Fld := ⟨0x0E0000, 5, 5⟩
def TSV_CTL_RATE_KOD : Fld := ⟨0x0E0000, 6, 6⟩
def TSV_STAT_UNSYNC : Fld := ⟨0x0E0004, 0, 0⟩
def TSV_STAT_UNSYNC_WHY : Fld := ⟨0x0E0004, 4, 1⟩
def TSV_STAT_CUR_SLOT : Fld := ⟨0x0E0004, 10, 8⟩
def TSV_STAT_CUR_VALID : Fld := ⟨0x0E0004, 11, 11⟩
def TSV_STAT_N_SESS : Fld := ⟨0x0E0004, 28, 16⟩
def TSV_EVT_UNSYNC_CHG : Fld := ⟨0x0E0008, 0, 0⟩
def TSV_EVT_CONFLICT : Fld := ⟨0x0E0008, 1, 1⟩
def TSV_EVT_DENY : Fld := ⟨0x0E0008, 2, 2⟩
def TSV_EVT_AUTH_FAIL : Fld := ⟨0x0E0008, 3, 3⟩
def TSV_EVT_NTSN : Fld := ⟨0x0E0008, 4, 4⟩
def TSV_EVT_SESS_TIMEOUT : Fld := ⟨0x0E0008, 5, 5⟩
def TSV_EVT_KEY_EXPIRED : Fld := ⟨0x0E0008, 6, 6⟩
def TSV_EVT_QFULL : Fld := ⟨0x0E0008, 7, 7⟩
def TSV_CUR_KEY_ID_KEY_ID : Fld := ⟨0x0E000C, 31, 0⟩
def TSV_NTP_CFG_STRATUM : Fld := ⟨0x0E0010, 7, 0⟩
def TSV_NTP_CFG_PREC : Fld := ⟨0x0E0010, 15, 8⟩
def TSV_NTP_CFG_HOPLIM : Fld := ⟨0x0E0010, 23, 16⟩
def TSV_NTP_REFID_REFID_OVR : Fld := ⟨0x0E0014, 31, 0⟩
def TSV_SYNC_MAX_SYNC_MAX : Fld := ⟨0x0E0018, 31, 0⟩
def TSV_RATE_CFG_RATE_PPS : Fld := ⟨0x0E001C, 15, 0⟩
def TSV_RATE_CFG_BURST : Fld := ⟨0x0E001C, 23, 16⟩
def TSV_NTS_CFG_CUR_SLOT : Fld := ⟨0x0E0020, 2, 0⟩
def TSV_NTS_CFG_CUR_EN : Fld := ⟨0x0E0020, 3, 3⟩
def TSV_NTS_CFG_MAX_COOKIES : Fld := ⟨0x0E0020, 7, 4⟩
def TSV_NTS_CFG_ERR : Fld := ⟨0x0E0020, 8, 8⟩
def TSV_NTS_KEY_KEY_ID_KEY_ID (i0 : Nat) : Fld := ⟨0x0E0100 + 0x10 * i0, 31, 0⟩
def TSV_NTS_KEY_NOT_AFTER_LO_NOT_AFTER (i0 : Nat) : Fld := ⟨0x0E0104 + 0x10 * i0, 31, 0⟩
def TSV_NTS_KEY_NOT_AFTER_HI_NOT_AFTER (i0 : Nat) : Fld := ⟨0x0E0108 + 0x10 * i0, 15, 0⟩
def TSV_NTS_KEY_STAT_SLOT_STATE (i0 : Nat) : Fld := ⟨0x0E010C + 0x10 * i0, 1, 0⟩
def TSV_NTS_KEY_STAT_KEY_LOADED (i0 : Nat) : Fld := ⟨0x0E010C + 0x10 * i0, 2, 2⟩
def TSV_NTS_KEY_STAT_EN (i0 : Nat) : Fld := ⟨0x0E010C + 0x10 * i0, 3, 3⟩
def TSV_PTP_CFG_PROFILE : Fld := ⟨0x0E0200, 1, 0⟩
def TSV_PTP_CFG_DOMAIN : Fld := ⟨0x0E0200, 15, 8⟩
def TSV_PTP_CFG_PRIORITY1 : Fld := ⟨0x0E0200, 23, 16⟩
def TSV_PTP_CFG_PRIORITY2 : Fld := ⟨0x0E0200, 31, 24⟩
def TSV_CLASS_LOCK_CLASS : Fld := ⟨0x0E0204, 7, 0⟩
def TSV_CLASS_HO_IN_CLASS : Fld := ⟨0x0E0204, 15, 8⟩
def TSV_CLASS_HO_OUT_CLASS : Fld := ⟨0x0E0204, 23, 16⟩
def TSV_CLASS_FREE_CLASS : Fld := ⟨0x0E0204, 31, 24⟩
def TSV_CLASS2_BC_HO_IN : Fld := ⟨0x0E0208, 7, 0⟩
def TSV_CLASS2_BC_HO_OUT : Fld := ⟨0x0E0208, 15, 8⟩
def TSV_PTP_ASYM_UNC_ASYM_UNC : Fld := ⟨0x0E020C, 31, 0⟩
def TSV_UNI_CFG_SESS_BASE : Fld := ⟨0x0E0210, 11, 0⟩
def TSV_UNI_CFG_GRANT_MAX : Fld := ⟨0x0E0210, 25, 16⟩
def TSV_UNI_CFG_SYNC_RATE : Fld := ⟨0x0E0210, 28, 26⟩
def TSV_UNI_CFG_ANN_RATE : Fld := ⟨0x0E0210, 31, 29⟩
def TSV_SESS_IDX_IDX : Fld := ⟨0x0E0220, 11, 0⟩
def TSV_SESS_CMD_READ : Fld := ⟨0x0E0224, 0, 0⟩
def TSV_SESS_CMD_WRITE : Fld := ⟨0x0E0224, 1, 1⟩
def TSV_SESS_CMD_FREE : Fld := ⟨0x0E0224, 2, 2⟩
def TSV_SESS_CMD_BUSY : Fld := ⟨0x0E0224, 8, 8⟩
def TSV_SESS_CMD_ERR : Fld := ⟨0x0E0224, 9, 9⟩
def TSV_SESS_W_ENTRY (i0 : Nat) : Fld := ⟨0x0E0240 + 0x4 * i0, 31, 0⟩
def TSV_PORT_CFG_PTP_EN (i0 : Nat) : Fld := ⟨0x0E1000 + 0x40 * i0, 0, 0⟩
def TSV_PORT_CFG_TRANSPORT (i0 : Nat) : Fld := ⟨0x0E1000 + 0x40 * i0, 2, 1⟩
def TSV_PORT_CFG_MC_ADDR (i0 : Nat) : Fld := ⟨0x0E1000 + 0x40 * i0, 3, 3⟩
def TSV_PORT_CFG_TWO_STEP (i0 : Nat) : Fld := ⟨0x0E1000 + 0x40 * i0, 4, 4⟩
def TSV_PORT_CFG_TB_EN (i0 : Nat) : Fld := ⟨0x0E1000 + 0x40 * i0, 5, 5⟩
def TSV_PORT_CFG_AUTH (i0 : Nat) : Fld := ⟨0x0E1000 + 0x40 * i0, 7, 6⟩
def TSV_PORT_CFG_NOT_SLAVE (i0 : Nat) : Fld := ⟨0x0E1000 + 0x40 * i0, 8, 8⟩
def TSV_PORT_CFG_MC_EN (i0 : Nat) : Fld := ⟨0x0E1000 + 0x40 * i0, 9, 9⟩
def TSV_PORT_CFG_LOCAL_PRIO (i0 : Nat) : Fld := ⟨0x0E1000 + 0x40 * i0, 23, 16⟩
def TSV_PORT_CFG_SPP (i0 : Nat) : Fld := ⟨0x0E1000 + 0x40 * i0, 31, 24⟩
def TSV_PORT_LOG_ANN_LOG (i0 : Nat) : Fld := ⟨0x0E1004 + 0x40 * i0, 7, 0⟩
def TSV_PORT_LOG_SYNC_LOG (i0 : Nat) : Fld := ⟨0x0E1004 + 0x40 * i0, 15, 8⟩
def TSV_PORT_LOG_DREQ_LOG (i0 : Nat) : Fld := ⟨0x0E1004 + 0x40 * i0, 23, 16⟩
def TSV_PORT_MC_SESS_MC_IDX (i0 : Nat) : Fld := ⟨0x0E1008 + 0x40 * i0, 11, 0⟩
def TSV_PORT_MC_SESS_MC_SESS_EN (i0 : Nat) : Fld := ⟨0x0E1008 + 0x40 * i0, 15, 15⟩
def TSV_PORT_STAT_PORT_STATE (i0 : Nat) : Fld := ⟨0x0E100C + 0x40 * i0, 3, 0⟩
def TSV_PORT_STAT_STALE (i0 : Nat) : Fld := ⟨0x0E100C + 0x40 * i0, 4, 4⟩
def TSV_PORT_TX_MSG_TX_MSG (i0 : Nat) : Fld := ⟨0x0E1010 + 0x40 * i0, 31, 0⟩
def TSV_PORT_RX_MSG_RX_MSG (i0 : Nat) : Fld := ⟨0x0E1014 + 0x40 * i0, 31, 0⟩
def TSV_PORT_AUTH_FAIL_AUTH_FAIL (i0 : Nat) : Fld := ⟨0x0E1018 + 0x40 * i0, 31, 0⟩
def TSV_PORT_NOGRANT_NOGRANT (i0 : Nat) : Fld := ⟨0x0E101C + 0x40 * i0, 31, 0⟩
def TSV_PORT_DENY_DENY (i0 : Nat) : Fld := ⟨0x0E1020 + 0x40 * i0, 31, 0⟩
def TSV_PORT_TB_RX_TB_RX (i0 : Nat) : Fld := ⟨0x0E1024 + 0x40 * i0, 31, 0⟩
def TSV_ADDR_IP_W0_IP (i0 : Nat) : Fld := ⟨0x0E2000 + 0x20 * i0, 31, 0⟩
def TSV_ADDR_IP_W1_IP (i0 : Nat) : Fld := ⟨0x0E2004 + 0x20 * i0, 31, 0⟩
def TSV_ADDR_IP_W2_IP (i0 : Nat) : Fld := ⟨0x0E2008 + 0x20 * i0, 31, 0⟩
def TSV_ADDR_IP_W3_IP (i0 : Nat) : Fld := ⟨0x0E200C + 0x20 * i0, 31, 0⟩
def TSV_ADDR_PORTS_PORTS (i0 : Nat) : Fld := ⟨0x0E2010 + 0x20 * i0, 15, 0⟩
def TSV_ADDR_VLAN_VID (i0 : Nat) : Fld := ⟨0x0E2014 + 0x20 * i0, 11, 0⟩
def TSV_ADDR_VLAN_TAGGED (i0 : Nat) : Fld := ⟨0x0E2014 + 0x20 * i0, 12, 12⟩
def TSV_ADDR_SVC_VALID (i0 : Nat) : Fld := ⟨0x0E2018 + 0x20 * i0, 0, 0⟩
def TSV_ADDR_SVC_NTP (i0 : Nat) : Fld := ⟨0x0E2018 + 0x20 * i0, 1, 1⟩
def TSV_ADDR_SVC_NTS (i0 : Nat) : Fld := ⟨0x0E2018 + 0x20 * i0, 2, 2⟩
def TSV_ADDR_SVC_PTP (i0 : Nat) : Fld := ⟨0x0E2018 + 0x20 * i0, 3, 3⟩
def TSV_ADDR_SVC_ARP_ND (i0 : Nat) : Fld := ⟨0x0E2018 + 0x20 * i0, 4, 4⟩
def TSV_ADDR_SVC_DSCP (i0 : Nat) : Fld := ⟨0x0E2018 + 0x20 * i0, 13, 8⟩
def TSV_MAL_LEVEL_LEVEL (i0 : Nat) : Fld := ⟨0x0E3000 + 0x40 * i0, 8, 0⟩
def TSV_MAL_RX_RX (i0 : Nat) : Fld := ⟨0x0E3004 + 0x40 * i0, 31, 0⟩
def TSV_MAL_TX_TX (i0 : Nat) : Fld := ⟨0x0E3008 + 0x40 * i0, 31, 0⟩
def TSV_MAL_QFULL_QFULL (i0 : Nat) : Fld := ⟨0x0E300C + 0x40 * i0, 31, 0⟩
def TSV_MAL_CSUM_CSUM (i0 : Nat) : Fld := ⟨0x0E3010 + 0x40 * i0, 31, 0⟩
def TSV_MAL_MALFORMED_MALFORMED (i0 : Nat) : Fld := ⟨0x0E3014 + 0x40 * i0, 31, 0⟩
def TSV_MAL_RATED_RATED (i0 : Nat) : Fld := ⟨0x0E3018 + 0x40 * i0, 31, 0⟩
def TSV_MAL_NTSN_NTSN (i0 : Nat) : Fld := ⟨0x0E301C + 0x40 * i0, 31, 0⟩
def TSV_MAL_NTS_OK_NTS_OK (i0 : Nat) : Fld := ⟨0x0E3020 + 0x40 * i0, 31, 0⟩
def TSV_MAL_NTP_OK_NTP_OK (i0 : Nat) : Fld := ⟨0x0E3024 + 0x40 * i0, 31, 0⟩
def TSV_MAL_PTP_OK_PTP_OK (i0 : Nat) : Fld := ⟨0x0E3028 + 0x40 * i0, 31, 0⟩
def TSV_MAL_TO_HOST_TO_HOST (i0 : Nat) : Fld := ⟨0x0E302C + 0x40 * i0, 31, 0⟩
def TSV_MAL_NOTSENT_NOTSENT (i0 : Nat) : Fld := ⟨0x0E3030 + 0x40 * i0, 31, 0⟩
def KEY_CTL_TXN_MAX : Fld := ⟨0x0F0000, 15, 0⟩
def KEY_STAT_TXN_STATE : Fld := ⟨0x0F0004, 1, 0⟩
def KEY_STAT_TXN_OWNER : Fld := ⟨0x0F0004, 3, 2⟩
def KEY_STAT_N_STAGED : Fld := ⟨0x0F0004, 8, 4⟩
def KEY_STAT_RNG_OK : Fld := ⟨0x0F0004, 9, 9⟩
def KEY_STAT_RESTORED : Fld := ⟨0x0F0004, 10, 10⟩
def KEY_STAT_RESTORED_PART : Fld := ⟨0x0F0004, 11, 11⟩
def KEY_STAT_ACTIVE_HALF : Fld := ⟨0x0F0004, 12, 12⟩
def KEY_STAT_COMPACTING : Fld := ⟨0x0F0004, 13, 13⟩
def KEY_STAT_N_LIVE : Fld := ⟨0x0F0004, 22, 16⟩
def KEY_EVT_COMMIT_DONE : Fld := ⟨0x0F0008, 0, 0⟩
def KEY_EVT_COMMIT_FAIL : Fld := ⟨0x0F0008, 1, 1⟩
def KEY_EVT_STAGE_ERR : Fld := ⟨0x0F0008, 2, 2⟩
def KEY_EVT_TXN_DISCARD : Fld := ⟨0x0F0008, 3, 3⟩
def KEY_EVT_EXHAUSTED : Fld := ⟨0x0F0008, 4, 4⟩
def KEY_EVT_RNG_DEGRADED : Fld := ⟨0x0F0008, 5, 5⟩
def KEY_EVT_NOKEY : Fld := ⟨0x0F0008, 6, 6⟩
def KEY_EVT_COMPACT : Fld := ⟨0x0F0008, 7, 7⟩
def KEY_CMD_BEGIN : Fld := ⟨0x0F000C, 0, 0⟩
def KEY_CMD_STAGE : Fld := ⟨0x0F000C, 1, 1⟩
def KEY_CMD_COMMIT : Fld := ⟨0x0F000C, 2, 2⟩
def KEY_CMD_ABORT : Fld := ⟨0x0F000C, 3, 3⟩
def KEY_ERR_ERR_CODE : Fld := ⟨0x0F0010, 3, 0⟩
def KEY_ERR_ERR_IDX : Fld := ⟨0x0F0010, 11, 8⟩
def KEY_JNL_SEQ : Fld := ⟨0x0F0014, 31, 0⟩
def KEY_JNL_USE_USED : Fld := ⟨0x0F0018, 15, 0⟩
def KEY_JNL_USE_NOKEY_CNT : Fld := ⟨0x0F0018, 31, 16⟩
def KEY_STG_OP_OP : Fld := ⟨0x0F0100, 2, 0⟩
def KEY_STG_OP_SLOT : Fld := ⟨0x0F0100, 13, 8⟩
def KEY_STG_OP_PARENT : Fld := ⟨0x0F0100, 21, 16⟩
def KEY_STG_ATTR_KIND : Fld := ⟨0x0F0104, 3, 0⟩
def KEY_STG_ATTR_LIFE : Fld := ⟨0x0F0104, 5, 4⟩
def KEY_STG_ATTR_OPS : Fld := ⟨0x0F0104, 11, 6⟩
def KEY_STG_ATTR_PRIV : Fld := ⟨0x0F0104, 13, 12⟩
def KEY_STG_ATTR_SPP : Fld := ⟨0x0F0104, 23, 16⟩
def KEY_STG_ROLE_ROLE_ID : Fld := ⟨0x0F0108, 31, 0⟩
def KEY_STG_USES_USE_MAX : Fld := ⟨0x0F010C, 31, 0⟩
def KEY_STG_DATA_W0_DATA : Fld := ⟨0x0F0120, 31, 0⟩
def KEY_STG_DATA_W1_DATA : Fld := ⟨0x0F0124, 31, 0⟩
def KEY_STG_DATA_W2_DATA : Fld := ⟨0x0F0128, 31, 0⟩
def KEY_STG_DATA_W3_DATA : Fld := ⟨0x0F012C, 31, 0⟩
def KEY_STG_DATA_W4_DATA : Fld := ⟨0x0F0130, 31, 0⟩
def KEY_STG_DATA_W5_DATA : Fld := ⟨0x0F0134, 31, 0⟩
def KEY_STG_DATA_W6_DATA : Fld := ⟨0x0F0138, 31, 0⟩
def KEY_STG_DATA_W7_DATA : Fld := ⟨0x0F013C, 31, 0⟩
def KEY_STG_DATA_W8_DATA : Fld := ⟨0x0F0140, 31, 0⟩
def KEY_STG_DATA_W9_DATA : Fld := ⟨0x0F0144, 31, 0⟩
def KEY_STG_DATA_W10_DATA : Fld := ⟨0x0F0148, 31, 0⟩
def KEY_STG_DATA_W11_DATA : Fld := ⟨0x0F014C, 31, 0⟩
def KEY_SA_CFG_EN (i0 : Nat) : Fld := ⟨0x0F0200 + 0x10 * i0, 0, 0⟩
def KEY_SA_CFG_CF_ZERO (i0 : Nat) : Fld := ⟨0x0F0200 + 0x10 * i0, 1, 1⟩
def KEY_SA_CFG_SPP (i0 : Nat) : Fld := ⟨0x0F0200 + 0x10 * i0, 15, 8⟩
def KEY_SA_TX_KEY_ID_TX_KEY_ID (i0 : Nat) : Fld := ⟨0x0F0204 + 0x10 * i0, 31, 0⟩
def KEY_ATT_CHAL_W0_CHAL : Fld := ⟨0x0F0300, 31, 0⟩
def KEY_ATT_CHAL_W1_CHAL : Fld := ⟨0x0F0304, 31, 0⟩
def KEY_ATT_CHAL_W2_CHAL : Fld := ⟨0x0F0308, 31, 0⟩
def KEY_ATT_CHAL_W3_CHAL : Fld := ⟨0x0F030C, 31, 0⟩
def KEY_ATT_CHAL_W4_CHAL : Fld := ⟨0x0F0310, 31, 0⟩
def KEY_ATT_CHAL_W5_CHAL : Fld := ⟨0x0F0314, 31, 0⟩
def KEY_ATT_CHAL_W6_CHAL : Fld := ⟨0x0F0318, 31, 0⟩
def KEY_ATT_CHAL_W7_CHAL : Fld := ⟨0x0F031C, 31, 0⟩
def KEY_ATT_CMD_GO : Fld := ⟨0x0F0320, 0, 0⟩
def KEY_ATT_STAT_DONE : Fld := ⟨0x0F0324, 0, 0⟩
def KEY_ATT_STAT_BUSY : Fld := ⟨0x0F0324, 1, 1⟩
def KEY_ATT_STAT_NOKEY : Fld := ⟨0x0F0324, 2, 2⟩
def KEY_ATT_STAT_ATT_LC : Fld := ⟨0x0F0324, 15, 8⟩
def KEY_ATT_DIGEST_W0_DIGEST : Fld := ⟨0x0F0328, 31, 0⟩
def KEY_ATT_DIGEST_W1_DIGEST : Fld := ⟨0x0F032C, 31, 0⟩
def KEY_ATT_DIGEST_W2_DIGEST : Fld := ⟨0x0F0330, 31, 0⟩
def KEY_ATT_DIGEST_W3_DIGEST : Fld := ⟨0x0F0334, 31, 0⟩
def KEY_ATT_DIGEST_W4_DIGEST : Fld := ⟨0x0F0338, 31, 0⟩
def KEY_ATT_DIGEST_W5_DIGEST : Fld := ⟨0x0F033C, 31, 0⟩
def KEY_ATT_DIGEST_W6_DIGEST : Fld := ⟨0x0F0340, 31, 0⟩
def KEY_ATT_DIGEST_W7_DIGEST : Fld := ⟨0x0F0344, 31, 0⟩
def KEY_ATT_RESP_W0_RESP : Fld := ⟨0x0F034C, 31, 0⟩
def KEY_ATT_RESP_W1_RESP : Fld := ⟨0x0F0350, 31, 0⟩
def KEY_ATT_RESP_W2_RESP : Fld := ⟨0x0F0354, 31, 0⟩
def KEY_ATT_RESP_W3_RESP : Fld := ⟨0x0F0358, 31, 0⟩
def KEY_ATT_RESP_W4_RESP : Fld := ⟨0x0F035C, 31, 0⟩
def KEY_ATT_RESP_W5_RESP : Fld := ⟨0x0F0360, 31, 0⟩
def KEY_ATT_RESP_W6_RESP : Fld := ⟨0x0F0364, 31, 0⟩
def KEY_ATT_RESP_W7_RESP : Fld := ⟨0x0F0368, 31, 0⟩
def KEY_SLOT_ATTR_STATE (i0 : Nat) : Fld := ⟨0x0F1000 + 0x20 * i0, 2, 0⟩
def KEY_SLOT_ATTR_KIND (i0 : Nat) : Fld := ⟨0x0F1000 + 0x20 * i0, 7, 4⟩
def KEY_SLOT_ATTR_LIFE (i0 : Nat) : Fld := ⟨0x0F1000 + 0x20 * i0, 9, 8⟩
def KEY_SLOT_ATTR_OPS (i0 : Nat) : Fld := ⟨0x0F1000 + 0x20 * i0, 15, 10⟩
def KEY_SLOT_ATTR_PRIV (i0 : Nat) : Fld := ⟨0x0F1000 + 0x20 * i0, 17, 16⟩
def KEY_SLOT_ATTR_DEPTH (i0 : Nat) : Fld := ⟨0x0F1000 + 0x20 * i0, 20, 18⟩
def KEY_SLOT_ATTR_PARENT (i0 : Nat) : Fld := ⟨0x0F1000 + 0x20 * i0, 29, 24⟩
def KEY_SLOT_ROLE_ID_ROLE_ID (i0 : Nat) : Fld := ⟨0x0F1004 + 0x20 * i0, 31, 0⟩
def KEY_SLOT_USES_USES (i0 : Nat) : Fld := ⟨0x0F1008 + 0x20 * i0, 31, 0⟩
def KEY_SLOT_USE_MAX_USE_MAX (i0 : Nat) : Fld := ⟨0x0F100C + 0x20 * i0, 31, 0⟩
def KEY_SLOT_GEN_GEN (i0 : Nat) : Fld := ⟨0x0F1010 + 0x20 * i0, 15, 0⟩
def KEY_SLOT_GEN_PARENT_GEN (i0 : Nat) : Fld := ⟨0x0F1010 + 0x20 * i0, 31, 16⟩
def KEY_SLOT_SPP_SPP (i0 : Nat) : Fld := ⟨0x0F1014 + 0x20 * i0, 7, 0⟩
def KEY_SLOT_FLOOR_FLOOR (i0 : Nat) : Fld := ⟨0x0F1018 + 0x20 * i0, 31, 0⟩
def PRL_EVT_SWITCH : Fld := ⟨0x100000, 7, 0⟩
def PRL_EVT_LOST : Fld := ⟨0x100000, 15, 8⟩
def PRL_EVT_DUPLEX : Fld := ⟨0x100000, 23, 16⟩
def PRL_EVT_UNCAL : Fld := ⟨0x100000, 31, 24⟩
def PRL_EVT2_CAL_DRIFT : Fld := ⟨0x100004, 7, 0⟩
def PRL_EVT2_MISWIRE : Fld := ⟨0x100004, 15, 8⟩
def PRL_EVT2_MSG_DROP : Fld := ⟨0x100004, 23, 16⟩
def PRL_CFG_TOLL_PER : Fld := ⟨0x100010, 7, 0⟩
def PRL_CFG_TOLL_MISS : Fld := ⟨0x100010, 11, 8⟩
def PRL_CFG_SYNC_N : Fld := ⟨0x100010, 23, 16⟩
def PRL_CAL_CFG_CAL_EXP : Fld := ⟨0x100014, 4, 0⟩
def PRL_CAL_CFG_KCAL : Fld := ⟨0x100014, 11, 8⟩
def PRL_CAL_CFG_CAL_DEV : Fld := ⟨0x100014, 31, 16⟩
def PRL_CAL_CFG2_DEV_CNT : Fld := ⟨0x100018, 15, 0⟩
def PRL_CAL_CFG2_CAL_MIN : Fld := ⟨0x100018, 31, 16⟩
def PRL_PP_CTL_EN (i0 : Nat) : Fld := ⟨0x101000 + 0x100 * i0, 0, 0⟩
def PRL_PP_CTL_SINGLE (i0 : Nat) : Fld := ⟨0x101000 + 0x100 * i0, 1, 1⟩
def PRL_PP_CTL_SWITCH (i0 : Nat) : Fld := ⟨0x101000 + 0x100 * i0, 2, 2⟩
def PRL_PP_CTL_DECL_VALID_0 (i0 : Nat) : Fld := ⟨0x101000 + 0x100 * i0, 4, 4⟩
def PRL_PP_CTL_DECL_VALID_1 (i0 : Nat) : Fld := ⟨0x101000 + 0x100 * i0, 5, 5⟩
def PRL_PP_STAT_PAIR_STATE (i0 : Nat) : Fld := ⟨0x101004 + 0x100 * i0, 1, 0⟩
def PRL_PP_STAT_ACT_HALF (i0 : Nat) : Fld := ⟨0x101004 + 0x100 * i0, 2, 2⟩
def PRL_PP_STAT_CFG_ERR (i0 : Nat) : Fld := ⟨0x101004 + 0x100 * i0, 3, 3⟩
def PRL_PP_STAT_STATE_0 (i0 : Nat) : Fld := ⟨0x101004 + 0x100 * i0, 6, 4⟩
def PRL_PP_STAT_STATE_1 (i0 : Nat) : Fld := ⟨0x101004 + 0x100 * i0, 10, 8⟩
def PRL_PP_STAT_SW_CAUSE (i0 : Nat) : Fld := ⟨0x101004 + 0x100 * i0, 14, 12⟩
def PRL_PP_PARTNER_NODE_ID (i0 : Nat) : Fld := ⟨0x101008 + 0x100 * i0, 15, 0⟩
def PRL_PP_PARTNER_PAIR (i0 : Nat) : Fld := ⟨0x101008 + 0x100 * i0, 18, 16⟩
def PRL_PP_COUNTS_SW_CNT (i0 : Nat) : Fld := ⟨0x10100C + 0x100 * i0, 15, 0⟩
def PRL_PP_COUNTS_LOST_CNT (i0 : Nat) : Fld := ⟨0x10100C + 0x100 * i0, 31, 16⟩
def PRL_PP_X_LO_X (i0 : Nat) : Fld := ⟨0x101010 + 0x100 * i0, 31, 0⟩
def PRL_PP_X_HI_X (i0 : Nat) : Fld := ⟨0x101014 + 0x100 * i0, 15, 0⟩
def PRL_PP_UPS_W0_BOUND (i0 : Nat) : Fld := ⟨0x101018 + 0x100 * i0, 31, 0⟩
def PRL_PP_UPS_W1_BOUND (i0 : Nat) : Fld := ⟨0x10101C + 0x100 * i0, 31, 0⟩
def PRL_PP_UPS_W2_BOUND (i0 : Nat) : Fld := ⟨0x101020 + 0x100 * i0, 31, 0⟩
def PRL_PP_UPS_W3_BOUND (i0 : Nat) : Fld := ⟨0x101024 + 0x100 * i0, 31, 0⟩
def PRL_PP_UPS_TRACE_KIND (i0 : Nat) : Fld := ⟨0x101028 + 0x100 * i0, 2, 0⟩
def PRL_PP_UPS_TRACE_BASIS (i0 : Nat) : Fld := ⟨0x101028 + 0x100 * i0, 5, 4⟩
def PRL_PP_UPS_TRACE_TGT_EXC (i0 : Nat) : Fld := ⟨0x101028 + 0x100 * i0, 6, 6⟩
def PRL_PP_UPS_TRACE_ID (i0 : Nat) : Fld := ⟨0x101028 + 0x100 * i0, 23, 8⟩
def PRL_PP_UPS_TRACE_HOPS (i0 : Nat) : Fld := ⟨0x101028 + 0x100 * i0, 31, 24⟩
def PRL_PP_UPS_INFO_TRACE_SEQ (i0 : Nat) : Fld := ⟨0x10102C + 0x100 * i0, 15, 0⟩
def PRL_PP_UPS_INFO_CLASS (i0 : Nat) : Fld := ⟨0x10102C + 0x100 * i0, 23, 16⟩
def PRL_PP_UPS_INFO_ACC (i0 : Nat) : Fld := ⟨0x10102C + 0x100 * i0, 31, 24⟩
def PRL_PP_UPS_UTC_UTC_OFS (i0 : Nat) : Fld := ⟨0x101030 + 0x100 * i0, 15, 0⟩
def PRL_PP_UPS_UTC_LEAP (i0 : Nat) : Fld := ⟨0x101030 + 0x100 * i0, 17, 16⟩
def PRL_PP_UPS_UTC_UTC_VALID (i0 : Nat) : Fld := ⟨0x101030 + 0x100 * i0, 18, 18⟩
def PRL_PP_UPS_AGE_AGE (i0 : Nat) : Fld := ⟨0x101034 + 0x100 * i0, 31, 0⟩
def PRL_PP_ASYM_ASYM (i0 : Nat) : Fld := ⟨0x101038 + 0x100 * i0, 31, 0⟩
def PRL_PP_HOP_HOP (i0 : Nat) : Fld := ⟨0x10103C + 0x100 * i0, 31, 0⟩
def PRL_PP_MSGCNT_DUP_CNT (i0 : Nat) : Fld := ⟨0x101040 + 0x100 * i0, 15, 0⟩
def PRL_PP_MSGCNT_STALE_CNT (i0 : Nat) : Fld := ⟨0x101040 + 0x100 * i0, 31, 16⟩
def PRL_PP_MSGCNT2_MSG_DROP (i0 : Nat) : Fld := ⟨0x101044 + 0x100 * i0, 15, 0⟩
def PRL_PP_MSGCNT2_FRAG_ERR (i0 : Nat) : Fld := ⟨0x101044 + 0x100 * i0, 31, 16⟩
def PRL_PP_PATH_PSTAT_STATE (i0 i1 : Nat) : Fld := ⟨0x101080 + 0x100 * i0 + 0x40 * i1, 2, 0⟩
def PRL_PP_PATH_PSTAT_DOWN_WHY (i0 i1 : Nat) : Fld := ⟨0x101080 + 0x100 * i0 + 0x40 * i1, 6, 4⟩
def PRL_PP_PATH_PSTAT_COR_SRC (i0 i1 : Nat) : Fld := ⟨0x101080 + 0x100 * i0 + 0x40 * i1, 7, 7⟩
def PRL_PP_PATH_PSTAT_P_HALF (i0 i1 : Nat) : Fld := ⟨0x101080 + 0x100 * i0 + 0x40 * i1, 8, 8⟩
def PRL_PP_PATH_PSTAT_BLOCK_N (i0 i1 : Nat) : Fld := ⟨0x101080 + 0x100 * i0 + 0x40 * i1, 31, 16⟩
def PRL_PP_PATH_ASYM_DECL_ASYM_DECL (i0 i1 : Nat) : Fld := ⟨0x101084 + 0x100 * i0 + 0x40 * i1, 31, 0⟩
def PRL_PP_PATH_ASYM_UNC_ASYM_UNC (i0 i1 : Nat) : Fld := ⟨0x101088 + 0x100 * i0 + 0x40 * i1, 31, 0⟩
def PRL_PP_PATH_COR_COR (i0 i1 : Nat) : Fld := ⟨0x10108C + 0x100 * i0 + 0x40 * i1, 31, 0⟩
def PRL_PP_PATH_COR_UNC_COR_UNC (i0 i1 : Nat) : Fld := ⟨0x101090 + 0x100 * i0 + 0x40 * i1, 31, 0⟩
def PRL_PP_PATH_DELAY_DELAY (i0 i1 : Nat) : Fld := ⟨0x101094 + 0x100 * i0 + 0x40 * i1, 31, 0⟩
def PRL_PP_PATH_THETA_THETA (i0 i1 : Nat) : Fld := ⟨0x101098 + 0x100 * i0 + 0x40 * i1, 31, 0⟩
def PRL_PP_PATH_SDEV_SDEV (i0 i1 : Nat) : Fld := ⟨0x10109C + 0x100 * i0 + 0x40 * i1, 31, 0⟩
def PRL_PP_PATH_HOP_FAC_OWN (i0 i1 : Nat) : Fld := ⟨0x1010A0 + 0x100 * i0 + 0x40 * i1, 15, 0⟩
def PRL_PP_PATH_HOP_FAC_PARTNER (i0 i1 : Nat) : Fld := ⟨0x1010A0 + 0x100 * i0 + 0x40 * i1, 31, 16⟩
def PRL_PP_PATH_CNT_CRC_ERR (i0 i1 : Nat) : Fld := ⟨0x1010A4 + 0x100 * i0 + 0x40 * i1, 15, 0⟩
def PRL_PP_PATH_CNT_TOLL_DOWN (i0 i1 : Nat) : Fld := ⟨0x1010A4 + 0x100 * i0 + 0x40 * i1, 31, 16⟩
def DOM_ID_NODE_ID : Fld := ⟨0x110000, 15, 0⟩
def DOM_ID_DOMAIN : Fld := ⟨0x110000, 31, 16⟩
def DOM_CFG_EN : Fld := ⟨0x110004, 0, 0⟩
def DOM_CFG_LEAD_EN : Fld := ⟨0x110004, 1, 1⟩
def DOM_CFG_RELAY_EN : Fld := ⟨0x110004, 2, 2⟩
def DOM_CFG_PRIO1 : Fld := ⟨0x110004, 15, 8⟩
def DOM_CFG_PRIO2 : Fld := ⟨0x110004, 23, 16⟩
def DOM_CFG_CAND_FREE : Fld := ⟨0x110004, 31, 24⟩
def DOM_CFG2_OSC_VAR : Fld := ⟨0x110008, 15, 0⟩
def DOM_CFG2_LEAD_TMO : Fld := ⟨0x110008, 23, 16⟩
def DOM_CFG2_HOPS_MAX : Fld := ⟨0x110008, 31, 24⟩
def DOM_CFG3_FAULT_TTL : Fld := ⟨0x11000C, 7, 0⟩
def DOM_CFG3_RELAY_HOLD : Fld := ⟨0x11000C, 15, 8⟩
def DOM_MGROW_MGROW : Fld := ⟨0x110010, 31, 0⟩
def DOM_STAT_STATE : Fld := ⟨0x110014, 1, 0⟩
def DOM_STAT_EPOCH_HELD : Fld := ⟨0x110014, 2, 2⟩
def DOM_STAT_PART_ACT : Fld := ⟨0x110014, 3, 3⟩
def DOM_STAT_NOEXT : Fld := ⟨0x110014, 4, 4⟩
def DOM_STAT_STALE : Fld := ⟨0x110014, 5, 5⟩
def DOM_STAT_STEPS : Fld := ⟨0x110014, 15, 8⟩
def DOM_STAT_PARENT : Fld := ⟨0x110014, 18, 16⟩
def DOM_STAT_PARENT_VALID : Fld := ⟨0x110014, 19, 19⟩
def DOM_LEADER_LEADER : Fld := ⟨0x110018, 15, 0⟩
def DOM_LEADER_ROOT : Fld := ⟨0x110018, 31, 16⟩
def DOM_EPOCH_PEPOCH : Fld := ⟨0x11001C, 15, 0⟩
def DOM_EPOCH_P_ROOT : Fld := ⟨0x11001C, 31, 16⟩
def DOM_EPOCH_RAW_LO_RAW : Fld := ⟨0x110020, 31, 0⟩
def DOM_EPOCH_RAW_HI_RAW : Fld := ⟨0x110024, 15, 0⟩
def DOM_U_L_U_L : Fld := ⟨0x110028, 31, 0⟩
def DOM_MOFS_LO_M_OFS : Fld := ⟨0x11002C, 31, 0⟩
def DOM_MOFS_HI_M_OFS : Fld := ⟨0x110030, 15, 0⟩
def DOM_LSEQ_LSEQ : Fld := ⟨0x110034, 31, 0⟩
def DOM_EVT_LEADER_CHG : Fld := ⟨0x110038, 0, 0⟩
def DOM_EVT_LEADER_LOST : Fld := ⟨0x110038, 1, 1⟩
def DOM_EVT_BECAME_LEADER : Fld := ⟨0x110038, 2, 2⟩
def DOM_EVT_MERGE_DONE : Fld := ⟨0x110038, 3, 3⟩
def DOM_EVT_ROLE_CHG : Fld := ⟨0x110038, 4, 4⟩
def DOM_EVT_HOPS_OVER : Fld := ⟨0x110038, 5, 5⟩
def DOM_EVT_DUP_ID : Fld := ⟨0x110038, 6, 6⟩
def DOM_EVT_FOREIGN : Fld := ⟨0x110038, 7, 7⟩
def DOM_EVT_RELAY_FULL : Fld := ⟨0x110038, 8, 8⟩
def DOM_RELAY_CNT_RELAYED : Fld := ⟨0x11003C, 7, 0⟩
def DOM_RELAY_CNT_SUPPRESSED : Fld := ⟨0x11003C, 15, 8⟩
def DOM_RELAY_CNT_DUP : Fld := ⟨0x11003C, 23, 16⟩
def DOM_RELAY_CNT_TTL_END : Fld := ⟨0x11003C, 31, 24⟩
def DOM_PP_ROLE_ROLE (i0 : Nat) : Fld := ⟨0x111000 + 0x40 * i0, 1, 0⟩
def DOM_PP_ROLE_USABLE (i0 : Nat) : Fld := ⟨0x111000 + 0x40 * i0, 2, 2⟩
def DOM_PP_ROLE_SPLIT (i0 : Nat) : Fld := ⟨0x111000 + 0x40 * i0, 3, 3⟩
def DOM_PP_ROLE_P_STEPS (i0 : Nat) : Fld := ⟨0x111000 + 0x40 * i0, 15, 8⟩
def DOM_PP_ROLE_CLASS_MON (i0 : Nat) : Fld := ⟨0x111000 + 0x40 * i0, 23, 16⟩
def DOM_PP_P_LEADER_LEADER (i0 : Nat) : Fld := ⟨0x111004 + 0x40 * i0, 15, 0⟩
def DOM_PP_P_LEADER_ROOT (i0 : Nat) : Fld := ⟨0x111004 + 0x40 * i0, 31, 16⟩
def DOM_PP_P_LSEQ_LSEQ (i0 : Nat) : Fld := ⟨0x111008 + 0x40 * i0, 31, 0⟩
def DOM_PP_P_FLAGS_FLAGS (i0 : Nat) : Fld := ⟨0x11100C + 0x40 * i0, 7, 0⟩
def DOM_PP_P_MOFS_LO_MOFS (i0 : Nat) : Fld := ⟨0x111010 + 0x40 * i0, 31, 0⟩
def DOM_PP_P_MOFS_HI_MOFS (i0 : Nat) : Fld := ⟨0x111014 + 0x40 * i0, 15, 0⟩
def DOM_PP_P_U_L_U_L (i0 : Nat) : Fld := ⟨0x111018 + 0x40 * i0, 31, 0⟩
def DOM_PP_P_AGE_AGE (i0 : Nat) : Fld := ⟨0x11101C + 0x40 * i0, 31, 0⟩
def FLT_CTL_DEDUP_AGE : Fld := ⟨0x120000, 7, 0⟩
def FLT_CTL_ERRN_MIN : Fld := ⟨0x120000, 15, 8⟩
def FLT_STAT_N_LATCHED : Fld := ⟨0x120004, 8, 0⟩
def FLT_STAT_ERR_N_ACT : Fld := ⟨0x120004, 9, 9⟩
def FLT_STAT_DEDUP_USED : Fld := ⟨0x120004, 24, 16⟩
def FLT_EVT_CONSEQ : Fld := ⟨0x120008, 0, 0⟩
def FLT_EVT_ESCALATED : Fld := ⟨0x120008, 1, 1⟩
def FLT_EVT_DEDUP_FULL : Fld := ⟨0x120008, 2, 2⟩
def FLT_EVT_CLEARED : Fld := ⟨0x120008, 3, 3⟩
def FLT_EVT_TRAP_LOST : Fld := ⟨0x120008, 4, 4⟩
def FLT_TEMP_TJ_HI : Fld := ⟨0x12000C, 15, 0⟩
def FLT_TEMP_TJ_LO : Fld := ⟨0x12000C, 31, 16⟩
def FLT_CLR_SRC : Fld := ⟨0x120010, 8, 0⟩
def FLT_CLR_GO : Fld := ⟨0x120010, 31, 31⟩
def FLT_CLR_STAT_RESULT : Fld := ⟨0x120014, 2, 0⟩
def FLT_COUNTS_CONSEQ_CNT : Fld := ⟨0x120018, 15, 0⟩
def FLT_COUNTS_ESC_CNT : Fld := ⟨0x120018, 31, 16⟩
def FLT_LATCH_LATCHED (i0 : Nat) : Fld := ⟨0x120100 + 0x4 * i0, 31, 0⟩
def FLT_HIT_HIT (i0 : Nat) : Fld := ⟨0x120140 + 0x4 * i0, 31, 0⟩
def FLT_ESC_ESC (i0 : Nat) : Fld := ⟨0x120180 + 0x4 * i0, 31, 0⟩
def FLT_DD_IDX_IDX : Fld := ⟨0x120200, 7, 0⟩
def FLT_DD_W0_SUBJECT : Fld := ⟨0x120204, 15, 0⟩
def FLT_DD_W0_CODE : Fld := ⟨0x120204, 24, 16⟩
def FLT_DD_W0_VALID : Fld := ⟨0x120204, 31, 31⟩
def FLT_DD_W1_WIT : Fld := ⟨0x120208, 15, 0⟩
def FLT_DD_W2_AGE : Fld := ⟨0x12020C, 31, 0⟩
def FLT_SRC_REACT (i0 : Nat) : Fld := ⟨0x121000 + 0x4 * i0, 2, 0⟩
def FLT_SRC_KIND (i0 : Nat) : Fld := ⟨0x121000 + 0x4 * i0, 5, 4⟩
def FLT_SRC_LATCHED (i0 : Nat) : Fld := ⟨0x121000 + 0x4 * i0, 6, 6⟩
def FLT_SRC_ESCALATED (i0 : Nat) : Fld := ⟨0x121000 + 0x4 * i0, 7, 7⟩
def FLT_SRC_RAISE_CNT (i0 : Nat) : Fld := ⟨0x121000 + 0x4 * i0, 15, 8⟩
def REC_CTL_TEST_PH : Fld := ⟨0x130000, 0, 0⟩
def REC_CTL_FLUSH : Fld := ⟨0x130000, 1, 1⟩
def REC_CTL_ERASE_FIXED : Fld := ⟨0x130000, 2, 2⟩
def REC_CTL_ERASE_ROLL : Fld := ⟨0x130000, 3, 3⟩
def REC_CTL_TRIG : Fld := ⟨0x130000, 4, 4⟩
def REC_CTL_FLUSH_LVL : Fld := ⟨0x130000, 15, 8⟩
def REC_CTL_RECOV : Fld := ⟨0x130000, 31, 16⟩
def REC_STAT_PHASE : Fld := ⟨0x130004, 1, 0⟩
def REC_STAT_FLUSHING : Fld := ⟨0x130004, 2, 2⟩
def REC_STAT_FIXED_FULL : Fld := ⟨0x130004, 3, 3⟩
def REC_STAT_RESTORED : Fld := ⟨0x130004, 4, 4⟩
def REC_STAT_SRAM_LVL : Fld := ⟨0x130004, 14, 8⟩
def REC_EVT_FLUSH_DONE : Fld := ⟨0x130008, 0, 0⟩
def REC_EVT_FIXED_FULL : Fld := ⟨0x130008, 1, 1⟩
def REC_EVT_SRAM_DROP : Fld := ⟨0x130008, 2, 2⟩
def REC_EVT_ROLL_ERASE : Fld := ⟨0x130008, 3, 3⟩
def REC_SEQ_SEQ : Fld := ⟨0x13000C, 31, 0⟩
def REC_USE_FIXED_USED : Fld := ⟨0x130010, 15, 0⟩
def REC_USE_ROLL_USED : Fld := ⟨0x130010, 31, 16⟩
def REC_LOST_SRAM_LOST : Fld := ⟨0x130014, 15, 0⟩
def REC_LOST_FIXED_LOST : Fld := ⟨0x130014, 31, 16⟩
def REC_CODE_IDX_CODE : Fld := ⟨0x130020, 8, 0⟩
def REC_CODE_CFG_SEV : Fld := ⟨0x130024, 1, 0⟩
def REC_CODE_CFG_SET : Fld := ⟨0x130024, 4, 2⟩
def REC_CODE_CFG_SNAP_EN : Fld := ⟨0x130024, 5, 5⟩
def REC_CODE_CFG_RL_WIN : Fld := ⟨0x130024, 7, 6⟩
def REC_CODE_CFG_RL_N : Fld := ⟨0x130024, 15, 8⟩
def REC_RD_CTL_AREA : Fld := ⟨0x130040, 1, 0⟩
def REC_RD_CTL_GO : Fld := ⟨0x130040, 2, 2⟩
def REC_RD_SEQ_SEQ : Fld := ⟨0x130044, 31, 0⟩
def REC_RD_STAT_DONE : Fld := ⟨0x130048, 0, 0⟩
def REC_RD_STAT_FOUND : Fld := ⟨0x130048, 1, 1⟩
def REC_RD_STAT_LEN : Fld := ⟨0x130048, 11, 8⟩
def REC_SET_ADDR (i0 i1 : Nat) : Fld := ⟨0x130100 + 0x20 * i0 + 0x4 * i1, 23, 0⟩
def REC_SET_CNT (i0 i1 : Nat) : Fld := ⟨0x130100 + 0x20 * i0 + 0x4 * i1, 26, 24⟩
def REC_SET_EN (i0 i1 : Nat) : Fld := ⟨0x130100 + 0x20 * i0 + 0x4 * i1, 31, 31⟩
def REC_RD_DATA_W_DATA (i0 : Nat) : Fld := ⟨0x130200 + 0x4 * i0, 31, 0⟩
def IRQ_PEND_PEND (i0 : Nat) : Fld := ⟨0x140000 + 0x4 * i0, 31, 0⟩
def IRQ_TGT_CLAIM_ID (i0 : Nat) : Fld := ⟨0x140100 + 0x20 * i0, 7, 0⟩
def IRQ_TGT_COMPLETE_ID (i0 : Nat) : Fld := ⟨0x140104 + 0x20 * i0, 7, 0⟩
def IRQ_TGT_CFG_COAL_CNT (i0 : Nat) : Fld := ⟨0x140108 + 0x20 * i0, 7, 0⟩
def IRQ_TGT_CFG_SLEEP (i0 : Nat) : Fld := ⟨0x140108 + 0x20 * i0, 8, 8⟩
def IRQ_TGT_CFG_DRIVE (i0 : Nat) : Fld := ⟨0x140108 + 0x20 * i0, 9, 9⟩
def IRQ_TGT_CFG_COAL_TIME (i0 : Nat) : Fld := ⟨0x140108 + 0x20 * i0, 31, 16⟩
def IRQ_TGT_SLEEP_LAT_SLEEP_LAT (i0 : Nat) : Fld := ⟨0x14010C + 0x20 * i0, 15, 0⟩
def IRQ_TGT_STAT_STATE (i0 : Nat) : Fld := ⟨0x140110 + 0x20 * i0, 1, 0⟩
def IRQ_TGT_STAT_CPL_ERR (i0 : Nat) : Fld := ⟨0x140110 + 0x20 * i0, 2, 2⟩
def IRQ_TGT_STAT_ACTIVE_ID (i0 : Nat) : Fld := ⟨0x140110 + 0x20 * i0, 15, 8⟩
def IRQ_TGT_STAT_COUNT (i0 : Nat) : Fld := ⟨0x140110 + 0x20 * i0, 23, 16⟩
def IRQ_TGT_COUNTS_DELIV_CNT (i0 : Nat) : Fld := ⟨0x140114 + 0x20 * i0, 15, 0⟩
def IRQ_TGT_COUNTS_SPUR_CNT (i0 : Nat) : Fld := ⟨0x140114 + 0x20 * i0, 31, 16⟩
def IRQ_SRC_EN (i0 : Nat) : Fld := ⟨0x141000 + 0x4 * i0, 0, 0⟩
def IRQ_SRC_TARGET (i0 : Nat) : Fld := ⟨0x141000 + 0x4 * i0, 3, 1⟩
def IRQ_SRC_FB_EN (i0 : Nat) : Fld := ⟨0x141000 + 0x4 * i0, 4, 4⟩
def IRQ_SRC_FB (i0 : Nat) : Fld := ⟨0x141000 + 0x4 * i0, 7, 5⟩
def IRQ_SRC_WDRAW (i0 : Nat) : Fld := ⟨0x141000 + 0x4 * i0, 8, 8⟩
def IRQ_SRC_PEND (i0 : Nat) : Fld := ⟨0x141000 + 0x4 * i0, 9, 9⟩
def IRQ_SRC_ACT (i0 : Nat) : Fld := ⟨0x141000 + 0x4 * i0, 10, 10⟩
def IRQ_SRC_REDIR (i0 : Nat) : Fld := ⟨0x141000 + 0x4 * i0, 11, 11⟩
def PMC_CTL_TAG_K : Fld := ⟨0x150000, 4, 0⟩
def PMC_CTL_TAG_MODE : Fld := ⟨0x150000, 5, 5⟩
def PMC_CTL_TAG_FILT : Fld := ⟨0x150000, 7, 6⟩
def PMC_CTL_TAG_FILT_EN : Fld := ⟨0x150000, 8, 8⟩
def PMC_CTL_SNAP : Fld := ⟨0x150000, 31, 31⟩
def PMC_PERM_GROUP : Fld := ⟨0x150004, 15, 0⟩
def PMC_PERM_TAG : Fld := ⟨0x150004, 16, 16⟩
def PMC_STAT_SNAP_DONE : Fld := ⟨0x150008, 0, 0⟩
def PMC_STAT_TAG_LEVEL : Fld := ⟨0x150008, 24, 16⟩
def PMC_EVT_OVF : Fld := ⟨0x15000C, 0, 0⟩
def PMC_EVT_TAG_FULL : Fld := ⟨0x15000C, 1, 1⟩
def PMC_TAG_LOST_TAG_LOST : Fld := ⟨0x150010, 31, 0⟩
def PMC_OVF_OVF (i0 : Nat) : Fld := ⟨0x150100 + 0x4 * i0, 31, 0⟩
def PMC_FILT_CTL_PRIV (i0 : Nat) : Fld := ⟨0x150200 + 0x20 * i0, 1, 0⟩
def PMC_FILT_CTL_TC (i0 : Nat) : Fld := ⟨0x150200 + 0x20 * i0, 15, 8⟩
def PMC_FILT_CTL_MASTER (i0 : Nat) : Fld := ⟨0x150200 + 0x20 * i0, 21, 16⟩
def PMC_FILT_PORTS_PORTS (i0 : Nat) : Fld := ⟨0x150204 + 0x20 * i0, 15, 0⟩
def PMC_FILT_ADDR_LO_ADDR_LO (i0 : Nat) : Fld := ⟨0x150208 + 0x20 * i0, 23, 0⟩
def PMC_FILT_ADDR_HI_ADDR_HI (i0 : Nat) : Fld := ⟨0x15020C + 0x20 * i0, 23, 0⟩
def PMC_TAG_W_TAG (i0 : Nat) : Fld := ⟨0x150300 + 0x4 * i0, 31, 0⟩
def PMC_CNT_CNT (i0 : Nat) : Fld := ⟨0x151000 + 0x4 * i0, 31, 0⟩
def PMC_SNAP_SNAP (i0 : Nat) : Fld := ⟨0x152000 + 0x4 * i0, 31, 0⟩
def PMC_CCFG_CHAIN (i0 : Nat) : Fld := ⟨0x153000 + 0x4 * i0, 0, 0⟩
def PMC_CCFG_FILT_EN (i0 : Nat) : Fld := ⟨0x153000 + 0x4 * i0, 1, 1⟩
def PMC_CCFG_FILT (i0 : Nat) : Fld := ⟨0x153000 + 0x4 * i0, 3, 2⟩
def CFG_STAT_STATE : Fld := ⟨0x160000, 2, 0⟩
def CFG_STAT_SLOT : Fld := ⟨0x160000, 3, 3⟩
def CFG_STAT_UNSIGNED : Fld := ⟨0x160000, 4, 4⟩
def CFG_STAT_LOCKED : Fld := ⟨0x160000, 5, 5⟩
def CFG_STAT_REJ_A : Fld := ⟨0x160000, 11, 8⟩
def CFG_STAT_REJ_B : Fld := ⟨0x160000, 15, 12⟩
def CFG_EVT_APPLIED : Fld := ⟨0x160004, 0, 0⟩
def CFG_EVT_SLOT_REJ : Fld := ⟨0x160004, 1, 1⟩
def CFG_EVT_FAILSAFE : Fld := ⟨0x160004, 2, 2⟩
def CFG_EVT_STORE_DONE : Fld := ⟨0x160004, 3, 3⟩
def CFG_EVT_STORE_FAIL : Fld := ⟨0x160004, 4, 4⟩
def CFG_EVT_COPY_DISCARD : Fld := ⟨0x160004, 5, 5⟩
def CFG_EVT_LOCK : Fld := ⟨0x160004, 6, 6⟩
def CFG_PREV_P_SLOT : Fld := ⟨0x160008, 0, 0⟩
def CFG_PREV_P_STARTS : Fld := ⟨0x160008, 31, 16⟩
def CFG_IMG_SEQ_IMG_SEQ : Fld := ⟨0x16000C, 31, 0⟩
def CFG_MIN_SEQ_MIN_SEQ : Fld := ⟨0x160010, 31, 0⟩
def CFG_CMD_LOCK : Fld := ⟨0x160014, 0, 0⟩
def CFG_CMD_STORE : Fld := ⟨0x160014, 1, 1⟩
def CFG_CMD_SET : Fld := ⟨0x160014, 6, 4⟩
def CFG_NVM_STAT_NVM_STATE : Fld := ⟨0x160018, 1, 0⟩
def CFG_NVM_STAT_CUR : Fld := ⟨0x160018, 3, 2⟩
def CFG_NVM_STAT_PEND : Fld := ⟨0x160018, 6, 4⟩
def CFG_NVM_STAT_FAIL_WHY : Fld := ⟨0x160018, 9, 8⟩
def CFG_NVM_STAT_STORE_CNT : Fld := ⟨0x160018, 31, 16⟩
def CFG_NVM_CFG_NVM_TMO : Fld := ⟨0x16001C, 15, 0⟩
def CFG_NVM_CFG_LEARN_HRS : Fld := ⟨0x16001C, 23, 16⟩
def CFG_NVM_CFG_ON_FULL : Fld := ⟨0x16001C, 24, 24⟩
def CFG_STORE_SEQ_SEQ (i0 : Nat) : Fld := ⟨0x160020 + 0x4 * i0, 31, 0⟩
def CFG_DIGEST_W_DIGEST (i0 : Nat) : Fld := ⟨0x160040 + 0x4 * i0, 31, 0⟩
def CFG_OVL_CTL_N : Fld := ⟨0x160060, 12, 0⟩
def CFG_OVL_CTL_APPEND : Fld := ⟨0x160060, 16, 16⟩
def CFG_OVL_CTL_CLEAR : Fld := ⟨0x160060, 17, 17⟩
def CFG_OVL_ADDR_ADDR : Fld := ⟨0x160064, 23, 0⟩
def CFG_OVL_DATA_VALUE : Fld := ⟨0x160068, 31, 0⟩
def CFG_OVL_RES_APPLIED : Fld := ⟨0x16006C, 12, 0⟩
def CFG_OVL_RES_OVL_ERR : Fld := ⟨0x16006C, 28, 16⟩
def CFG_IK_W0_HASH : Fld := ⟨0x160080, 31, 0⟩
def CFG_IK_W1_HASH : Fld := ⟨0x160084, 31, 0⟩
def CFG_IK_W2_HASH : Fld := ⟨0x160088, 31, 0⟩
def CFG_IK_W3_HASH : Fld := ⟨0x16008C, 31, 0⟩
def CFG_IK_W4_HASH : Fld := ⟨0x160090, 31, 0⟩
def CFG_IK_W5_HASH : Fld := ⟨0x160094, 31, 0⟩
def CFG_IK_W6_HASH : Fld := ⟨0x160098, 31, 0⟩
def CFG_IK_W7_HASH : Fld := ⟨0x16009C, 31, 0⟩
def CFG_IK_CMD_IDX : Fld := ⟨0x1600A0, 1, 0⟩
def CFG_IK_CMD_ENROLL : Fld := ⟨0x1600A0, 2, 2⟩
def CFG_IK_CMD_REVOKE : Fld := ⟨0x1600A0, 3, 3⟩
def CFG_IK_STAT_ENROLLED : Fld := ⟨0x1600A4, 3, 0⟩
def CFG_IK_STAT_REVOKED : Fld := ⟨0x1600A4, 7, 4⟩
def CFG_IK_STAT_USED : Fld := ⟨0x1600A4, 9, 8⟩
def CFG_IK_STAT_IK_ERR : Fld := ⟨0x1600A4, 10, 10⟩
def HST_STAT_CUST : Fld := ⟨0x170000, 0, 0⟩
def HST_STAT_OPEN : Fld := ⟨0x170000, 1, 1⟩
def HST_STAT_IF : Fld := ⟨0x170000, 3, 2⟩
def HST_STAT_ERR_CODE : Fld := ⟨0x170000, 7, 4⟩
def HST_ERR_ADDR_ADDR : Fld := ⟨0x170004, 23, 0⟩
def HST_CUST_CMD_NEW : Fld := ⟨0x170008, 0, 0⟩
def HST_CUST_CMD_VERIFY : Fld := ⟨0x170008, 1, 1⟩
def HST_CUST_CMD_CLAIM : Fld := ⟨0x170008, 2, 2⟩
def HST_CUST_CMD_DROP : Fld := ⟨0x170008, 3, 3⟩
def HST_CHAL_W0_CHAL : Fld := ⟨0x170010, 31, 0⟩
def HST_CHAL_W1_CHAL : Fld := ⟨0x170014, 31, 0⟩
def HST_CHAL_W2_CHAL : Fld := ⟨0x170018, 31, 0⟩
def HST_CHAL_W3_CHAL : Fld := ⟨0x17001C, 31, 0⟩
def HST_CHAL_W4_CHAL : Fld := ⟨0x170020, 31, 0⟩
def HST_CHAL_W5_CHAL : Fld := ⟨0x170024, 31, 0⟩
def HST_CHAL_W6_CHAL : Fld := ⟨0x170028, 31, 0⟩
def HST_CHAL_W7_CHAL : Fld := ⟨0x17002C, 31, 0⟩
def HST_RESP_W0_RESP : Fld := ⟨0x170030, 31, 0⟩
def HST_RESP_W1_RESP : Fld := ⟨0x170034, 31, 0⟩
def HST_RESP_W2_RESP : Fld := ⟨0x170038, 31, 0⟩
def HST_RESP_W3_RESP : Fld := ⟨0x17003C, 31, 0⟩
def HST_RESP_W4_RESP : Fld := ⟨0x170040, 31, 0⟩
def HST_RESP_W5_RESP : Fld := ⟨0x170044, 31, 0⟩
def HST_RESP_W6_RESP : Fld := ⟨0x170048, 31, 0⟩
def HST_RESP_W7_RESP : Fld := ⟨0x17004C, 31, 0⟩
def HST_MGMT_CFG_PORTS : Fld := ⟨0x170100, 15, 0⟩
def HST_MGMT_CFG_PAIRS : Fld := ⟨0x170100, 23, 16⟩
def HST_MGMT_CFG_EN : Fld := ⟨0x170100, 24, 24⟩
def HST_MGMT_CFG_CUST_TMO : Fld := ⟨0x170100, 31, 25⟩
def HST_MGMT_ETYPE_MGMT_ETYPE : Fld := ⟨0x170104, 15, 0⟩
def HST_BOOT_ID_BOOT_ID : Fld := ⟨0x170108, 31, 0⟩
def HST_EVT_CUST_GAIN : Fld := ⟨0x170110, 0, 0⟩
def HST_EVT_CUST_FAIL : Fld := ⟨0x170110, 1, 1⟩
def HST_EVT_ACC_ERR : Fld := ⟨0x170110, 2, 2⟩
def HST_EVT_MGMT_AUTH : Fld := ⟨0x170110, 3, 3⟩
def HST_MGMT_CNT_FRAME : Fld := ⟨0x170114, 7, 0⟩
def HST_MGMT_CNT_AUTH_FAIL : Fld := ⟨0x170114, 15, 8⟩
def HST_MGMT_CNT_REPLAY : Fld := ⟨0x170114, 23, 16⟩
def HST_MGMT_CNT_BUSY : Fld := ⟨0x170114, 31, 24⟩

end Sys2Proof.R
end

