-- ==== Sys2Proof/Inputs.lean ====
section
/-! DEFINITION. The operand types of the commands: what the environment says with a command (a host interface, a hardware unit,
a received message as its receiver reads it). -/

namespace Sys2Proof

/-- The host interfaces (02 R48, 20 R518): SPI 0, I²C 1, in-band management 2. -/
inductive Iface where
  | spi | i2c | inband
  deriving DecidableEq, Repr

/-- The interface's number (20 R518). -/
def Iface.num : Iface → Nat
  | .spi => 0
  | .i2c => 1
  | .inband => 2

/-- The requesters of a register access or a claim (18 R464). -/
inductive Master where
  | spi | i2c | inband | solverA | solverB | recorder
  deriving DecidableEq, Repr

/-- The requester's number (18 R464). -/
def Master.num : Master → Nat
  | .spi => 0
  | .i2c => 1
  | .inband => 2
  | .solverA => 3
  | .solverB => 4
  | .recorder => 5

/-- The units that a block reset, a fence or an escalation acts on (17 R427, R433). -/
inductive HwUnit where
  | lane (k : Nat) | mac (k : Nat) | apll (k : Nat) | mallet (m : Nat) | key | gnss | gnssCh (n : Nat)
  | solverA | solverB | hostPath | recorder | rmon (m : Nat) | out (k : Nat)
  deriving DecidableEq, Repr

/-- What one converter's idle slice saw in a Stroke (03 R76): its 64 period probes, each the codes of two launches one core cycle apart, and its 8 192 density hits, by
code with their counts. conv: 0 to 23 the channels, 24 to 39 the lane trackers, 40 the GNSS latch. -/
structure CalIn where
  conv : Nat
  probes : List (Nat × Nat)
  hits : List (Nat × Nat)
  deriving DecidableEq, Repr

/-- A Solver task (01 R29). -/
inductive SolverTask where
  | gnss | aiding | carillon | learning | bmca | election
  deriving DecidableEq, Repr

/-- The reset kinds of 19 R484 that reset the chip. -/
inductive ResetKind where
  | por | pin | host | fault | lc
  deriving DecidableEq, Repr

/-- A band's spectrum over 1 ms (09 R235, R236): the powers of its 256 bins, bin 128 at offset 0, and what each notch sees of its tone: present
centre as the offset from the band IF in 2^-4 Hz, tone over the median in 1/8 dB, depth in 1/4 dB. -/
structure SpecIn where
  bins : List Nat
  notches : List (Int × Nat × Nat)
  deriving DecidableEq, Repr

/-- One satellite and signal of the aiding set (09 R228, R239, R243): whether the almanac marks the satellite as having the signal, the code phase in
2^-18 chip, the Doppler in hertz where it is predicted, the uncertainties in ns and hertz, and by how much the ionosphere delays the signal more than the
satellite's signal on the other band, in 2^-16 ns. -/
structure AidIn where
  sys : Nat
  svid : Nat
  sig : Nat
  visible : Bool
  served : Bool
  codePh : Nat
  dop : Option Int
  uRange : Nat
  uDop : Nat
  iono : Int
  deriving DecidableEq, Repr

/-- An entry of a dwell as the correlator saw it (09 R242): its largest cell's power, that cell's code phase in 2^-18 chip and Doppler in 2^-8 Hz. -/
structure DwellHit where
  entry : Nat
  power : Nat
  codePh : Nat
  dop : Int
  deriving DecidableEq, Repr

/-- How far a band's NCOs ran (09 R244, R255): the code beyond its nominal rate in 2^-18 chip, the carrier in 2^-16 cycle, and the Doppler in
2^-8 Hz. -/
structure NcoIn where
  code : Int
  phase : Int
  dop : Int
  deriving DecidableEq, Repr

/-- A band's millisecond (09 R244 to R248): how far its loops drove its NCOs, the prompt I and Q, the very-early, very-late and prompt powers, the phase
discriminator in 2^-16 cycle, C/N0 in 0.25 dB-Hz, what was found (bit synchronisation, the secondary code's alignment, a message preamble), and the code
phase of L1C in 2^-18 chip where the channel can take it up (R227). -/
structure BandTick where
  nco : NcoIn
  i : Int
  q : Int
  ve : Nat
  vl : Nat
  prompt : Nat
  disc : Int
  cn0 : Nat
  bitSync : Bool
  secSync : Bool
  preamble : Bool
  l1c : Option Nat
  deriving DecidableEq, Repr

/-- A channel at a 1 ms tick, with the joint range and ionospheric delay of 09 R246 in 2^-10 m. -/
structure ChTick where
  ch : Nat
  b1 : BandTick
  b5 : BandTick
  rho : Int
  iono : Int
  deriving DecidableEq, Repr

/-- A band's record values at the latched sample (09 R255): code phase in 2^-18 chip, primary periods, carrier phase in 2^-16 cycle, Doppler in
2^-8 Hz. -/
structure BandLatch where
  codePh : Nat
  period : Nat
  phase : Int
  dop : Int
  deriving DecidableEq, Repr

/-- How far a channel's NCOs ran from the last millisecond to the latched sample: the time in 2^-16 ns, and each band's NCOs. -/
structure ChLatch where
  ch : Nat
  t : Nat
  b1 : NcoIn
  b5 : NcoIn
  deriving DecidableEq, Repr

/-- The Stroke's stamped GNSS_SCLK edge (09 R229, R231): the sample's index, raw counts after the Stroke edge, the raw code, and the eight data pins at the rising
and at the falling edge of that period: bits [1:0] B1_I, [3:2] B1_Q, [5:4] B5_I, [7:6] B5_Q. -/
structure SclkIn where
  idx : Nat
  dt : Nat
  code : Nat
  rise : BitVec 8
  fall : BitVec 8
  deriving DecidableEq, Repr

/-- A tracker's stamp of a Stroke (11 R290): raw counts after the Stroke edge, the raw code of the converter's lines, and the word's index. -/
structure TrkIn where
  dt : Nat
  code : Nat
  widx : Nat
  deriving DecidableEq, Repr

/-- What a lane saw in the Stroke that ends: its trackers' stamps, the coding errors in ACTIVE, and the bits compared and in error while the pattern
checker was locked. -/
structure LaneIn where
  lane : Nat
  rx : Option TrkIn
  tx : Option TrkIn
  errs : Nat
  bits : Nat
  bad : Nat
  deriving DecidableEq, Repr

/-- A satellite as the time solution sees it at a record (10 R259 to R262): its channel, elevation in 2^-8 degree and the elevation's sine in 2^-30,
whether the broadcast data of R259 are held, its arrival estimate less TARGET + LATCH_RES in 2^-10 ns, without the antenna and
receiver delays, on B1 alone, on B5 alone and ionosphere-free, by how much the ionosphere-free carrier moved that estimate since the last epoch, and the modelled ionospheric delay on B1 and B5 in 2^-16 ns. -/
structure SatIn where
  ch : Nat
  el : Nat
  sinEl : Nat
  held : Bool
  z1 : Int
  z5 : Int
  zIf : Int
  dPh : Int
  iono1 : Nat
  iono5 : Nat
  deriving DecidableEq, Repr

/-- The estimator of position and clock after some exclusions (10 R262): the clock row's weight in 2^-30 and the arrival estimate of each channel used, the clock's standard
deviation in 2^-16 ns, and the position in mm. -/
structure SurvIn where
  rows : List (Nat × Int × Int)
  sigClk : Nat
  x : Int
  y : Int
  z : Int
  deriving DecidableEq, Repr

/-- SOLVER_A's work on one record (10 R259 to R267, R271): the satellites; the estimator after 0, 1, … exclusions; the error of engine time that a coarse-time
solution found, in ns; whether a time of week was decoded; the UTC data of UTC_SYS (offset, leap, LEAP_TAI); the ephemerides held. -/
structure SolIn where
  sats : List SatIn
  est : List SurvIn
  coarse : Option Int
  decoded : Bool
  utc : Option (Int × Nat × Nat)
  nEph : Nat
  deriving DecidableEq, Repr

/-- One port's state as the BMCA task finds it (13 R347), with the portIdentity (10 bytes) of the master that it chose. -/
structure BmcaIn where
  port : Nat
  state : Nat
  parent : List Nat
  deriving DecidableEq, Repr

/-- What the environment shows the part in the Stroke that an edge ends: the converters' calibrations, Tj in 2^-4 °C, the APLLs' mean phase-detector errors (2^-16 ns),
the GNSS_SCLK stamp, the lanes, whether the system PLL held lock through the Stroke, and the busy cycles ÷ 256 that the Solver pairs add. -/
structure EdgeIn where
  cal : List CalIn
  tj : Int
  pd : List Int
  sclk : Option SclkIn
  lanes : List LaneIn
  spll : Bool
  busyA : Nat
  busyB : Nat
  deriving DecidableEq, Repr

/-- What takes an APLL's LOCK (08 R209): a cycle slip; the tuning voltage out of its range; or n successive PD cycles, least: the smallest |error| among them in 2^-16 ns. -/
inductive LockLoss where
  | slip | range
  | cycles (n least : Nat)
  deriving DecidableEq, Repr

end Sys2Proof
end

