-- ==== Sys2Proof/Config.lean ====
section
/-! DEFINITION. What the spec leaves open: free values (constants without a body, so that nothing can be proved of a value of
theirs) and the functions that the spec gives by reference only. -/

namespace Sys2Proof.Config

/-- A fresh free value of w bits; n is the State's counter of free values drawn (log entry 3). -/
opaque freeBits (w n : Nat) : BitVec w

/-- HMAC-SHA256 of RFC 2104 and FIPS 180-4 (14 R362), of a key and a message (log entry 4). -/
opaque hmacSha256 : List Byte → List Byte → BitVec 256

/-- SHA-256 of FIPS 180-4 (20 R501, R503) (log entry 4). -/
opaque sha256 : List Byte → BitVec 256

/-- Whether AES-SIV of RFC 5297 opens a text (the SIV tag first) under a key and a vector of associated data, the nonce last (13 R343, 14 R368) (log entry 4). -/
opaque aesSivOpens : List Byte → List (List Byte) → List Byte → Bool

/-- What AES-SIV opens (the plain bytes), and what it seals (log entry 4). -/
opaque aesSivOpen : List Byte → List (List Byte) → List Byte → List Byte

/-- What AES-SIV seals (log entry 4). -/
opaque aesSivSeal : List Byte → List (List Byte) → List Byte → List Byte

/-- The bucket of the rate limiter that an address falls into (13 R333; the hash is not stated) (log entry 5). -/
opaque rateBucket : List Byte → BitVec 16

/-- The per-die root in OTP (14 R360) (log entry 4). -/
opaque dieRoot : BitVec 256

/-- Whether an Ed25519 signature of RFC 8032 verifies: public key, message, signature (20 R503) (log entry 4). -/
opaque ed25519 : List Byte → List Byte → List Byte → Bool

/-- The grandmaster's offsetScaledLogVariance that the device announces, which the spec does not state (13 R348) (log entry 3). -/
opaque ptpVariance : BitVec 16

/-- Whether the vendor's signature of a Solver patch verifies against the key held in ROM (20 R504 reason 8) (log entry 4). -/
opaque patchSigned : List Byte → Bool

/-- The length of the JTAG instruction register, less 2 (21 R545; not stated) (log entry 53). -/
opaque jtagIrLen : Nat

/-- The JTAG instruction that an instruction code selects: 1 IDCODE, 2 SAMPLE, 3 EXTEST, any other BYPASS (21 R545; the codes are not stated) (log entry 53). -/
opaque jtagOp : Nat → Nat

/-- The share of raw code c in the factory profile of slice k of a converter, in 2^-64 (03 R79; not stated) (log entry 21). -/
opaque factoryBin : Nat → Nat → Nat → BitVec 64

/-- CAL_RES from the probes and the profile's hits: the estimate's formula is not stated (03 R78) (log entry 21). -/
opaque calRes : List (Nat × Nat) → List Nat → BitVec 16

/-- The fine part that a slice reads before its first calibration, when it has a profile and no scale: converter, slice, code (03 R79; not stated) (log entry 21). -/
opaque bareFine : Nat → Nat → Nat → BitVec 12

/-- The group delay at the band centre of a notch of a width (its code) at an offset from the centre in 2^-4 Hz, in 2^-16 ns (09 R237; the filter's
coefficients are not stated) (log entry 27). -/
opaque notchDelay : Nat → Int → Int

end Sys2Proof.Config
end

