-- ==== Sys2Proof/Syntax.lean ====
section
/-! DEFINITION. The commands of the block: one constructor per row of spec/opcode_table.json, with the row's operands. A row's
doc comment is its summary and its rule. -/

namespace Sys2Proof

/-- The commands (the rows of the spec's table of operations and events). -/
inductive Instr where
  /-- STROKE_EDGE, 01 R17: The Stroke generator issues an edge every 31 250 core cycles; every Stroke stage snapshots its inputs there and the published set changes. -/
  | strokeEdge (e : EdgeIn)
  /-- REGISTER_WRITE, 01 R32: A host write to a register that has no row of its own is arbitrated, checked and takes effect at the next edge or at once, as its map states. -/
  | registerWrite (j : Iface) (a : BitVec 24) (v : BitVec 32) (dt : Nat)
  /-- HOLD_APPLY_SET, 01 R34: A write of HOLD_APPLY = 1 starts holding writes for the writing interface, which becomes HOLD_OWNER. -/
  | holdApplySet (j : Iface)
  /-- HOLD_APPLY_CLEAR, 01 R34: A write of HOLD_APPLY = 0 makes every held write take effect at the next edge, in arrival order. -/
  | holdApplyClear (j : Iface)
  /-- DISCARD, 01 R34: A write of DISCARD empties the hold buffer and clears HOLD_APPLY. -/
  | holdDiscard (j : Iface)
  /-- HOLD_EXPIRED, 01 R35: After 8 000 Strokes with HOLD_APPLY at 1, the held writes are discarded and HOLD_EXPIRED is set. -/
  | holdExpired
  /-- STROKE_NUM_READ, 01 R38: A read of GEN_STROKE_NUM captures GEN_STROKE_RAW_LO and GEN_STROKE_RAW_HI from the same edge. -/
  | strokeNumRead (j : Iface)
  /-- SOLVER_TASK_OVERRUN, 01 R30: At its deadline, a Solver task that has not published keeps its old output and sets the overrun flag and fault source. -/
  | solverTaskOverrun (t : SolverTask)
  /-- SOLVER_OUTPUT_STALE, 01 R31: A Solver output older than its stale limit is treated as absent, with the consequences that R31 lists. -/
  | solverOutputStale (t : SolverTask)
  /-- SOLVER_LOAD_UPDATE, 01 R39: Every 8 000 Strokes, LOAD_A and LOAD_B are updated. -/
  | solverLoadUpdate
  /-- REMASK_PASS, 14 R377: Every 80 Strokes, or 62 Strokes on the backup oscillator, every key slot and Mallet cache is re-masked. -/
  | remaskPass
  /-- ETM_NOW_READ, 02 R47: A read of ETM_NOW_W0 captures ETIME and RAWF for the reading interface. -/
  | etmNowRead (j : Iface) (dt : Nat)
  /-- ETM_OFFSET_READ, 02 R47: A read of ETM_OFFSET_W0 captures the offset, XF, anchor and rate for the reading interface. -/
  | etmOffsetRead (j : Iface) (dt : Nat)
  /-- STEP_CMD_GO, 02 R53: A Custodian write of ETM_STEP_CMD.GO requests a relative or absolute step at the next edge. -/
  | stepCmdGo (abs : Bool)
  /-- REEPOCH, 02 R59: A Custodian write of REEPOCH starts a re-epoch: MUFFLING at the next edge. -/
  | reepoch
  /-- REEPOCH_ABORT, 02 R59: A write of ABORT in MUFFLING returns the re-epoch to RUN at the next edge. -/
  | reepochAbort
  /-- STEP_WAIT_EXPIRE, 02 R59: STEP_WAIT Strokes in STEPPING pass with no accepted step, and the re-epoch enters SETTLE. -/
  | stepWaitExpire
  /-- SETTLE_EXPIRE, 02 R59: SETTLE Strokes pass, and outputs and services are released to RUN. -/
  | settleExpire
  /-- ALARM_WRITE, 02 R64: A write to an alarm register takes effect on its own cycle and arms or re-arms the alarm. -/
  | alarmWrite (n : Fin 8) (k : Fin 4) (v : BitVec 32) (dt : Nat)
  /-- ALARM_FIRE, 02 R63: RAW48 reaches an armed alarm's target; the alarm sets FIRED, raises its interrupt and re-arms or disarms. -/
  | alarmFire (n : Fin 8) (dt : Nat)
  /-- CONVERT_RAWF, 02 R66: A write of CONV GO with DIR = 0 converts a RAWF to ETIME, removing a pre-step delta where needed. -/
  | convertRawf (j : Iface) (dt : Nat)
  /-- CONVERT_ETIME, 02 R67: A write of CONV GO with DIR = 1 converts an ETIME to RAW48. -/
  | convertEtime (j : Iface) (dt : Nat)
  /-- CONVERSION_DONE, 02 R68: A conversion completes within 16 cycles and sets DONE. -/
  | conversionDone (j : Iface)
  /-- LEAP_APPLY, 02 R70: At the first edge after engine time reaches LEAP_TAI, the new UTC offset becomes current and LEAP clears. -/
  | leapApply
  /-- EDGE_ARRIVAL, 03 R86: An edge of a selected source reaches a Clapper path and is stamped, or counted as a dead-time miss. -/
  | edgeArrival (n : Fin 24) (src : Fin 64) (fall : Bool) (code : BitVec 11) (dt : Nat)
  /-- STAMP_DELIVER, 03 R73: The burst buffer passes one stamp, corrected for delays, to the queue, the snapshot and the statistics. -/
  | stampDeliver (n : Fin 24) (dt : Nat)
  /-- STOP_TIMEOUT, 03 R91: POST_WIN cycles pass after a start with no stop, and MISS.TIMEOUT counts it. -/
  | stopTimeout (n : Fin 24) (dt : Nat)
  /-- CAL_HOLD_EXPIRE, 03 R77: A failed slice's hold of CAL_HOLD calibrations ends; its stamps become INV and CAL_BAD is raised. -/
  | calHoldExpire (conv : Fin 41)
  /-- CAL_WARMUP_END, 03 R79: Four Strokes after PD_CLP leaves reset, stamps stop being delivered INV. -/
  | calWarmupEnd (dt : Nat)
  /-- CLP_Q_READ, 03 R88: A read of Q_LO removes the oldest queue entry and captures its upper word. -/
  | clpQRead (j : Iface) (n : Fin 24) (dt : Nat)
  /-- ARM, 03 R91: CMD.ARM moves a START_STOP channel from IDLE to ARMED. -/
  | clpArm (n : Fin 24)
  /-- DISARM, 03 R91: CMD.DISARM returns a channel to IDLE and discards a pending start. -/
  | clpDisarm (n : Fin 24)
  /-- PRESC_SYNC, 03 R84: CMD.PRESC_SYNC restarts both prescaler counts of a channel. -/
  | prescSync (n : Fin 24)
  /-- STAT_RESTART, 03 R97: CMD.STAT_RESTART discards the partial block and restarts statistics at the next edge. -/
  | statRestart (n : Fin 24)
  /-- CLP_FLUSH, 03 R87: CMD.FLUSH empties a channel's queue, and the next entry carries GAP. -/
  | clpFlush (n : Fin 24)
  /-- SYNC_ALL, 03 R84: CLP_CTL.SYNC_ALL restarts every prescaler of all channels on one core cycle. -/
  | syncAll
  /-- MEAN_READ, 03 R97: A read of MEAN_W0 captures the published statistics set. -/
  | meanRead (j : Iface) (n : Fin 24)
  /-- INV_HOLD_TIMEOUT, 04 R107: After 64 Strokes of only INV samples, a monitor goes INVALID with cause INV. -/
  | invHoldTimeout (m : Fin 32)
  /-- VALIDATION_COMPLETE, 04 R122: The validation timer reaches VAL_TIME and the monitor becomes VALID. -/
  | validationComplete (m : Fin 32)
  /-- CLEAR_TIME_COMPLETE, 04 R122: CLR_TIME passes with no cause and a SUSPECT monitor returns to VALID. -/
  | clearTimeComplete (m : Fin 32)
  /-- ESMC_TIMEOUT, 04 R117: No Information PDU arrives for 5 s and the quality becomes QL-FAILED. -/
  | esmcTimeout (m : Fin 32)
  /-- WTR_EXPIRE, 05 R132: An entry's wait-to-restore timer reaches WTR, allowing reversion. -/
  | wtrExpire (c : Fin 8) (k : Fin 32)
  /-- CARILLON_ESTIMATE, 05 R145: SOLVER_B's one-Stroke task publishes the ensemble estimate, weights and deviations. -/
  | carillonEstimate
  /-- CAR_JOIN_EXPIRE, 05 R144: A candidate has been VALID and CLEAR for CAR_JOIN Strokes and joins the ensemble if a place is free. -/
  | carJoinExpire (m : Fin 32)
  /-- CORROBORATED, 05 R150: The passing count reaches CORR_TIME and the reference becomes CLEAR. -/
  | corroborated (m : Fin 32)
  /-- ACCEPT, 05 R152: A Custodian write to SEL_ACCEPT makes a CHECKING or DISPUTED reference CLEAR at the next edge. -/
  | selAccept (m : Fin 32)
  /-- HOLDMAX_EXPIRE, 06 R169: HOLD_TAU exceeds HOLD_MAX hours and the set becomes UNBOUNDED with cause HOLDMAX. -/
  | holdmaxExpire (k : Fin 9)
  /-- OSC_MODEL_LEARN, 06 R172: SOLVER_B's learning task publishes the refitted or re-centred oscillator model. -/
  | oscModelLearn (t0 : BitVec 16)
  /-- MODEL_CLR, 06 R172: A write of MODEL_CLR returns the model to NONE. -/
  | modelClr
  /-- FREEZE_TO_HOLDOVER, 07 R190: A freeze lasting more than 64 edges puts the channel in HOLDOVER. -/
  | freezeToHoldover (c : Fin 8)
  /-- TCH_LOCKED, 07 R190: After LOCK_CNT successive updates within LOCK_THR, the channel enters LOCKED. -/
  | tchLocked (c : Fin 8)
  /-- HIST_VALID, 07 R196: After 2^HIST_TC + HO_GUARD Strokes in LOCKED, HIST_VALID becomes 1. -/
  | histValid (c : Fin 8)
  /-- MODE_WRITE, 07 R182: A write to a channel's MODE restarts the channel in FREERUN at the next edge. -/
  | modeWrite (c : Fin 8) (mode : BitVec 2)
  /-- STEER_UPDATE, 07 R202: Every PER seconds, the steering port moves the oscillator code and feeds the move forward. -/
  | steerUpdate
  /-- STEER_CODE_WRITE, 07 R202: A write to STEER_CODE sends the code at the next edge, with feed-forward of the difference. -/
  | steerCodeWrite (v : BitVec 24)
  /-- APLL_ENABLE, 08 R208: EN = 1 with a valid plan takes an APLL from OFF to ACQUIRE or SEARCH at the edge. -/
  | apllEnable (k : Fin 4)
  /-- APLL_DISABLE, 08 R208: EN = 0 Muffles the outputs and takes the APLL to OFF at the edge. -/
  | apllDisable (k : Fin 4)
  /-- PLAN_SEL_WRITE, 08 R208: A change of PLAN_SEL takes the APLL to HOP at the edge, after its outputs are Muffled. -/
  | planSelWrite (k : Fin 4) (p : Fin 16)
  /-- PLAN_WORD_WRITE, 08 R207: A write to a plan's divider words clears its BAND_VALID, and is ignored for the plan in use unless EN = 0. -/
  | planWordWrite (k : Fin 4) (p : Fin 16) (w : Fin 3) (v : BitVec 32)
  /-- PLAN_LOADED, 08 R208: The new plan is loaded once the outputs are MUFFLED, and the APLL enters ACQUIRE or SEARCH. -/
  | planLoaded (k : Fin 4)
  /-- BAND_FOUND, 08 R210: A cold search finds a VCO band, which is stored with BAND_VALID. -/
  | bandFound (k : Fin 4) (band : BitVec 8)
  /-- SEARCH_FAIL, 08 R208: No band locks, the APLL is FENCED and its fault source is raised. -/
  | searchFail (k : Fin 4)
  /-- TUNING_AT_RAIL, 08 R210: The tuning voltage reaches a rail with the stored band; adjacent bands are tried, then a cold search. -/
  | tuningAtRail (k : Fin 4) (up : Bool)
  /-- LOCK_CRITERION_MET, 08 R209: 2^LOCK_N successive PD cycles fall within LOCK_WIN and LOCK becomes 1. -/
  | lockCriterionMet (k : Fin 4) (n err : Nat) (dt : Nat)
  /-- LOCK_LOST, 08 R209: A slip, window excess or tuning excursion sets LOCK to 0; a LOCKED APLL reflex-Muffles its outputs. -/
  | lockLost (k : Fin 4) (why : LockLoss) (dt : Nat)
  /-- APLL_STABLE, 08 R208: The stable count reaches LOCK_STABLE and the APLL enters LOCKED. -/
  | apllStable (k : Fin 4)
  /-- FINE_TCH_WRITE, 08 R211: A change of FINE_TCH moves the channel rate into the APLL feedback at the next edge, with divider compensation. -/
  | fineTchWrite (k : Fin 4) (v : BitVec 4)
  /-- OUT_ENABLE, 08 R222: EN = 1 takes an output from OFF to MUFFLED at the edge. -/
  | outEnable (k : Fin 16)
  /-- OUT_DISABLE, 08 R222: EN = 0 Muffles an output and then takes it to OFF. -/
  | outDisable (k : Fin 16)
  /-- OUT_CFG_WRITE, 08 R224: A write to an output's configuration takes effect at the next edge, restarting or Rolling the output. -/
  | outCfgWrite (k : Fin 16) (w : Fin 10) (v : BitVec 32)
  /-- OUT_REACHES_IDLE, 08 R223: A Muffling output finishes its cycle, reaches its idle level and becomes MUFFLED. -/
  | outReachesIdle (k : Fin 16) (dt : Nat)
  /-- SCLK_LOS, 09 R232: No GNSS_SCLK edge arrives for 1 µs, or its rate leaves ±200 ppm; the search, channels and latch stop. -/
  | sclkLos (dt : Nat)
  /-- SCLK_OK, 09 R231: Eight successive Strokes with the sample-clock rate within ±100 ppm set SCLK_OK. -/
  | sclkOk
  /-- FE_RUN, 09 R233: FE_CMD.RUN starts a run of the front-end command table. -/
  | feRun
  /-- FE_ABORT, 09 R233: FE_CMD.ABORT ends a table run after the entry in progress. -/
  | feAbort
  /-- FE_ENTRY_DONE, 09 R233: A front-end table transfer and its delay complete, with a verify check where VERIFY = 1. -/
  | feEntryDone (rx : BitVec 32) (dt : Nat)
  /-- AGC_READ, 09 R234: Every AGC_PER ms, the master re-runs a band's AGC entry and publishes its gain code. -/
  | agcRead (b : Fin 2)
  /-- SPECTRUM_UPDATE, 09 R235: Each 1 ms, a band's spectrum monitor updates PEAK, the jamming indicator and the notch assignment. -/
  | spectrumUpdate (b : Fin 2) (x : SpecIn)
  /-- NOTCH_RELEASE, 09 R236: A tone below NOTCH_THR − 3 dB for 100 ms releases its adaptive notch. -/
  | notchRelease (b : Fin 2) (n : Fin 4)
  /-- ACQ_AIDING, 09 R239: SOLVER_A's 8-Stroke task publishes the acquisition aiding set. -/
  | acqAiding (l : List AidIn)
  /-- SEARCH_PLAN, 09 R241: The search engine, IDLE with a queued entry and SCLK_OK, packs a dwell from the queue. -/
  | searchPlan
  /-- DWELL_COMPLETE, 09 R241: NC ms of samples have been correlated and each entry is tested for detection. -/
  | dwellComplete (l : List DwellHit) (noise : List Nat)
  /-- HANDOVER_QUEUE, 09 R243: A band in PLL for HO_DELAY ms queues a handover entry for the channel's other band. -/
  | handoverQueue (n : Fin 96)
  /-- SEARCH_RETRY, 09 R242: RETRY seconds after a drop or failed handover, the satellite is queued again. -/
  | searchRetry
  /-- TRACK_TICK, 09 R247: Every 1 ms, each channel band runs its loops and evaluates its state table. -/
  | trackTick (l : List ChTick)
  /-- BAND_PLL_LOCK, 09 R247: PLI stays at or above PLI_LOCK for PLI_CNT ms and the band enters PLL. -/
  | bandPllLock (n : Fin 96) (b : Fin 2)
  /-- BAND_LOSS, 09 R247: PLI or C/N0 stays low for LOSS_MS ms and the band enters COAST with SLIP. -/
  | bandLoss (n : Fin 96) (b : Fin 2)
  /-- PULLIN_TIMEOUT, 09 R247: PULL_TIME ms in PULLIN pass and the band goes OFF. -/
  | pullinTimeout (n : Fin 96) (b : Fin 2)
  /-- COAST_TIMEOUT, 09 R247: COAST_MAX ms in COAST pass and the band goes OFF. -/
  | coastTimeout (n : Fin 96) (b : Fin 2)
  /-- SIDEPEAK, 09 R248: A BOC band's very-early or very-late power exceeds prompt for 20 ms; the code NCO moves ½ chip and SLIP is set. -/
  | sidepeak (n : Fin 96) (b : Fin 2)
  /-- CH_RELEASE, 09 R247: A write of a channel's RELEASE sends both bands OFF. -/
  | chRelease (n : Fin 96)
  /-- EXCLUSION_WRITE, 09 R249: An exclusion or disabling write releases the satellite's channel and removes its queued entries at the next edge. -/
  | exclusionWrite (w : Fin 6) (v : BitVec 32)
  /-- EPOCH_LATCH, 09 R251: The latch freezes every channel on the first sample at or after the armed RAW48 and stamps it. -/
  | epochLatch (idx : BitVec 32) (code : BitVec 11) (l : List ChLatch) (dt : Nat)
  /-- MEAS_HOLD, 09 R256: MEAS_CTL.HOLD pins the record bank in view for the writing interface. -/
  | measHold (j : Iface)
  /-- MEAS_UNHOLD, 09 R256: MEAS_CTL.UNHOLD releases the interface's pin. -/
  | measUnhold (j : Iface)
  /-- MEAS_PIN_EXPIRE, 09 R256: A pin ends 100 ms after it was set. -/
  | measPinExpire (j : Iface)
  /-- GNSS_SOLUTION, 10 R268: SOLVER_A's time solution for a record passes or fails the epoch and updates SOL_STATE and the VREF_16 sample. -/
  | gnssSolution (o : Option SolIn)
  /-- SURVEY_RST, 10 R266: SURVEY_RST discards the survey mean and restarts the survey. -/
  | surveyRst
  /-- ANT_DELAY_WRITE, 10 R268: A write to ANT_DELAY or ANT_DIFF_B5 sets DELAY_CHG, is logged and resets the convergence count. -/
  | antDelayWrite (b5 : Bool) (v : BitVec 32)
  /-- SLEEP, 10 R274: A write of SLEEP stops the baseband and enters STORING or ASLEEP. -/
  | gnssSleep
  /-- WAKE, 10 R274: A write of WAKE in ASLEEP enters WAKING, requesting PD_GNSS and running the front-end table. -/
  | gnssWake
  /-- SLEEP_MAX_EXPIRE, 10 R274: SLEEP_MAX minutes pass in ASLEEP and the service enters WAKING. -/
  | sleepMaxExpire
  /-- WAKE_SLOW, 10 R274: Two seconds pass in WAKING and the service becomes AWAKE with WAKE_MS 65 535. -/
  | wakeSlow
  /-- LANE_CFG_WRITE, 11 R296: A write to a lane's EN, MODE, RATE, FEC, AN_EN or TRN_EN takes the lane through OFF into DETECT. -/
  | laneCfgWrite (k : Fin 16) (v : BitVec 32) (dt : Nat)
  /-- LANE_TEST_ENABLE, 11 R285: TEST_EN = 1 takes the lane to TEST, and TEST_EN = 0 returns it to DETECT. -/
  | laneTestEnable (k : Fin 16) (en : Bool) (dt : Nat)
  /-- QUAD_CFG_WRITE, 11 R296: A write to QUAD_CFG passes the quad's lanes through OFF, or changes only TXREF or QDIV without a break. -/
  | quadCfgWrite (q : Fin 4) (v : BitVec 32) (dt : Nat)
  /-- DETECT_PROBE, 11 R286: Every DET_PER ms in DETECT, the lane probes for a partner termination. -/
  | detectProbe (k : Fin 16) (found : Bool) (dt : Nat)
  /-- TRAIN_COMPLETE, 11 R285: Training completes at both ends and the lane enters LOCK. -/
  | trainComplete (k : Fin 16) (ctle : BitVec 4) (dfe : BitVec 8) (fec : Bool) (dt : Nat)
  /-- TRAIN_TIMEOUT, 11 R285: TRAIN_MAX ms elapse in TRAIN and the lane fails back to DETECT. -/
  | trainTimeout (k : Fin 16) (dt : Nat)
  /-- AN_FAIL, 11 R285: Clause 73 arbitration fails and the lane fails back to DETECT. -/
  | anFail (k : Fin 16) (dt : Nat)
  /-- LOCK_COMPLETE, 11 R285: Lock for the mode completes, and the lane enters EXCHANGE or ACTIVE. -/
  | lockComplete (k : Fin 16) (align : BitVec 7) (dt : Nat)
  /-- LOCK_TIMEOUT, 11 R285: LOCK_MAX ms elapse in LOCK and the lane fails back to DETECT. -/
  | lockTimeout (k : Fin 16) (dt : Nat)
  /-- EXCHANGE_ACCEPT, 11 R287: The exchange is accepted and the lane enters ACTIVE. -/
  | exchangeAccept (k : Fin 16) (a : Fin 23) (dt : Nat)
  /-- EXCHANGE_REFUSE, 11 R287: The exchange is refused, and the lane fails back to DETECT with HCD or EXCH_REFUSED. -/
  | exchangeRefuse (k : Fin 16) (a : Fin 23) (dt : Nat)
  /-- EXCH_TIMEOUT, 11 R285: EXCH_MAX ms elapse in EXCHANGE and the lane fails back to DETECT. -/
  | exchTimeout (k : Fin 16) (dt : Nat)
  /-- LOS_ASSERT, 11 R288: The receiver amplitude stays below threshold for 1 µs; LOS is set and the lane returns to DETECT. -/
  | losAssert (k : Fin 16) (dt : Nat)
  /-- LOS_DEASSERT, 11 R288: After 10 µs above the deassert threshold, LOS clears. -/
  | losDeassert (k : Fin 16) (dt : Nat)
  /-- LOL, 11 R288: The CDR loses lock; an ACTIVE lane goes DOWN, to DETECT or FENCED, and raises its LOL fault source. -/
  | lol (k : Fin 16) (dt : Nat)
  /-- BLOCK_LOSS, 11 R285: Block lock is lost or hi_ber is set in ACTIVE, and the lane returns to LOCK. -/
  | blockLoss (k : Fin 16) (hiBer : Bool) (dt : Nat)
  /-- QREF_FALLBACK, 11 R284: The quad's APLL leaves LOCKED or its r_a exceeds 100 ppm, and the quad changes to the system PLL tap. -/
  | qrefFallback (q : Fin 4) (dt : Nat)
  /-- PRBS_LOCK, 11 R292: 256 successive bits agree with the checker's generator and the checker locks. -/
  | prbsLock (k : Fin 16) (l : List Bool) (dt : Nat)
  /-- PRBS_LOST, 11 R292: More than 128 errors in 1 024 bits make the checker lose lock and reseed. -/
  | prbsLost (k : Fin 16) (bad : Fin 1025) (dt : Nat)
  /-- INJ_1, 11 R293: INJ_1 inverts one transmitted bit. -/
  | inj1 (k : Fin 16)
  /-- INJ_BURST, 11 R293: INJ_BURST inverts BURST_LEN successive transmitted bits. -/
  | injBurst (k : Fin 16)
  /-- CHK_CLR, 11 R292: CHK_CLR clears the checker's BITS and ERR counts. -/
  | chkClr (k : Fin 16)
  /-- FRAME_RX, 12 R300: A received frame meets the length, FCS, address and class tests in order and goes to its consumer or is dropped. -/
  | frameRx (k : Fin 16) (b : List Byte) (wf : BitVec 48) (bf : Nat) (cut : Bool) (dt : Nat)
  /-- HTX_DATA_WRITE, 12 R319: A write to HTX_DATA appends four bytes of the host frame. -/
  | htxDataWrite (v : BitVec 32)
  /-- SUBMIT, 12 R319: HTX_CMD.SUBMIT submits the host frame, or rejects it with REJ_WHY. -/
  | htxSubmit
  /-- ABANDON, 12 R319: HTX_CMD.ABANDON discards what was written since the last SUBMIT. -/
  | htxAbandon
  /-- FRAME_COMMIT, 12 R312: A frame is committed to a transmit word, its stamp is formed, one-step fields are written and a TS_REQ stamp is queued. -/
  | frameCommit (k : Fin 16) (wf : BitVec 48) (bf : Nat) (cut : Bool) (dt : Nat)
  /-- TSQ_READ, 12 R317: A read of TSQ_W0 removes the head timestamp-queue entry. -/
  | tsqRead (j : Iface) (k : Fin 16)
  /-- HRX_DATA_READ, 12 R320: A read of HRX_DATA returns the next four bytes of the head frame. -/
  | hrxDataRead
  /-- HRX_POP, 12 R320: HRX_POP removes the head frame of the host receive buffer. -/
  | hrxPop
  /-- ESMC_INFO_TX, 12 R322: Once a second, a port with ESMC_EN sends an ESMC Information PDU. -/
  | esmcInfoTx (k : Fin 16) (dt : Nat)
  /-- ESMC_EVENT_TX, 12 R322: Within 10 ms of a change of the codes it sends, the port sends an Event PDU and restarts its timer. -/
  | esmcEventTx (k : Fin 16) (dt : Nat)
  /-- NTP_REQUEST, 13 R338: A Mallet takes a plain NTP request and answers it in mode 4, passes it to the host or drops it. -/
  | ntpRequest (m : Fin 8) (bf : Nat) (dt : Nat)
  /-- RESERVE_RETRY, 13 R332: A reservation that would cross a Stroke edge waits for that edge and reserves again. -/
  | reserveRetry (m : Fin 8) (bf : Nat) (dt : Nat)
  /-- NTS_REQUEST, 13 R343: A Mallet opens and verifies an NTS request and answers it with new cookies under the CURRENT slot. -/
  | ntsRequest (m : Fin 8) (bf : Nat) (dt : Nat)
  /-- ARP_REQUEST, 13 R327: An ARP request for a served IPv4 address is answered with the port's ADDR. -/
  | arpRequest (m : Fin 8) (bf : Nat) (dt : Nat)
  /-- NEIGHBOUR_SOLICITATION, 13 R327: A neighbour solicitation for a served IPv6 address is answered, and a DAD probe raises CONFLICT. -/
  | neighbourSolicitation (m : Fin 8) (bf : Nat) (dt : Nat)
  /-- NTS_KEY_EXPIRE, 13 R340: Engine time passes a slot's NOT_AFTER; the slot becomes EXPIRED and KEY_EXPIRED is raised. -/
  | ntsKeyExpire (j : Fin 8) (dt : Nat)
  /-- SYNC_TX, 13 R349: A master port or session sends Sync at its logged or granted rate. -/
  | syncTx (k : Fin 16) (n : Option (Fin 4096)) (bf : Nat) (dt : Nat)
  /-- FOLLOW_UP_TX, 13 R349: In two-step operation, the Follow_Up carries the queued transmit stamp, or is suppressed for a gap. -/
  | followUpTx (k : Fin 16) (dt : Nat)
  /-- ANNOUNCE_TX, 13 R348: A port sends Announce with fields derived from set 0 and the time-bound TLV. -/
  | announceTx (k : Fin 16) (n : Option (Fin 4096)) (dt : Nat)
  /-- DELAY_REQ_TX, 13 R353: A client session sends Delay_Req at its scheduled raw time. -/
  | delayReqTx (n : Fin 4096) (bf : Nat) (dt : Nat)
  /-- SYNC_RX, 13 R353: A client session receives a Sync and holds t1 and t2. -/
  | syncRx (m : Fin 8) (bf : Nat) (dt : Nat)
  /-- FOLLOW_UP_RX, 13 R353: A client session receives a Follow_Up with preciseOriginTimestamp. -/
  | followUpRx (m : Fin 8) (bf : Nat) (dt : Nat)
  /-- DELAY_REQ_RX, 13 R349: A master receives a Delay_Req and answers it with a Delay_Resp carrying T2, or drops it without a grant. -/
  | delayReqRx (m : Fin 8) (bf : Nat) (dt : Nat)
  /-- DELAY_RESP_RX, 13 R353: A client session receives a Delay_Resp and holds t4. -/
  | delayRespRx (m : Fin 8) (bf : Nat) (dt : Nat)
  /-- ANNOUNCE_RX, 13 R347: A received Announce updates the BMCA inputs and the session's quality data. -/
  | announceRx (m : Fin 8) (bf : Nat) (dt : Nat)
  /-- REQUEST_UNICAST_TRANSMISSION, 13 R350: A unicast negotiation request is granted, renewing or creating a session, or denied. -/
  | requestUnicastTransmission (m : Fin 8) (bf : Nat) (dt : Nat)
  /-- CANCEL_UNICAST_TRANSMISSION, 13 R350: A cancel is acknowledged and frees the session once no type has time left. -/
  | cancelUnicastTransmission (m : Fin 8) (bf : Nat) (dt : Nat)
  /-- GRANT_RX, 13 R352: A client session receives a grant and moves to ACTIVE. -/
  | grantRx (m : Fin 8) (bf : Nat) (dt : Nat)
  /-- GRANT_RENEW, 13 R352: A client grant falls to a quarter of its duration and a renewal request is sent. -/
  | grantRenew (n : Fin 4096) (dt : Nat)
  /-- GRANT_EXPIRE, 13 R352: A grant's LEFT reaches 0; a server session is freed or a client session returns to REQUESTING. -/
  | grantExpire (n : Fin 4096) (dt : Nat)
  /-- REQUEST_RETRY, 13 R352: 3 s in REQUESTING without all grants sets DENIED and repeats the requests. -/
  | requestRetry (n : Fin 4096) (dt : Nat)
  /-- CANCEL_TIMEOUT, 13 R352: 1 s in CANCELLING without acknowledgement frees the session. -/
  | cancelTimeout (n : Fin 4096) (dt : Nat)
  /-- PTP_SESSION_LOS, 13 R353: Three Announce or Sync intervals pass without a message and the session's sample carries LOS. -/
  | ptpSessionLos (n : Fin 4096) (dt : Nat)
  /-- SESS_READ, 13 R351: SESS_CMD.READ copies session entry IDX into SESS_W0…W15. -/
  | sessRead
  /-- SESS_WRITE, 13 R351: SESS_CMD.WRITE installs a client entry at a FREE index, or is refused. -/
  | sessWrite (dt : Nat)
  /-- SESS_FREE, 13 R352: SESS_CMD.FREE ends a session, cancelling its grants. -/
  | sessFree (dt : Nat)
  /-- BMCA, 13 R347: SOLVER_B's BMCA task publishes each port's state. -/
  | bmca (l : List BmcaIn)
  /-- BEGIN, 14 R370: KEY_CMD.BEGIN opens a key transaction owned by the writing interface. -/
  | keyBegin (j : Iface) (dt : Nat)
  /-- STAGE_IMPORT_PLAIN, 14 R368: STAGE with OP IMPORT_PLAIN checks and appends a plaintext key import. -/
  | stageImportPlain (j : Iface)
  /-- STAGE_IMPORT_WRAPPED, 14 R368: STAGE with OP IMPORT_WRAPPED unwraps and checks a wrapped key import. -/
  | stageImportWrapped (j : Iface)
  /-- STAGE_GENERATE, 14 R368: STAGE with OP GENERATE appends a BRANCH key drawn from the random generator. -/
  | stageGenerate (j : Iface)
  /-- STAGE_INVALIDATE, 14 R365: STAGE with OP INVALIDATE appends the invalidation of a slot and its descendants. -/
  | stageInvalidate (j : Iface)
  /-- STAGE_SET_USES, 14 R366: STAGE with OP SET_USES appends a lowering of a key's remaining uses. -/
  | stageSetUses (j : Iface)
  /-- STAGE_RECLAIM, 14 R365: STAGE with OP RECLAIM appends the freeing of an INVALID or ORPHANED slot. -/
  | stageReclaim (j : Iface)
  /-- COMMIT, 14 R370: KEY_CMD.COMMIT writes the transaction's journal records, or applies a transaction that needs no NVM. -/
  | keyCommit (j : Iface)
  /-- ABORT, 14 R370: KEY_CMD.ABORT from the owner erases the staging and returns to IDLE. -/
  | keyAbort (j : Iface)
  /-- TXN_DISCARD, 14 R370: TXN_MAX ms pass since BEGIN and the open transaction is discarded. -/
  | txnDiscard (dt : Nat)
  /-- COMMIT_DONE, 14 R372: The seal write completes and the staged operations apply on one core cycle. -/
  | commitDone
  /-- COMMIT_FAIL, 14 R370: An NVM write fails, or PFAIL_N arrives before the seal, and nothing is applied. -/
  | commitFail (tmo : Bool)
  /-- COMPACTION_DONE, 14 R374: The compaction snapshot is sealed and the old half is erased. -/
  | compactionDone
  /-- FLOOR_COMMIT, 14 R367: Before USES would fall below FLOOR, the key engine commits a lowered floor and the operation waits. -/
  | floorCommit (k : Fin 64)
  /-- RNG_DEGRADED, 14 R376: An entropy health test fails; RNG_OK clears and the RNG fault source is raised. -/
  | rngDegraded
  /-- RNG_RESEED, 14 R376: After 2^20 outputs, the generator reseeds, and RNG_OK returns to 1 on a passing source. -/
  | rngReseed (pass : Bool)
  /-- ATT_GO, 14 R383: ATT_CMD.GO captures the attestation message and starts the HMAC under KS_3. -/
  | attGo (j : Iface)
  /-- ATT_DONE, 14 R383: The attestation HMAC completes and DONE is set. -/
  | attDone (j : Iface)
  /-- CELL_BOUNDARY, 15 R389: At each cell boundary, a path sends a TRN, EXCH, TIME, TOLL, message or IDLE cell by priority. -/
  | cellBoundary (l : Fin 16) (wf : BitVec 48) (req : BitVec 8) (ready : Bool) (dt : Nat)
  /-- TIME_CELL_RX, 15 R395: A partner TIME cell arrives; the exchange is formed and THETA and x are computed. -/
  | timeCellRx (l : Fin 16) (b : List Byte) (wf : BitVec 48) (dt : Nat)
  /-- TOLL_RX, 15 R399: A TOLL cell arrives and updates the path's state. -/
  | tollRx (l : Fin 16) (b : List Byte) (dt : Nat)
  /-- TRN_CELL_RX, 15 R390: A TRN cell arrives and its equaliser requests are applied. -/
  | trnCellRx (l : Fin 16) (b : List Byte) (dt : Nat)
  /-- EXCH_CELL_RX, 15 R392: An EXCH cell arrives and counts toward acceptance, or refuses the exchange or raises MISWIRE. -/
  | exchCellRx (l : Fin 16) (b : List Byte) (dt : Nat)
  /-- MSG_CELL_RX, 15 R405: A message cell arrives, is reassembled and, once complete, is deduplicated and delivered. -/
  | msgCellRx (l : Fin 16) (b : List Byte) (dt : Nat)
  /-- TOLL_TIMEOUT, 15 R399: No valid toll arrives for TOLL_MISS × TOLL_PER µs and the path goes DOWN. -/
  | tollTimeout (k : Fin 8) (h : Fin 2) (dt : Nat)
  /-- SWITCH, 15 R399: PP_k CTL.SWITCH makes the STANDBY path ACTIVE at the next edge. -/
  | pathSwitch (k : Fin 8)
  /-- MSG_SEND, 15 R404: A producer queues a DOMAIN, FAULT or MGMT message on a pair, or is refused on a full queue. -/
  | msgSend (kind : Fin 3) (k : Fin 8) (b : List Byte)
  /-- ELECTION, 16 R414: SOLVER_B's election task publishes the leader, STEPS, PARENT and pair roles. -/
  | election
  /-- RELAY_HOLD_END, 16 R424: A relay hold ends and one summary report is sent, or the entry ends. -/
  | relayHoldEnd (dt : Nat)
  /-- FAULT_RAISE, 17 R429: A fault detector raises its source, and the collector latches and reacts within 40 ns. -/
  | faultRaise (src : Fin 320) (subject wit code : BitVec 16) (dt : Nat)
  /-- BLOCK_RESET_RELEASE, 17 R433: A unit's reset time ends and it is released into its settle time. -/
  | blockResetRelease (u : HwUnit) (dt : Nat)
  /-- SHADOW_END, 17 R434: A reaction shadow ends after reset and settle time. -/
  | shadowEnd (dt : Nat)
  /-- FLT_CLR, 17 R431: A Custodian request to clear a source is evaluated at the next edge and its RESULT reported. -/
  | fltClr (src : BitVec 9)
  /-- DEDUP_EXPIRE, 17 R432: A dedup entry ends after DEDUP_AGE seconds with no report, leaving a DEDUP_SUMMARY. -/
  | dedupExpire
  /-- CHIP_RESET_START, 17 R436: At flush completion or FLUSH_MAX after a CHIP_RESET raise, a FAULT chip reset starts. -/
  | chipResetStart (dt : Nat)
  /-- ERRN_MIN_EXPIRE, 17 R437: ERRN_MIN ms pass and ERR_N releases unless a latched source holds it. -/
  | errnMinExpire (dt : Nat)
  /-- FLUSH_DONE, 17 R446: A recorder flush completes, freeing its space and starting any pending flush. -/
  | flushDone
  /-- REC_FLUSH, 17 R446: REC_CTL.FLUSH starts a flush. -/
  | recFlush
  /-- ERASE_FIXED, 17 R447: ERASE_FIXED erases the FIXED log area after a host-trigger record. -/
  | eraseFixed
  /-- ERASE_ROLL, 17 R447: ERASE_ROLL erases the ROLL log area after a host-trigger record. -/
  | eraseRoll
  /-- TRIG, 17 R445: REC_CTL.TRIG makes a host-trigger record. -/
  | recTrig
  /-- REC_RD_GO, 17 R449: REC_RD_CTL.GO looks up a record by SEQ in the chosen area. -/
  | recRdGo (j : Iface) (area : Fin 3) (seq : BitVec 32)
  /-- REC_RD_DONE, 17 R449: The record lookup completes with DONE and FOUND. -/
  | recRdDone (j : Iface)
  /-- RECOVERY_END, 17 R445: RECOV seconds after START, the recorder leaves RECOVERY for NORMAL. -/
  | recoveryEnd (dt : Nat)
  /-- IRQ_REQUEST_EDGE, 18 R453: A source's request rises and sets its pending bit, which arrives at its target. -/
  | irqRequestEdge (src : Fin 256) (dt : Nat)
  /-- CLAIM, 18 R457: A read of a target's CLAIM returns and activates the lowest deliverable source, or 255 or 0. -/
  | irqClaim (m : Master) (t : Fin 6)
  /-- COMPLETE, 18 R458: A write of the active ID to COMPLETE ends the claim and may re-assert the line. -/
  | irqComplete (t : Fin 6) (id : BitVec 8)
  /-- TARGET_WRITE, 18 R459: A write to a source's TARGET moves a pending source to the new target at once. -/
  | targetWrite (src : Fin 256) (t : Fin 4) (dt : Nat)
  /-- IRQ_EN_WRITE, 18 R453: A write of a source's EN enables or disables latching and delivery. -/
  | irqEnWrite (src : Fin 256) (en : Bool) (dt : Nat)
  /-- COAL_TIMEOUT, 18 R456: A target's coalescing timer reaches COAL_TIME and the line is asserted. -/
  | coalTimeout (t : Fin 6) (dt : Nat)
  /-- SLEEP_WRITE, 18 R456: A write of a target's SLEEP holds or releases its delivery. -/
  | sleepWrite (t : Fin 4) (sleep : Bool) (dt : Nat)
  /-- SLEEP_FALLBACK, 18 R460: A source held by SLEEP waits SLEEP_LAT µs and moves to its fallback target. -/
  | sleepFallback (src : Fin 256) (dt : Nat)
  /-- PMC_SNAP, 18 R463: PMC_CTL.SNAP copies all counters on one cycle into the snapshot registers. -/
  | pmcSnap
  /-- PMC_TAG_READ, 18 R468: A read of PMC_TAG_W0 removes the head tag entry. -/
  | pmcTagRead (j : Iface)
  /-- DOMAIN_WAKE_DONE, 19 R473: A domain finishes waking and its functions start. -/
  | domainWakeDone (d : Fin 12) (dt : Nat)
  /-- DOMAIN_ENTRY_DONE, 19 R471: A domain finishes entering IDLE, RET or OFF. -/
  | domainEntryDone (d : Fin 12) (dt : Nat)
  /-- XTAL_STOP, 19 R478: No crystal edge for 250 µs clears XTAL_OK and RTC_VALID. -/
  | xtalStop
  /-- RTC_LOAD, 19 R479: RTC_CMD.LOAD loads the RTC from RTC_SET while RTC_SYNC_EN = 0. -/
  | rtcLoad
  /-- RTC_INVALIDATE, 19 R478: RTC_CMD.INVALIDATE clears RTC_VALID. -/
  | rtcInvalidate
  /-- PFAIL, 19 R481: PFAIL_N stays low for 1 µs; the flush starts, the NVM is yielded and load is shed. -/
  | pfail (dt : Nat)
  /-- PFAIL_CLR, 19 R483: PFAIL_N stays high for REARM ms and the episode ends, restoring shed domains. -/
  | pfailClr (dt : Nat)
  /-- POR, 19 R484: The main supplies rise, and the device is held for 1 ms after the last rail before release. -/
  | porRise
  /-- BROWNOUT, 21 R529: A rail stays below its threshold for 2 µs and a brown-out POR results. -/
  | brownout (h : Bool)
  /-- PIN_RESET, 19 R484: RST_N low for at least 1 µs starts a PIN reset with flush and wipe. -/
  | pinReset (dt : Nat)
  /-- CHIP, 19 R484: A Custodian write of PWR_RST_CMD.CHIP with CONFIRM 0x5A starts a HOST reset. -/
  | hostReset (confirm : BitVec 8) (dt : Nat)
  /-- RESET_RELEASE, 19 R485: After the flush and the SRAM wipe, the domains reached by a reset are released. -/
  | resetRelease (t : Nat)
  /-- POR_RELEASE, 19 R487: After POR, PD_CORE is released on system PLL lock, or after 20 ms on the backup oscillator. -/
  | porRelease (t : Nat) (locked : Bool) (straps : BitVec 4)
  /-- SYSPLL_LOSS, 19 R489: The system PLL loses lock; the core moves to the backup oscillator, bounds go UNBOUNDED, lanes drop and TIME outputs Muffle. -/
  | syspllLoss (stopped : Bool) (dt : Nat)
  /-- SPLL_RETURN, 19 R490: STABLE_CNT reaches SPLL_STABLE, with RETURN where AUTO_RET = 0, and the core returns to the system PLL. -/
  | spllReturn
  /-- RETURN, 19 R490: A Custodian write of RETURN permits the return from the backup oscillator. -/
  | spllReturnWrite
  /-- SPLL_PLAN_WRITE, 19 R488: A changed valid system PLL plan is applied at the next edge through the backup oscillator. -/
  | spllPlanWrite (w : Fin 4) (v : BitVec 32)
  /-- LC_REQUEST, 19 R493: A write of GEN_LC_REQ.GO requests a life-cycle change, which is checked and refused or started. -/
  | lcRequest (target : BitVec 3) (confirm : BitVec 8)
  /-- LC_OTP_WRITTEN, 19 R493: The new life-cycle state is written to OTP; regions are erased and an LC reset follows. -/
  | lcOtpWritten
  /-- HEADERS_READ, 20 R500: Both slot headers are read and the candidates ordered. -/
  | headersRead (ha hb : List Byte)
  /-- CANDIDATE_CHECKED, 20 R504: A candidate image is read and passes or is rejected with a reason. -/
  | candidateChecked (img : List Byte)
  /-- APPLY_WAIT_EXPIRE, 20 R502: A REGS WAIT of VALUE Strokes ends and the apply continues. -/
  | applyWaitExpire
  /-- IMAGE_APPLIED, 20 R505: The image records and the overlay are applied, configuration lock is applied and RESTORE begins. -/
  | imageApplied
  /-- RESTORE_DONE, 20 R498: The learned stores are loaded and RUN or FAILSAFE is due at the next edge. -/
  | restoreDone
  /-- LOCK, 20 R506: CFG_CMD.LOCK makes every RWL register read only until the next reset. -/
  | cfgLock
  /-- STORE, 20 R512: CFG_CMD.STORE adds the selected stores to the pending mask. -/
  | nvmStore (m : BitVec 3)
  /-- LEARN_STORE_TIMER, 20 R512: Every LEARN_HRS hours, or on entry of the model to FULL, a store of LEARNED is requested. -/
  | learnStoreTimer
  /-- NVM_STORE_START, 20 R512: The NVM controller, idle with stores pending in RUN or FAILSAFE, takes the lowest store and erases its area. -/
  | nvmStoreStart
  /-- NVM_ERASE_DONE, 20 R512: The copy area is erased and programming begins. -/
  | nvmEraseDone
  /-- NVM_WRITE_DONE, 20 R512: Header and payload are programmed and read back, and the seal follows or VERIFY fails. -/
  | nvmWriteDone (ok : Bool)
  /-- NVM_SEAL_DONE, 20 R512: The seal is programmed, the copy becomes valid and STORE_DONE is raised. -/
  | nvmSealDone
  /-- NVM_TMO, 20 R512: A store exceeds NVM_TMO, fails and raises source 21. -/
  | nvmTmo (yielded dt : Nat)
  /-- APPEND, 20 R510: OVL_CTL.APPEND adds a record to the overlay staging. -/
  | ovlAppend
  /-- CLEAR, 20 R510: OVL_CTL.CLEAR empties the overlay staging. -/
  | ovlClear
  /-- ENROLL, 20 R503: IK_CMD.ENROLL enrols an image-key hash in OTP. -/
  | ikEnroll (k : Fin 4)
  /-- REVOKE, 20 R503: IK_CMD.REVOKE revokes an image-key entry in OTP. -/
  | ikRevoke (k : Fin 4)
  /-- MIN_SEQ_WRITE, 20 R510: A write to MIN_SEQ raises it, and a lower value is ignored. -/
  | minSeqWrite (v : BitVec 32)
  /-- WRITE, 20 R516: SPI opcode 0x02 writes words on one data line. -/
  | spiWrite (a : BitVec 24) (l : List Word) (part : Bool) (dt : Nat)
  /-- READ, 20 R516: SPI opcode 0x0B reads words on one data line after 8 dummy clocks. -/
  | spiRead (a : BitVec 24) (n : Nat) (part : Bool) (dt : Nat)
  /-- QWRITE, 20 R516: SPI opcode 0x32 writes words on four data lines. -/
  | spiQwrite (a : BitVec 24) (l : List Word) (part : Bool) (dt : Nat)
  /-- QREAD, 20 R516: SPI opcode 0x6B reads words on four data lines after 8 dummy clocks. -/
  | spiQread (a : BitVec 24) (n : Nat) (part : Bool) (dt : Nat)
  /-- STATUS, 20 R516: SPI opcode 0x05 returns the last error code and the Custodian bit. -/
  | spiStatus (dt : Nat)
  /-- SPI_UNKNOWN_OPCODE, 20 R516: An unknown SPI opcode is ignored until CS_N rises, with code FRAME. -/
  | spiUnknownOpcode (op : Byte) (dt : Nat)
  /-- I2C_WRITE, 20 R516: An I²C write transaction writes data words from the given address. -/
  | i2cWrite (dev : BitVec 7) (a : BitVec 24) (l : List Word) (part : Bool) (dt : Nat)
  /-- I2C_READ, 20 R516: An I²C read transaction returns data words until the master's NACK. -/
  | i2cRead (dev : BitVec 7) (a : BitVec 24) (n : Nat) (part : Bool) (dt : Nat)
  /-- NEW, 20 R518: HST_CUST_CMD.NEW draws a 32-byte challenge for the interface. -/
  | custNew (j : Iface) (dt : Nat)
  /-- VERIFY, 20 R518: HST_CUST_CMD.VERIFY checks the response under KS_2 and grants or refuses Custodian privilege. -/
  | custVerify (j : Iface) (dt : Nat)
  /-- CUSTODIAN_CLAIM, 20 R519: HST_CUST_CMD.CLAIM grants Custodian at once while KS_2 is unusable in FACTORY or PROVISIONED. -/
  | custodianClaim (j : Iface) (dt : Nat)
  /-- DROP, 20 R518: HST_CUST_CMD.DROP ends the interface's Custodian privilege. -/
  | custDrop (j : Iface) (dt : Nat)
  /-- CUST_TIMEOUT, 20 R518: An interface idle for CUST_TMO × 600 s loses Custodian privilege, discarding any hold it owns. -/
  | custTimeout (j : Iface) (dt : Nat)
  /-- CUST_FAIL_WAIT_END, 20 R518: One second after a failed verification, NEW is served again on the interface. -/
  | custFailWaitEnd (j : Iface) (dt : Nat)
  /-- MGMT_REQUEST, 20 R521: An in-band management request is authenticated, replay-checked, performed and answered. -/
  | mgmtRequest (dt : Nat)
  /-- XTAL_RESTART, 19 R478: The 32.768 kHz crystal starts giving edges again after a stop, and XTAL_OK returns to 1. -/
  | xtalRestart
  /-- VBAT_FALL, 21 R530: VBAT falls below 1.7 V or is removed, setting VBAT_LOW and, with the main supplies absent, losing PD_AO. -/
  | vbatFall
  /-- VBAT_RISE, 19 R477: VBAT is applied or rises above 1.7 V, clearing VBAT_LOW and, with the main supplies absent, powering up PD_AO with RTC_VALID 0. -/
  | vbatRise
  /-- BANK_RAIL_LOW, 21 R531: A VDDO, VDDIO_REF or VDDIO_G bank falls below 1.55 V; its pins go high-impedance and its inputs read 0. -/
  | bankRailLow (b : Fin 4)
  /-- BANK_RAIL_RESTORED, 21 R531: A VDDO, VDDIO_REF or VDDIO_G bank rises above 1.55 V and its pins are driven and its inputs read again. -/
  | bankRailRestored (b : Fin 4)
  /-- PFAIL_N_RISE, 19 R483: PFAIL_N returns high during an episode and starts the REARM wait. -/
  | pfailNRise (dt : Nat)
  /-- TCK_EDGE, 21 R545: A TCK edge, or TRST_N, drives the JTAG TAP and its instructions in the life-cycle state. -/
  | tckEdge (rise tms tdi trst : Bool) (pins : List Bool)
  /-- INJECTION_COMPLETE, 11 R293: An INJ_1 or INJ_BURST injection finishes inverting its bits, so a new request is accepted. -/
  | injectionComplete (k : Fin 16)
  /-- SESS_CMD_DONE, 13 R351: A session-table READ, WRITE or FREE command completes and SESS_CMD.BUSY clears. -/
  | sessCmdDone
  deriving DecidableEq, Repr

end Sys2Proof
end

