-- ==== Sys2Proof/Machine/State.lean ====
section
/-! DEFINITION. The block's state: the register file (every register of every window, sparse, an unlisted register holding its
reset word), and per block the state that has no register of its own. Fault and Refusal name why a step could stop. -/

namespace Sys2Proof.Machine

/-- No command of this block stops the block with a fault: an error of the hardware is a status bit, a fault source (17 R427)
or an access error (20 R517), all of them effects on State. The type has the one reason below, which nothing raises. -/
inductive Fault where
  /-- Raised by nobody. Safe: it makes no run stop. -/
  | none
  deriving DecidableEq, Repr

/-- Why a command has no meaning. -/
inductive Refusal where
  /-- A command whose meaning is not written; raised by Dispatch only. Safe: the run stops. -/
  | notModelled (mnemonic : String)
  deriving DecidableEq, Repr

/-! ## GEN: Strokes, held writes, Solver tasks (01 R17 to R40) -/

/-- A write to a Stroke-read register, as it waits for the next edge (01 R32): the register's key, and the word and the mask
of the bits that the write changes; for a held write (R34) also the word written and the interface, where it starts an action. -/
structure WaitWrite where
  key : Nat
  val : Nat
  mask : Nat
  act : Option (Iface × Nat) := none
  deriving DecidableEq, Repr

/-- One Solver task (01 R28 to R31). published: it has published; startStroke: the start edge of its output; stale: the output is treated as absent; idle: no
period is under way; begun: the start edge of the period under way; out: that period's output is published; overrun: it was not at the deadline. Edges are
numbered by the Strokes' count after them. -/
structure TaskSt where
  published : Bool := false
  startStroke : Nat := 0
  stale : Bool := false
  idle : Bool := true
  begun : Nat := 0
  out : Bool := false
  overrun : Bool := false
  deriving DecidableEq, Repr

/-- What a Solver task has worked out, as it waits for the edge at which it is published (01 R28). -/
inductive SolverOut where
  | gnss (o : Option SolIn)
  | aiding (l : List AidIn)
  | carillon
  | learning (t0 : BitVec 16)
  | bmca (l : List BmcaIn)
  | election
  deriving DecidableEq, Repr

/-- edgeNow: the raw count of the last edge. On the backup oscillator, bkFrom and bkCyc: the raw count at which the core changed to it, and the core cycles from
there to the next edge (01 R17, 02 R43). The hold of 01 R34 to R36, the waiting writes of R32 and the Solver tasks: jobs: outputs that wait for their edge;
inputs: by task, the registers as they stood at the start edge of its period; peakA, peakB: the most cycles of a Stroke that the pairs have used since the last
multiple of 8 000 Strokes (R39); loadDue: the peaks of the 8 000 Strokes that have ended. -/
structure GenSt where
  waiting : List WaitWrite := []
  held : List WaitWrite := []
  holdStrokes : Nat := 0
  edgeNow : Nat := 0
  bkFrom : Nat := 0
  bkCyc : Nat := 0
  tasks : Tbl TaskSt := []
  jobs : List SolverOut := []
  inputs : Tbl (Tbl Word) := []
  peakA : Nat := 0
  peakB : Nat := 0
  loadDue : Option (Nat × Nat) := none
  deriving DecidableEq, Repr

/-! ## ETM: engine time (02) -/

/-- A step request waiting for the next edge (02 R53, R56): a signed delta in 2^-16 ns, or an absolute ETIME in 2^-16 ns. -/
structure StepReq where
  abs : Bool
  val : Int
  deriving DecidableEq, Repr

/-- The re-epoch states of 02 R59. -/
inductive ReState where
  | run | muffling | stepping | settle
  deriving DecidableEq, Repr

/-- A UTC source's data (02 R69): valid, offset, leap code and LEAP_TAI. -/
structure UtcData where
  valid : Bool := false
  offset : Int := 0
  leap : Nat := 0
  leapTai : Nat := 0
  deriving DecidableEq, Repr

/-- A conversion's result, before DONE (02 R66 to R68). -/
structure ConvRes where
  out : Nat
  range : Bool
  preStep : Bool
  invalid : Bool
  deriving DecidableEq, Repr

/-- Engine time (02 R44 to R70). sub is the sub-second part in 2^-48 ns; anchor is RAW48; rate has an LSB of 2^-60. start: the offset at
Stroke edge 0, 2^-48 ns. eraNew: an era began at this edge (R51). custReq: a Custodian's request, whether absolute; its value is read at the edge (R56). almWas, almAt: by alarm, the raw counts at which it last fired, and was last armed or re-armed (R63, R64); utcOld: the offset before the last leap made current, with its LEAP_TAI (R70). utcCfg: level 4 of 02 R69; utcSeen: each valid source's data as it gave them, and as they stand after the leaps since (R70), by 0 level 1,
1 level 2, 2 level 4, 3 + m the source that monitor m names. -/
structure EtmSt where
  sec : Nat := 0
  sub : Nat := 0
  anchor : Nat := 0
  rate : Int := 0
  ratePub : Int := 0
  custReq : Option Bool := none
  autoReq : Option StepReq := none
  reState : ReState := .run
  reTimer : Nat := 0
  reStart : Bool := false
  reAbort : Bool := false
  reDue : Bool := false
  eraNew : Bool := false
  lastDelta : Int := 0
  lastStepRaw : Nat := 0
  timeSrc0 : Nat := 0
  start : Int := 0
  backupFrom : Option Nat := none
  backupTo : Option Nat := none
  convRes : Tbl (Option ConvRes) := []
  almLate : Tbl Bool := []
  almWas : Tbl (Option Nat) := []
  almAt : Tbl Nat := []
  utcCur : UtcData := {}
  utcSeen : Tbl (UtcData × UtcData) := []
  utcCfg : UtcData := {}
  conflictNow : Bool := false
  utcGnss : UtcData := {}
  utcUp : Tbl UtcData := []
  utcOld : Option (Nat × Int) := none
  deriving DecidableEq, Repr


/-! ## CLP: the Clapper (03) -/

/-- A stamp: arrival and delivered RAWF, INV, falling edge, whether an edge was missed before it on its path, and its source. -/
structure Stamp where
  arr : Nat
  dlv : Nat
  inv : Bool := false
  fall : Bool := false
  gap : Bool := false
  src : Nat := 0
  deriving DecidableEq, Repr

/-- One path (start or stop) of a channel: its prescaler count, burst buffer, its last stamp's arrival in 2^-12 of the raw counts since reset, and the raw count at which
the buffer last passed a stamp. -/
structure ClpPath where
  presc : Nat := 0
  buf : List Stamp := []
  last : Option Nat := none
  outAt : Option Nat := none
  miss : Bool := false
  deriving DecidableEq, Repr

/-- A statistics block in progress (03 R95, R96). -/
structure ClpStat where
  n : Nat := 0
  sum : Int := 0
  sq : Nat := 0
  min : Int := 0
  max : Int := 0
  s0 : Option Nat := none
  prev : Option Nat := none
  stopped : Bool := false
  restart : Bool := false
  deriving DecidableEq, Repr

/-- The states of start/stop mode (03 R91). -/
inductive SsState where
  | idle | armed | waitStop
  deriving DecidableEq, Repr

/-- A channel. cur and nxt: the stamps of the snapshot being built and of the one after it (01 R22); used: the stop stamp that the last result used (03 R92);
late: an entry that reached a full queue in the cycle of a read that is served first (R90). -/
structure ClpCh where
  start : ClpPath := {}
  stop : ClpPath := {}
  cur : List Stamp := []
  nxt : List Stamp := []
  queue : List Nat := []
  gapNext : Bool := false
  above : Bool := false
  ss : SsState := .idle
  pendStart : Stamp := { arr := 0, dlv := 0 }
  startAt : Nat := 0
  postWin : Nat := 0
  held : Option Stamp := none
  used : Option Stamp := none
  late : Option Nat := none
  stat : ClpStat := {}
  deriving DecidableEq, Repr

/-- A converter slice (03 R76, R77): the profile by code in 2^-64 (empty: the factory's), the table in effect and its figures, the scale in 1/64 codes (0: none
yet), the failed calibrations since the last good one, and whether the hold has ended. -/
structure ClpSlice where
  prof : List Nat := []
  table : List Nat := []
  scale : Nat := 0
  binMax : Nat := 0
  calRes : Nat := 0
  fails : Nat := 0
  bad : Bool := false
  deriving DecidableEq, Repr

/-- A sample as a monitor and a timing channel read it (04 R105, R106): x in 2^-10 ns (where has says that one was formed),
its instant in 2^-26 ns and as a RAWF, and its flags. -/
structure Samp where
  x : Int := 0
  t : Int := 0
  raw : Nat := 0
  has : Bool := false
  inv : Bool := false
  los : Bool := false
  step : Bool := false
  psw : Bool := false
  deriving DecidableEq, Repr

/-- A published snapshot of one reference: its valid and invalid samples in order, and the flags LOS and STEP, with whether a
spurious edge set STEP (04 R109), and the monitor's history that the samples belong to. -/
structure Snap where
  samps : List Samp := []
  los : Bool := false
  step : Bool := false
  spur : Bool := false
  era : Nat := 0
  deriving DecidableEq, Repr

/-- CLP. slices: by converter × 2 + slice. fact: the factory delays by (channel × 2 + path) × 17 + prescaler exponent (03 R73): DESIGN CHOICE (log entry 21), 0 where the
spec states no value. figs: by converter, CAL_RES and BIN_MAX as published (R78, R99); figsE: those of the last edge. snaps: the published snapshot of every reference, physical and virtual. -/
structure ClpSt where
  chs : Tbl ClpCh := []
  slices : Tbl ClpSlice := []
  fact : Tbl Int := []
  warm : Bool := true
  warmFrom : Nat := 0
  snaps : Tbl Snap := []
  figs : Tbl (Nat × Nat) := []
  figsE : Tbl (Nat × Nat) := []
  deriving DecidableEq, Repr

/-! ## RMON: the monitors (04) -/

/-- A monitor's own state. origin: the total of engine time and the RAWF of s0; prevX: the x of the last sample formed; xk: the
published phase and its instant; hist: the samples held, newest first; era counts the histories begun. -/
structure Mon where
  era : Nat := 0
  started : Bool := false
  origin : Option (Int × Nat) := none
  prevX : Option Int := none
  lastValid : Option Nat := none
  lastStamp : Option Nat := none
  xk : Option (Int × Int) := none
  freq : Option Int := none
  hist : List (Int × Int) := []
  mtie : Option Nat := none
  tdev : Option Nat := none
  ivN : Nat := 0
  ivX : Option (Int × Int) := none
  val : Nat := 0
  clr : Nat := 0
  invHold : Bool := false
  invRun : Nat := 0
  losOk : Nat := 0
  sinceStep : Option Nat := none
  cfgSeen : Nat := 0x100000
  cfgForce : Bool := false
  srcErr : Bool := false
  ssm : Nat := 0xF
  essm : Nat := 0xFF
  cls : Nat := 0xFF
  acc : Nat := 0xFE
  qlFail : Bool := false
  esmcAt : Nat := 0
  deriving DecidableEq, Repr

/-- RMON. vin: samples formed by the virtual sources since the last edge, and their LOS. -/
structure RmonSt where
  mons : Tbl Mon := []
  vin : Tbl (List Samp) := []
  deriving DecidableEq, Repr

/-! ## SEL: selection and the Carillon (05) -/

/-- A single-precision number m × 2^e (05 R145), |m| below 2^24. -/
structure F32 where
  m : Int := 0
  e : Int := 0
  deriving DecidableEq, Repr

/-- A reference as SEL holds it. hist: Stroke, instant in 2^-26 ns and y of the samples in the frequency window, newest first;
since: the Stroke of its first sample since it left INVALID; c: c(m) while held; prov: a candidate's provisional offset; vc: Strokes
continuously VALID and CLEAR. -/
structure RefSt where
  y : Option Int := none
  lastRaw : Nat := 0
  age : Nat := 0
  hist : List (Nat × Int × Int) := []
  since : Option Nat := none
  c : Option Int := none
  prov : Option Int := none
  s2 : Option F32 := none
  vc : Nat := 0
  member : Bool := false
  cnt : Nat := 0
  prevMon : Nat := 0
  deriving DecidableEq, Repr

/-- SEL. timers: by channel × 32 + entry; accept: the ACCEPT bits that wait for the edge; carIn: the references as the estimator reads them at its start edge. -/
structure SelSt where
  refs : Tbl RefSt := []
  timers : Tbl Nat := []
  accept : Nat := 0
  carIn : Tbl RefSt := []
  deriving DecidableEq, Repr
/-! ## BND: holdover and bounds (06) -/

/-- What a PTP session or a Porarir link last took from its upstream: its BOUND (LOWER, UPPER, UNBOUNDED) and the raw count at
which its age starts, its Announce interval in Strokes, the announced accuracy, the residual asymmetry and hop in 2^-16 ns, the lane
on which the last exchange ran, the leader's node, and the session's Sync interval in ns. -/
structure UpInfo where
  bound : Option (Nat × Nat × Bool) := none
  taken : Nat := 0
  annStrokes : Nat := 0
  acc : Nat := 0xFE
  asym : Nat := 0
  hop : Nat := 0
  lane : Nat := 0
  leader : Nat := 0
  syncNs : Nat := 125000
  deriving DecidableEq, Repr

/-- The half-widths of a model as a hold latches them (06 R163): d_f0, d_a1 to d_a3, d_b1 to d_b3, with T0, TMIN, TMAX and the
fitted temperature order. -/
structure HalfW where
  f0 : Nat := 0
  a1 : Nat := 0
  a2 : Nat := 0
  a3 : Nat := 0
  b1 : Nat := 0
  b2 : Nat := 0
  b3 : Nat := 0
  t0 : Int := 0
  tMin : Int := 0
  tMax : Int := 0
  ordB : Nat := 0
  deriving DecidableEq, Repr

/-- What a hold from a sample would rest on (06 R162, R163): the total raw count of the sample, Tj's extremes since, and the half-widths in effect there. -/
structure HoldOrig where
  origin : Nat := 0
  tjMin : Int := 0
  tjMax : Int := 0
  hw : HalfW := {}
  deriving DecidableEq, Repr

/-- A bound set (06 R155 to R169). basis: 0 NONE, 1 TRACK, 2 FASSIST, 3 HOLDOVER. live: slots 0 to 6 of the last TRACK
computation, in 2^-48 ns. origin: the hold origin in total raw counts; u: the last growth rate in 2^-84; sticky: the causes that last
until TRACK. -/
structure BndSet where
  basis : Nat := 0
  kind : Nat := 0
  id : Nat := 0
  seq : Nat := 0
  live : List (Nat × Nat) := []
  hold : Nat := 0
  tauPrev : Nat := 0
  origin : Nat := 0
  u : Nat := 0
  first : Bool := true
  tjMin : Int := 0
  tjMax : Int := 0
  hw : HalfW := {}
  stepU : Nat := 0
  stepL : Nat := 0
  sticky : Nat := 0
  mode : Nat := 4
  deriving DecidableEq, Repr

/-- A learning second in progress (06 R172 item 1): Strokes seen, whether all were learning-grade, and the sums. -/
structure LearnSec where
  n : Nat := 0
  ok : Bool := true
  rate : Int := 0
  tj : Int := 0
  trace : Nat := 0
  deriving DecidableEq, Repr

/-- A bin of the fit: the mean total raw count, the mean RATE_ADJ (2^-60) and the mean Tj (2^-4 °C). -/
structure LearnBin where
  at' : Nat
  rate : Int
  tj : Int
  deriving DecidableEq, Repr

/-- The learner (06 R172). ready: the second that has ended; work: the one that the task under way reads. mstate: the state held, whatever DEF_AGE and DEF_TCO make BND_STAT read. f0N, f0S, f0Q: the count, sum and
sum of squares of the learning-grade seconds since NONE; since: those since F0_ONLY was entered; part: the bin in progress;
fitB, fitA: the orders fitted; epoch: the model's epoch in total raw counts; wasFull: a restore without the RTC was FULL. -/
structure LearnSt where
  sec : LearnSec := {}
  ready : Option LearnSec := none
  work : Option LearnSec := none
  mstate : Nat := 0
  f0N : Nat := 0
  f0S : Int := 0
  f0Q : Nat := 0
  since : Nat := 0
  part : List (Nat × Int × Int) := []
  bins : List LearnBin := []
  fitA : Nat := 0
  fitB : Nat := 0
  epoch : Nat := 0
  wasFull : Bool := false
  deriving DecidableEq, Repr

/-- The partition terms (06 R173): PART in 2^-48 ns while it runs, whether it ran at the last edge, whether this node is the half-leader, the growth rate received (2^-52),
and MERGE in 2^-16 ns, signed as DOM publishes the offset. -/
structure PartSt where
  on : Bool := false
  was : Bool := false
  own : Bool := false
  rate : Option Nat := none
  val : Nat := 0
  merge : Option Int := none
  deriving DecidableEq, Repr

/-- BND. ups: sessions by index, path pairs at 4096 + index. accepted: references made CLEAR by SEL_ACCEPT whose TRACK is awaited. origs: the last sample of each
reference, and at 32 + c the one behind channel c's servo input. -/
structure BndSt where
  sets : Tbl BndSet := []
  ups : Tbl UpInfo := []
  accepted : Nat := 0
  origs : Tbl HoldOrig := []
  tjPrev : Int := 400
  clrReq : Bool := false
  learn : LearnSt := {}
  part : PartSt := {}
  deriving DecidableEq, Repr

/-! ## TCH: the timing channels (07) -/

/-- A channel's loop (07 R182 to R198). integ: the integrator in 2^-92; phi in 2^-16 ns; pbo and eHold in 2^-10 ns; lastRef: the reference
last updated on (64: none); pend: a build-out is due; avg and line: the average and its delay line in 2^-92, newest first; h, q0: latched
at HOLDOVER, in 2^-60; stepFrz: edges of STEP freeze still due; eAge: the age of the sample behind PERR in Strokes; sinceUpd: Strokes since the last update;
fresh: restarted at the last edge. -/
structure TchCh where
  integ : Int := 0
  phi : Int := 0
  pbo : Int := 0
  eHold : Int := 0
  lastRef : Nat := 64
  pend : Bool := false
  frzRun : Nat := 0
  lockN : Nat := 0
  avg : Option Int := none
  line : List Int := []
  lockRun : Nat := 0
  h : Int := 0
  q0 : Int := 0
  stepFrz : Nat := 0
  eAge : Nat := 0
  sinceUpd : Nat := 0
  fresh : Bool := false
  deriving DecidableEq, Repr

/-- TCH. stepD: the delta of the step applied at the last edge; rateSum: RATE_ADJ summed over the 8 000-Stroke period, mean: its mean over
the last; codeReq: a written steering code; sent: the last transfer of the steering port. -/
structure TchSt where
  chs : Tbl TchCh := []
  stepD : Option Int := none
  rateSum : Int := 0
  mean : Int := 0
  codeReq : Option Nat := none
  sent : List Nat := []
  deriving DecidableEq, Repr

/-! ## APL and OUT (08) -/

/-- An APLL (08 R208). st: 0 OFF, 1 SEARCH, 2 ACQUIRE, 3 STABLE, 4 LOCKED, 5 HOP, 6 FENCED, as it stands between the published edges;
lockHeld: LOCK held since the last edge; losses: the Strokes of the losses of LOCKED; hop: a hop under way; stop: EN = 0 waits for the
outputs; plan: the plan in use; band: the band tried; tries: adjacent bands tried; evts: event groups to publish; unl, hops: counts to
publish; vph: the VCO's phase at the last edge, 2^-48 cycles. -/
structure ApllSt where
  st : Nat := 0
  stable : Nat := 0
  lockHeld : Bool := false
  losses : List Nat := []
  hop : Bool := false
  stop : Bool := false
  selSeen : Nat := 0
  plan : Nat := 0
  band : Nat := 0
  tries : Nat := 0
  evts : Nat := 0
  unl : Nat := 0
  hops : Nat := 0
  vph : Nat := 0
  deriving DecidableEq, Repr

/-- An output (08 R222). st: 0 OFF, 1 MUFFLED, 2 RUN, 3 MUFFLING; ph: VCO cycles × 2^48 from the last edge to the next leading edge;
div: the period in VCO cycles × 2^48; ph and div are without the Roll term; ra, rc: r_a and r_c of the Stroke, 2^-60; quiet: no edge leaves before it; roll: the Roll term, 2^-60;
wait: released, with no edge yet; cyc, wid: the period, and a pulse's width in ns, of the cycle in progress at the last edge; restart: a write that restarts it awaits its
edge; cfgNow: cause CFG at the last edge; moved: out of OFF at the last edge; evM, mufs: a Muffle to publish. -/
structure OutSt where
  st : Nat := 0
  ph : Int := 0
  div : Int := 1
  quiet : Int := 0
  roll : Int := 0
  ra : Int := 0
  rc : Int := 0
  wait : Bool := false
  cyc : Int := 1
  wid : Nat := 100000
  restart : Bool := false
  cfgNow : Bool := false
  moved : Bool := false
  evM : Bool := false
  mufs : Nat := 0
  deriving DecidableEq, Repr

/-- APL and OUT. -/
structure OutsSt where
  aplls : Tbl ApllSt := []
  outs : Tbl OutSt := []
  deriving DecidableEq, Repr

/-! ## GNS: the GNSS signal path (09) -/

/-- The loops of a band as they run (09 R244, R245): the DLL's bandwidth in 0.05 Hz, the FLL's and the PLL's in hertz and the PLL's order; 0
stands for a loop that does not run; the coherent interval in ms; the replicas' spacings in 1/32 and 1/16 chip. -/
structure LoopSet where
  dll : Nat := 0
  fll : Nat := 0
  pll : Nat := 0
  ord : Nat := 0
  coh : Nat := 0
  el : Nat := 0
  vevl : Nat := 0
  deriving DecidableEq, Repr

/-- A channel's band (09 R247, R255). st: 0 OFF, 1 PULLIN, 2 PLL, 3 COAST; codePh, period, phase, dop: its NCOs; age: ms in the state; good, bad: ms of PLI
at PLI_LOCK, and of loss; slip: a slip since the last record; run: ms into the coherent interval; disc: the phase discriminator of the last one; iq: the
prompt's (I² − Q²)/(I² + Q²) of the last 20 ms in 2^-32, newest first; side: SIDEPEAK; ve, vl: the last powers; sideRun: ms of a stronger side. -/
structure BandSt where
  st : Nat := 0
  sig : Nat := 0
  codePh : Nat := 0
  period : Nat := 0
  phase : Int := 0
  dop : Int := 0
  loops : LoopSet := {}
  run : Nat := 0
  disc : Option Int := none
  iq : List Int := []
  ve : Nat := 0
  vl : Nat := 0
  sideRun : Nat := 0
  pli : Nat := 0
  cn0 : Nat := 0
  lockMs : Nat := 0
  half : Bool := false
  bitSync : Bool := false
  secSync : Bool := false
  side : Bool := false
  slip : Bool := false
  age : Nat := 0
  good : Nat := 0
  bad : Nat := 0
  deriving DecidableEq, Repr

/-- A tracking channel. rho, iono: the range and the ionospheric delay of 09 R246, in 2^-10 m; bw: the bandwidth at which the delay is driven, in 0.01 Hz, 0 while not in DUAL. -/
structure GnsCh where
  sys : Nat := 0
  svid : Nat := 0
  b1 : BandSt := {}
  b5 : BandSt := {}
  rho : Int := 0
  iono : Int := 0
  bw : Nat := 0
  deriving DecidableEq, Repr

/-- A queued search entry (09 R241 to R243). kind: 0 verification, 1 handover, 2 a satellite's grid from entry idx on; cells: of the
entry; nc: its NC; ch: the channel of a handover; codePh, dop: the centre; aided: the grid that idx counts in. -/
structure AcqEntry where
  kind : Nat
  sys : Nat
  svid : Nat
  sig : Nat
  idx : Nat := 0
  cells : Nat := 0
  nc : Nat := 0
  ch : Nat := 96
  codePh : Nat := 0
  dop : Int := 0
  aided : Bool := false
  deriving DecidableEq, Repr

/-- A notch (09 R236): ms of its tone below the release level, and its centre at the last record. -/
structure NotchSt where
  below : Nat := 0
  ref : Int := 0
  deriving DecidableEq, Repr

/-- A measurement record (09 R253, R254): the latched channels with their NCOs. -/
structure GnsRec where
  seq : Nat := 0
  target : Int := 0
  latch : Nat := 0
  res : Int := 0
  rate : Nat := 0
  idx : Nat := 0
  ji1 : Nat := 0
  ji5 : Nat := 0
  eflags : Nat := 0
  joint : Bool := false
  chs : List (Nat × GnsCh × BandLatch × BandLatch) := []
  deriving DecidableEq, Repr

/-- GNS. port: the last sample's B1 I, Q and B5 I, Q; sclk: the stamps of the last Strokes, newest first, as (Stroke, index, engine time in 2^-26 ns);
sclkAt: the last stamped edge; good: successive good Strokes; fe: the table entry in progress, feAt: its start, feRan: a run has been, feHold: CS_N asserted from
the entry before; feAbort, feAgain; agcRun, agcDue: AGC reads, agcAt: their last periods; pk1, pk5, ji1, ji5: the monitors' figures, specAt: their last
milliseconds; notchSet: the written FREQ; armed: target ETIME (2^-16 ns) and RAW48; seq: EPOCH_SEQ;
pend: a record with the Stroke of its publication; banks: two records, view: the newer; newest: the record at SOLVER_A's port, marked GAP for an epoch without one; pins: interface to (bank, Stroke). -/
structure GnsSt where
  port : List Int := []
  sclk : List (Nat × Nat × Int) := []
  sclkAt : Nat := 0
  good : Nat := 0
  bandOff : Nat := 0
  fe : Option Nat := none
  feAt : Nat := 0
  feRan : Bool := false
  feHold : Bool := false
  feAbort : Bool := false
  feAgain : Bool := false
  agcRun : Option Nat := none
  agcDue : Nat := 0
  agcAt : Tbl Nat := []
  pk1 : Nat := 0
  pk5 : Nat := 0
  specAt : Tbl Nat := []
  ji1 : Nat := 0
  ji5 : Nat := 0
  jamUp : Nat := 0
  notches : Tbl NotchSt := []
  notchSet : Tbl Int := []
  notchChg : Bool := false
  aid : List AidIn := []
  queue : List AcqEntry := []
  retry : List (AcqEntry × Nat) := []
  dwell : List AcqEntry := []
  dwellFrom : Nat := 0
  dwellNc : Nat := 0
  chs : Tbl GnsCh := []
  rel : List Nat := []
  armed : Option (Int × Nat) := none
  last : Int := -1
  seq : Nat := 0
  gap : Bool := false
  span : Bool := false
  pend : Option (GnsRec × Nat) := none
  banks : Tbl GnsRec := []
  view : Nat := 0
  newest : GnsRec := {}
  pins : Tbl (Option (Nat × Nat)) := []
  epochGo : Bool := false
  deriving DecidableEq, Repr

/-! ## GNT: GNSS time (10) -/

/-- The survey (10 R266): whether it has ended, the Stroke of its first epoch, the epochs, the sum of their positions in mm and of their squares. -/
structure Survey where
  done : Bool := false
  from' : Nat := 0
  n : Nat := 0
  x : Int := 0
  y : Int := 0
  z : Int := 0
  sq : Int := 0
  deriving DecidableEq, Repr

/-- GNT. slpReq, wakeReq: written since the last edge; slpPend: a SLEEP that waits for AWAKE; slpFrom: the Stroke at which SLP_STATE was
entered; feDue: the front end is to be configured once PD_GNSS is ON; storeReq: a store of the GNSS cache is to be requested; storeRes: how it
ended; latchAt: the Stroke of the latch of the last passing epoch; et0: engine time just after the last edge, 2^-48 ns; tpNew, tpDue: a target
instant that passed in the last Stroke and in the one before, 2^-48 ns; smooth: by channel, the epochs smoothed and the smoothed arrival estimate in 2^-32 ns
(R262); tpOn: TP_EN as last seen; recIn: the record
that the solution under way reads. -/
structure GntSt where
  survey : Survey := {}
  slpReq : Bool := false
  wakeReq : Bool := false
  slpPend : Bool := false
  slpFrom : Nat := 0
  feDue : Bool := false
  storeReq : Bool := false
  storeRes : Option Bool := none
  latchAt : Option Nat := none
  et0 : Int := 0
  tpNew : Option Int := none
  tpDue : Option Int := none
  smooth : Tbl (Nat × Int) := []
  tpOn : Bool := false
  tpSeq : Nat := 0
  recIn : GnsRec := {}
  deriving DecidableEq, Repr

/-! ## LAN: the lanes (11) -/

/-- A lane (11 R285). timer: raw counts at which its stage was entered; probes: successive probes that found a partner; probeAt: raw counts at which the
next is due; limit: raw counts that the stage may last, as TMR0 and TMR1 stood at its entry; fails: consecutive failures; recent: the Strokes of its LOL exits; fec: RS-FEC as Clause 73 resolved it; inj: bits of an injection in
progress; taps: the TXEQ word in use; cdr: bit lock has been reached; bad: LOS for the window of the next snapshot; org: the first stamp since ACTIVE as
engine time (2^-48 ns), WIDX and x_0 (2^-48 ns); hist: (engine time in 2^-48 ns, WIDX) of the last Strokes, newest first; rx, tx: delivered stamp, WIDX and
INV of the last three Strokes, newest first. -/
structure LaneSt where
  timer : Nat := 0
  probes : Nat := 0
  probeAt : Option Nat := none
  limit : Nat := 0
  fails : Nat := 0
  recent : List Nat := []
  fec : Bool := false
  inj : Nat := 0
  taps : Nat := 0x2800
  cdr : Bool := false
  bad : Bool := true
  org : Option (Int × Nat × Int) := none
  hist : List (Int × Nat) := []
  rx : List (Nat × Nat × Bool) := []
  tx : List (Nat × Nat × Bool) := []
  deriving DecidableEq, Repr

/-- LAN. rcal: bit q: the board holds quad q's calibration resistor (21 R527); no command changes it (log entry 30). -/
structure LanSt where
  rcal : Nat := 15
  lanes : Tbl LaneSt := []
  deriving DecidableEq, Repr

/-! ## KEY: the key store (14) -/

/-- A slot (14 R360): STATE as stored (0 FREE, 1 LIVE, 2 EXHAUSTED, 3 INVALID), its record, and its key held as key XOR mask (R377). -/
structure KeySlot where
  state : Nat := 0
  kind : Nat := 0
  life : Nat := 0
  ops : Nat := 0
  priv : Nat := 0
  role : Nat := 0
  spp : Nat := 0
  useMax : Nat := 0
  uses : Nat := 0
  parent : Nat := 0
  depth : Nat := 0
  gen : Nat := 0
  pgen : Nat := 0
  floor : Nat := 0
  stored : Nat := 0
  mask : Nat := 0
  deriving DecidableEq, Repr

/-- A staged operation (14 R368): OP, the slot, and for an import the new slot's contents with its key in clear; val: the new USES. -/
structure KeyOp where
  op : Nat
  slot : Nat
  new : KeySlot
  val : Nat
  deriving DecidableEq, Repr

/-- A journal transaction (14 R372): its sequence number and the records of the slots it changes, the keys in clear (they are sealed under KWRAP). -/
structure JTxn where
  seq : Nat
  recs : List (Nat × KeySlot)
  deriving DecidableEq, Repr

/-- The key engine. txn: 0 IDLE, 1 OPEN, 2 COMMITTING; owner; since: raw count of BEGIN; staged; masks drawn so far by passes; rngCnt: outputs since the last
reseed; att: per interface the attestation message being worked on; floorDue: slots whose next use waits for a floor commit; remaskAt: the Stroke of the last
pass; down: the store reads FREE until its restore. -/
structure KeySt where
  slots : Tbl KeySlot := []
  staged : List KeyOp := []
  since : Nat := 0
  rngCnt : Nat := 0
  att : Tbl (Option (List Nat)) := []
  floorDue : List Nat := []
  remaskAt : Nat := 0
  deriving DecidableEq, Repr

/-! ## The on-chip NVM (20 R509 to R514) -/

/-- A copy of a store (20 R511): its sequence number; payload: MIN_SEQ and the overlay; or
register words by address, the learner's state, the engine-time second of storage, the APLL bands with their plan's words, the Clapper profiles; or
the GNSS words. -/
structure NvmCopy where
  seq : Nat
  minSeq : Nat := 0
  ovl : List (Nat × Nat) := []
  learn : LearnSt := {}
  words : List (Nat × Nat) := []
  sec : Nat := 0
  bands : List (Nat × List Nat) := []
  clapper : Tbl ClpSlice := []
  nEph : Nat := 0
  gnss : List (Nat × Nat) := []
  deriving DecidableEq, Repr

/-- The NVM. jnl: the two halves of the key region, each the sealed transactions, oldest first; part: a transaction without a seal, in the active half; copies:
store × 2 + area; later: a copy area whose header carries a later SEQ without its seal. -/
structure NvmSt where
  jnl0 : List JTxn := []
  jnl1 : List JTxn := []
  part : Option JTxn := none
  copies : Tbl (Option NvmCopy) := []
  torn : Tbl (Option Nat) := []
  deriving DecidableEq, Repr

/-! ## MAC (12), and the frames that TSV and HST take from it -/

/-- A tagged frame on its way (18 R466, R467): the entry's fields, the Δ in core cycles. -/
structure TagRec where
  tseq : Nat
  port : Nat
  len : Nat
  cls : Nat
  mal : Nat := 0
  rx : Nat
  acc : Nat := 0
  queue : Nat := 0
  parse : Nat := 0
  build : Nat := 0
  emit : Nat := 0
  commit : Nat := 0
  qlevel : Nat := 0
  deriving DecidableEq, Repr

/-- A received frame, without its FCS, with the receive stamp (RAWF), the checksums' results and INV; cls and seq are the host path's. -/
structure RxFrame where
  port : Nat
  bytes : List Nat
  stamp : Nat := 0
  inv : Bool := false
  ntags : Nat := 0
  ip4 : Bool := false
  udp : Bool := false
  cls : Nat := 0
  seq : Nat := 0
  tag : Option TagRec := none
  deriving DecidableEq, Repr

/-- A frame that waits to be sent, without its FCS. src: 0 host, 1 Mallet, 2 ESMC, 3 in-band management; mal: its Mallet; tsTag: the TAG of a TS_REQ frame; ip, udp: checksums to
compute; os: the offset of the PTP header whose one-step fields are written at commit; stamp: the transmit stamp of the reserved word, and INV; at':
raw counts at submission; sess: the session whose Delay_Req it is. -/
structure TxFrame where
  src : Nat
  mal : Nat := 0
  bytes : List Nat
  tsTag : Option Nat := none
  ip : Bool := false
  udp : Bool := false
  os : Option Nat := none
  stamp : Option (Nat × Bool) := none
  at' : Nat := 0
  sess : Option Nat := none
  tag : Option TagRec := none
  deriving DecidableEq, Repr

/-- A port. tx: frames waiting, in the order of submission; tsq: the timestamp queue's entries of 96 bits, oldest first; gap: the pending gap (first lost
TAG, count); gaps: the last 16 gap markers; late: an entry that waits for the read of its own core cycle; tagNext: the next TAG; busy: the RAWF, not wrapped, at which the frames committed or reserved end; sent: the last
frame sent, with FCS, and its stamp; maxAt, maxOld: raw counts of the last write of MAX_LEN and the limit before it; infoAt: raw counts of the last ESMC
PDU; pdus: raw counts of the PDUs of the last second; casc: flags and cascaded eEEC and EEC counts of the last Extended QL TLV received. -/
structure MacPort where
  tx : List TxFrame := []
  tsq : List Nat := []
  gap : Option (Nat × Nat) := none
  gaps : List (Nat × Nat) := []
  late : Option Nat := none
  tagNext : Nat := 0
  busy : Nat := 0
  sent : Option (List Nat × Nat) := none
  maxAt : Nat := 0
  maxOld : Nat := 1518
  infoAt : Option Nat := none
  pdus : List Nat := []
  casc : Option (List Nat) := none
  deriving DecidableEq, Repr

/-- MAC. hrx: the frames of the host receive buffer, hrxPos: bytes read of the head; hrxSeq: frames entered; htx: bytes written since the last SUBMIT. -/
structure MacSt where
  ports : Tbl MacPort := []
  hrx : List RxFrame := []
  hrxPos : Nat := 0
  hrxSeq : Nat := 0
  htx : List Nat := []
  deriving DecidableEq, Repr

/-! ## TSV: time services (13) -/

/-- A frame in a Mallet's queue. wait: the Stroke in which its reservation crossed the edge (R332); cur: the slot CURRENT at its PARSE; opened: the keys C2S and
S2C of its cookie, once AUTH has passed; kod: answered with KoD RATE. -/
structure MalFrame where
  f : RxFrame
  wait : Option Nat := none
  cur : Option Nat := none
  opened : List Nat := []
  kod : Bool := false
  deriving DecidableEq, Repr

/-- A message that the device originates and that waits for the edge (R332): kind 0 Sync, 1 Delay_Req; the session, or port + 4096. -/
structure Origin where
  kind : Nat
  who : Nat
  wait : Nat
  deriving DecidableEq, Repr

/-- A Mallet. -/
structure Mallet where
  q : List MalFrame := []
  due : List Origin := []
  deriving DecidableEq, Repr

/-- One message type's grant: granted logInterMessagePeriod, raw counts at which it ends, seconds granted. -/
structure Grant where
  log : Int
  until' : Nat
  dur : Nat
  deriving DecidableEq, Repr

/-- What a master announced (R347, R348): clockClass, clockAccuracy, offsetScaledLogVariance, priorities, grandmaster identity, stepsRemoved, flags. -/
structure Dataset where
  cls : Nat
  acc : Nat
  var : Nat
  prio1 : Nat
  prio2 : Nat
  gm : List Nat
  steps : Nat
  flags : Nat
  utc : Int
  deriving DecidableEq, Repr

/-- A session (R351, R352). st: 1 REQUESTING, 2 ACTIVE, 3 RENEWING, 4 CANCELLING; role: 0 unicast server, 1 unicast client, 2 multicast client; since: raw
counts at which the state was entered or its requests were last sent; nextRaw: raw counts of the next Sync or Delay_Req; nextAnn: of the next Announce; lastRx: Strokes of the last message from the peer; the exchange: t1
in 2^-16 ns with the Sync's sequenceId, t2 a RAWF with INV, t3 a RAWF with INV, dreqId its Delay_Req's sequenceId, t4 in 2^-16 ns; annAt, syncAt: raw counts of the last
Announce and Sync. -/
structure Sess where
  st : Nat := 0
  role : Nat := 0
  v6 : Bool := false
  auth : Bool := false
  twoStep : Bool := false
  port : Nat := 0
  vlan : Nat := 0
  ip : List Nat := []
  mac : List Nat := []
  pid : List Nat := []
  spp : Nat := 0
  logs : List Nat := [0, 0, 0]
  ann : Option Grant := none
  sync : Option Grant := none
  dresp : Option Grant := none
  annSeq : Nat := 0
  syncSeq : Nat := 0
  dreqSeq : Nat := 0
  nextRaw : Nat := 0
  nextAnn : Nat := 0
  laddr : Nat := 0
  lastRx : Nat := 0
  sflags : Nat := 0
  since : Nat := 0
  t1 : Option Int := none
  rxSync : Option Nat := none
  dreqId : Nat := 0
  t2 : Option (Nat × Bool) := none
  cfSync : Int := 0
  t3 : Option (Nat × Bool) := none
  t4 : Option Int := none
  annAt : Nat := 0
  syncAt : Nat := 0
  los : Bool := false
  data : Option Dataset := none
  deriving DecidableEq, Repr

/-- A two-step Sync sent: its TAG, port, session (none: multicast) and the Sync's frame, from which its Follow_Up is made. -/
structure FuDue where
  tag : Nat
  port : Nat
  sess : Option Nat
  frame : List Nat
  deriving DecidableEq, Repr

/-- TSV. sess: the session table, sessions that are FREE not listed; buckets: level in tokens × 250 000 000 and raw counts of the last request, unlisted a full
bucket; fus: two-step Syncs whose Follow_Up is due; seqs: a port's next sequenceIds by port × 4 (0 Announce, 1 Sync, 2 Signaling); next: raw counts of a port's next multicast Announce and Sync, likewise; anns: by port the best multicast
Announce received last; refAt: engine time (2^-16 ns) of the last edge in TRACK in this era; why: UNSYNC_WHY; expired: the slots known EXPIRED. -/
structure TsvSt where
  mals : Tbl Mallet := []
  sess : Tbl Sess := []
  buckets : Tbl (Option (Nat × Nat)) := []
  fus : List FuDue := []
  seqs : Tbl Nat := []
  next : Tbl Nat := []
  anns : Tbl (Option Dataset) := []
  refAt : Option Int := none
  expired : List Nat := []
  deriving DecidableEq, Repr

/-! ## PRL: path pairs (15) -/

/-- A message in a pair's queue (15 R404): its SEQ, its payload, and the fragments that each half has sent. -/
structure PrlMsg where
  seq : Nat
  bytes : List Nat
  sent : List Nat := [0, 0]
  deriving DecidableEq, Repr

/-- An exchange (15 R395): the Stroke in which it completed, THETA (2^-10 ns), t4 in 2^-16 ns and as a RAWF, and t4 − t1 in 2^-16 ns. -/
structure PrlEx where
  stroke : Nat
  theta : Int
  t4 : Int
  raw : Nat
  span : Int
  deriving DecidableEq, Repr

/-- What a good TIME cell said (15 R393), from LOWER on: its bytes 7 to 55, and the raw count of its receive stamp. -/
structure PrlData where
  bytes : List Nat
  at' : Nat
  deriving DecidableEq, Repr

/-- A path, by 2 × pair + half (15 R399). upAt: raw counts of its lane's last entry to ACTIVE; exch: the last EXCH cell and the identical cells in a row;
trnAt: the lane's entry to TRAIN that ready (TRN cells in a row with READY) and trained (this end's receiver) belong to; part: the accepted partner's node, pair and half; st: 0 DOWN, 1 SYNC, 2 CAL, 3 STANDBY, 4 ACTIVE; barred: a
PARTNER cause since upAt; tollAt: raw counts of the last valid toll; far: valid tolls in a row with RXOK = 0; tollSlot: the toll period in which a TOLL left
last; sent: (SEQ, T_TX, INV) of the last 16 TIME cells, newest first; rx: SEQ, T_RX and INV of the last partner TIME cell, and whether a step has been accepted since; n: exchanges in
SYNC; bn, bs, bq: the block's count, sum and sum of squares of d; devs: deviations in a row; crc: CRC errors; sts: the STS byte; asm: per kind the SEQ, the
next fragment, the length and the bytes of a message coming in. -/
structure PrlPath where
  upAt : Option Nat := none
  exch : Option (List Nat × Nat) := none
  trnAt : Option Nat := none
  ready : Nat := 0
  trained : Bool := false
  part : Option (Nat × Nat × Nat) := none
  st : Nat := 0
  why : Nat := 0
  barred : Bool := false
  tollAt : Option Nat := none
  far : Nat := 0
  tollSlot : Nat := 0
  tollSeq : Nat := 0
  timeSeq : Nat := 0
  timeAt : Option Nat := none
  sent : List (Nat × Int × Bool) := []
  rx : Option (Nat × Int × Bool × Bool) := none
  n : Nat := 0
  bn : Nat := 0
  bs : Int := 0
  bq : Int := 0
  devs : Nat := 0
  ex : Option PrlEx := none
  delay : Int := 0
  sdev : Nat := 0
  cor : Int := 0
  corUnc : Nat := 0
  learned : Bool := false
  data : Option PrlData := none
  crc : Nat := 0
  sts : Nat := 0
  asm : Tbl (Option (Nat × Nat × Nat × List Nat)) := []
  deriving DecidableEq, Repr

/-- A pair (15 R401 to R405). seqs: the next SEQ by kind (0 DOMAIN, 1 FAULT, 2 MGMT); qs: the queues; high, seen: H and the recorded SEQs; psw: edges left at which
samples carry PSW; switch: a SWITCH that waits for the edge. -/
structure PrlPair where
  seqs : List Nat := [0, 0, 0]
  qs : Tbl (List PrlMsg) := []
  high : Tbl (Option Nat) := []
  seen : Tbl (List Nat) := []
  psw : Nat := 0
  switch : Bool := false
  deriving DecidableEq, Repr

/-- PRL. cells: by lane, the last cell sent. -/
structure PrlSt where
  paths : Tbl PrlPath := []
  pairs : Tbl PrlPair := []
  cells : Tbl (List Nat) := []
  deriving DecidableEq, Repr

/-! ## DOM: domains (16) -/

/-- A route (16 R413): the last ANN received on a pair, raw counts of its arrival and of the last change of its LSEQ. -/
structure DomRoute where
  ann : List Nat
  at' : Nat
  seqAt : Nat
  deriving DecidableEq, Repr

/-- An entry of the relay table (16 R424): its key, raw counts at which its hold ends, the pending count and the pair its message came by. -/
structure DomHold where
  subject : Nat
  code : Nat
  until' : Nat
  pending : Nat
  wh : Nat
  deriving DecidableEq, Repr

/-- What the election reads at the start edge of its period (01 R28; 16 R412, R413): EN, LEAD_EN, the usable routes with their pairs, whether a route fails only
the STEPS test, the node's own dataset as one number, and its ROOT and NOEXT as a LEADER. -/
structure DomIn where
  en : Bool := false
  lead : Bool := false
  us : List (Nat × DomRoute) := []
  far : Bool := false
  own : Nat := 0
  root : Nat × Bool := (0, false)
  deriving DecidableEq, Repr

/-- DOM. inp: what the election under way reads; routesE: the routes as of the last edge. The output of the election as it will be published: st (0 OFF, 1 SEEK, 2 LEADER, 3 MEMBER), steps, parent, leader, root, noext, lseq, pepoch, P_ROOT, and whether an
epoch is held; fresh: an epoch whose edge is due; lseqOwn: the LSEQ this node originated last; rseq: its next report sequence; cache: (REPORTER, RSEQ) of the
reports received, newest first; table: the relay table. -/
structure DomSt where
  inp : DomIn := {}
  routesE : Tbl (Option DomRoute) := []
  routes : Tbl (Option DomRoute) := []
  st : Nat := 0
  steps : Nat := 255
  parent : Nat := 0
  leader : Nat := 0
  root : Nat := 0
  noext : Bool := false
  lseq : Nat := 0
  pepoch : Nat := 0
  pRoot : Nat := 0
  held : Bool := false
  fresh : Bool := false
  lseqOwn : Nat := 0
  rseq : Nat := 0
  cache : List (Nat × Nat) := []
  table : List DomHold := []
  deriving DecidableEq, Repr

/-! ## CFG: start-up, the image and the stores (20) -/

/-- What a store captures or a restore finds is a NvmCopy; here the rest of CFG. cands: the slots still to be tried; slot, seq, imgLock: of the candidate
that passed; recs: the REGS records still to be applied, each address, OP and VALUE; waitTo: the Stroke at which a WAIT ends; failsafe: FAILSAFE is marked;
runDue: RUN or FAILSAFE is due at the next edge; ovl: the overlay staging; timer: when the store in progress began, less the time yielded; cap: its content, once
captured; learnAt: the Stroke of the last hourly store of LEARNED; fullDue: the model has entered FULL; mWas: MODEL_STATE as last seen; ik: the OTP hashes. -/
structure CfgSt where
  cands : List Nat := []
  slot : Nat := 0
  seq : Nat := 0
  imgLock : Bool := false
  recs : List (Nat × Nat × Nat) := []
  waitTo : Nat := 0
  failsafe : Bool := false
  runDue : Bool := false
  ovl : List (Nat × Nat) := []
  timer : Nat := 0
  cap : Option NvmCopy := none
  capDue : Bool := false
  learnAt : Nat := 0
  fullDue : Bool := false
  mWas : Nat := 0
  ik : Tbl Nat := []
  deriving DecidableEq, Repr

/-! ## HST: host access (20) -/

/-- An in-band request that waits (20 R520, R521): the message, and where it came from: a port with the source address and the tags, or a path pair with the
partner's NODE_ID. -/
structure MgmtReq where
  msg : List Nat
  port : Option Nat
  mac : List Nat := []
  tags : List Nat := []
  pair : Nat := 0
  node : Nat := 0
  deriving DecidableEq, Repr

/-- An in-band requester (20 R521 step 5). -/
structure MgmtWho where
  key : Nat
  port : Option Nat
  mac : List Nat
  pair : Nat
  node : Nat
  deriving DecidableEq, Repr

/-- HST. chal: the challenge that each interface holds; failAt: until when NEW is not served; last: the instant of the last access, in raw counts; who: the
in-band requester that is Custodian; seqs: by KEY_ID the last SEQ accepted; out: the words or the byte that the last host
transaction read; answer: the last in-band answer. -/
structure HstSt where
  reqs : List MgmtReq := []
  chal : Tbl (List Nat) := []
  failAt : Tbl (Option Nat) := []
  last : Tbl Nat := []
  who : Option MgmtWho := none
  seqs : Tbl (Option Nat) := []
  out : List Nat := []
  answer : List Nat := []
  deriving DecidableEq, Repr
/-! ## PWR: what has no register of its own (19) -/

/-- A reset in progress (19 R484, R485): its kind, whether a brown-out caused it, the fault source, when it began; for a POR when the last rail rose. -/
structure RstSt where
  kind : ResetKind
  bor : Bool := false
  src : Nat := 0
  from' : Nat := 0
  rails : Option Nat := none
  deriving DecidableEq, Repr

/-- PWR's own timers and the RTC. rtc*: seconds, 1/32 768 s and the total raw count at which they held; the RTC counts from there while rtcRun. secSeen: the
engine-time second of the last edge; rtcPend: its boundary waits for a load. changing: by domain the state that it enters, plus 1. plan: the system PLL's plan in
use (SPRE, SFB_INT, SFB_NUM, SFB_DEN, OSC_HZ). straps: OSC_SEL_A, OSC_SEL_B, I2C_A0, I2C_A1 as sampled, from bit 0 up (log entry 6). strokesB: Strokes on the backup oscillator. shed: the domains shed, a bit each; shedAny: the episode has shed
one; rearm: when PFAIL_N rose. vddioH: VDDIO_H is above its threshold. banks: the banks whose rail is low: VDDO_A, VDDO_B, VDDIO_REF, VDDIO_G. lcReq: the
life-cycle change accepted. oscStop: the system PLL's reference stopped, and no Stroke has held lock since. -/
structure PwrSt where
  rtcSec : Nat := 0
  rtcSub : Nat := 0
  rtcUp : Nat := 0
  rtcRun : Bool := false
  secSeen : Nat := 0
  rtcPend : Bool := false
  changing : Tbl Nat := []
  plan : List Nat := [1, 250, 0, 1, 10000000]
  straps : Nat := 0
  strokesB : Nat := 0
  shed : Nat := 0
  shedAny : Bool := false
  rearm : Option Nat := none
  rst : Option RstSt := none
  vddioH : Bool := true
  banks : Nat := 0
  lcReq : Option Nat := none
  oscStop : Bool := false
  deriving DecidableEq, Repr

/-! ## JTAG (21 R545) -/

/-- The TAP: its IEEE 1149.1 state (0 Test-Logic-Reset, 1 Run-Test/Idle, 2 to 8 Select-, Capture-, Shift-, Exit1-, Pause-, Exit2-, Update-DR, 9 to 15 the
same of IR), the shift registers first bit out first, the instruction, what the boundary register drives, and TDO. -/
structure JtagSt where
  tap : Nat := 0
  irSh : List Bool := []
  drSh : List Bool := []
  op : Nat := 1
  drive : List Bool := []
  tdo : Bool := false
  deriving DecidableEq, Repr

/-! ## REC: the event recorder (17 R441 to R449) -/

/-- A record: the header's fields, the bytes from byte 32 on, and whether a flush has written it to the log. -/
structure Record where
  seq : Nat
  code : Nat
  conseq : Bool
  summary : Bool
  timeInv : Bool
  phase : Nat
  sev : Nat
  selfRep : Bool
  sec : Nat
  ns : Nat
  frac : Nat
  stroke : Nat
  era : Nat
  dropped : Nat
  body : List Nat
  flushed : Bool
  deriving DecidableEq, Repr

/-- One code's rate-limit window (17 R444): the window's number, the records in it and those dropped since the last one. -/
structure RlSt where
  win : Nat := 0
  n : Nat := 0
  dropped : Nat := 0
  deriving DecidableEq, Repr

/-- The recorder: SRAM records oldest first, the two log areas, code settings by code, and the flush. -/
structure RecSt where
  nextSeq : Nat := 0
  ring : List Record := []
  fixed : List Record := []
  roll : List (List Record) := []
  codeCfg : Tbl Word := []
  rl : Tbl RlSt := []
  flushTo : Nat := 0
  flushPfail : Bool := false
  flushAgain : Bool := false
  recovEnd : Option Nat := none
  lastFaultReset : Bool := false
  rdBusy : Tbl Nat := []
  deriving DecidableEq, Repr

/-! ## FLT: the fault collector (17 R427 to R440) -/

/-- A reaction shadow (17 R434): the unit in reset, the sources it covers, its end in raw counts (none: while held), the SEQ
that LINK names, and the Stroke-independent order of opening. -/
structure Shadow where
  unit : HwUnit
  covers : List Nat
  until' : Option Nat
  link : Nat
  deriving DecidableEq, Repr

/-- A dedup entry (17 R432). last is the Stroke of the last report. -/
structure DdEntry where
  subject : Nat
  code : Nat
  wit : Nat
  last : Nat
  deriving DecidableEq, Repr

/-- The collector. held: units held in reset by a fence or an escalation; resetting: units in their reset time with its end;
blockHits: per source the Strokes of its BLOCK_RESET reactions. -/
structure FltSt where
  held : List HwUnit := []
  resetting : List (HwUnit × Nat) := []
  shadows : List Shadow := []
  blockHits : Tbl (List Nat) := []
  dedup : Tbl (Option DdEntry) := []
  clrReq : Option Nat := none
  errnUntil : Option Nat := none
  chipReq : Option (Nat × Nat) := none
  chipHold : List Nat := []
  deriving DecidableEq, Repr

/-! ## IRQ and PMC (18) -/

/-- The states of a target (18 R456). -/
inductive TgtState where
  | idle | gather | asserted | service
  deriving DecidableEq, Repr

/-- A target: state, COUNT, the raw count at which its timer started, the active source. -/
structure Tgt where
  st : TgtState := .idle
  count : Nat := 0
  timer : Nat := 0
  active : Nat := 0
  deriving DecidableEq, Repr

/-- IRQ: the targets; per source the raw count at which R456 would have delivered it had its target not slept. -/
structure IrqSt where
  tgts : Tbl Tgt := []
  heldFrom : Tbl (Option Nat) := []
  deriving DecidableEq, Repr

/-- PMC: the tag buffer, oldest first, each entry 8 words, and the count of tagged frames. -/
structure PmcSt where
  tags : List (List Word) := []
  tseq : Nat := 0
  ovfDue : Bool := false
  deriving DecidableEq, Repr

/-! ## The whole block -/

/-- The state of the block. -/
structure State where
  /-- The commands that wait, first in, first out. -/
  pending : List Instr := []
  /-- Every register, by address; a register that exists once per interface has interface × 2^24 added to its address. -/
  regs : Tbl Word := []
  /-- The register file as it stood just after the last Stroke edge: what the stages read (01 R20). -/
  edge : Tbl Word := []
  /-- The captured words of each interface (02 R47, R48): address + (interface + 1) × 2^24. -/
  caps : Tbl (Option Word) := []
  /-- Raw counts since PD_CORE left reset, not wrapped; RAW48 is its low 48 bits (02 R41). -/
  now : Nat := 0
  /-- Raw counts since the model's power-up: what PWR's own timers, kept through resets, count in. -/
  up : Nat := 0
  /-- Strokes since PD_CORE left reset, not wrapped; the Stroke number of the last edge is this less 1 (01 R18). -/
  strokes : Nat := 0
  /-- The retention SRAM of PD_AO, 4096 bytes (19 R480): an unlisted byte reads 0 (19 R477). -/
  ret : Tbl Byte := []
  /-- Model's own: free values drawn so far. -/
  freeCount : Nat := 0
  gen : GenSt := {}
  etm : EtmSt := {}
  clp : ClpSt := {}
  rmon : RmonSt := {}
  sel : SelSt := {}
  bnd : BndSt := {}
  tch : TchSt := {}
  out : OutsSt := {}
  gns : GnsSt := {}
  gnt : GntSt := {}
  lan : LanSt := {}
  key : KeySt := {}
  nvm : NvmSt := {}
  mac : MacSt := {}
  tsv : TsvSt := {}
  prl : PrlSt := {}
  dom : DomSt := {}
  cfg : CfgSt := {}
  hst : HstSt := {}
  pwr : PwrSt := {}
  jtag : JtagSt := {}
  rcd : RecSt := {}
  flt : FltSt := {}
  irq : IrqSt := {}
  pmc : PmcSt := {}
  deriving DecidableEq, Repr

/-- Reset: every field at the value the spec states, or that the log names: every register at its reset word (none listed),
every engine idle, every queue and buffer empty. -/
def State.reset : State := {}

end Sys2Proof.Machine
end

