-- ==== Sys2Proof/Machine/Ops.lean ====
section
/-! DEFINITION. The named operations over the register file, the captures, the free values and the raw time, which every meaning
uses: one home for every register. -/

namespace Sys2Proof.Machine

/-! ## Bits and signed fields -/

/-- 1 for true. -/
def bit (b : Bool) : Nat := if b then 1 else 0

/-- The low w bits of an integer, two's complement (00 R12). -/
def ofInt (w : Nat) (i : Int) : Nat := (i % (2 ^ w : Int)).toNat

/-- A w-bit field read as two's complement. -/
def toInt (w n : Nat) : Int :=
  if n % 2 ^ w < 2 ^ (w - 1) then ((n % 2 ^ w : Nat) : Int) else ((n % 2 ^ w : Nat) : Int) - (2 ^ w : Int)

/-- Bit k of n. -/
def tbit (n k : Nat) : Bool := (n / 2 ^ k) % 2 == 1

/-- n with bit k set to b. -/
def withBit (n k : Nat) (b : Bool) : Nat :=
  if tbit n k == b then n else if b then n + 2 ^ k else n - 2 ^ k

/-- Bits hi to lo of n. -/
def bits (n hi lo : Nat) : Nat := (n / 2 ^ lo) % 2 ^ (hi - lo + 1)

/-- n with bits hi to lo set to v. -/
def withBits (n hi lo v : Nat) : Nat :=
  n - bits n hi lo * 2 ^ lo + (v % 2 ^ (hi - lo + 1)) * 2 ^ lo

/-- The signed difference of two RAW48 values (02 R62). -/
def rawDiff (a b : Nat) : Int := toInt 48 ((a + 2 ^ 48 - b % 2 ^ 48) % 2 ^ 48)

/-- The n low bytes of v, least significant first. -/
def leBytes : Nat → Nat → List Nat
  | 0, _ => []
  | n + 1, v => v % 256 :: leBytes n (v / 256)

/-- A byte string as a number, least significant byte first. -/
def ofLe : List Nat → Nat
  | [] => 0
  | b :: t => b % 256 + 256 * ofLe t

/-- The n low bytes of v, most significant first. -/
def beBytes (n v : Nat) : List Nat := (leBytes n v).reverse

/-- A byte string as a number, most significant byte first. -/
def ofBe (l : List Nat) : Nat := ofLe l.reverse

/-- The quotient rounded to the nearest integer, ties away from zero (b positive). -/
def roundDiv (a b : Int) : Int := if 0 ≤ a then (2 * a + b) / (2 * b) else -((-2 * a + b) / (2 * b))

/-- The quotient rounded up (b positive). -/
def ceilDiv (a b : Int) : Int := -((-a) / b)

/-- An integer saturated to w-bit two's complement. -/
def satI (w : Nat) (v : Int) : Int :=
  if v < -(2 ^ (w - 1) : Int) then -(2 ^ (w - 1) : Int) else if (2 ^ (w - 1) : Int) ≤ v then (2 ^ (w - 1) : Int) - 1 else v

/-- An integer held between two limits. -/
def clampI (lo hi v : Int) : Int := if v < lo then lo else if hi < v then hi else v

/-- The square root's bits below 2^fuel added to r while r² stays within n. -/
def isqrtAux : Nat → Nat → Nat → Nat
  | 0, _, r => r
  | k + 1, n, r => if (r + 2 ^ k) * (r + 2 ^ k) ≤ n then isqrtAux k n (r + 2 ^ k) else isqrtAux k n r

/-- The integer square root, below 2^96. -/
def isqrt (n : Nat) : Nat := isqrtAux 96 n 0

/-- The signed difference of two RAWF values (03 R75). -/
def rawfDiff (a b : Nat) : Int := toInt 60 ((a + 2 ^ 60 - b % 2 ^ 60) % 2 ^ 60)

/-- n saturated at the top of a w-bit field. -/
def satW (w n : Nat) : Nat := if n < 2 ^ w then n else 2 ^ w - 1

/-- The IEEE 802.3 frame check over a byte string, one bit step (reflected form). -/
def crcBit (c : Nat) : Nat := if c % 2 == 1 then (c / 2) ^^^ 0xEDB88320 else c / 2

/-- One byte of the frame check. -/
def crcByte (c b : Nat) : Nat :=
  crcBit (crcBit (crcBit (crcBit (crcBit (crcBit (crcBit (crcBit (c ^^^ (b % 256)))))))))

/-- The IEEE 802.3 FCS of a byte string (17 R441, 20 R501, R511). -/
def crc32 (l : List Nat) : Nat := (l.foldl crcByte 0xFFFFFFFF) ^^^ 0xFFFFFFFF

/-- Is sequence number a later than b (20 R511)? -/
def seqLater (a b : Nat) : Bool :=
  let d := (a + 2 ^ 32 - b % 2 ^ 32) % 2 ^ 32
  decide (1 ≤ d) && decide (d ≤ 2 ^ 31 - 1)

/-! ## The register file -/

/-- Does an offset from a register's base name one of its instances (22 R554)? -/
def matchDims : Nat → List (Nat × Nat) → Bool
  | off, [] => off == 0
  | off, (c, st) :: t => decide (off / st < c) && matchDims (off % st) t

/-- The register at an address. -/
def findReg (a : Nat) : Option RegDesc :=
  (windowRegs (a / 0x10000)).find? (fun r => decide (r.base ≤ a) && matchDims (a - r.base) r.dims)

/-- Is the word mapped (22 R555)? -/
def mapped (a : Nat) : Bool :=
  (mappedRanges (a / 0x10000)).any (fun r => decide (r.1 ≤ a % 0x10000) && decide (a % 0x10000 ≤ r.2))

/-- The kind of a fault source: 0 sealed, 1 clearable, 2 report, 3 reserved (17 R427). -/
def fltKind (src : Nat) : Nat :=
  if src ≤ 67 then 1 else if src ≤ 224 then 0 else if src ≤ 250 then 2 else if src ≤ 266 then 0 else 3

/-- The default reaction of a fault source (17 R427). -/
def fltReact0 (src : Nat) : Nat :=
  if src == 20 || src == 94 then 6
  else if src == 68 then 3 else if src == 69 then 2
  else if (decide (225 ≤ src) && decide (src ≤ 240)) || src == 250 || decide (267 ≤ src) then 0 else 1

/-- The reset values that depend on the instance, on a strap or on the interface. Straps: log entry 6. -/
def specialReset (key base : Nat) : Nat :=
  let a := key % 2 ^ 24
  let ifc := key / 2 ^ 24
  if a / 0x1000 == 0x031 && a % 0x80 == 4 && decide (a < 0x031800) then withBits base 5 0 ((a - 0x031000) / 0x80)
  else if a == 0x041804 then withBits base 2 0 1
  else if a == 0x041884 then withBits base 2 0 2
  else if a == 0x071000 then withBits base 1 0 1
  else if a == 0x071020 then withBits base 2 0 1
  else if a / 0x100 == 0x0101 then (if a == 0x010100 || a == 0x010108 then 0 else 0xFFFF)
  else if a == 0x010010 then withBits (withBits base 7 0 1) 19 8 250
  else if a == 0x01001C then 10000000
  else if a / 0x1000 == 0x141 && decide (0x141320 ≤ a) && decide (a < 0x141360) then
    withBits base 3 1 (if a < 0x141340 then 4 else 5)
  else if decide (0x121000 ≤ a) && decide (a < 0x121500) then
    fltReact0 ((a - 0x121000) / 4) + 16 * fltKind ((a - 0x121000) / 4)
  else if a == 0x170000 then withBits base 3 2 ifc
  else base

/-- The reset word of a register (00 R11). -/
def resetWord (key : Nat) : Word :=
  match findReg (key % 2 ^ 24) with
  | some r => BitVec.ofNat 32 (specialReset key r.reset)
  | none => 0

/-- The register word of a key. -/
def rdWord (s : State) (key : Nat) : Nat := (tget (resetWord key) s.regs key).toNat

/-- A register word set whole. -/
def wrWord (s : State) (key v : Nat) : State :=
  { s with regs := tset (resetWord key) s.regs key (BitVec.ofNat 32 v) }

/-- A field's value. -/
def State.get (s : State) (f : Fld) : Nat := bits (rdWord s f.addr) f.hi f.lo

/-- A field's value as it stood just after the last Stroke edge (01 R20). -/
def State.getE (s : State) (f : Fld) : Nat := bits (tget (resetWord f.addr) s.edge f.addr).toNat f.hi f.lo

/-- A field set. -/
def State.put (s : State) (f : Fld) (v : Nat) : State := wrWord s f.addr (withBits (rdWord s f.addr) f.hi f.lo v)

/-- A field published as of the last Stroke edge, for a row that completes that edge's evaluation (log entry 8). -/
def State.pub (s : State) (f : Fld) (v : Nat) : State :=
  let e := withBits (tget (resetWord f.addr) s.edge f.addr).toNat f.hi f.lo v
  { s.put f v with edge := tset (resetWord f.addr) s.edge f.addr (BitVec.ofNat 32 e) }

/-- Registers' words published as of the last Stroke edge, for a row that completes that edge's evaluation (log entry 8). -/
def State.repub (s : State) (l : List Nat) : State :=
  { s with edge := l.foldl (fun e a => tset (resetWord a) e a (tget (resetWord a) s.regs a)) s.edge }

/-- A field's value as two's complement, at the last edge. -/
def State.getEI (s : State) (f : Fld) : Int := toInt (f.hi - f.lo + 1) (s.getE f)

/-- The number whose bit k is the k-th of a list. -/
def bitsOf (l : List Bool) : Nat := l.foldr (fun b n => bit b + 2 * n) 0

/-- A field's value as two's complement. -/
def State.getI (s : State) (f : Fld) : Int := toInt (f.hi - f.lo + 1) (s.get f)

/-- A field that spans two registers, LO and HI. -/
def State.get2 (s : State) (lo hi : Fld) : Nat := s.get lo + s.get hi * 2 ^ 32

/-- As get2, at the last edge. -/
def State.getE2 (s : State) (lo hi : Fld) : Nat := s.getE lo + s.getE hi * 2 ^ 32

/-- A field that spans two registers, set. -/
def State.put2 (s : State) (lo hi : Fld) (v : Nat) : State := (s.put lo (v % 2 ^ 32)).put hi (v / 2 ^ 32)

/-- A field that spans two registers, as two's complement of w bits. -/
def State.get2I (s : State) (w : Nat) (lo hi : Fld) : Int := toInt w (s.get2 lo hi)

/-- A field that spans two registers, set from an integer of w bits. -/
def State.put2I (s : State) (w : Nat) (lo hi : Fld) (v : Int) : State := s.put2 lo hi (ofInt w v)

/-- A one-bit field set or cleared. -/
def State.putB (s : State) (f : Fld) (b : Bool) : State := s.put f (bit b)

/-- A one-bit field read. -/
def State.flag (s : State) (f : Fld) : Bool := s.get f == 1

/-- As flag, at the last edge. -/
def State.flagE (s : State) (f : Fld) : Bool := s.getE f == 1

/-- A counter field up by n, saturating at the field's top. -/
def State.addSat (s : State) (f : Fld) (n : Nat) : State := s.put f (satW (f.hi - f.lo + 1) (s.get f + n))

end Sys2Proof.Machine

namespace Sys2Proof

/-- A field of the register of one host interface (02 R48). -/
def Fld.ifc (f : Fld) (i : Iface) : Fld := { f with addr := f.addr + i.num * 2 ^ 24 }

/-- The field k words further on (a register given as W0 … Wn). -/
def Fld.word (f : Fld) (k : Nat) : Fld := { f with addr := f.addr + 4 * k }

/-- Bit k of a field that holds one bit per unit. -/
def Fld.bitAt (f : Fld) (k : Nat) : Fld := { f with hi := f.lo + k, lo := f.lo + k }

end Sys2Proof

namespace Sys2Proof.Machine

/-- Is power domain d ON (19 R471)? -/
def domOn (s : State) (d : Nat) : Bool := s.get (R.PWR_DOM_STATE d) == 0

/-- Does interface j hold Custodian privilege (20 R518)? -/
def isCust (s : State) (j : Iface) : Bool := s.flag (R.HST_STAT_CUST.ifc j)

/-! ## Free values and time -/

/-- A fresh free value of w bits, and the state that has drawn it (log entry 3). -/
def State.fresh (s : State) (w : Nat) : Nat × State :=
  ((Config.freeBits w s.freeCount).toNat, { s with freeCount := s.freeCount + 1 })

/-- n fresh free bytes. -/
def freshBytes : Nat → State → List Nat × State
  | 0, s => ([], s)
  | n + 1, s =>
    let r := s.fresh 8
    let t := freshBytes n r.2
    (r.1 :: t.1, t.2)

/-- RAW48 (02 R41). -/
def State.raw (s : State) : Nat := s.now % 2 ^ 48

/-- The raw count of the next Stroke edge: 31 250 core cycles after the last one (01 R17); on the backup oscillator the count moves on by 5 in 4 cycles,
1, 1, 1, 2 (02 R43). -/
def State.nextEdge (s : State) : Nat :=
  if s.flag R.ETM_STAT_BACKUP_CLK then s.gen.bkFrom + s.gen.bkCyc + s.gen.bkCyc / 4 else s.gen.edgeNow + 31250

/-- The instant of a command, dt raw counts after the last Stroke edge and before the next one; time never goes back. Edge 0 falls at RAW48 = 0, so no count passes before it (02 R42). -/
def State.tick (s : State) (dt : Nat) : State :=
  let n := if s.strokes = 0 then s.now else max s.now (min (s.gen.edgeNow + dt) (s.nextEdge - 1))
  { s with now := n, up := s.up + (n - s.now) }

/-- The Stroke number of the most recent edge (01 R18). -/
def State.strokeNum (s : State) : Nat := (s.strokes - 1) % 2 ^ 32

/-- Raw counts in a millisecond. -/
def msCounts : Nat := 250000

/-! ## Engine time (02 R44) -/

/-- Units of 2^-48 ns in a second. -/
def secUnits : Nat := 1000000000 * 2 ^ 48

/-- Engine time at RAWF x in 2^-48 ns (02 R44: total). -/
def etTotal (e : EtmSt) (x : Nat) : Int :=
  let d := toInt 60 ((x + 2 ^ 60 - (e.anchor * 4096) % 2 ^ 60) % 2 ^ 60)
  ((e.sec * secUnits + e.sub : Nat) : Int) + d * 2 ^ 38 + d * e.rate / 2 ^ 22

/-- An ETIME in units of 2^-16 ns, from a total in 2^-48 ns (02 R44 truncates). -/
def etOf (total : Int) : Int := total / 2 ^ 32

/-- Engine time now, in 2^-16 ns. -/
def State.etimeNow (s : State) : Int := etOf (etTotal s.etm (s.raw * 4096))

/-- Units of 2^-16 ns in a second. -/
def secFrac : Nat := 1000000000 * 2 ^ 16

/-- The seconds field of an ETIME in 2^-16 ns. -/
def etSec (t : Int) : Nat := ofInt 48 (t / (secFrac : Int))

/-- The nanoseconds field of an ETIME in 2^-16 ns. -/
def etNs (t : Int) : Nat := ((t % (secFrac : Int)) / 2 ^ 16).toNat

/-- The fraction field of an ETIME in 2^-16 ns. -/
def etFrac (t : Int) : Nat := (t % 2 ^ 16).toNat

/-- An ETIME as its 96-bit layout (00 R12). -/
def etPack (t : Int) : Nat := etSec t * 2 ^ 48 + etNs t * 2 ^ 16 + etFrac t

/-- A 96-bit ETIME layout as 2^-16 ns. -/
def etUnpack (n : Nat) : Int := ((n / 2 ^ 48 * secFrac + bits n 47 16 * 2 ^ 16 + n % 2 ^ 16 : Nat) : Int)

/-! ## Resets -/

/-- A command's outcome: its effect t, on everything but the queue of the commands that wait. -/
def done (s t : State) : Host.Outcome State Fault Refusal := .next { t with pending := s.pending }

/-- A command's outcome: t, but while a reset is in progress every block but REC, the NVM controller and PWR is held, and nothing comes of it
(19 R485). -/
def live (s t : State) : Host.Outcome State Fault Refusal := done s (if s.pwr.rst.isNone then t else s)

/-- Does bank b's rail stand below its threshold (21 R531)? 0 VDDO_A, 1 VDDO_B, 2 VDDIO_REF, 3 VDDIO_G. -/
def bankLow (s : State) (b : Nat) : Bool := tbit s.pwr.banks b

/-- The device's I²C address, from the straps I2C_A0 and I2C_A1 (20 R516). -/
def i2cAddr (s : State) : Nat := 0x58 + s.pwr.straps / 4 % 4

end Sys2Proof.Machine
end

