-- ==== Sys2Proof/Machine/Fields.lean ====
section
/-! DEFINITION. What a write does to the fields of a register by their access codes (00 R8 to R10). -/

namespace Sys2Proof.Machine

/-- One field of a written word (00 R8, R10): stored where it is writable and the value is listed; a W1C bit clears where a 1 is
written. locked: configuration lock (20 R506), under which RWL is read only. -/
def fieldWrite (locked : Bool) (v : Nat) (w : Nat) (f : FieldDesc) : Nat :=
  let x := bits v f.hi f.lo
  let ok := f.legal.isEmpty || f.legal.any (fun r => decide (r.1 ≤ x) && decide (x ≤ r.2))
  match f.acc with
  | .rw => if ok then withBits w f.hi f.lo x else w
  | .rwl => if ok && !locked then withBits w f.hi f.lo x else w
  | .w1c => let b := bits w f.hi f.lo; withBits w f.hi f.lo (b - (b &&& x))
  | .wo => withBits w f.hi f.lo x
  | .ro | .w1p | .roc => w

/-- The word that a register holds after v is written to it whole. -/
def regAfter (s : State) (key v : Nat) : Nat :=
  match findReg (key % 2 ^ 24) with
  | some r => r.fields.foldl (fieldWrite (s.flag ⟨0x160000, 5, 5⟩) v) (rdWord s key)
  | none => rdWord s key

/-- A register written whole, at once. -/
def regWrite (key v : Nat) (s : State) : State := wrWord s key (regAfter s key v)

end Sys2Proof.Machine
end

