-- ==== Sys2Proof/Machine/F32.lean ====
section
/-! DEFINITION. Single-precision arithmetic for the Carillon's estimator (05 R145): round to nearest, ties to even (log entry 12). -/

namespace Sys2Proof.Machine

/-- n / den × 2^e to the nearest single, ties to even. -/
def fround (n : Int) (den : Nat) (e : Int) : F32 :=
  let a := n.natAbs
  if a = 0 ∨ den = 0 then {}
  else
    let k := 27 + Nat.log2 den + 1
    let q := a * 2 ^ k / den
    let rest := a * 2 ^ k % den
    let sh := Nat.log2 q - 23
    let m := q / 2 ^ sh
    let low := q % 2 ^ sh
    let half := 2 ^ (sh - 1)
    let up := decide (half < low) || (low == half && (rest != 0 || m % 2 == 1))
    let m := if up then m + 1 else m
    { m := if n < 0 then -(m : Int) else m, e := e - k + sh }

/-- An integer to the nearest single. -/
def F32.ofI (n : Int) : F32 := fround n 1 0

/-- Sum. -/
def F32.add (a b : F32) : F32 :=
  let e := min a.e b.e
  fround (a.m * 2 ^ (a.e - e).toNat + b.m * 2 ^ (b.e - e).toNat) 1 e

/-- Negation. -/
def F32.neg (a : F32) : F32 := { a with m := -a.m }

/-- Difference. -/
def F32.sub (a b : F32) : F32 := a.add b.neg

/-- Product. -/
def F32.mul (a b : F32) : F32 := fround (a.m * b.m) 1 (a.e + b.e)

/-- Quotient (0 for a divisor of 0). -/
def F32.div (a b : F32) : F32 :=
  if b.m < 0 then fround (-a.m) b.m.natAbs (a.e - b.e) else fround a.m b.m.natAbs (a.e - b.e)

/-- a < b. -/
def F32.lt (a b : F32) : Bool :=
  let e := min a.e b.e
  decide (a.m * 2 ^ (a.e - e).toNat < b.m * 2 ^ (b.e - e).toNat)

/-- The nearest integer of a × 2^k, ties away from zero. -/
def F32.toI (a : F32) (k : Nat) : Int :=
  let e := a.e + k
  if 0 ≤ e then a.m * 2 ^ e.toNat
  else
    let d : Int := 2 ^ (-e).toNat
    if 0 ≤ a.m then (2 * a.m + d) / (2 * d) else -((-2 * a.m + d) / (2 * d))

/-- The integer part, towards minus infinity. -/
def F32.floor (a : F32) : Int := if 0 ≤ a.e then a.m * 2 ^ a.e.toNat else a.m / 2 ^ (-a.e).toNat

end Sys2Proof.Machine
end

