-- ==== Sys2Proof/Machine/F64.lean ====
section
/-! DEFINITION. Double-precision arithmetic for the loop gains (07 R188, R189): round to nearest, ties to even. A number is m × 2^e. -/

namespace Sys2Proof.Machine

/-- n / den × 2^e to the nearest double, ties to even. -/
def dround (n : Int) (den : Nat) (e : Int) : F32 :=
  let a := n.natAbs
  if a = 0 ∨ den = 0 then {}
  else
    let k := 56 + Nat.log2 den + 1
    let q := a * 2 ^ k / den
    let rest := a * 2 ^ k % den
    let sh := Nat.log2 q - 52
    let m := q / 2 ^ sh
    let low := q % 2 ^ sh
    let half := 2 ^ (sh - 1)
    let up := decide (half < low) || (low == half && (rest != 0 || m % 2 == 1))
    let m := if up then m + 1 else m
    { m := if n < 0 then -(m : Int) else m, e := e - k + sh }

/-- Product of doubles. -/
def dmul (a b : F32) : F32 := dround (a.m * b.m) 1 (a.e + b.e)

/-- Quotient of doubles, b positive. -/
def ddiv (a b : F32) : F32 := dround a.m b.m.natAbs (a.e - b.e)

/-- The nearest multiple of 2^-k, ties to even, as an integer. -/
def dgrid (a : F32) (k : Nat) : Int :=
  let e := a.e + k
  if 0 ≤ e then a.m * 2 ^ e.toNat
  else
    let d : Int := 2 ^ (-e).toNat
    let q := a.m / d
    let r := a.m % d
    if d < 2 * r ∨ (2 * r = d ∧ q % 2 = 1) then q + 1 else q

/-- 2π as a double. -/
def dTwoPi : F32 := { m := 7074237752028440, e := -50 }

end Sys2Proof.Machine
end

