-- ==== Sys2Proof/Machine/Pmc.lean ====
section
/-! DEFINITION. PMC, the counting side (18 R461 to R464): counting an event with filters, wraps, chains and overflow bits. IRQ's
request of source 193 on an overflow, and so the counting that the blocks use, is in Irq.lean. -/

namespace Sys2Proof.Machine

/-- What a counted event is, for the filters of 18 R464: the port of a frame, stamp, lane or path event, and for a register
access or claim the requester's number, the byte address and its privilege (1 Observer, 2 Custodian, 3 device block);
for a frame its class. -/
structure PmcCtx where
  port : Option Nat := none
  master : Option Nat := none
  addr : Option Nat := none
  priv : Option Nat := none
  tc : Option Nat := none
  deriving DecidableEq, Repr

/-- Does an event pass filter f (18 R464)? A test that does not apply passes. -/
def pmcPass (s : State) (f : Nat) (c : PmcCtx) : Bool :=
  (match c.priv with
    | none => true
    | some p => s.get (R.PMC_FILT_CTL_PRIV f) == 0 || s.get (R.PMC_FILT_CTL_PRIV f) == p) &&
  (match c.port with | none => true | some p => tbit (s.get (R.PMC_FILT_PORTS_PORTS f)) p) &&
  (match c.master with | none => true | some m => tbit (s.get (R.PMC_FILT_CTL_MASTER f)) m) &&
  (match c.addr with
    | none => true
    | some a => decide (s.get (R.PMC_FILT_ADDR_LO_ADDR_LO f) ≤ a) && decide (a ≤ s.get (R.PMC_FILT_ADDR_HI_ADDR_HI f))) &&
  (match c.tc with | none => true | some t => tbit (s.get (R.PMC_FILT_CTL_TC f)) t)

/-- Counter n's overflow bit set, with PMC_EVT.OVF (18 R461), whose request of source 193 is then due. -/
def pmcOvf (n : Nat) (s : State) : State :=
  { (s.put ((R.PMC_OVF_OVF (n / 32)).bitAt (n % 32)) 1).put R.PMC_EVT_OVF 1 with pmc := { s.pmc with ovfDue := true } }

/-- Counter n up by k; a wrap sets its overflow bit or carries into the next counter (18 R461). fuel: the counters left. -/
def pmcBump : Nat → Nat → Nat → State → State
  | 0, _, _, s => s
  | fuel + 1, n, k, s =>
    let v := s.get (R.PMC_CNT_CNT n) + k
    let s := s.put (R.PMC_CNT_CNT n) (v % 2 ^ 32)
    if v < 2 ^ 32 then s
    else if s.flag (R.PMC_CCFG_CHAIN n) then
      (if n < 511 then pmcBump fuel (n + 1) (v / 2 ^ 32) s else pmcOvf n s)
    else pmcOvf n s

/-- k events n, without the request of source 193: counted unless the counter is the carry of the one below, or its filter refuses the event (18 R461, R464). -/
def pmcAdd0 (n k : Nat) (c : PmcCtx) (s : State) : State :=
  if decide (0 < n) && s.flag (R.PMC_CCFG_CHAIN (n - 1)) then s
  else if s.flag (R.PMC_CCFG_FILT_EN n) && !pmcPass s (s.get (R.PMC_CCFG_FILT n)) c then s
  else if k == 0 then s
  else pmcBump 512 n k s

/-- One event n with nothing for the filters to test. -/
def pmcCount0 (n : Nat) (s : State) : State := pmcAdd0 n 1 {} s

end Sys2Proof.Machine
end

