-- ==== Sys2Proof/Machine/Irq.lean ====
section
/-! DEFINITION. IRQ (18 R451 to R460): requests, pending bits, the six targets, claims, completion, sleep and fallback. -/

namespace Sys2Proof.Machine

/-- A target's state. -/
def State.tgt (s : State) (t : Nat) : Tgt := tget {} s.irq.tgts t

/-- A target's state set. -/
def State.setTgt (s : State) (t : Nat) (v : Tgt) : State :=
  { s with irq := { s.irq with tgts := tset {} s.irq.tgts t v } }

/-- A source's pending bit. -/
def irqPend (s : State) (src : Nat) : Bool := s.flag ((R.IRQ_PEND_PEND (src / 32)).bitAt (src % 32))

/-- A source's pending bit set or cleared. -/
def irqSetPend (src : Nat) (b : Bool) (s : State) : State := s.putB ((R.IRQ_PEND_PEND (src / 32)).bitAt (src % 32)) b

/-- Deliverable at target t: pending, EN = 1 and named for it (18 R455). -/
def irqDeliv (s : State) (t src : Nat) : Bool :=
  irqPend s src && s.flag (R.IRQ_SRC_EN src) && s.get (R.IRQ_SRC_TARGET src) == t

/-- The lowest source from `src` on, of fuel sources, that is deliverable at target t. -/
def irqFirst (s : State) (t : Nat) : Nat → Nat → Option Nat
  | 0, _ => none
  | fuel + 1, src => if irqDeliv s t src then some src else irqFirst s t fuel (src + 1)

/-- The lowest-numbered source deliverable at target t (18 R457). -/
def irqLowest (s : State) (t : Nat) : Option Nat := irqFirst s t 255 1

/-- Target t asserts its line (18 R456): DELIV_CNT and the delivery counter of PMC. -/
def tgtAssert (t : Nat) (s : State) : State :=
  pmcCount0 (64 + t) ((s.setTgt t { s.tgt t with st := .asserted }).addSat (R.IRQ_TGT_COUNTS_DELIV_CNT t) 1)

/-- The instant at which a held source would have been delivered, noted for the fallback of 18 R460. -/
def tgtHold (t due : Nat) (s : State) : State :=
  let hf := (List.range 255).foldl (fun h src =>
    if irqDeliv s t src && (tget none h src).isNone then tset none h src (some due) else h) s.irq.heldFrom
  { s with irq := { s.irq with heldFrom := hf } }

/-- The instant at which R456 delivers what target t gathers, where it has come: at the last arrival by COAL_CNT, else by COAL_TIME. -/
def tgtDue (s : State) (t : Nat) : Option Nat :=
  let g := s.tgt t
  let e := g.timer + s.get (R.IRQ_TGT_CFG_COAL_TIME t) * 250
  if e ≤ s.now then some e else if s.get (R.IRQ_TGT_CFG_COAL_CNT t) ≤ g.count then some s.now else none

/-- The GATHER rows of 18 R456: COAL_CNT or COAL_TIME met; with SLEEP = 1 delivery is held. -/
def tgtGather (t : Nat) (s : State) : State :=
  if (s.tgt t).st = .gather then
    match tgtDue s t with
    | some due => if s.flag (R.IRQ_TGT_CFG_SLEEP t) then tgtHold t due s else tgtAssert t s
    | none => s
  else s

/-- One more source at a target that has left IDLE: it would be delivered at its arrival where what was there before it already is due. -/
def tgtFurther (t : Nat) (s : State) : State :=
  let g := s.tgt t
  let due := tgtDue s t
  let s := s.setTgt t { g with count := satW 8 (g.count + 1) }
  if g.st = .gather ∧ due.isSome then tgtHold t s.now s else tgtGather t s

/-- A deliverable source arrives at target t (18 R456), which is pending there: what is already due is delivered or held first. -/
def tgtArrive (t src : Nat) (s : State) : State :=
  let g := s.tgt t
  if g.st = .idle then tgtGather t (s.setTgt t { g with st := .gather, count := 1, timer := s.now })
  else
    let s := irqSetPend src true (tgtGather t (irqSetPend src false s))
    tgtFurther t s

/-- A target in GATHER with nothing deliverable returns to IDLE (18 R456, first row). -/
def tgtSettle (t : Nat) (s : State) : State :=
  if (s.tgt t).st = .gather ∧ irqLowest s t = none then s.setTgt t { s.tgt t with st := .idle, count := 0 } else s

/-- The rising edge of a source's request (18 R453): pends and arrives if enabled; merges if pending; else is not latched. -/
def irqRequest0 (src : Nat) (s : State) : State :=
  if src = 0 ∨ 254 < src then s
  else if s.flag (R.IRQ_SRC_EN src) then
    if irqPend s src then pmcCount0 88 s
    else tgtArrive (s.get (R.IRQ_SRC_TARGET src)) src (irqSetPend src true s)
  else s

/-- The request of source 193 that an overflow made due (18 R452, R461). -/
def pmcSettle (s : State) : State :=
  if s.pmc.ovfDue then irqRequest0 193 { s with pmc := { s.pmc with ovfDue := false } } else s

/-- The rising edge of a source's request, with what its counting overflows. -/
def irqRequest (src : Nat) (s : State) : State := pmcSettle (irqRequest0 src s)

/-- k events n counted (18 R461, R464). -/
def pmcAdd (n k : Nat) (c : PmcCtx) (s : State) : State := pmcSettle (pmcAdd0 n k c s)

/-- One event n with nothing for the filters to test. -/
def pmcCount (n : Nat) (s : State) : State := pmcAdd n 1 {} s

/-- An event bit set: it requests its source even when it already reads 1 (18 R451). -/
def raiseEvt (f : Fld) (src : Nat) (s : State) : State := irqRequest src (s.put f 1)

/-- A source has left target t: its hold is forgotten. -/
def irqUnhold (src : Nat) (s : State) : State :=
  { s with irq := { s.irq with heldFrom := tset none s.irq.heldFrom src none } }

/-- A pending, unclaimed source moved to target t (18 R459, R460). -/
def irqMove (src t : Nat) (s : State) : State :=
  let old := s.get (R.IRQ_SRC_TARGET src)
  let s := irqUnhold src (s.put (R.IRQ_SRC_TARGET src) t)
  if old ≠ t ∧ irqPend s src ∧ s.flag (R.IRQ_SRC_EN src) then tgtArrive t src (tgtSettle old s) else s

/-- A claim at target t (18 R457): the ID returned and the state after. host: a host read, which claims at targets 0 to 3 only. -/
def irqClaimOp (t : Nat) (host : Bool) (c : PmcCtx) (s : State) : Nat × State :=
  let g := s.tgt t
  if g.st = .service then (g.active, s)
  else match irqLowest s t with
    | some src =>
      if host && decide (4 ≤ t) then (src, s)
      else (src, pmcAdd (70 + t) 1 c (irqUnhold src ((irqSetPend src false s).setTgt t { g with st := .service, active := src })))
    | none =>
      if g.st = .asserted then
        if host && decide (4 ≤ t) then (255, s)
        else (255, pmcAdd (76 + t) 1 c
          ((s.setTgt t { g with st := .idle, count := 0 }).addSat (R.IRQ_TGT_COUNTS_SPUR_CNT t) 1))
      else (0, s)

/-- COMPLETE of an ID at target t (18 R458). -/
def irqCompleteOp (t id : Nat) (s : State) : State :=
  pmcSettle <|
  let g := s.tgt t
  if g.st = .service ∧ g.active = id then
    let s := s.setTgt t { g with st := .idle, active := 0, count := 0 }
    match irqLowest s t with
    | some _ => tgtAssert t (s.setTgt t { s.tgt t with count := g.count })
    | none => s
  else if id = 0 ∨ id = 255 then s
  else s.put (R.IRQ_TGT_STAT_CPL_ERR t) 1

/-- EN of a source written (18 R453, R456). -/
def irqEnOp (src : Nat) (en : Bool) (s : State) : State :=
  if decide (src = 0) || decide (254 < src) || (decide (196 ≤ src) && decide (src ≤ 199)) || decide (216 ≤ src) then s
  else
    let was := s.flag (R.IRQ_SRC_EN src)
    let s := s.putB (R.IRQ_SRC_EN src) en
    let t := s.get (R.IRQ_SRC_TARGET src)
    if irqPend s src then pmcSettle (if en ∧ ¬ was then tgtArrive t src s else tgtSettle t s) else s

/-- TARGET of a source written (18 R455, R459): 0 to 3 for sources 1 to 195, read only for 200 to 215. -/
def irqTargetOp (src t : Nat) (s : State) : State :=
  if 1 ≤ src ∧ src ≤ 195 ∧ t ≤ 3 then pmcSettle (irqMove src t s) else s

/-- A held source moves to its fallback once SLEEP_LAT µs have passed since R456 would have delivered it (18 R460); to a
sleeping fallback it does not move. -/
def irqFallbackOp (src : Nat) (s : State) : State :=
  let t := s.get (R.IRQ_SRC_TARGET src)
  match tget none s.irq.heldFrom src with
  | some d =>
    if s.flag (R.IRQ_TGT_CFG_SLEEP t) ∧ s.flag (R.IRQ_SRC_FB_EN src) ∧ irqDeliv s t src
        ∧ s.now ≥ d + s.get (R.IRQ_TGT_SLEEP_LAT_SLEEP_LAT t) * 250
        ∧ ¬ s.flag (R.IRQ_TGT_CFG_SLEEP (s.get (R.IRQ_SRC_FB src))) then
      pmcCount (82 + t) (irqMove src (s.get (R.IRQ_SRC_FB src)) (s.put (R.IRQ_SRC_REDIR src) 1))
    else s
  | none => s

/-- SLEEP of a target written (18 R456, R460): a wake delivers at once what has met its condition; a waking target also lets
the sources go that wait for it as their fallback. -/
def irqSleepOp (t : Nat) (sleep : Bool) (s : State) : State :=
  if 4 ≤ t then s
  else
    let s := s.putB (R.IRQ_TGT_CFG_SLEEP t) sleep
    if sleep then s
    else
      let hf := s.irq.heldFrom.filter (fun e => s.get (R.IRQ_SRC_TARGET e.1) != t)
      let s := pmcSettle (tgtGather t { s with irq := { s.irq with heldFrom := hf } })
      (List.range 255).foldl (fun s src => if s.get (R.IRQ_SRC_FB src) = t then irqFallbackOp src s else s) s

/-! ## Withdrawal (18 R454) -/

/-- The event bits of R452 that still read 1 for a source, as a number; 0 means that none holds. -/
def irqEvtLevel (s : State) (src : Nat) : Nat :=
  if src = 1 then (List.range 10).foldl (fun a w => a + s.get (R.FLT_HIT_HIT w)) 0
  else if src ≤ 10 then bits (rdWord s 0x060008) (src - 2) (src - 2)
  else if src = 11 then rdWord s 0x060008 / 2 ^ 9
  else if src ≤ 19 then s.get (R.ETM_ALM_CTL_FIRED (src - 12))
  else if src = 20 then s.get R.ETM_STAT_STEP_REFUSED
  else if src = 21 then s.get R.GEN_STROKE_STAT_HOLD_OVERFLOW + s.get R.GEN_STROKE_STAT_HOLD_EXPIRED
    + s.get R.GEN_STROKE_STAT_OVR_A + s.get R.GEN_STROKE_STAT_OVR_B
  else if src ≤ 29 then bits (rdWord s 0x070000) (src - 22) (src - 22) + bits (rdWord s 0x070000) (src - 14) (src - 14)
  else if src = 30 then s.get R.TCH_EVT_STEP_REQ
  else if src ≤ 38 then bits (rdWord s 0x05003C) (src - 23) (src - 23)
  else if src ≤ 46 then bits (rdWord s 0x05003C) (src - 39) (src - 39)
  else if src = 47 then bits (rdWord s 0x05003C) 17 16
  else if src ≤ 79 then bits (rdWord s 0x040008) (src - 48) (src - 48)
  else if src ≤ 83 then (List.range 8).foldl (fun a j => a + bits (rdWord s 0x080000) (4 * j + (src - 80)) (4 * j + (src - 80))) 0
  else if src ≤ 99 then bits (rdWord s 0x090000) (src - 84) (src - 84) + bits (rdWord s 0x090000) (src - 68) (src - 68)
  else if src ≤ 115 then bits (rdWord s 0x0C0000) (src - 100) (src - 100) + rdWord s (0x0C101C + 0x100 * (src - 100))
  else if src = 116 then rdWord s 0x0C0000 / 2 ^ 16
  else if src ≤ 132 then bits (rdWord s 0x0D0000) (src - 117) (src - 117)
  else if src = 133 then s.get R.MAC_EVT_HRX_AVAIL
  else if src = 134 then s.get R.MAC_EVT_HRX_DROP + s.get R.MAC_EVT_HTX_REJECT
  else if src ≤ 158 then bit (decide (s.get (R.CLP_CH_Q_LEVEL_Q_THR (src - 135)) ≤ s.get (R.CLP_CH_Q_LEVEL_LEVEL (src - 135))))
  else if src ≤ 182 then s.get (R.CLP_CH_STAT_OVERFLOW (src - 159)) + s.get (R.CLP_CH_STAT_STAT_DONE (src - 159))
    + s.get (R.CLP_CH_STAT_CAL_BAD (src - 159))
  else if src = 183 then s.get R.GNS_EVT_EPOCH
  else if src = 184 then rdWord s 0x0A0008 - s.get R.GNS_EVT_EPOCH * 2 ^ R.GNS_EVT_EPOCH.lo
  else if src = 185 then s.get R.GNT_EVT_TP
  else if src = 186 then rdWord s 0x0B0008 - s.get R.GNT_EVT_TP * 2 ^ R.GNT_EVT_TP.lo
  else if src = 187 then rdWord s 0x0E0008
  else if src = 188 then rdWord s 0x0F0008
  else if src = 189 then rdWord s 0x100000
  else if src = 190 then rdWord s 0x100004
  else if src = 191 then rdWord s 0x110038
  else if src = 192 then rdWord s 0x130008
  else if src = 193 then rdWord s 0x15000C
  else if src = 194 then rdWord s 0x010004
  else if src = 195 then rdWord s 0x160004 + rdWord s 0x170110
  else 1

/-- With WDRAW = 1 a source's pending bit clears when nothing that R452 names for it still holds (18 R454). -/
def irqWithdraw (src : Nat) (s : State) : State :=
  if s.flag (R.IRQ_SRC_WDRAW src) ∧ irqPend s src ∧ irqEvtLevel s src = 0 then
    tgtSettle (s.get (R.IRQ_SRC_TARGET src)) (irqUnhold src (irqSetPend src false s))
  else s

/-- Withdrawal looked at for every source, as after a write that may have cleared event bits. -/
def irqWithdrawAll (s : State) : State :=
  (List.range 255).foldl (fun s src => if irqPend s src then irqWithdraw src s else s) s

end Sys2Proof.Machine
end

