-- ==== Sys2Proof/Machine/KeyBase.lean ====
section
/-! DEFINITION. The key store's slots (14 R360 to R365): who is usable, by lineage and generation. -/

namespace Sys2Proof.Machine

/-- The slot of a table. -/
def kslot (t : Tbl KeySlot) (k : Nat) : KeySlot := tget {} t k

/-- A slot's key in clear. -/
def KeySlot.key (k : KeySlot) : Nat := k.stored ^^^ k.mask

/-- The bit of an operation in OPS: 0 SIV_SEAL, 1 SIV_OPEN, 2 HMAC_GEN, 3 HMAC_VER, 4 PARENT, 5 UNWRAP. -/
def KeySlot.may (k : KeySlot) (op : Nat) : Bool := tbit k.ops op

/-- Is every ancestor LIVE with the generation its child recorded (14 R363)? -/
def chainOk (t : Tbl KeySlot) : Nat → Nat → Bool
  | 0, _ => false
  | fuel + 1, k =>
    if k = 0 then true
    else
      let c := kslot t k
      let p := kslot t c.parent
      p.state == 1 && p.gen == c.pgen && chainOk t fuel c.parent

/-- Does the chain of ancestors orphan a key (14 R364)? One that is EXHAUSTED does not: exhaustion counts uses and is no destruction. -/
def chainKept (t : Tbl KeySlot) : Nat → Nat → Bool
  | 0, _ => false
  | fuel + 1, k =>
    if k = 0 then true
    else
      let c := kslot t k
      let p := kslot t c.parent
      (p.state == 1 || p.state == 2) && p.gen == c.pgen && chainKept t fuel c.parent

/-- Is a key usable for an operation (14 R363)? -/
def keyUsable (t : Tbl KeySlot) (k op : Nat) : Bool := (kslot t k).state == 1 && (kslot t k).may op && chainOk t 5 k

/-- STATE as it reads (14 R364). -/
def keyState (t : Tbl KeySlot) (k : Nat) : Nat :=
  let c := kslot t k
  if (c.state = 1 ∨ c.state = 2) ∧ !chainKept t 5 k then 4 else c.state

/-- Is a key LIVE, its ancestors with it? -/
def keyLive (t : Tbl KeySlot) (k : Nat) : Bool := keyState t k == 1

/-- The live slot of a kind and role (14 R369); spp for PTP keys. -/
def keyByRole (t : Tbl KeySlot) (kind role : Nat) (spp : Option Nat) : Option Nat :=
  (List.range 64).find? (fun k => keyLive t k && (kslot t k).kind == kind && (kslot t k).role == role &&
    (match spp with | none => true | some p => (kslot t k).spp == p))

/-- N_LIVE. -/
def keyCount (t : Tbl KeySlot) : Nat := ((List.range 64).filter (fun k => keyLive t k)).length

/-- The words of a slot's registers (14, KEY_SLOTs block). -/
def slotWord (t : Tbl KeySlot) (k w : Nat) : Nat :=
  let c := kslot t k
  match w with
  | 0 => keyState t k + 2 ^ 4 * c.kind + 2 ^ 8 * c.life + 2 ^ 10 * c.ops + 2 ^ 16 * c.priv + 2 ^ 18 * c.depth + 2 ^ 24 * c.parent
  | 1 => c.role
  | 2 => c.uses
  | 3 => c.useMax
  | 4 => c.gen + 2 ^ 16 * c.pgen
  | 5 => c.spp
  | 6 => c.floor
  | _ => 0

/-! ## The NTS slots of TSV (13 R340) -/

/-- The key slot of NTS_MK_j, while 14 R363 holds for it. -/
def ntsMk (s : State) (j : Nat) : Option Nat :=
  match keyByRole s.key.slots 6 j none with
  | none => none
  | some k => if chainOk s.key.slots 5 k then some k else none

/-- SLOT_STATE of NTS slot j (13 R340): 0 EMPTY, 1 ACCEPT, 2 CURRENT, 3 EXPIRED. -/
def ntsState (s : State) (j : Nat) : Nat :=
  if !s.flag (R.TSV_NTS_KEY_STAT_EN j) || (ntsMk s j).isNone then 0
  else if s.get2 (R.TSV_NTS_KEY_NOT_AFTER_LO_NOT_AFTER j) (R.TSV_NTS_KEY_NOT_AFTER_HI_NOT_AFTER j) < etSec s.etimeNow then 3
  else if s.flag R.TSV_NTS_CFG_CUR_EN && s.get R.TSV_NTS_CFG_CUR_SLOT == j then 2
  else 1

/-- The CURRENT slot. -/
def ntsCurrent (s : State) : Option Nat := (List.range 8).find? (fun j => ntsState s j == 2)

/-- The words of KEY and TSV that follow from the store and the session table. -/
def keyWord (s : State) (a : Nat) : Option Nat :=
  if 0x0F1000 ≤ a ∧ a < 0x0F1800 then some (slotWord s.key.slots ((a - 0x0F1000) / 0x20) (a % 0x20 / 4))
  else if a = 0x0F0004 then
    some (withBits (withBits (rdWord s a) 8 4 s.key.staged.length) 22 16 (keyCount s.key.slots))
  else if 0x0E0100 ≤ a ∧ a < 0x0E0180 ∧ a % 0x10 = 0xC then
    let j := (a - 0x0E0100) / 0x10
    some (withBits (withBits (rdWord s a) 1 0 (ntsState s j)) 2 2 (bit (ntsMk s j).isSome))
  else if a = 0x0E000C then some ((ntsCurrent s).elim 0 (fun j => s.get (R.TSV_NTS_KEY_KEY_ID_KEY_ID j)))
  else if a = 0x0E0004 then
    let c := ntsCurrent s
    some (withBits (withBits (withBits (rdWord s a) 10 8 (s.get R.TSV_NTS_CFG_CUR_SLOT)) 11 11 (bit c.isSome)) 28 16 s.tsv.sess.length)
  else none

end Sys2Proof.Machine
end

