-- ==== Sys2Proof/Machine/View.lean ====
section
/-! DEFINITION. What a read returns: the words that are computed from state held elsewhere, and the capture groups of 02 R47 (a
read of the first word captures its companions for the reader). -/

namespace Sys2Proof.Machine

/-- A capture group (02 R47): the trigger register's address of instance 0, its instances, and the offsets of the companions
from it. -/
structure CapGroup where
  base : Nat
  dims : List (Nat × Nat)
  comps : List Int
  deriving DecidableEq, Repr

/-- An address at an offset. -/
def compAt (a : Nat) (c : Int) : Nat := ((a : Int) + c).toNat

/-- The capture groups (01 R38; 02 R47; 17 R443). -/
def capGroups : List CapGroup := [⟨0x000100, [], [0x4, 0x8]⟩,
  ⟨0x020010, [], [0x4, 0x8, 0xC, 0x10]⟩,
  ⟨0x020030, [], [0x4, 0x8, 0xC, 0x10, 0x14, 0x18, 0x1C]⟩,
  ⟨0x150300, [], [0x4, 0x8, 0xC, 0x10, 0x14, 0x18, 0x1C]⟩,
  ⟨0x010030, [], [0x4, 0x8]⟩,
  ⟨0x031024, [(24, 0x80)], [0x4]⟩,
  ⟨0x031038, [(24, 0x80)], [0x4, 0x8, 0xC, 0x10, 0x14, 0x18, 0x1C, 0x20]⟩,
  ⟨0x061000, [(9, 0x100)], [0x4, 0x8, 0xC]⟩,
  ⟨0x091038, [(16, 0x80)], [0x4, 0x8, -0x4]⟩,
  ⟨0x0B0080, [], [0x4, 0x8, 0xC, 0x10, 0x14, 0x18, 0x1C, 0x20, 0x24, 0x28]⟩,
  ⟨0x0B0110, [], [0x4, 0x8, 0xC, 0x10, 0x14, 0x18, 0x1C, 0x20, 0x24, 0x28, 0x2C]⟩,
  ⟨0x0C1030, [(16, 0x100)], [0x4, 0x8, 0xC, 0x10, 0x14, 0x18, 0x1C, 0x20, 0x24, 0x28, 0x2C]⟩,
  ⟨0x0C1094, [(16, 0x100)], [0x4, 0x8, 0xC]⟩,
  ⟨0x0D10A4, [(16, 0x200)], [0x4, 0x8]⟩,
  ⟨0x101018, [(8, 0x100)], [0x4, 0x8, 0xC, 0x10, 0x14, 0x18, 0x1C]⟩]

/-- The group whose trigger is at address a. -/
def capTrigger (a : Nat) : Option CapGroup :=
  capGroups.find? (fun g => decide (g.base ≤ a) && matchDims (a - g.base) g.dims)

/-- Is address a a companion of some group's instance? -/
def isCompanion (a : Nat) : Bool :=
  capGroups.any (fun g => g.comps.any (fun c => decide (compAt g.base c ≤ a) && matchDims (a - compAt g.base c) g.dims))

/-- Bits k words of a wide value, from word 0 up (00 R13). -/
def wordOf (v k : Nat) : Nat := (v / 2 ^ (32 * k)) % 2 ^ 32

/-- The GEN and ETM words that are computed (01 R38; 02 R47). -/
def viewEtm (s : State) (a : Nat) : Option Nat :=
  let o := s.etm
  let off : Nat := o.sec * 2 ^ 48 + o.sub / 2 ^ 48 * 2 ^ 16 + o.sub / 2 ^ 32 % 2 ^ 16
  if a = 0x000110 then
    some (withBits (withBits (rdWord s a) 0 0 (bit (!s.gen.held.isEmpty))) 24 16 s.gen.held.length)
  else if a / 0x1000 ≠ 0x020 then none
  else if 0x020010 ≤ a ∧ a ≤ 0x020018 then some (wordOf (etPack s.etimeNow) ((a - 0x020010) / 4))
  else if a = 0x02001C ∨ a = 0x020020 then some (wordOf (s.raw * 4096) ((a - 0x02001C) / 4))
  else if 0x020030 ≤ a ∧ a ≤ 0x020038 then some (wordOf off ((a - 0x020030) / 4))
  else if a = 0x020088 ∨ a = 0x02008C then some (wordOf o.utcCur.leapTai ((a - 0x020088) / 4))
  else if a = 0x02003C then some (o.sub % 2 ^ 32)
  else if a = 0x020040 ∨ a = 0x020044 then some (wordOf o.anchor ((a - 0x020040) / 4))
  else if a = 0x020048 ∨ a = 0x02004C then some (wordOf (ofInt 64 o.rate) ((a - 0x020048) / 4))
  else none

/-- RTC time now: seconds and 1/32 768 s (19 R478); it counts from the value it last held. -/
def rtcNow (s : State) : Nat × Nat :=
  let p := s.pwr
  let t := p.rtcSec * 32768 + p.rtcSub + (if p.rtcRun then (s.up - p.rtcUp) * 32768 / 250000000 else 0)
  (t / 32768 % 2 ^ 48, t % 32768)

/-- The RTC's words, and the user area of the retention SRAM (19 R480). -/
def viewRtc (s : State) (a : Nat) : Option Nat :=
  if a = 0x010030 ∨ a = 0x010034 then some (wordOf (rtcNow s).1 ((a - 0x010030) / 4))
  else if a = 0x010038 then some (rtcNow s).2
  else if 0x018000 ≤ a ∧ a < 0x018800 then some (ofLe ((List.range 4).map (fun k => (tget 0 s.ret (a - 0x018000 + 0x800 + k)).toNat)))
  else none

/-- The state code of a target (18, STAT.STATE). -/
def TgtState.code : TgtState → Nat
  | .idle => 0
  | .gather => 1
  | .asserted => 2
  | .service => 3

/-- The FLT, REC, IRQ and PMC words that are computed. -/
def viewFlt (s : State) (a : Nat) : Option Nat :=
  if 0x121000 ≤ a ∧ a < 0x121500 then
    let n := (a - 0x121000) / 4
    let esc := s.get ((R.FLT_ESC_ESC (n / 32)).bitAt (n % 32))
    let w := if esc = 1 then withBits (rdWord s a) 5 4 0 else rdWord s a
    some (withBits (withBits w 6 6 (s.get ((R.FLT_LATCH_LATCHED (n / 32)).bitAt (n % 32)))) 7 7 esc)
  else if 0x120204 ≤ a ∧ a ≤ 0x12020C then
    match tget none s.flt.dedup (s.get R.FLT_DD_IDX_IDX) with
    | none => some 0
    | some e =>
      if a = 0x120204 then some (e.subject + e.code * 2 ^ 16 + 2 ^ 31)
      else if a = 0x120208 then some e.wit
      else some (satW 32 (s.strokes - e.last))
  else if a = 0x130024 then
    let c := s.get R.REC_CODE_IDX_CODE
    some (tget (if c < 0x140 then 0x402 else 0x801) s.rcd.codeCfg c).toNat
  else if 0x140100 ≤ a ∧ a < 0x1401C0 then
    let t := (a - 0x140100) / 0x20
    let g := s.tgt t
    if a % 0x20 = 0 then
      some (if g.st = .service then g.active else (irqLowest s t).getD (if g.st = .asserted then 255 else 0))
    else if a % 0x20 = 0x10 then
      some (withBits (withBits (withBits (rdWord s a) 1 0 g.st.code) 15 8 (if g.st = .service then g.active else 0)) 23 16 g.count)
    else none
  else if 0x141000 ≤ a ∧ a < 0x141400 then
    let n := (a - 0x141000) / 4
    some (withBits (withBits (rdWord s a) 9 9 (bit (irqPend s n))) 10 10
      (bit ((List.range 6).any (fun t => (s.tgt t).st = .service && (s.tgt t).active == n))))
  else if a = 0x150008 then some (withBits (rdWord s a) 24 16 s.pmc.tags.length)
  else if 0x150300 ≤ a ∧ a < 0x150320 then
    match s.pmc.tags with
    | [] => some 0
    | e :: _ => some (e.getD ((a - 0x150300) / 4) 0).toNat
  else none

/-- The slice that converts in this Stroke: the slices swap at every edge (03 R72). DESIGN CHOICE (log entry 21): S0 converts in Stroke 0. -/
def convSlice (s : State) : Nat := (s.strokes - 1) % 2

/-- A converter's slice. -/
def State.slice (s : State) (conv k : Nat) : ClpSlice := tget {} s.clp.slices (2 * conv + k)

/-- The fine value T[c] of a raw code on a converter: of the slice that converts in this Stroke (03 R72). A slice without a scale reads a free value (R79). -/
def convFine (s : State) (conv code : Nat) : Nat :=
  let k := convSlice s
  let c := min 1535 code
  match (s.slice conv k).table[c]? with
  | some v => v
  | none => (Config.bareFine conv k c).toNat

/-- Does a loopback source deliver invalid stamps (03 R98)? -/
def loopInv (s : State) (src : Nat) : Bool :=
  decide (0x10 ≤ src) && decide (src ≤ 0x1F) &&
    (decide ((tget {} s.out.outs (src - 0x10)).st ≤ 1) || (tget {} s.out.aplls (s.get (R.OUT_CFG_APLL (src - 0x10)))).st != 4)

/-- Does a converter deliver INV stamps now (03 R98)? -/
def convInv (s : State) (conv : Nat) : Bool :=
  s.flag R.ETM_STAT_BACKUP_CLK || s.clp.warm || (s.slice conv (convSlice s)).bad

/-- CLP_INV_MAP (03 R98). -/
def clpInvMap (s : State) : Nat :=
  (List.range 24).foldl (fun a n =>
    a + bit (convInv s n || loopInv s (s.get (R.CLP_CH_SRC_START_SRC n))) * 2 ^ n) 0

/-- The CLP words that are computed: CLP_INV_MAP, and the head of a queue (03 R88; with PD_CLP not ON it reads as empty, 19
R474). -/
def viewClp (s : State) (a : Nat) : Option Nat :=
  if a = 0x030008 then some (if domOn s 10 then clpInvMap s else 0xFFFFFF)
  else if a / 0x1000 = 0x031 ∧ a < 0x031C00 ∧ (a % 0x80 = 0x24 ∨ a % 0x80 = 0x28) then
    some (if domOn s 10 then wordOf ((tget {} s.clp.chs ((a - 0x031000) / 0x80)).queue.headD 0) ((a % 0x80 - 0x24) / 4) else 0)
  else none

/-- The KEY and TSV words that follow from the key store, engine time and the session table. -/
def viewKey (s : State) (a : Nat) : Option Nat := keyWord s a


/-- The bytes of a frame from o on as one register word, first byte in [7:0] (12 R320). -/
def frameWord (b : List Nat) (o : Nat) : Nat := ofLe ((b.drop o).take 4)

/-- Units of 64 bytes that a received frame takes (12 R318), counted with its FCS. -/
def hrxUnits (f : RxFrame) : Nat := (f.bytes.length + 4 + 63) / 64

/-- Units of 32 bytes that a host frame takes in the transmit buffer. -/
def htxUnits (n : Nat) : Nat := (n + 31) / 32

/-- Free units of the host receive buffer. -/
def hrxFree (s : State) : Nat := 1024 - s.mac.hrx.foldl (fun n f => n + hrxUnits f) 0

/-- Free units of the host transmit buffer. -/
def htxFree (s : State) : Nat :=
  1024 - s.mac.ports.foldl (fun n e => n + e.2.tx.foldl (fun m f => if f.src = 0 then m + htxUnits f.bytes.length else m) 0) 0

/-- The MAC words that follow from its queues and buffers. -/
def viewMac (s : State) (a : Nat) : Option Nat :=
  if a = 0x0D0008 then some (min 1024 s.mac.hrx.length + 2 ^ 16 * hrxFree s)
  else if 0x0D0010 ≤ a ∧ a ≤ 0x0D0020 then
    match s.mac.hrx.head? with
    | none => some 0
    | some f =>
      let k := (a - 0x0D0010) / 4
      if k = 0 then
        some (f.port + 2 ^ 4 * f.cls + 2 ^ 6 * f.ntags + 2 ^ 8 * bit f.ip4 + 2 ^ 9 * bit f.udp + 2 ^ 10 * bit f.inv + 2 ^ 16 * f.bytes.length)
      else if k = 1 then some (f.stamp % 2 ^ 32)
      else if k = 2 then some (f.stamp / 2 ^ 32)
      else if k = 3 then some f.seq
      else some (frameWord f.bytes s.mac.hrxPos)
  else if a = 0x0D0048 then some (withBits (rdWord s a) 10 0 (htxFree s))
  else if 0x0D10A0 ≤ a ∧ a < 0x0D3000 ∧ 0xA0 ≤ (a - 0x0D1000) % 0x200 ∧ (a - 0x0D1000) % 0x200 ≤ 0xAC then
    let p := tget {} s.mac.ports ((a - 0x0D1000) / 0x200)
    let o := (a - 0x0D1000) % 0x200
    if o = 0xA0 then some (withBits (withBits (rdWord s a) 9 0 p.tsq.length) 16 16 (bit p.gap.isSome))
    else some (wordOf (p.tsq.headD 0) ((o - 0xA4) / 4))
  else if 0x0E3000 ≤ a ∧ a < 0x0E3200 ∧ a % 0x40 = 0 then some (tget {} s.tsv.mals ((a - 0x0E3000) / 0x40)).q.length
  else none


/-- The live word at address a: computed, or the register's own. -/
def liveWord (s : State) (a : Nat) : Nat :=
  match viewEtm s a with
  | some v => v
  | none =>
    match viewRtc s a with
    | some v => v
    | none =>
      match viewFlt s a with
      | some v => v
      | none =>
        match viewClp s a with
        | some v => v
        | none =>
          match viewKey s a with
          | some v => v
          | none =>
            match viewMac s a with
            | some v => v
            | none => rdWord s a

/-- A capturing read by reader r (0 to 2 the host interfaces, 3 the recorder's own set, 17 R443): the word, and the state with
the companions captured. A companion read before its capture returns its reset word, but the ETM_OFFSET companions, which
return the values in effect (02 R47). -/
def readAs (r a : Nat) (s : State) : Nat × State :=
  match capTrigger a with
  | some g =>
    let caps := g.comps.foldl
      (fun c o => tset none c (compAt a o + (r + 1) * 2 ^ 24) (some (BitVec.ofNat 32 (liveWord s (compAt a o))))) s.caps
    (liveWord s a, { s with caps := caps })
  | none =>
    if isCompanion a then
      match tget none s.caps (a + (r + 1) * 2 ^ 24) with
      | some w => (w.toNat, s)
      | none => (if 0x020034 ≤ a ∧ a ≤ 0x02004C then liveWord s a else (resetWord a).toNat, s)
    else (liveWord s a, s)


end Sys2Proof.Machine
end

