-- ==== Sys2Proof/Machine/Rec.lean ====
section
/-! DEFINITION. The event recorder (17 R441 to R449): capture with rate limits and space by phase, flushes and the two log areas,
erasures and the read units. -/

namespace Sys2Proof.Machine

/-- A code's settings word (17 R444; REC_CODE_CFG). -/
def recCfg (s : State) (code : Nat) : Nat := (tget (if code < 0x140 then 0x402 else 0x801) s.rcd.codeCfg code).toNat

/-- The window of a code in seconds (RL_WIN). -/
def rlSecs (cfg : Nat) : Nat :=
  match bits cfg 7 6 with
  | 0 => 1
  | 1 => 10
  | 2 => 60
  | _ => 3600

/-- A record's length in 32-byte units. -/
def Record.units (r : Record) : Nat := 1 + r.body.length / 32

/-- The 28 bytes of the header before its CRC (17 R441). -/
def Record.head (r : Record) : List Nat :=
  leBytes 4 r.seq ++ leBytes 2 r.code ++
    [r.units, bit r.conseq + 2 * bit r.summary + 4 * bit r.timeInv + 8 * r.phase + 32 * r.sev + 128 * bit r.selfRep] ++
    leBytes 2 r.frac ++ leBytes 4 r.ns ++ leBytes 6 r.sec ++ leBytes 4 r.stroke ++ leBytes 2 r.era ++ leBytes 2 r.dropped

/-- A record's bytes, the CRC formed over the whole record with its own field 0 (17 R441). -/
def Record.bytes (r : Record) : List Nat := r.head ++ leBytes 4 (crc32 (r.head ++ [0, 0, 0, 0] ++ r.body)) ++ r.body

/-- Units of the ring in use: all records, or the unflushed ones. -/
def ringUnits (l : List Record) : Nat := l.foldl (fun n r => n + r.units) 0

/-- The ring's room (64 KiB). -/
def ringCap : Nat := 2048

/-- The unflushed records' units. -/
def unflushed (s : State) : Nat := ringUnits (s.rcd.ring.filter (fun r => !r.flushed))

/-- REC_STAT.SRAM_LVL from the ring. -/
def recLevel (s : State) : State := s.put R.REC_STAT_SRAM_LVL (unflushed s * 100 / ringCap)

/-- Is the recorder held or in its reset time (17 R430)? -/
def recHeld (s : State) : Bool :=
  s.flt.held.contains .recorder || s.flt.resetting.any (fun r => r.1 == .recorder)

/-- Drop flushed records, oldest first, until need units fit. -/
def evictFlushed (need : Nat) : List Record → List Record
  | [] => []
  | r :: t =>
    if ringUnits (r :: t) + need ≤ ringCap then r :: t
    else if r.flushed then evictFlushed need t else r :: evictFlushed need t

/-- The position of the oldest unflushed record that severity sev may overwrite: strictly lower first, else equal (17 R446). -/
def victim (sev : Nat) (l : List Record) : Option Nat :=
  match l.findIdx? (fun r => !r.flushed && decide (r.sev < sev)) with
  | some i => some i
  | none => l.findIdx? (fun r => !r.flushed && r.sev == sev)

/-- Overwrite unflushed records as severity allows until need units fit (17 R446); none where they cannot. -/
def overwrite (need sev : Nat) : Nat → List Record → Option (List Record)
  | 0, _ => none
  | fuel + 1, l =>
    if ringUnits l + need ≤ ringCap then some l
    else match victim sev l with
      | none => none
      | some i => overwrite need sev fuel (l.eraseIdx i)

/-- A flush begins, or is to follow the running one (17 R446). pfail: the flush of the fall of PFAIL_N, which takes in the
records captured while it runs. -/
def flushStart (pfail : Bool) (s : State) : State :=
  if s.flag R.REC_STAT_FLUSHING then
    { s with rcd := { s.rcd with flushAgain := true, flushPfail := s.rcd.flushPfail || pfail } }
  else
    pmcCount 356 ({ s with rcd := { s.rcd with flushTo := s.rcd.nextSeq, flushPfail := pfail } }.put R.REC_STAT_FLUSHING 1)

/-- The words of the enabled ranges of a snapshot set, read as an Observer through the recorder's own captures (17 R443). -/
def snapWords (set : Nat) (s : State) : List Nat × State :=
  (List.range 8).foldl (fun acc r =>
    if s.flag (R.REC_SET_EN set r) then
      (List.range (s.get (R.REC_SET_CNT set r) + 1)).foldl (fun acc k =>
        let a := s.get (R.REC_SET_ADDR set r) / 4 * 4 + 4 * k
        let withheld := (a / 0x1000 == 0x151 || a / 0x1000 == 0x152) && !tbit (s.get R.PMC_PERM_GROUP) (a % 0x800 / 128)
        match findReg a with
        | none => (acc.1 ++ [0], acc.2)
        | some _ => if withheld || (a / 0x20 == 0x150300 / 0x20 && !s.flag R.PMC_PERM_TAG) then (acc.1 ++ [0], acc.2)
          else
            let v := readAs 3 a acc.2
            (acc.1 ++ [v.1], v.2)) acc
    else acc) ([], s)

/-- Bytes padded with zeros to a multiple of 32. -/
def pad32 (l : List Nat) : List Nat := l ++ List.replicate ((32 - l.length % 32) % 32) 0

/-- What a record says beside its code and payload. -/
structure RecFlags where
  conseq : Bool := false
  summary : Bool := false
  selfRep : Bool := false
  deriving DecidableEq, Repr

/-- A record dropped for its rate limit (17 R444). -/
def rlDrop (code : Nat) (st : RlSt) (s : State) : State :=
  pmcCount 355 { s with rcd := { s.rcd with rl := tset {} s.rcd.rl code { st with dropped := satW 16 (st.dropped + 1) } } }

/-- The recorder's next SEQ and its complement kept in retention bytes 0x310 to 0x317 (20 R508). -/
def keepSeq (nxt : Nat) (s : State) : State :=
  let put := fun (r : Tbl Byte) (i : Nat) =>
    tset 0 (tset 0 r (0x310 + i) (BitVec.ofNat 8 (nxt / 256 ^ i))) (0x314 + i) (BitVec.ofNat 8 (255 - nxt / 256 ^ i % 256))
  { s with ret := (List.range 4).foldl put s.ret }

/-- A record written into the ring: SEQ moves on, kept in retention SRAM with its complement (17 R448, 20 R508). -/
def ringWrite (ring : List Record) (r : Record) (code : Nat) (st : RlSt) (s : State) : State :=
  let nxt := (r.seq + 1) % 2 ^ 32
  let s := { s with rcd := { s.rcd with ring := ring ++ [r], nextSeq := nxt,
                                         rl := tset {} s.rcd.rl code { st with n := st.n + 1, dropped := 0 } } }
  let s := keepSeq nxt s
  let s := pmcCount 354 (recLevel (s.put R.REC_SEQ_SEQ r.seq))
  if s.get R.REC_STAT_SRAM_LVL ≥ s.get R.REC_CTL_FLUSH_LVL then flushStart false s else s

/-- A record is captured (17 R441 to R446). Answers the SEQ where it was written. -/
def capture (code : Nat) (payload : List Nat) (fl : RecFlags) (s : State) : Option Nat × State :=
  if recHeld s then (none, s)
  else
    let cfg := recCfg s code
    let win := (s.strokes - 1) / (8000 * rlSecs cfg)
    let st0 := tget {} s.rcd.rl code
    let st := if st0.win = win then st0 else { st0 with win := win, n := 0 }
    if st.n ≥ bits cfg 15 8 then (none, rlDrop code st s)
    else
      let sn := if tbit cfg 5 then snapWords (bits cfg 4 2) s else ([], s)
      let s := sn.2
      let base := pad32 (if payload.isEmpty then [0] else payload)
      let body := pad32 (base ++ (sn.1.map (leBytes 4)).flatten.take (288 - base.length))
      let t := s.etimeNow
      let sev := cfg % 4
      let r : Record :=
        { seq := s.rcd.nextSeq, code := code, conseq := fl.conseq, summary := fl.summary,
          timeInv := s.flag (R.BND_SET_BOUND_W3_UNBOUNDED 0) || s.flag R.ETM_STAT_BACKUP_CLK,
          phase := s.get R.REC_STAT_PHASE, sev := sev, selfRep := fl.selfRep, sec := etSec t, ns := etNs t,
          frac := etFrac t, stroke := s.strokeNum, era := s.get R.ETM_STAT_ERA, dropped := st.dropped,
          body := if body.isEmpty then List.replicate 32 0 else body, flushed := false }
      let ring := evictFlushed r.units s.rcd.ring
      if ringUnits ring + r.units ≤ ringCap then (some r.seq, ringWrite ring r code st s)
      else
        let lose := raiseEvt R.REC_EVT_SRAM_DROP 192
        if r.phase = 0 then (none, pmcCount 355 ((lose s).addSat R.REC_LOST_SRAM_LOST 1))
        else match overwrite r.units sev (ring.length + 1) ring with
          | some ring' => (some r.seq, ringWrite ring' r code st (lose s))
          | none => (none, pmcCount 355 ((lose s).addSat R.REC_LOST_SRAM_LOST 1))

/-- A record of a code that is no fault source's: the payload is the values the logging rule names (17 R442). -/
def logRec (code : Nat) (payload : List Nat) (s : State) : State := (capture code payload {} s).2

/-- The recorder's phase (17 R445): START until RUN or FAILSAFE; TEST; RECOVERY; NORMAL. -/
def recPhase (s : State) : Nat :=
  if s.get R.CFG_STAT_STATE < 4 then 1
  else if s.flag R.REC_CTL_TEST_PH || s.get R.GEN_LC_STATE == 1 then 2
  else match s.rcd.recovEnd with
    | some e => if s.now < e then 3 else 0
    | none => 0

/-- The phase brought up to date; a change makes a phase-change record (17 R445, R559). -/
def updPhase (s : State) : State :=
  let old := s.get R.REC_STAT_PHASE
  let new := recPhase s
  if old = new then s else logRec 0x18B [old, new] (s.put R.REC_STAT_PHASE new)

/-! ## The log -/

/-- The units of the FIXED area (768 KiB). -/
def fixedCap : Nat := 24576

/-- The highest severity in a sector. -/
def sectorSev (l : List Record) : Nat := l.foldl (fun n r => max n r.sev) 0

/-- The ROLL sector that gives way: the oldest among those whose highest severity is lowest (17 R447). -/
def rollVictim (l : List (List Record)) : Nat :=
  let m := l.foldl (fun n x => min n (sectorSev x)) 4
  (l.findIdx? (fun x => sectorSev x == m)).getD 0

/-- One record written to the FIXED area. -/
def logFixed (r : Record) (s : State) : State :=
  if ringUnits s.rcd.fixed + r.units ≤ fixedCap then
    let s := { s with rcd := { s.rcd with fixed := s.rcd.fixed ++ [r] } }
    s.put R.REC_USE_FIXED_USED (satW 16 (2 * ringUnits s.rcd.fixed))
  else
    let s := s.addSat R.REC_LOST_FIXED_LOST 1
    if s.flag R.REC_STAT_FIXED_FULL then s else raiseEvt R.REC_EVT_FIXED_FULL 192 (s.put R.REC_STAT_FIXED_FULL 1)

/-- One record written to the ROLL area (64 sectors of 128 units). -/
def logRoll (r : Record) (s : State) : State :=
  let l := s.rcd.roll
  match l.getLast? with
  | some last =>
    if ringUnits last + r.units ≤ 128 then { s with rcd := { s.rcd with roll := l.dropLast ++ [last ++ [r]] } }
    else if l.length < 64 then
      { s with rcd := { s.rcd with roll := l ++ [[r]] } }.put R.REC_USE_ROLL_USED (l.length + 1)
    else
      raiseEvt R.REC_EVT_ROLL_ERASE 192 { s with rcd := { s.rcd with roll := l.eraseIdx (rollVictim l) ++ [[r]] } }
  | none => { s with rcd := { s.rcd with roll := [[r]] } }.put R.REC_USE_ROLL_USED 1

/-- One record written to the area of the phase it was captured in. -/
def logWrite (r : Record) (s : State) : State :=
  if r.phase = 0 then logFixed { r with flushed := true } s else logRoll { r with flushed := true } s

/-- Does the running flush take this record in? -/
def inFlush (s : State) (r : Record) : Bool :=
  !r.flushed && (s.rcd.flushPfail || (r.seq != s.rcd.flushTo && seqLater s.rcd.flushTo r.seq))

/-- The running flush ends: its records stand in the log and their space is free; a pending flush starts (17 R446). A reset of REC that awaited it runs its 200 µs
from here (17 R433). -/
def flushFinish (s : State) : State :=
  let todo := s.rcd.ring.filter (inFlush s)
  let s1 := todo.foldl (fun s r => logWrite r s) s
  let ring := s1.rcd.ring.map (fun r => if inFlush s r then { r with flushed := true } else r)
  let s2 := { s1 with rcd := { s1.rcd with ring := ring, flushPfail := false, flushAgain := false } }
  let wait := s2.flt.resetting.map (fun r => if r.1 = .recorder then (r.1, s2.now + 50000) else r)
  let s2 := { s2 with flt := { s2.flt with resetting := wait } }
  let s3 := raiseEvt R.REC_EVT_FLUSH_DONE 192 (recLevel (s2.put R.REC_STAT_FLUSHING 0))
  if s.rcd.flushAgain then flushStart false s3 else s3

/-- A host-trigger record (17 R445). -/
def recHostTrig (s : State) : State := logRec 0x188 [] s

/-- FIXED erased, after its host-trigger record (17 R447). -/
def eraseFixed (s : State) : State :=
  let s := recHostTrig s
  ({ s with rcd := { s.rcd with fixed := [] } }.put R.REC_USE_FIXED_USED 0).put R.REC_STAT_FIXED_FULL 0

/-- ROLL erased, after its host-trigger record (17 R447). -/
def eraseRoll (s : State) : State :=
  let s := recHostTrig s
  { s with rcd := { s.rcd with roll := [] } }.put R.REC_USE_ROLL_USED 0

/-- The record with a SEQ in an area: 0 SRAM, 1 FIXED, 2 ROLL. -/
def recFind (s : State) (area seq : Nat) : Option Record :=
  (match area with
    | 0 => s.rcd.ring
    | 1 => s.rcd.fixed
    | _ => s.rcd.roll.flatten).find? (fun r => r.seq == seq)

/-- GO of a read unit (17 R449): DONE clears until the lookup ends. -/
def recRdGo (i : Iface) (s : State) : State :=
  let s := ((s.put ((R.REC_RD_STAT_DONE).ifc i) 0).put ((R.REC_RD_STAT_FOUND).ifc i) 0).put ((R.REC_RD_STAT_LEN).ifc i) 0
  { s with rcd := { s.rcd with rdBusy := tset 0 s.rcd.rdBusy i.num 1 } }

/-- The lookup ends (17 R449): the record's words, or FOUND = 0. Nothing where no lookup runs. -/
def recRdDone (i : Iface) (s : State) : State :=
  if tget 0 s.rcd.rdBusy i.num = 0 then s
  else
    let s := { s with rcd := { s.rcd with rdBusy := tset 0 s.rcd.rdBusy i.num 0 } }.put ((R.REC_RD_STAT_DONE).ifc i) 1
    match recFind s (s.get ((R.REC_RD_CTL_AREA).ifc i)) (s.get ((R.REC_RD_SEQ_SEQ).ifc i)) with
    | none => s
    | some r =>
      let b := r.bytes
      let s := (List.range 80).foldl (fun s w => s.put (((R.REC_RD_DATA_W_DATA w)).ifc i) (ofLe ((b.drop (4 * w)).take 4))) s
      (s.put ((R.REC_RD_STAT_FOUND).ifc i) 1).put ((R.REC_RD_STAT_LEN).ifc i) r.units

end Sys2Proof.Machine
end

