-- ==== Sys2Proof/Machine/KeyStore.lean ====
section
/-! DEFINITION. The key store's slots, generator, journal and restore (14 R360 to R379), as the wipes and releases of resets need them. -/

namespace Sys2Proof.Machine

/-- KEY set. -/
def State.setKey (s : State) (k : KeySt) : State := { s with key := k }

/-- NVM set. -/
def State.setNvm (s : State) (n : NvmSt) : State := { s with nvm := n }

/-- A slot. -/
def State.slot (s : State) (k : Nat) : KeySlot := kslot s.key.slots k

/-- A slot set. -/
def State.setSlot (s : State) (k : Nat) (v : KeySlot) : State := s.setKey { s.key with slots := tset {} s.key.slots k v }

/-- Bytes as opaque functions take them. -/
def toBytes (l : List Nat) : List Byte := l.map (BitVec.ofNat 8)

/-- A 256-bit result as bytes, the first most significant. -/
def resBytes (v : BitVec 256) : List Nat := beBytes 32 v.toNat

/-- A key's 32 bytes, the first in the low bits (KEY_STG_DATA). -/
def keyBytes (k : Nat) : List Nat := leBytes 32 k

/-- HMAC-SHA256 under a key (14 R362). -/
def hmacOf (k : Nat) (msg : List Nat) : List Nat := resBytes (Config.hmacSha256 (toBytes (keyBytes k)) (toBytes msg))

/-- ASCII. -/
def ascii (t : String) : List Nat := t.toList.map (fun c => c.toNat)

/-- n bits from the generator. -/
def rngDraw (n : Nat) (s : State) : Nat × State :=
  let r := s.fresh n
  (r.1, r.2.setKey { r.2.key with rngCnt := r.2.key.rngCnt + 1 })

/-- A key stored under a fresh mask (14 R377). -/
def maskKey (v : KeySlot) (key : Nat) (s : State) : KeySlot × State :=
  let r := rngDraw 256 s
  ({ v with stored := key ^^^ r.1, mask := r.1 }, r.2)

/-- The staging data erased. -/
def stgErase (s : State) : State := (List.range 12).foldl (fun s w => wrWord s (0x0F0120 + 4 * w) 0) s

/-- The sealed transactions of the active half. -/
def jnlActive (s : State) : List JTxn := if s.flag R.KEY_STAT_ACTIVE_HALF then s.nvm.jnl1 else s.nvm.jnl0

/-- Bytes of a transaction (14 R372). -/
def jtxnBytes (x : JTxn) : Nat := 32 + 96 * x.recs.length

/-- KEY_JNL and KEY_JNL_USE from the active half. -/
def jnlStat (s : State) : State :=
  let l := jnlActive s
  (s.put R.KEY_JNL_SEQ ((l.getLast?).elim 0 (·.seq))).put R.KEY_JNL_USE_USED (l.foldl (fun n x => n + jtxnBytes x) 0 / 16)

/-- The engine IDLE with nothing staged. -/
def keyIdle (s : State) : State := stgErase ((s.setKey { s.key with staged := [] }).put R.KEY_STAT_TXN_STATE 0)

/-- The fixed slots ROOT and KWRAP (14 R360), where the life cycle has a root. -/
def keyFixed (s : State) : State :=
  let lc := s.get R.GEN_LC_STATE
  if lc = 0 ∨ lc = 4 then s
  else
    let root := ofLe (resBytes Config.dieRoot)
    let r := maskKey { state := 1, kind := 1, ops := 0x10 } root s
    let s := r.2.setSlot 0 r.1
    let kw := ofLe (hmacOf root (ascii "CWG-8816 KWRAP" ++ [1]))
    let w := maskKey { state := 1, kind := 2, ops := 0x03, depth := 1 } kw s
    w.2.setSlot 1 w.1

/-- A sealed transaction replayed: COUNTED keys restore at their floor (14 R367, R373). -/
def jnlReplay (s : State) (x : JTxn) : State :=
  x.recs.foldl (fun s r =>
    let v := r.2
    let v := if v.life = 1 ∧ v.state ≠ 0 then { v with uses := v.floor, state := if v.state = 1 ∧ v.floor = 0 then 2 else v.state } else v
    let m := maskKey v v.stored s
    m.2.setSlot r.1 (if v.state = 0 then v else m.1)) s

/-- The key store wiped (14 R378): key SRAM, caches, staging. A transaction that is not IDLE is discarded. -/
def keyWipe (s : State) : State :=
  let busy := s.get R.KEY_STAT_TXN_STATE != 0
  let s := keyIdle (s.setKey { s.key with slots := [], att := [], floorDue := [] })
  let s := s.put R.KEY_STAT_RESTORED 0
  let s := [Iface.spi, .i2c, .inband].foldl (fun s j => s.put (R.KEY_ATT_STAT_BUSY.ifc j) 0) s
  if busy then logRec 0x178 [] s else s

/-- The store restored (14 R373): the active half replayed; what follows a missing seal is discarded. -/
def keyRestore (s : State) : State :=
  let later := match s.nvm.jnl0.head?, s.nvm.jnl1.head? with
    | some a, some b => seqLater b.seq a.seq
    | none, some _ => true
    | _, none => false
  let s := keyFixed (s.putB R.KEY_STAT_ACTIVE_HALF later)
  let s := (jnlActive s).foldl jnlReplay s
  let s := match s.nvm.part with
    | none => s
    | some x =>
      let s := (s.setNvm { s.nvm with part := none }).put R.KEY_STAT_RESTORED_PART 1
      raiseEvt R.KEY_EVT_TXN_DISCARD 188 (logRec 0x178 (leBytes 4 x.seq) s)
  let s := jnlStat (s.put R.KEY_STAT_RESTORED 1)
  if 1536 < s.get R.KEY_JNL_USE_USED then s.put R.KEY_STAT_COMPACTING 1 else s

/-- The key engine at a start: the generator seeded, the store restored. -/
def keyStart (s : State) : State := keyRestore (s.put R.KEY_STAT_RNG_OK 1)

end Sys2Proof.Machine
end

