-- ==== Sys2Proof/Machine/Wipe.lean ====
section
/-! DEFINITION. The memories and the engine state that a block reset wipes, unit by unit (19 R486, 17 R430, R433). -/

namespace Sys2Proof.Machine

/-- The ensemble emptied by a reset of SOLVER_B (05 R147). -/
def carEmpty (s : State) : State :=
  { s with sel := { s.sel with refs := (List.range 32).foldl (fun t m =>
      tset {} t m { tget {} t m with member := false, s2 := none, prov := none, vc := 0 }) s.sel.refs } }

/-- A unit's memories wiped and its engine back at its start (19 R486). Its registers keep their words: the spec does not say that a block reset returns them to
their reset values, and its re-entry to DETECT and ACQUIRE (17 R433) needs the settings (DEDUCED, log entry 63). -/
def wipeUnit (u : HwUnit) (s : State) : State :=
  match u with
  | .recorder => { s with rcd := { s.rcd with ring := s.rcd.ring.filter (fun r => !r.flushed) } }
  | .lane _ | .solverA => s
  | .mac k =>
    let p := tget {} s.mac.ports k
    let p : MacPort := { p with tx := p.tx.filter (·.src != 0), tsq := [], gap := none, gaps := [] }
    let pos := if (s.mac.hrx.headD { port := 99, bytes := [] }).port = k then 0 else s.mac.hrxPos
    { s with mac := { s.mac with ports := tset {} s.mac.ports k p, hrx := s.mac.hrx.filter (·.port != k), hrxPos := pos } }
  | .mallet m => { s with tsv := { s.tsv with mals := tset {} s.tsv.mals m {} } }
  | .key => keyWipe s
  | .hostPath =>
    let ports := s.mac.ports.map (fun e => (e.1, { e.2 with tx := e.2.tx.filter (·.src != 0) }))
    { s with mac := { s.mac with ports := ports, hrx := [], hrxPos := 0, htx := [] } }
  | .gnss =>
    let g : GnsSt := s.gns
    let g : GnsSt := { g with sclk := [], good := 0, port := [], fe := none, feHold := false, feAbort := false, feAgain := false, agcRun := none, agcDue := 0 }
    let g : GnsSt := { g with notches := [], queue := [], retry := [], dwell := [], chs := [], armed := none, pend := none, banks := [], gap := true }
    { s with gns := g }
  | .gnssCh n => { s with gns := { s.gns with chs := tset {} s.gns.chs n {} } }
  | .apll k =>
    let a := tget {} s.out.aplls k
    let s := { s with out := { s.out with aplls := tset {} s.out.aplls k { losses := a.losses, unl := a.unl, hops := a.hops, evts := a.evts } } }
    s.put (R.APL_APLL_STAT_LOCK k) 0
  | .out k => { s with out := { s.out with outs := tset {} s.out.outs k {} } }
  | .solverB => carEmpty s
  | .rmon m => { s with rmon := { s.rmon with mons := tset {} s.rmon.mons m { tget {} s.rmon.mons m with cfgForce := true } } }

/-- A unit released from its reset time (17 R433). -/
def releaseUnit (u : HwUnit) (s : State) : State :=
  match u with
  | .recorder => { s with rcd := { s.rcd with ring := s.rcd.ring.filter (fun r => !r.flushed) } }
  | .lane _ | .mac _ | .apll _ | .mallet _ | .gnss | .gnssCh _ | .solverA | .solverB | .hostPath
  | .out _ => s
  | .key => keyStart s
  | .rmon m => { s with rmon := { s.rmon with mons := tset {} s.rmon.mons m { tget {} s.rmon.mons m with cfgForce := true } } }

end Sys2Proof.Machine
end

