-- ==== Sys2Proof/Machine/Msg.lean ====
section
/-! DEFINITION. The path pairs' own state, their message queues as the producers see them (15 R404), and the FAULT message that a partner report
originates (16 R423). -/

namespace Sys2Proof.Machine

/-- A path's own state, by 2 × pair + half. -/
def State.path (s : State) (p : Nat) : PrlPath := tget {} s.prl.paths p

/-- A path's own state set. -/
def State.setPath (s : State) (p : Nat) (v : PrlPath) : State := { s with prl := { s.prl with paths := tset {} s.prl.paths p v } }

/-- A pair's own state. -/
def State.pair (s : State) (k : Nat) : PrlPair := tget {} s.prl.pairs k

/-- A pair's own state set. -/
def State.setPair (s : State) (k : Nat) (v : PrlPair) : State := { s with prl := { s.prl with pairs := tset {} s.prl.pairs k v } }

/-- The half of a pair's ACTIVE path (15 R399). -/
def actHalf (s : State) (k : Nat) : Option Nat :=
  if (s.path (2 * k)).st = 4 then some 0 else if (s.path (2 * k + 1)).st = 4 then some 1 else none

/-- Is a pair LOST (15 R403)? -/
def pairLost (s : State) (k : Nat) : Bool := (actHalf s k).isNone

/-- The cells of a message of n payload bytes (15 R404). -/
def msgCells (n : Nat) : Nat := if n ≤ 54 then 1 else 1 + (n - 54 + 55) / 56

/-- A message of a kind (0 DOMAIN, 1 FAULT, 2 MGMT) queued on pair k, or refused on a full queue (15 R404). -/
def msgSend (kind k : Nat) (b : List Nat) (s : State) : State :=
  let p := s.pair k
  let q := tget [] p.qs kind
  if b.length = 0 ∨ 894 < b.length then s
  else if 32 ≤ q.length then raiseEvt (R.PRL_EVT2_MSG_DROP.bitAt k) 190 (s.addSat (R.PRL_PP_MSGCNT2_MSG_DROP k) 1)
  else
    let n := p.seqs.getD kind 0
    s.setPair k { p with qs := tset [] p.qs kind (q ++ [{ seq := n, bytes := b }]), seqs := p.seqs.set kind ((n + 1) % 65536) }

/-- A message queued on every pair that is not LOST, but for one. -/
def msgAll (kind : Nat) (skip : Option Nat) (b : List Nat) (s : State) : State :=
  (List.range 8).foldl (fun s k => if pairLost s k || skip == some k then s else msgSend kind k b s) s

/-- A FAULT report's payload (16 R423). -/
def faultMsg (s : State) (ttl reporter subject code rseq flags wh wit : Nat) : List Nat :=
  [1, ttl] ++ beBytes 2 (s.get R.DOM_ID_DOMAIN) ++ beBytes 2 reporter ++ beBytes 2 subject ++ beBytes 2 code ++ beBytes 2 rseq
    ++ beBytes 12 (etPack s.etimeNow) ++ [flags, wh] ++ beBytes 2 wit

/-- A report of this node's own sent on every pair that is not LOST, with the next RSEQ (16 R423, R424). -/
def reportSend (subject code flags wh wit : Nat) (s : State) : State :=
  let n := s.dom.rseq
  let m := faultMsg s (s.get R.DOM_CFG3_FAULT_TTL) (s.get R.DOM_ID_NODE_ID) subject code n flags wh wit
  msgAll 1 none m { s with dom := { s.dom with rseq := (n + 1) % 65536 } }

/-- The FAULT message that a local partner report originates (16 R423), while the node takes part in a domain (R409). wh: the pair and half it is about. -/
def originate (subject code wh : Nat) (s : State) : State :=
  if s.flag R.DOM_CFG_EN then reportSend subject code 0 wh 1 s else s

end Sys2Proof.Machine
end

