-- ==== Sys2Proof/Machine/Flt.lean ====
section
/-! DEFINITION. The fault collector (17 R427 to R440): raises and reactions, latches, fences, block resets with their shadows,
escalation, the dedup table, chip reset, ERR_N and traps. -/

namespace Sys2Proof.Machine

/-- The home unit of a source (17 R427). -/
def homeUnit (src : Nat) : Option HwUnit :=
  if src ≤ 15 then some (.lane src)
  else if src ≤ 19 then some (.apll (src - 16))
  else if src ≤ 22 then none
  else if src = 23 then some .gnss
  else if src = 24 then some .key
  else if src = 25 then some .solverA
  else if src = 26 then some .solverB
  else if src ≤ 50 then none
  else if src ≤ 66 then some (.lane (src - 51))
  else if src = 67 then some .gnss
  else if src = 68 then some .solverA
  else if src = 69 then some .solverB
  else if src ≤ 85 then some (.mac (src - 70))
  else if src ≤ 93 then some (.mallet (src - 86))
  else if src = 94 then some .key
  else if src = 95 then some .hostPath
  else if src = 96 then some .recorder
  else if src ≤ 192 then some (.gnssCh (src - 97))
  else if src ≤ 224 then some (.rmon (src - 193))
  else if src ≤ 250 then none
  else if src ≤ 266 then some (.out (src - 251))
  else none

/-- Is the unit held in reset by a fence or an escalation? -/
def unitHeld (s : State) (u : HwUnit) : Bool := s.flt.held.contains u

/-- Is the unit held or in its reset time? -/
def unitDown (s : State) (u : HwUnit) : Bool := unitHeld s u || s.flt.resetting.any (fun r => r.1 == u)

/-- A unit's reset time in raw counts (17 R433). -/
def resetTime (u : HwUnit) : Nat :=
  match u with
  | .lane _ | .mac _ => 500
  | .apll _ | .mallet _ | .gnssCh _ | .out _ => 250
  | .key => 1300000
  | .gnss | .solverA | .solverB | .recorder => 50000
  | .hostPath => 2500
  | .rmon _ => 31250

/-- A unit's settle time in raw counts (17 R433). -/
def settleTime (u : HwUnit) : Nat :=
  match u with
  | .lane _ => 100 * msCounts
  | .mac _ | .key | .hostPath => msCounts
  | .apll _ => 5 * msCounts
  | .mallet _ => 2500
  | .gnss => 1500 * msCounts
  | .solverA | .solverB => 1000 * msCounts
  | .out _ => 2000 * msCounts
  | .gnssCh _ | .recorder | .rmon _ => 0

/-- The detectors that a unit's reset shadows (17 R433). -/
def shadowed (s : State) (u : HwUnit) : List Nat :=
  match u with
  | .lane k => [51 + k, 225 + 2 * (k % 8) + k / 8, 241 + k % 8]
  | .apll k => 23 :: ((List.range 16).filter (fun j => s.get (R.OUT_CFG_APLL j) == k)).map (fun j => 251 + j)
  | .key => 24 :: (List.range 8).map (fun m => 86 + m)
  | .gnss => 23 :: 67 :: (List.range 96).map (fun n => 97 + n)
  | .solverA => [25, 68]
  | .solverB => [26, 69]
  | .mac _ | .mallet _ | .gnssCh _ | .hostPath | .recorder | .rmon _ | .out _ => []

/-- The STAT register of a unit, for the detail word of a fault record; 0 where the unit has none (17 R442). -/
def unitStat (s : State) (u : HwUnit) : Nat :=
  match u with
  | .lane k => rdWord s (0x0C1018 + 0x100 * k)
  | .apll k => rdWord s (R.APL_APLL_STAT_STATE k).addr
  | .key => rdWord s R.KEY_STAT_RNG_OK.addr
  | .gnss => rdWord s R.GNS_STAT_SCLK_LOS.addr
  | .recorder => rdWord s R.REC_STAT_PHASE.addr
  | .rmon m => rdWord s (R.RMON_MON_STAT_STATE m).addr
  | .out k => rdWord s (R.OUT_STAT_STATE k).addr
  | .solverA | .solverB => rdWord s R.GEN_STROKE_STAT_OVR_A.addr
  | .mac _ | .mallet _ | .gnssCh _ | .hostPath => 0

/-- A source's latch. -/
def latched (s : State) (src : Nat) : Bool := s.flag ((R.FLT_LATCH_LATCHED (src / 32)).bitAt (src % 32))

/-- Has the source escalated? -/
def escalated (s : State) (src : Nat) : Bool := s.flag ((R.FLT_ESC_ESC (src / 32)).bitAt (src % 32))

/-- The number of latched sources. -/
def countLatched (s : State) : Nat := ((List.range 320).filter (latched s)).length

/-- A source's latch set or cleared, with FLT_STAT.N_LATCHED. -/
def setLatch (src : Nat) (b : Bool) (s : State) : State :=
  let s := s.putB ((R.FLT_LATCH_LATCHED (src / 32)).bitAt (src % 32)) b
  s.put R.FLT_STAT_N_LATCHED (countLatched s)

/-- The reaction permitted for a source (17 R428). -/
def reactOk (src r : Nat) : Bool :=
  decide (r ≤ 6) && (if r == 4 then decide (fltKind src ≤ 1) && (homeUnit src).isSome
    else if r == 5 then decide (fltKind src ≤ 1) else true)

/-- Is the source's cause present, so that it refuses to be cleared (17 R427)? A detector of an event has none at an edge. -/
def causePresent (s : State) (src : Nat) : Bool :=
  if src == 20 then
    let tj := s.getI R.BND_TEMP_TJ
    decide (tj < s.getI R.FLT_TEMP_TJ_LO + 32) || decide (s.getI R.FLT_TEMP_TJ_HI - 32 < tj)
  else if src == 22 then s.flag R.ETM_STAT_BACKUP_CLK
  else if src == 23 then s.flag R.GNS_STAT_SCLK_LOS
  else if src == 24 then !s.flag R.KEY_STAT_RNG_OK
  else if decide (27 ≤ src) && decide (src ≤ 50) then s.flag (R.CLP_CH_STAT_CAL_BAD (src - 27))
  else if decide (51 ≤ src) && decide (src ≤ 66) then s.flag (R.CLP_AUX_CAL_LANE_BAD.bitAt (src - 51))
  else if src == 67 then s.flag R.CLP_AUX_CAL_LATCH_BAD
  else false

/-- What a report says (17 R432): the subject node, the witness count, the report code, and the pair and half it came by. -/
structure Report where
  subject : Nat := 0
  wit : Nat := 1
  code : Nat := 0
  wh : Nat := 0
  deriving DecidableEq, Repr

/-- A report code normalised (17 R432). -/
def normCode (c : Nat) : Nat :=
  if 225 ≤ c ∧ c ≤ 240 then 225 else if 241 ≤ c ∧ c ≤ 248 then 241 else c

/-- The payload of a fault record (17 R442). -/
def fltPayload (src react link subject wit esc hits code detail : Nat) : List Nat :=
  leBytes 2 src ++ [react, fltKind src] ++ leBytes 4 link ++ leBytes 2 subject ++ leBytes 2 wit ++ [esc, satW 8 hits]
    ++ leBytes 2 code ++ leBytes 4 detail ++ List.replicate 12 0

/-- The Strokes of a source's block resets that are within 8 000 of now, this one included (17 R435). -/
def hitsWith (s : State) (src : Nat) : List Nat :=
  ((tget [] s.flt.blockHits src).filter (fun h => decide (s.strokes ≤ h + 8000))) ++ [s.strokes]

/-- Is a shadow open? -/
def shadowLive (s : State) (sh : Shadow) : Bool :=
  match sh.until' with
  | none => true
  | some e => decide (s.now < e)

/-- A shadow over a unit's detectors, but for the source that caused the reset; inside an open one of the unit, that one extended (17 R434). upTo: none while the
unit is held. -/
def shadowOpen (u : HwUnit) (cov : List Nat) (upTo : Option Nat) (link : Nat) (s : State) : List Shadow :=
  let old := s.flt.shadows.map (fun sh => if sh.unit = u && shadowLive s sh then { sh with until' := upTo } else sh)
  let rest := cov.filter (fun d => !s.flt.shadows.any (fun sh => sh.unit == u && shadowLive s sh && sh.covers.contains d))
  if rest.isEmpty then old else old ++ [{ unit := u, covers := rest, until' := upTo, link := link }]

/-- A unit enters reset: it is wiped, and a shadow opens over its detectors, but for the source that caused it (17 R433,
R434). hold: held until its latch clears, or in reset for its reset time. A reset of REC flushes first. -/
def unitReset (u : HwUnit) (src : Option Nat) (link : Nat) (hold : Bool) (s : State) : State :=
  let cov := (shadowed s u).filter (fun d => some d != src)
  let s := if u = .recorder ∧ s.flag R.REC_STAT_FLUSHING = false ∧ 0 < unflushed s then flushStart false s else s
  let s := wipeUnit u s
  let e := s.now + resetTime u
  let res := s.flt.resetting.filter (fun r => r.1 != u)
  { s with flt := { s.flt with
      held := if hold then (if s.flt.held.contains u then s.flt.held else s.flt.held ++ [u]) else s.flt.held,
      resetting := if hold || s.flt.held.contains u then res else res ++ [(u, e)],
      shadows := shadowOpen u cov (if hold then none else some (e + settleTime u)) link s } }

/-- The ERR_N pin asserted for at least ERRN_MIN ms (17 R437). -/
def errnAssert (s : State) : State :=
  { s with flt := { s.flt with errnUntil := some (s.now + s.get R.FLT_CTL_ERRN_MIN * msCounts) } }.put R.FLT_STAT_ERR_N_ACT 1

/-- Does a latched sealed or clearable source hold ERR_N (17 R437)? -/
def errnHeld (s : State) : Bool :=
  (List.range 320).any (fun n => latched s n && s.get (R.FLT_SRC_REACT n) == 6 && decide (fltKind n ≤ 1))

/-- ERR_N released unless its minimum runs or a latched source holds it. -/
def errnUpdate (s : State) : State :=
  let hold := errnHeld s || (match s.flt.errnUntil with | some e => decide (s.now < e) | none => false)
  (if hold then s else { s with flt := { s.flt with errnUntil := none } }).putB R.FLT_STAT_ERR_N_ACT hold

/-- The reaction that a source takes (17 R438): a trap goes to the other pair where its own is down, and acts as NONE, with TRAP_LOST, where both are. -/
def reactOf (src : Nat) (s : State) : Nat × State :=
  let r := s.get (R.FLT_SRC_REACT src)
  if (r = 2 ∨ r = 3) ∧ unitDown s .solverA ∧ unitDown s .solverB then (0, s.put R.FLT_EVT_TRAP_LOST 1) else (r, s)

/-- The detail word of a fault record (17 R442): the home unit's STAT register, 0 without one; for a trap the Solver state that the pair's firmware captures,
a free value (R438). -/
def detailOf (src r : Nat) (s : State) : Nat × State :=
  if r = 2 ∨ r = 3 then s.fresh 32
  else (match homeUnit src with | some u => unitStat s u | none => 0, s)

/-- A BLOCK_RESET reaction (17 R433, R435): the unit is reset; the third within 8 000 Strokes escalates. -/
def blockReset (src link : Nat) (s : State) : State :=
  match homeUnit src with
  | none => s
  | some u =>
    let hits := hitsWith s src
    let s := { s with flt := { s.flt with blockHits := tset [] s.flt.blockHits src hits } }
    if hits.length < 3 then unitReset u (some src) link false s
    else
      let s := unitReset u (some src) link true s
      let s := setLatch src true (s.put ((R.FLT_ESC_ESC (src / 32)).bitAt (src % 32)) 1)
      logRec 0x142 (leBytes 2 src) ((s.put R.FLT_EVT_ESCALATED 1).addSat R.FLT_COUNTS_ESC_CNT 1)

/-- The reaction of a source performed (17 R428). -/
def react (src r link : Nat) (s : State) : State :=
  let s := match r with
    | 1 => irqRequest 1 (s.put ((R.FLT_HIT_HIT (src / 32)).bitAt (src % 32)) 1)
    | 4 => blockReset src link s
    | 5 => { s with flt := { s.flt with chipReq := some ((s.flt.chipReq).getD (src, s.now + 12 * msCounts)),
                                         chipHold := if s.flt.chipHold.contains src then s.flt.chipHold else s.flt.chipHold ++ [src] } }
    | 6 => errnAssert s
    | _ => s
  if r = 0 then s else flushStart false s

/-- A fault record captured; the SEQ that LINK would name, all ones where it was not written. -/
def fltRecord (src : Nat) (payload : List Nat) (fl : RecFlags) (s : State) : Nat × State :=
  let r := capture src payload fl s
  (r.1.getD 0xFFFFFFFF, r.2)

/-- A dedup entry ends; it leaves a DEDUP_SUMMARY record where its WIT exceeds 1 (17 R432 step 3). -/
def dedupEnd (idx : Nat) (s : State) : State :=
  match tget none s.flt.dedup idx with
  | none => s
  | some e =>
    let d := tset none s.flt.dedup idx none
    let s := { s with flt := { s.flt with dedup := d } }.put R.FLT_STAT_DEDUP_USED d.length
    if e.wit > 1 then
      (capture 0x140 (fltPayload (if e.code < 250 then e.code else 250) 0xFF 0xFFFFFFFF e.subject e.wit 0 0 e.code 0)
        { summary := true } s).2
    else s

/-- The index of the entry with a key. -/
def dedupFind (s : State) (subject code : Nat) : Option Nat :=
  (s.flt.dedup.find? (fun e => match e.2 with | some d => d.subject == subject && d.code == code | none => false)).map (·.1)

/-- The index of the entry with the oldest last report. -/
def dedupOldest (s : State) : Nat :=
  (s.flt.dedup.foldl (fun (b : Option (Nat × Nat)) e =>
    match e.2, b with
    | some d, none => some (e.1, d.last)
    | some d, some (_, l) => if d.last < l then some (e.1, d.last) else b
    | none, _ => b) none).elim 0 (·.1)

/-- A free index of the table. -/
def dedupFree (s : State) : Option Nat := (List.range 256).find? (fun i => (tget none s.flt.dedup i).isNone)

/-- A new entry made for a key, the oldest ending first where the table is full (17 R432 step 4). -/
def dedupNew (rp : Report) (s : State) : State :=
  let s := match dedupFree s with
    | some _ => s
    | none => (dedupEnd (dedupOldest s) s).put R.FLT_EVT_DEDUP_FULL 1
  let e : DdEntry := { subject := rp.subject, code := rp.code, wit := satW 16 rp.wit, last := s.strokes }
  let d := tset none s.flt.dedup ((dedupFree s).getD 0) (some e)
  { s with flt := { s.flt with dedup := d } }.put R.FLT_STAT_DEDUP_USED d.length

/-- A report source raised (17 R432): a local raise counts one witness and its code is the source's number. -/
def raiseReport (src : Nat) (rp : Report) (s : State) : State :=
  let rp := { rp with wit := if src = 250 then rp.wit else 1, code := normCode (if src = 250 then rp.code else src) }
  let self := rp.subject == s.get R.DOM_ID_NODE_ID && src == 250
  match dedupFind s rp.subject rp.code with
  | some i =>
    match tget none s.flt.dedup i with
    | some e =>
      let d := tset none s.flt.dedup i (some { e with wit := satW 16 (e.wit + rp.wit), last := s.strokes })
      pmcCount 357 { s with flt := { s.flt with dedup := d } }
    | none => s
  | none =>
    let r := reactOf src (dedupNew rp s)
    let d := detailOf src r.1 r.2
    let rc := fltRecord src (fltPayload src r.1 0xFFFFFFFF rp.subject rp.wit 0 0 rp.code d.1) { selfRep := self } d.2
    react src r.1 rc.1 rc.2

/-- A source raised in a shadow (17 R434): recorded and counted, no reaction, no latch. -/
def raiseConseq (src : Nat) (sh : Shadow) (rp : Report) (detail : Nat) (s : State) : State :=
  let s := pmcCount 353 ((s.addSat R.FLT_COUNTS_CONSEQ_CNT 1).put R.FLT_EVT_CONSEQ 1)
  (fltRecord src (fltPayload src 0xFF sh.link rp.subject (if fltKind src = 2 then rp.wit else 0) 0 0
    (if fltKind src = 2 then rp.code else 0) detail) { conseq := true } s).2

/-- A sealed or clearable source raised outside a shadow (17 R429, R430, R436). -/
def raiseLatch (src detail : Nat) (s : State) : State :=
  if s.flt.chipHold.contains src && latched s src then
    (fltRecord src (fltPayload src 0xFF 0xFFFFFFFF 0 0 0 0 0 detail) {} s).2
  else
    let q := reactOf src s
    let r := q.1
    let hits := if r = 4 then (hitsWith s src).length else 0
    let d := detailOf src r q.2
    let rc := fltRecord src (fltPayload src r 0xFFFFFFFF 0 0 (bit (decide (3 ≤ hits))) hits 0 d.1) {} d.2
    let s := setLatch src true rc.2
    let s := react src r rc.1 s
    match homeUnit src, fltKind src with
    | some u, 0 => if unitHeld s u then s else unitReset u (some src) rc.1 true s
    | _, _ => s

/-- Is this source's detector in a unit that is held in reset, by a fence or within a reset time that began on an earlier cycle? Such a source cannot raise
(17 R429, R440). -/
def detectorHeld (s : State) (src : Nat) : Bool :=
  match homeUnit src with
  | some u => unitHeld s u || s.flt.resetting.any (fun r => r.1 == u && decide (s.now < r.2) && decide (r.2 < s.now + resetTime u))
  | none => false

/-- A fault source raised (17 R429). Reserved sources are never raised (17 R427). -/
def faultRaiseRep (src : Nat) (rp : Report) (s : State) : State :=
  if 266 < src ∨ detectorHeld s src then s
  else
    let s := pmcCount 352 (s.addSat (R.FLT_SRC_RAISE_CNT src) 1)
    let detail := match homeUnit src with | some u => unitStat s u | none => 0
    match s.flt.shadows.find? (fun sh => sh.covers.contains src && shadowLive s sh) with
    | some sh =>
      let s := raiseConseq src sh rp detail s
      if fltKind src = 2 ∧ src < 250 then originate rp.subject src rp.wh s else s
    | none =>
      if fltKind src = 2 then
        let s := raiseReport src { rp with code := if src = 250 then rp.code else src } s
        if src < 250 then originate rp.subject src rp.wh s else s
      else raiseLatch src detail s

/-- A fault source that is no report raised. -/
def faultRaise (src : Nat) (s : State) : State := faultRaiseRep src {} s

/-- FLT_CLR.GO (17 R431): RESULT reads 7 until the next edge. -/
def fltClrReq (src : Nat) (s : State) : State :=
  { (s.put R.FLT_CLR_SRC src) with flt := { s.flt with clrReq := some src } }.put R.FLT_CLR_STAT_RESULT 7

/-- The result of a request to clear a source (17 R431), the first that applies. -/
def clrResult (s : State) (src : Nat) : Nat :=
  if escalated s src then 3
  else if fltKind src ≠ 1 then 1
  else if ¬ latched s src then 4
  else if causePresent s src then 2
  else 0

/-- An APLL's state. -/
def State.apll (s : State) (k : Nat) : ApllSt := tget {} s.out.aplls k

/-- An APLL's state set. -/
def State.setApll (s : State) (k : Nat) (v : ApllSt) : State := { s with out := { s.out with aplls := tset {} s.out.aplls k v } }

/-- An output's state. -/
def State.outp (s : State) (k : Nat) : OutSt := tget {} s.out.outs k

/-- An output's state set. -/
def State.setOutp (s : State) (k : Nat) (v : OutSt) : State := { s with out := { s.out with outs := tset {} s.out.outs k v } }

/-- The modulator and the dividers restarted on a core-clock cycle (08 R212). -/
def apllSync (k : Nat) (s : State) : State :=
  let s := s.setApll k { s.apll k with vph := 0 }
  (List.range 16).foldl (fun s o => if s.get (R.OUT_CFG_APLL o) = k then s.setOutp o { s.outp o with ph := 0 } else s) s

/-- The request to clear evaluated at an edge (17 R431). -/
def fltClrEdge (s : State) : State :=
  match s.flt.clrReq with
  | none => s
  | some src =>
    let res := clrResult s src
    let s := { s with flt := { s.flt with clrReq := none } }.put R.FLT_CLR_STAT_RESULT res
    if res = 0 then
      let s := setLatch src false { s with flt := { s.flt with chipHold := s.flt.chipHold.filter (· != src) } }
      let s := if 16 ≤ src ∧ src ≤ 19 ∧ (s.apll (src - 16)).st = 6 then
          apllSync (src - 16) (s.setApll (src - 16) { s.apll (src - 16) with st := 2, tries := 0, losses := [] })
        else s
      errnUpdate (logRec 0x141 (leBytes 2 src) (s.put R.FLT_EVT_CLEARED 1))
    else s

/-- The dedup entries whose age has passed DEDUP_AGE seconds. -/
def dedupOld (s : State) : List Nat :=
  (List.range 256).filter (fun i => (tget none s.flt.dedup i).any (fun e => decide (e.last + s.get R.FLT_CTL_DEDUP_AGE * 8000 ≤ s.strokes)))

/-- They end (17 R432 step 3). -/
def dedupAge (s : State) : State := (dedupOld s).foldl (fun s i => dedupEnd i s) s

/-- The power domain that a unit is in (19 R471), but for those that are always ON. -/
def unitDom (s : State) (u : HwUnit) : Option Nat :=
  match u with
  | .lane k | .mac k => some (4 + k / 4)
  | .apll k => some (8 + k / 2)
  | .out k => some (8 + s.get (R.OUT_CFG_APLL k) / 2)
  | .mallet _ | .key => some 2
  | .gnss | .gnssCh _ => some 3
  | .solverA | .solverB | .hostPath | .recorder | .rmon _ => none

/-- Is the unit's domain OFF? A unit in reset then stays held (19 R496). -/
def unitOff (s : State) (u : HwUnit) : Bool := (unitDom s u).any (fun d => s.get (R.PWR_DOM_STATE d) == 3)

/-- The end of a unit's reset time (17 R433): released into its settle time. -/
def blockRelease (u : HwUnit) (s : State) : State :=
  if s.flt.resetting.any (fun r => r.1 == u && decide (r.2 ≤ s.now)) && !(u == .recorder && s.flag R.REC_STAT_FLUSHING) && !unitOff s u then
    { s with flt := { s.flt with resetting := s.flt.resetting.filter (fun r => r.1 != u) } }
  else s

/-- The unit let go where its reset time has passed. -/
def blockEnd (u : HwUnit) (s : State) : State :=
  if unitDown s u && !unitDown (blockRelease u s) u then releaseUnit u (blockRelease u s) else s

/-- The shadows whose end has passed close (17 R434). -/
def shadowEnd (s : State) : State :=
  let open' := s.flt.shadows.filter (shadowLive s)
  { s with flt := { s.flt with shadows := open' } }

end Sys2Proof.Machine
end

