-- ==== Sys2Proof/Machine/Gen.lean ====
section
/-! DEFINITION. GEN: the hold of writes (01 R34 to R36), the Stroke number's capture (R38), the Solver tasks' overruns and stale
outputs (R30, R31) and their load (R39). -/

namespace Sys2Proof.Machine

/-- A waiting write takes effect. -/
def applyWait (w : WaitWrite) (s : State) : State :=
  let old := rdWord s w.key
  wrWord s w.key (old - (old &&& w.mask) + (w.val &&& w.mask))

/-- Interface i takes the hold (01 R34, R36): refused to any other than the owner; with code START before RUN (R507). The
refusals are the access path's; here the write counts. -/
def holdSet (i : Iface) (s : State) : State :=
  if s.flag R.GEN_STROKE_CTL_HOLD_APPLY then s
  else
    let s := { s with gen := { s.gen with held := [], holdStrokes := 0 } }
    (s.put R.GEN_STROKE_CTL_HOLD_APPLY 1).put R.GEN_STROKE_STAT_HOLD_OWNER (i.num + 1)

/-- The hold ends without its writes (01 R34 DISCARD, R35, R36). -/
def holdDrop (s : State) : State :=
  let s := { s with gen := { s.gen with held := [], holdStrokes := 0 } }
  (s.put R.GEN_STROKE_CTL_HOLD_APPLY 0).put R.GEN_STROKE_STAT_HOLD_OWNER 0

/-- Does interface i own the hold? -/
def ownsHold (s : State) (i : Iface) : Bool := s.get R.GEN_STROKE_STAT_HOLD_OWNER == i.num + 1

/-- The hold of a host that lost its privilege, or that stood too long, is discarded with HOLD_EXPIRED (01 R35, R36). -/
def holdExpire (s : State) : State := raiseEvt R.GEN_STROKE_STAT_HOLD_EXPIRED 21 (holdDrop s)

/-- HOLD_EXPIRED (01 R35): after 8 000 Strokes with HOLD_APPLY at 1. -/
def execHoldExpired (s : State) : Host.Outcome State Fault Refusal :=
  live s (if s.flag R.GEN_STROKE_CTL_HOLD_APPLY ∧ 8000 ≤ s.gen.holdStrokes then holdExpire s else s)

/-- STROKE_NUM_READ (01 R38): the read captures RAW_LO and RAW_HI for the interface. -/
def execStrokeNumRead (i : Iface) (s : State) : Host.Outcome State Fault Refusal :=
  live s (readAs i.num 0x000100 s).2

/-- A task's number. -/
def taskNum : SolverTask → Nat
  | .gnss => 0
  | .aiding => 1
  | .carillon => 2
  | .learning => 3
  | .bmca => 4
  | .election => 5

/-- Does the task run on SOLVER_A (01 R29)? -/
def taskOnA : SolverTask → Bool
  | .gnss | .aiding => true
  | .carillon | .learning | .bmca | .election => false

/-- A task's publication state. -/
def taskSt (s : State) (t : SolverTask) : TaskSt := tget {} s.gen.tasks (taskNum t)

/-- A task's publication state set. -/
def setTask (t : SolverTask) (v : TaskSt) (s : State) : State :=
  { s with gen := { s.gen with tasks := tset {} s.gen.tasks (taskNum t) v } }

/-- The measurement epoch in Strokes (09 GNS_CTL.EPOCH_RATE). -/
def epochStrokes (s : State) : Nat :=
  match s.get R.GNS_CTL_EPOCH_RATE with
  | 0 => 8000
  | 1 => 4000
  | 2 => 2000
  | 3 => 1600
  | 4 => 800
  | _ => 400

/-- The deadline of a task after its start edge, in Strokes (01 R29). -/
def taskDeadline (t : SolverTask) : Nat :=
  match t with
  | .gnss => 200
  | .aiding | .bmca | .election => 8
  | .carillon => 1
  | .learning => 8000

/-- The age past which a task's output is stale, in Strokes (01 R29). -/
def taskStale (s : State) (t : SolverTask) : Nat :=
  match t with
  | .gnss => 2 * epochStrokes s
  | .aiding => 64
  | .carillon => 8
  | .learning => 24000
  | .bmca | .election => 16

/-- The period of a task in Strokes (01 R29). The epochs of the GNSS task come with their records. -/
def taskPeriod (t : SolverTask) : Nat :=
  match t with
  | .gnss => 1
  | .aiding | .bmca | .election => 8
  | .carillon => 1
  | .learning => 8000

/-- The age of a task's output in Strokes, since its start edge (01 R30). -/
def taskAge (s : State) (t : SolverTask) : Nat := s.strokes - (taskSt s t).startStroke

/-- Is a task's output to be treated as absent (01 R31)? -/
def outputStale (s : State) (t : SolverTask) : Bool := (taskSt s t).stale || !(taskSt s t).published

/-- The pair a task runs on. -/
def taskUnit (t : SolverTask) : HwUnit := if taskOnA t then .solverA else .solverB

/-- The task that an output is of. -/
def SolverOut.task : SolverOut → SolverTask
  | .gnss _ => .gnss
  | .aiding _ => .aiding
  | .carillon => .carillon
  | .learning _ => .learning
  | .bmca _ => .bmca
  | .election => .election

/-- A task has worked out its output, which waits for the edge of its publication (01 R28). A pair that is down works nothing out (17 R430), and a period
has one output. -/
def taskHand (o : SolverOut) (s : State) : State :=
  let t := taskSt s o.task
  if unitDown s (taskUnit o.task) || t.idle || t.out || s.gen.jobs.any (fun x => x.task == o.task) then s
  else { s with gen := { s.gen with jobs := s.gen.jobs ++ [o] } }

/-- Is a task's output due at this edge: at the end of its period, or later where it has overrun (01 R28, R30)? -/
def taskDue (s : State) (t : SolverTask) : Bool := decide ((taskSt s t).begun + taskPeriod t ≤ s.strokes)

/-- A task's output is new (01 R28, R30). After an overrun the next period begins at the first edge after this one. -/
def taskPublished (t : SolverTask) (s : State) : State :=
  let x := taskSt s t
  setTask t { published := true, startStroke := x.begun, stale := false, idle := x.overrun, begun := if x.overrun then s.strokes else x.begun, out := true,
              overrun := false } s

/-- Does a period of a task begin at this edge (01 R29, R30)? go: for the GNSS task, an epoch's record is there or the epoch has none. -/
def taskStarts (s : State) (t : SolverTask) (go : Bool) : Bool :=
  let x := taskSt s t
  match t with
  | .gnss => go && (x.idle || x.out)
  | _ => x.idle && decide (x.begun < s.strokes) || (x.out && decide (x.begun + taskPeriod t ≤ s.strokes))

/-- A period begins: the task reads the registers as the snapshot of this edge (01 R28). -/
def taskBegin (t : SolverTask) (s : State) : State :=
  let s := setTask t { taskSt s t with idle := false, begun := s.strokes, out := false } s
  { s with gen := { s.gen with inputs := tset [] s.gen.inputs (taskNum t) s.regs } }

/-- The registers as a task read them at its start edge. -/
def taskRegs (s : State) (t : SolverTask) : Tbl Word := tget [] s.gen.inputs (taskNum t)

/-- Is a register one that a write sets? -/
def isConfig (a : Nat) : Bool := (findReg a).any (fun d => d.fields.any (fun f => f.acc == .rw || f.acc == .rwl))

/-- The word of a key in a register file. -/
def wordIn (r : Tbl Word) (k : Nat) : Nat := (tget (resetWord k) r k).toNat

/-- f run with n configuration words from address a on, and the published values, as the task read them at its start edge; a word that f leaves alone keeps its
present value. -/
def withInputs (t : SolverTask) (a n : Nat) (f : State → State) (s : State) : State :=
  let l := ((List.range n).map (fun k => a + 4 * k)).filter isConfig
  let i := taskRegs s t
  let r := f (l.foldl (fun s k => wrWord s k (wordIn i k)) { s with edge := i })
  l.foldl (fun u k => if wordIn r.regs k = wordIn i k then wrWord u k (wordIn s.regs k) else u) { r with edge := s.edge }

/-- SOLVER_TASK_OVERRUN (01 R30): the deadline has passed without a publication. The old output stays; the pair's flag, count and fault source. -/
def execSolverTaskOverrun (t : SolverTask) (s : State) : Host.Outcome State Fault Refusal :=
  live s (
    let x := taskSt s t
    if x.idle || x.out || x.overrun || decide (s.strokes < x.begun + taskDeadline t) then s
    else
      let s := setTask t { x with overrun := true } s
      if taskOnA t then
        faultRaise 25 (pmcCount 4 ((raiseEvt R.GEN_STROKE_STAT_OVR_A 21 s).addSat R.GEN_SOLVER_LOAD_OVR_CNT_A 1))
      else
        faultRaise 26 (pmcCount 5 ((raiseEvt R.GEN_STROKE_STAT_OVR_B 21 s).addSat R.GEN_SOLVER_LOAD_OVR_CNT_B 1)))

/-- SOLVER_OUTPUT_STALE (01 R31): an output older than its limit is absent from here on. -/
def execSolverOutputStale (t : SolverTask) (s : State) : Host.Outcome State Fault Refusal :=
  live s (if taskStale s t < taskAge s t then setTask t { taskSt s t with stale := true } s else s)

/-- The pairs' use of the Stroke that ends, in cycles; at a multiple of 8 000 Strokes from Stroke 0 the peaks are due (01 R39). -/
def loadEdge (a b : Nat) (s : State) : State :=
  let pa := max s.gen.peakA (min a 31250)
  let pb := max s.gen.peakB (min b 31250)
  if s.strokeNum % 8000 = 0 then { s with gen := { s.gen with peakA := 0, peakB := 0, loadDue := some (pa, pb) } }
  else { s with gen := { s.gen with peakA := pa, peakB := pb } }

/-- SOLVER_LOAD_UPDATE (01 R39): the peaks of the 8 000 Strokes that have ended, in percent of 31 250 cycles. DESIGN CHOICE (log entry 15): rounded down. -/
def execSolverLoadUpdate (s : State) : Host.Outcome State Fault Refusal :=
  live s (match s.gen.loadDue with
    | none => s
    | some p =>
      let s := { s with gen := { s.gen with loadDue := none } }
      (s.pub R.GEN_SOLVER_LOAD_LOAD_A (p.1 * 100 / 31250)).pub R.GEN_SOLVER_LOAD_LOAD_B (p.2 * 100 / 31250))

end Sys2Proof.Machine
end

