-- ==== Sys2Proof/Machine/Etm.lean ====
section
/-! DEFINITION. ETM: re-anchoring, steps and re-epochs (02 R45 to R60), the start (R61), conversions (R66 to
R68) and UTC data (R69, R70). -/

namespace Sys2Proof.Machine

/-! ## Re-anchoring and steps -/

/-- Engine time at the edge becomes the offset, and the edge's RAW48 the anchor (02 R45 steps 1 and 2). -/
def etmReanchor (e : EtmSt) (raw : Nat) : EtmSt :=
  let t := etTotal e (raw * 4096)
  { e with sec := (t / (secUnits : Int)).toNat % 2 ^ 48, sub := (t % (secUnits : Int)).toNat, anchor := raw }

/-- The offset in 2^-48 ns. -/
def etmOffset (e : EtmSt) : Int := ((e.sec * secUnits + e.sub : Nat) : Int)

/-- The offset set, in 2^-48 ns. -/
def etmSetOffset (e : EtmSt) (v : Int) : EtmSt :=
  { e with sec := (v / (secUnits : Int)).toNat, sub := (v % (secUnits : Int)).toNat }

/-- The offset that a request would give (02 R56), in 2^-48 ns. -/
def stepTarget (e : EtmSt) (q : StepReq) : Int :=
  if q.abs then q.val * 2 ^ 32 else etmOffset e + q.val * 2 ^ 32

/-- The refusal reason of a request, 0 for none (02 R54), in the table's order. auto: from TCH_0; taken: a Custodian request was accepted at this edge. DEDUCED (log
entry 13): STEP_USED as that acceptance sets it does not count, or COLLISION (02 R55) could never be the first reason. -/
def stepRefuse (s : State) (auto taken : Bool) (q : StepReq) : Nat :=
  let re := s.get R.ETM_STAT_RE_STATE
  if re = 1 ∨ re = 3 then 4
  else if !taken && s.flag R.ETM_STAT_STEP_USED then 1
  else if auto && !s.flag R.ETM_CTL_AUTO_STEP_EN then 5
  else if taken then 2
  else if stepTarget s.etm q < 0 ∨ (2 ^ 48 : Int) * secUnits ≤ stepTarget s.etm q then 3
  else 0

/-- A signed delta in 2^-16 ns in the layout of 02 R56: seconds, ns, fraction. -/
def deltaPack (d : Int) : Nat := etSec d * 2 ^ 48 + etNs d * 2 ^ 16 + etFrac d

/-- A step accepted at the edge (02 R57). -/
def stepAccept (q : StepReq) (s : State) : State :=
  let new := stepTarget s.etm q
  let d := if q.abs then (new - etmOffset s.etm) / 2 ^ 32 else q.val
  let e := { etmSetOffset s.etm new with lastDelta := d, lastStepRaw := s.raw }
  let s := { s with etm := e }
  let s := (s.put R.ETM_STAT_STEP_USED 1).put R.ETM_STAT_TIME_SRC 2
  let s := (s.put R.ETM_STEP_STROKE_STROKE s.strokeNum).put2 R.ETM_LAST_STEP_RAW_LO_RAW R.ETM_LAST_STEP_RAW_HI_RAW s.raw
  let p := deltaPack d
  let s := ((s.put R.ETM_LAST_DELTA_W0_DELTA (wordOf p 0)).put R.ETM_LAST_DELTA_W1_DELTA (wordOf p 1)).put
    R.ETM_LAST_DELTA_W2_DELTA (wordOf p 2)
  irqRequest 20 (logRec 0x150 (leBytes 12 p) s)

/-- A request refused (02 R54). -/
def stepDeny (why : Nat) (s : State) : State :=
  logRec 0x151 [why] (raiseEvt R.ETM_STAT_STEP_REFUSED 20 (s.put R.ETM_STAT_REFUSE_REASON why))

/-- One request evaluated (02 R53 to R57): whether it was accepted, and the state. -/
def stepOne (auto taken : Bool) (q : StepReq) (s : State) : Bool × State :=
  let why := stepRefuse s auto taken q
  if why = 0 then (true, stepAccept q s) else (false, stepDeny why s)

/-- The delta or the value that the registers hold, in 2^-16 ns (02 R56). -/
def stepHeld (s : State) (abs : Bool) : StepReq :=
  let sec : Int := if abs then s.get2 R.ETM_STEP_SEC_LO_SEC R.ETM_STEP_SEC_HI_SEC
    else s.get2I 48 R.ETM_STEP_SEC_LO_SEC R.ETM_STEP_SEC_HI_SEC
  { abs := abs, val := sec * secFrac + (s.get R.ETM_STEP_NS_NS * 2 ^ 16 + s.get R.ETM_STEP_FRAC_FRAC : Nat) }

/-- The requests that reach the edge, the Custodian's first (02 R55). -/
def stepRequests (s : State) : Bool × State :=
  let c := s.etm.custReq.map (stepHeld s)
  let a := s.etm.autoReq
  let s := { s with etm := { s.etm with custReq := none, autoReq := none } }
  let r1 := match c with
    | some q => stepOne false false q s
    | none => (false, s)
  let r2 := match a with
    | some q => stepOne true r1.1 q r1.2
    | none => (false, r1.2)
  (r1.1 || r2.1, r2.2)

/-! ## Re-epoch (02 R59) -/

/-- The code of a re-epoch state (ETM_STAT.RE_STATE). -/
def ReState.code : ReState → Nat
  | .run => 0
  | .muffling => 1
  | .stepping => 2
  | .settle => 3

/-- The re-epoch goes to a state: the timer starts, the change is published and requests source 20 (18 R452). -/
def reGo (r : ReState) (s : State) : State :=
  irqRequest 20 ({ s with etm := { s.etm with reState := r, reTimer := 0, reDue := false } }.put R.ETM_STAT_RE_STATE r.code)

/-- Has every output whose channel follows engine time reported its Muffle complete? (An output that is OFF or MUFFLED.) -/
def outsMuffled (s : State) : Bool :=
  (List.range 16).all (fun k =>
    s.get (R.TCH_CH_CTL_MODE (s.get (R.OUT_CFG_TCH k))) != 1 || decide (s.get (R.OUT_STAT_STATE k) ≤ 1))

/-- A new era begins on entry to STEPPING (02 R51). -/
def newEra (s : State) : State :=
  let s := (s.addSat R.ETM_STAT_ERA 1).put R.ETM_STAT_STEP_USED 0
  let s := (s.put R.ETM_STAT_TIME_SRC s.etm.timeSrc0).put R.ETM_STEP_STROKE_STROKE 0
  let s := { s with etm := { s.etm with lastDelta := 0, lastStepRaw := 0, eraNew := true } }
  let s := ((s.put R.ETM_LAST_DELTA_W0_DELTA 0).put R.ETM_LAST_DELTA_W1_DELTA 0).put R.ETM_LAST_DELTA_W2_DELTA 0
  s.put2 R.ETM_LAST_STEP_RAW_LO_RAW R.ETM_LAST_STEP_RAW_HI_RAW 0

/-- The rows due at the edge but the STEPPING ones (02 R59 step 1). -/
def reRows (s : State) : State :=
  let start := s.etm.reStart
  let abort := s.etm.reAbort
  let s := { s with etm := { s.etm with reStart := false, reAbort := false, reTimer := s.etm.reTimer + 1 } }
  match s.etm.reState with
  | .run => if start then reGo .muffling s else s
  | .muffling => if abort then reGo .run s else if outsMuffled s then newEra (reGo .stepping s) else s
  | .stepping => s
  | .settle => if s.etm.reDue then reGo .run s else s

/-- The two STEPPING rows (02 R59 step 3). acc: a step was accepted at this edge. -/
def reStepping (acc : Bool) (s : State) : State :=
  if s.etm.reState = .stepping ∧ (acc ∨ s.etm.reDue) then reGo .settle s else s

/-- The timer of a state, which holds for n Strokes, is over at the next edge: the row is due there (02 R59). -/
def reExpire (r : ReState) (n : Nat) (s : State) : State :=
  if s.etm.reState = r ∧ n ≤ s.etm.reTimer + 1 then { s with etm := { s.etm with reDue := true } } else s

/-- ETM at a Stroke edge (02 R45, R59): re-anchor, the re-epoch's rows, the requests, an accepted step's way out of STEPPING,
and the RATE_ADJ that TCH_0 published at this edge. -/
def etmEdge (s : State) : State :=
  let s := { s with etm := etmReanchor s.etm s.raw }
  let s := reRows s
  let r := stepRequests s
  let s := reStepping r.1 r.2
  { s with etm := { s.etm with rate := s.etm.ratePub } }

/-- ETM at Stroke edge 0 (02 R61). DESIGN CHOICE (log entry 14): the RTC's 1/32 768 s are truncated to whole nanoseconds. -/
def etmStart (s : State) : State :=
  let ok := s.flag R.PWR_RTC_STAT_RTC_VALID
  let t := rtcNow s
  let sub := t.2 * secUnits / 32768 / 2 ^ 48 * 2 ^ 48
  let e := { s.etm with anchor := 0, rate := 0, sec := if ok then t.1 else 0, sub := if ok then sub else 0, timeSrc0 := bit ok }
  let e := { e with start := etmOffset e }
  ({ s with etm := e }.put R.ETM_STAT_TIME_SRC (bit ok)).put R.ETM_STAT_STEP_USED 0

/-- ETM_STEP_CMD.GO (02 R53, R56): requested for the next edge, which takes the delta or the value that the registers hold there. -/
def stepGo (abs : Bool) (s : State) : State := { s with etm := { s.etm with custReq := some abs } }.putB R.ETM_STEP_CMD_ABS abs

/-- REEPOCH written (02 R59): ignored while RE_STATE ≠ RUN. -/
def reepochGo (s : State) : State :=
  if s.etm.reState = .run then { s with etm := { s.etm with reStart := true } } else s

/-- ABORT written (02 R59): it has effect only in MUFFLING. -/
def reepochAbort (s : State) : State :=
  if s.etm.reState = .muffling then { s with etm := { s.etm with reAbort := true } } else s

/-! ## Conversions -/

/-- Does a RAW48 lie in the last interval on the backup oscillator, or after its start while it lasts (02 R66)? -/
def inBackup (e : EtmSt) (raw : Nat) : Bool :=
  match e.backupFrom, e.backupTo with
  | some a, some b => decide (0 ≤ rawDiff raw a) && decide (rawDiff raw b < 0)
  | some a, none => decide (0 ≤ rawDiff raw a)
  | none, _ => false

/-- A RAWF converted to ETIME (02 R66). -/
def convRaw (s : State) (x : Nat) : ConvRes :=
  let t := etOf (etTotal s.etm x)
  let pre := s.flag R.ETM_STAT_STEP_USED && decide (rawDiff (x / 4096) s.etm.lastStepRaw < 0)
  { out := etPack (if pre then t - s.etm.lastDelta else t), range := false, preStep := pre,
    invalid := inBackup s.etm (x / 4096) }

/-- An ETIME converted to RAW48, to the nearest cycle (02 R67). -/
def convTime (s : State) (v : Nat) : ConvRes :=
  if bits v 47 16 > 999999999 then { out := 0, range := false, preStep := false, invalid := true }
  else
    let d := etUnpack v * 2 ^ 32 - etmOffset s.etm
    let q := (2 : Int) ^ 60 + s.etm.rate
    let c := (2 * d * 2 ^ 10 + q) / (2 * q)
    let far := c + rawDiff s.etm.anchor s.raw
    if far < -2 ^ 47 ∨ 2 ^ 47 ≤ far then { out := 0, range := true, preStep := false, invalid := false }
    else { out := ofInt 48 (s.etm.anchor + c), range := false, preStep := false, invalid := false }

/-- GO of a conversion unit (02 R68): a result not yet read is discarded, DONE clears. -/
def convGo (i : Iface) (dir : Bool) (s : State) : State :=
  let w := fun (f : Fld) => s.get (f.ifc i)
  let r := if dir then convTime s (w R.ETM_CONV_IN_W0_IN + w R.ETM_CONV_IN_W1_IN * 2 ^ 32 + w R.ETM_CONV_IN_W2_IN * 2 ^ 64)
    else convRaw s ((w R.ETM_CONV_IN_W0_IN + w R.ETM_CONV_IN_W1_IN * 2 ^ 32) % 2 ^ 60)
  let s := { s with etm := { s.etm with convRes := tset none s.etm.convRes i.num (some r) } }
  let s := s.putB (R.ETM_CONV_CMD_DIR.ifc i) dir
  let s := (s.put (R.ETM_CONV_STAT_DONE.ifc i) 0).put (R.ETM_CONV_STAT_RANGE.ifc i) 0
  let s := (s.put (R.ETM_CONV_STAT_PRE_STEP.ifc i) 0).put (R.ETM_CONV_STAT_INVALID.ifc i) 0
  ((s.put (R.ETM_CONV_OUT_W0_OUT.ifc i) 0).put (R.ETM_CONV_OUT_W1_OUT.ifc i) 0).put (R.ETM_CONV_OUT_W2_OUT.ifc i) 0

/-- A conversion completes (02 R68); nothing where none runs. -/
def convDone (i : Iface) (s : State) : State :=
  match tget none s.etm.convRes i.num with
  | none => s
  | some r =>
    let s := { s with etm := { s.etm with convRes := tset none s.etm.convRes i.num none } }
    let s := (s.put (R.ETM_CONV_OUT_W0_OUT.ifc i) (wordOf r.out 0)).put (R.ETM_CONV_OUT_W1_OUT.ifc i) (wordOf r.out 1)
    let s := (s.put (R.ETM_CONV_OUT_W2_OUT.ifc i) (wordOf r.out 2)).putB (R.ETM_CONV_STAT_RANGE.ifc i) r.range
    let s := (s.putB (R.ETM_CONV_STAT_PRE_STEP.ifc i) r.preStep).putB (R.ETM_CONV_STAT_INVALID.ifc i) r.invalid
    s.put (R.ETM_CONV_STAT_DONE.ifc i) 1

/-! ## UTC data -/

/-- The host's UTC setting: level 1 (02 R69). -/
def utcHost (s : State) : UtcData :=
  { valid := true, offset := s.getI R.ETM_UTC_SET_OFFSET, leap := s.get R.ETM_UTC_SET_LEAP,
    leapTai := s.get2 R.ETM_LEAP_TAI_LO_LEAP_TAI R.ETM_LEAP_TAI_HI_LEAP_TAI }

/-- A write of ETM_UTC_SET or ETM_LEAP_TAI has taken effect: with LOCK = 0 it is the configuration's, level 4 (02 R69). -/
def utcWritten (key : Nat) (s : State) : State :=
  if s.flag R.ETM_UTC_SET_LOCK then s
  else
    let h := utcHost s
    let c := s.etm.utcCfg
    { s with etm := { s.etm with utcCfg :=
        if key = 0x020084 then { c with offset := h.offset, leap := h.leap } else { c with leapTai := h.leapTai } } }

/-- The level 3 sources (02 R69), each under 3 + its monitor: by monitor of VTYPE 4 or 5 that is not INVALID, the one TCH_0 follows first. -/
def utcLevel3 (s : State) : List (Nat × UtcData) :=
  let ok := s.etm.utcUp.filter (fun e => e.2.valid && s.get (R.RMON_MON_STAT_STATE e.1) != 0
    && (s.get (R.RMON_MON_SRC_VTYPE e.1) == 4 || s.get (R.RMON_MON_SRC_VTYPE e.1) == 5))
  let sel := s.get (R.SEL_TCH_STAT_SELECTED 0)
  ((ok.filter (fun e => e.1 == sel)) ++ (ok.filter (fun e => e.1 != sel))).map (fun e => (3 + e.1, e.2))

/-- The valid sources, highest first (02 R69). -/
def utcSources (s : State) : List (Nat × UtcData) :=
  (if s.flag R.ETM_UTC_SET_LOCK then [(0, utcHost s)] else [])
    ++ (if s.etm.utcGnss.valid then [(1, s.etm.utcGnss)] else [])
    ++ utcLevel3 s
    ++ (if s.flag R.ETM_UTC_SET_CFG_VALID then [(2, { s.etm.utcCfg with valid := true })] else [])

/-- The SRC code of a source. -/
def utcCode (k : Nat) : Nat :=
  match k with
  | 0 => 4
  | 1 => 3
  | 2 => 1
  | _ => 2

/-- UTC data as they stand for an instant whose seconds field is sec: from LEAP_TAI on the new offset, with no leap pending (02 R70). -/
def utcAt (u : UtcData) (sec : Nat) : UtcData :=
  if u.leap ≠ 0 ∧ u.leapTai ≤ sec then { u with offset := u.offset + (if u.leap = 1 then 1 else -1), leap := 0 } else u

/-- Do two sources disagree on the offset, or on the pending leap and its LEAP_TAI? -/
def utcDiffer (a b : UtcData) : Bool :=
  a.offset != b.offset || a.leap != b.leap || (a.leap != 0 && a.leapTai != b.leapTai)

/-- A source's data looked at: a leap that arrives with its LEAP_TAI in the past is ignored and logged (02 R70). -/
def utcArrive (e : Nat × UtcData) (s : State) : State :=
  if (tget ({}, {}) s.etm.utcSeen e.1).1 = e.2 then s
  else
    let late := e.2.leap != 0 && decide (e.2.leapTai ≤ etSec s.etimeNow)
    let cur := if late then { e.2 with leap := 0 } else e.2
    let s := { s with etm := { s.etm with utcSeen := tset ({}, {}) s.etm.utcSeen e.1 (e.2, cur) } }
    if late then logRec 0x153 (leBytes 6 e.2.leapTai) s else s

/-- The UTC data chosen and published (02 R69). -/
def utcSelect (s : State) : State :=
  let l := utcSources s
  let s := { s with etm := { s.etm with utcSeen := s.etm.utcSeen.filter (fun e => l.any (fun x => x.1 == e.1)) } }
  let s := l.foldl (fun s e => utcArrive e s) s
  let sec := etSec s.etimeNow
  let d := l.map (fun e => utcAt (tget ({}, {}) s.etm.utcSeen e.1).2 sec)
  let conf := d.any (fun a => d.any (fun b => utcDiffer a b))
  let s := if conf && !s.etm.conflictNow then logRec 0x152 [] (s.put R.ETM_UTC_CONFLICT 1) else s
  let c := l.head?.elim {} (fun e => (tget ({}, {}) s.etm.utcSeen e.1).2)
  let s := { s with etm := { s.etm with conflictNow := conf, utcCur := c, utcOld := if c.offset = s.etm.utcCur.offset then s.etm.utcOld else none } }
  let s := s.put R.ETM_UTC_SRC (l.head?.elim 0 (fun e => utcCode e.1))
  ((s.putB R.ETM_UTC_VALID c.valid).put R.ETM_UTC_UTC_OFFSET (ofInt 16 c.offset)).put R.ETM_UTC_LEAP c.leap

/-- The UTC offset for an instant whose seconds field is sec (02 R70): before the last leap's LEAP_TAI the old one. -/
def utcOffsetAt (e : EtmSt) (sec : Nat) : Int :=
  match e.utcOld with
  | some o => if sec < o.1 then o.2 else (utcAt e.utcCur sec).offset
  | none => (utcAt e.utcCur sec).offset

/-- The leap applied once engine time has reached LEAP_TAI (02 R70): the source in use, and every other whose leap has come. -/
def leapApply (s : State) : State :=
  let sec := etSec s.etimeNow
  let seen := s.etm.utcSeen.map (fun e => (e.1, (e.2.1, utcAt e.2.2 sec)))
  let c := utcAt s.etm.utcCur sec
  if c = s.etm.utcCur then { s with etm := { s.etm with utcSeen := seen } }
  else
    let s := { s with etm := { s.etm with utcCur := c, utcSeen := seen, utcOld := some (s.etm.utcCur.leapTai, s.etm.utcCur.offset) } }
    (s.put R.ETM_UTC_UTC_OFFSET (ofInt 16 c.offset)).put R.ETM_UTC_LEAP 0

/-! ## The commands -/

/-- ETM_NOW_READ (02 R47): ETIME and RAWF at the cycle of the read, captured for the interface. -/
def execEtmNowRead (i : Iface) (dt : Nat) (s : State) : Host.Outcome State Fault Refusal :=
  live s (readAs i.num 0x020010 (s.tick dt)).2

/-- ETM_OFFSET_READ (02 R47). -/
def execEtmOffsetRead (i : Iface) (dt : Nat) (s : State) : Host.Outcome State Fault Refusal :=
  live s (readAs i.num 0x020030 (s.tick dt)).2

/-- STEP_CMD_GO (02 R53). -/
def execStepCmdGo (abs : Bool) (s : State) : Host.Outcome State Fault Refusal := live s (stepGo abs s)

/-- REEPOCH (02 R59). -/
def execReepoch (s : State) : Host.Outcome State Fault Refusal := live s (reepochGo s)

/-- REEPOCH_ABORT (02 R59). -/
def execReepochAbort (s : State) : Host.Outcome State Fault Refusal := live s (reepochAbort s)

/-- STEP_WAIT_EXPIRE (02 R59): STEP_WAIT Strokes have passed in STEPPING at the next edge. -/
def execStepWaitExpire (s : State) : Host.Outcome State Fault Refusal :=
  live s (reExpire .stepping (s.get R.ETM_REEPOCH_CFG_STEP_WAIT) s)

/-- SETTLE_EXPIRE (02 R59): SETTLE Strokes have passed in SETTLE at the next edge. -/
def execSettleExpire (s : State) : Host.Outcome State Fault Refusal :=
  live s (reExpire .settle (s.get R.ETM_REEPOCH_CFG_SETTLE) s)

/-- CONVERT_RAWF (02 R66). -/
def execConvertRawf (i : Iface) (dt : Nat) (s : State) : Host.Outcome State Fault Refusal := live s (convGo i false (s.tick dt))

/-- CONVERT_ETIME (02 R67). -/
def execConvertEtime (i : Iface) (dt : Nat) (s : State) : Host.Outcome State Fault Refusal := live s (convGo i true (s.tick dt))

/-- CONVERSION_DONE (02 R68). -/
def execConversionDone (i : Iface) (s : State) : Host.Outcome State Fault Refusal := live s (convDone i s)

/-- LEAP_APPLY (02 R70). -/
def execLeapApply (s : State) : Host.Outcome State Fault Refusal := live s (leapApply s)

end Sys2Proof.Machine
end

