-- ==== Sys2Proof/Machine/FltCmd.lean ====
section
/-! DEFINITION. The commands of the fault collector and of the recorder (17), but the start of the chip reset, which is with the
resets. -/

namespace Sys2Proof.Machine

/-- FAULT_RAISE (17 R429): a detector raises its source; a report source says its subject, witness count and code (R432). -/
def execFaultRaise (src : Fin 320) (subject wit code : BitVec 16) (dt : Nat) (s : State) : Host.Outcome State Fault Refusal :=
  live s (faultRaiseRep src { subject := subject.toNat, wit := wit.toNat, code := code.toNat % 512 } (s.tick dt))

/-- BLOCK_RESET_RELEASE (17 R433): once its reset time has passed, the unit is released into its settle time. -/
def execBlockResetRelease (u : HwUnit) (dt : Nat) (s : State) : Host.Outcome State Fault Refusal :=
  live s (blockEnd u (s.tick dt))

/-- SHADOW_END (17 R434): the shadows whose reset and settle times have passed close. -/
def execShadowEnd (dt : Nat) (s : State) : Host.Outcome State Fault Refusal := live s (shadowEnd (s.tick dt))

/-- FLT_CLR (17 R431): the request waits for the next edge, RESULT reading 7. -/
def execFltClr (src : BitVec 9) (s : State) : Host.Outcome State Fault Refusal := live s (fltClrReq src.toNat s)

/-- DEDUP_EXPIRE (17 R432 step 3): the entries with no report for DEDUP_AGE seconds end. -/
def execDedupExpire (s : State) : Host.Outcome State Fault Refusal := live s (dedupAge s)

/-- ERRN_MIN_EXPIRE (17 R437): ERR_N releases unless its minimum runs or a latched source holds it. -/
def execErrnMinExpire (dt : Nat) (s : State) : Host.Outcome State Fault Refusal := live s (errnUpdate (s.tick dt))

/-- FLUSH_DONE (17 R446): the running flush ends; nothing where none runs. -/
def execFlushDone (s : State) : Host.Outcome State Fault Refusal :=
  done s (if s.flag R.REC_STAT_FLUSHING then flushFinish s else s)

/-- REC_FLUSH (17 R446). -/
def execRecFlush (s : State) : Host.Outcome State Fault Refusal := live s (flushStart false s)

/-- ERASE_FIXED (17 R447). -/
def execEraseFixed (s : State) : Host.Outcome State Fault Refusal := live s (eraseFixed s)

/-- ERASE_ROLL (17 R447). -/
def execEraseRoll (s : State) : Host.Outcome State Fault Refusal := live s (eraseRoll s)

/-- TRIG (17 R445): a host-trigger record. -/
def execRecTrig (s : State) : Host.Outcome State Fault Refusal := live s (recHostTrig s)

/-- REC_RD_GO (17 R449): the lookup of a SEQ in an area (0 SRAM, 1 FIXED, 2 ROLL) starts. -/
def execRecRdGo (j : Iface) (area : Fin 3) (seq : BitVec 32) (s : State) : Host.Outcome State Fault Refusal :=
  live s (recRdGo j ((s.put (R.REC_RD_CTL_AREA.ifc j) area).put (R.REC_RD_SEQ_SEQ.ifc j) seq.toNat))

/-- REC_RD_DONE (17 R449): the lookup ends with DONE, and FOUND where the record is there. -/
def execRecRdDone (j : Iface) (s : State) : Host.Outcome State Fault Refusal := live s (recRdDone j s)

/-- RECOVERY_END (17 R445): RECOV seconds after START the phase is NORMAL. -/
def execRecoveryEnd (dt : Nat) (s : State) : Host.Outcome State Fault Refusal := live s (updPhase (s.tick dt))

end Sys2Proof.Machine
end

