-- ==== Sys2Proof/Machine/IrqCmd.lean ====
section
/-! DEFINITION. The commands of IRQ and PMC (18). -/

namespace Sys2Proof.Machine

/-- The filter context of a requester at an address (18 R464): a host interface has its privilege, a block the third kind. -/
def accCtx (s : State) (m : Master) (a : Nat) : PmcCtx :=
  let priv := match m with
    | .spi => if isCust s .spi then 2 else 1
    | .i2c => if isCust s .i2c then 2 else 1
    | .inband => if isCust s .inband then 2 else 1
    | .solverA | .solverB | .recorder => 3
  { master := some m.num, addr := some a, priv := some priv }

/-- Is the requester a host interface? -/
def isHost (m : Master) : Bool :=
  match m with
  | .spi | .i2c | .inband => true
  | .solverA | .solverB | .recorder => false

/-- A claim by a requester (18 R457): the ID it reads and the state after. A host claims at targets 0 to 3 only; the recorder
claims nothing (17 R443). -/
def claimBy (m : Master) (t : Nat) (s : State) : Nat × State :=
  match m with
  | .recorder => (liveWord s (0x140100 + 0x20 * t) % 256, s)
  | .spi | .i2c | .inband | .solverA | .solverB => irqClaimOp t (isHost m) (accCtx s m (0x140100 + 0x20 * t)) s

/-- All counters copied on one cycle (18 R463). -/
def pmcSnapOp (s : State) : State :=
  ((List.range 512).foldl (fun s n => s.put (R.PMC_SNAP_SNAP n) (s.get (R.PMC_CNT_CNT n))) s).put R.PMC_STAT_SNAP_DONE 1

/-- A read of PMC_TAG_W0 by reader r (18 R468): the head entry is captured and removed. -/
def tagRead (r : Nat) (s : State) : Nat × State :=
  let v := readAs r 0x150300 s
  (v.1, { v.2 with pmc := { v.2.pmc with tags := v.2.pmc.tags.tail } })

/-- IRQ_REQUEST_EDGE (18 R453): the rising edge of a source's request. -/
def execIrqRequestEdge (src : Fin 256) (dt : Nat) (s : State) : Host.Outcome State Fault Refusal :=
  live s (irqRequest src (s.tick dt))

/-- CLAIM (18 R457). -/
def execIrqClaim (m : Master) (t : Fin 6) (s : State) : Host.Outcome State Fault Refusal := live s (claimBy m t s).2

/-- COMPLETE (18 R458). -/
def execIrqComplete (t : Fin 6) (id : BitVec 8) (s : State) : Host.Outcome State Fault Refusal :=
  live s (irqCompleteOp t id.toNat s)

/-- TARGET_WRITE (18 R459). -/
def execTargetWrite (src : Fin 256) (t : Fin 4) (dt : Nat) (s : State) : Host.Outcome State Fault Refusal :=
  live s (irqTargetOp src t (s.tick dt))

/-- IRQ_EN_WRITE (18 R453). -/
def execIrqEnWrite (src : Fin 256) (en : Bool) (dt : Nat) (s : State) : Host.Outcome State Fault Refusal :=
  live s (irqEnOp src en (s.tick dt))

/-- COAL_TIMEOUT (18 R456): a target in GATHER whose timer has reached COAL_TIME asserts its line, unless it sleeps. -/
def execCoalTimeout (t : Fin 6) (dt : Nat) (s : State) : Host.Outcome State Fault Refusal :=
  live s (pmcSettle (tgtGather t (s.tick dt)))

/-- SLEEP_WRITE (18 R456, R460). -/
def execSleepWrite (t : Fin 4) (sleep : Bool) (dt : Nat) (s : State) : Host.Outcome State Fault Refusal :=
  live s (irqSleepOp t sleep (s.tick dt))

/-- SLEEP_FALLBACK (18 R460): a held source that has waited SLEEP_LAT µs moves to its fallback target. -/
def execSleepFallback (src : Fin 256) (dt : Nat) (s : State) : Host.Outcome State Fault Refusal :=
  live s (irqFallbackOp src (s.tick dt))

/-- PMC_SNAP (18 R463). -/
def execPmcSnap (s : State) : Host.Outcome State Fault Refusal := live s (pmcSnapOp s)

/-- PMC_TAG_READ (18 R468). -/
def execPmcTagRead (j : Iface) (s : State) : Host.Outcome State Fault Refusal := live s (tagRead j.num s).2

end Sys2Proof.Machine
end

