-- ==== Sys2Proof/Machine/Clp.lean ====
section
/-! DEFINITION. The Clapper (03): paths with prescaler, dead time and burst buffer, stamps, queues, start/stop mode, statistics,
slices and their calibration. The snapshot of an edge is in Rmon.lean, with the phase samples. -/

namespace Sys2Proof.Machine

/-- A channel's state. -/
def State.ch (s : State) (n : Nat) : ClpCh := tget {} s.clp.chs n

/-- A channel's state set. -/
def State.setCh (s : State) (n : Nat) (c : ClpCh) : State := { s with clp := { s.clp with chs := tset {} s.clp.chs n c } }

/-- The stamp of an edge (03 R72 to R74, R98). path: 0 start, 1 stop; code: the raw code of the converter's lines. -/
def mkStamp (s : State) (n src : Nat) (path : Nat) (fall gap : Bool) (code : Nat) : Stamp :=
  let fine := if s.flag R.ETM_STAT_BACKUP_CLK || (decide (0x20 ≤ src) && decide (src ≤ 0x27)) then 0
    else convFine s n code
  let arr := s.raw * 4096 + fine
  let pr := if path = 0 then s.get (R.CLP_CH_CFG_PRESC n) else s.get (R.CLP_CH_CFG_STOP_PRESC n)
  let d := tget 0 s.clp.fact ((n * 2 + path) * 17 + pr) + s.getI (R.CLP_CH_EXT_DELAY_EXT_DELAY n)
  { arr := arr, dlv := ofInt 60 ((arr : Int) - d), inv := convInv s n || loopInv s src, fall := fall, gap := gap, src := src }

/-- Does EDGE select the edge on a path with prescaler exponent pr (03 R85)? -/
def edgeSel (s : State) (n pr : Nat) (fall : Bool) : Bool :=
  match s.get (R.CLP_CH_CFG_EDGE n) with
  | 0 => !fall
  | 1 => fall
  | _ => decide (pr = 0) || !fall

/-- A stamp goes into the snapshot of its arrival (01 R22): the window closes 256 ns before the next edge. -/
def snapAdd (s : State) (st : Stamp) (c : ClpCh) : ClpCh :=
  if rawDiff (s.nextEdge - 64) (st.arr / 4096) > 0 then { c with cur := c.cur ++ [st] }
  else { c with nxt := c.nxt ++ [st] }

/-- One selected edge at one path (03 R84, R86): prescaled, then stamped, or missed in the dead time or on a full buffer. -/
def pathEdge (n src path : Nat) (fall : Bool) (code : Nat) (s : State) : State :=
  let c := s.ch n
  let p := if path = 0 then c.start else c.stop
  let pr := if path = 0 then s.get (R.CLP_CH_CFG_PRESC n) else s.get (R.CLP_CH_CFG_STOP_PRESC n)
  let setP := fun (c : ClpCh) (q : ClpPath) => if path = 0 then { c with start := q } else { c with stop := q }
  if !edgeSel s n pr fall then s
  else
    let q := { p with presc := (p.presc + 1) % 2 ^ pr }
    if pr ≠ 0 ∧ p.presc ≠ 0 then s.setCh n (setP c q)
    else
      let st := mkStamp s n src path fall p.miss code
      let at' := s.now * 4096 + st.arr % 4096
      let dead := match p.last with | some a => decide (at' < a + 8192) | none => false
      if dead || decide (16 ≤ p.buf.length) then
        (s.setCh n (setP { c with gapNext := c.gapNext || s.get (R.CLP_CH_CFG_MODE n) == 1 } { q with miss := true })).addSat
          (R.CLP_CH_MISS_DEAD n) 1
      else
        let c := setP c { q with last := some at', buf := p.buf ++ [st], miss := false }
        s.setCh n (if path = 0 then snapAdd s st c else c)

/-- Does an edge of a source reach the Clapper: PD_CLP ON, and a reference input's receiver on (04 R102)? A bank without
its rail gives no edges (21 R531). -/
def srcLive (s : State) (src : Nat) : Bool :=
  domOn s 10 && (decide (16 ≤ src) || (s.get (R.RMON_MON_CFG_INPUT_MODE src) != 0 && !bankLow s 2)) &&
    !(decide (16 ≤ src) && decide (src < 32) && bankLow s ((src - 16) / 8))

/-- An edge of a source arrives at a channel (03 R80 to R86). -/
def edgeArrive (n src : Nat) (fall : Bool) (code : Nat) (s : State) : State :=
  if !srcLive s src || s.get (R.CLP_CH_CFG_MODE n) == 0 || src == 0x3F then s
  else
    let s := if s.get (R.CLP_CH_SRC_START_SRC n) = src then pathEdge n src 0 fall code s else s
    if s.get (R.CLP_CH_SRC_STOP_SRC n) = src then pathEdge n src 1 fall code s else s

/-! ## The queue (03 R87 to R90) -/

/-- The queue level's condition Q_LEVEL ≥ Q_THR looked at: its rise requests source 135 + n (18 R452). -/
def qCheck (n : Nat) (s : State) : State :=
  let c := s.ch n
  let now := decide (s.get (R.CLP_CH_Q_LEVEL_Q_THR n) ≤ c.queue.length)
  let s := (s.setCh n { c with above := now }).put (R.CLP_CH_Q_LEVEL_LEVEL n) c.queue.length
  if now && !c.above then irqRequest (135 + n) s else irqWithdraw (135 + n) s

/-- An entry enters the queue, or one is lost (03 R89). e: the entry without GAP. -/
def qPush (n e : Nat) (s : State) : State :=
  let c := s.ch n
  let e' := e + bit c.gapNext * 2 ^ 61
  if c.queue.length < 1024 then qCheck n (s.setCh n { c with queue := c.queue ++ [e'], gapNext := false })
  else
    let s := if s.flag (R.CLP_CH_CFG_OVF_MODE n) then
        s.setCh n { c with queue := c.queue.tail ++ [e + 2 ^ 61], gapNext := false }
      else s.setCh n { c with gapNext := true }
    qCheck n (pmcCount 56 (raiseEvt (R.CLP_CH_STAT_OVERFLOW n) (159 + n) (s.addSat (R.CLP_CH_DROP_DROP n) 1)))

/-- An entry that waited for the read of its cycle enters the queue (03 R90). -/
def qLate (n : Nat) (s : State) : State :=
  match (s.ch n).late with
  | none => s
  | some e => qPush n e (s.setCh n { s.ch n with late := none })

/-- A read of Q_LO by reader r (03 R88). With PD_CLP not ON the queue reads as empty (19 R474). -/
def clpQRead (r n : Nat) (s : State) : Nat × State :=
  let v := readAs r (0x031024 + 0x80 * n) s
  let c := s.ch n
  if c.queue.isEmpty || !domOn s 10 then (v.1, v.2.put (R.CLP_CH_STAT_UNDERRUN n) 1)
  else (v.1, qLate n (qCheck n (v.2.setCh n { c with queue := c.queue.tail })))

/-- Is the command that follows a read of channel n's Q_LO in the same core cycle? -/
def qReadNext (n : Nat) (s : State) : Bool :=
  let same := fun (dt : Nat) => decide (s.gen.edgeNow + dt ≤ s.now)
  let a := 0x031024 + 0x80 * n
  match s.pending.head? with
  | some (.clpQRead _ m dt) => m.val == n && same dt
  | some (.spiRead b k _ dt) | some (.spiQread b k _ dt) =>
    b.toNat % 4 == 0 && decide (b.toNat ≤ a) && decide (a < b.toNat + 4 * k) && same dt
  | some (.i2cRead d b k _ dt) =>
    d.toNat == i2cAddr s && b.toNat % 4 == 0 && decide (b.toNat ≤ a) && decide (a < b.toNat + 4 * k) && same dt
  | _ => false

/-- An entry reaches the queue: one that finds it full in the cycle of a read comes after the read (03 R90). -/
def qArrive (n e : Nat) (s : State) : State :=
  let s := qLate n s
  if 1024 ≤ (s.ch n).queue.length && qReadNext n s then s.setCh n { s.ch n with late := some e } else qPush n e s

/-! ## Statistics (03 R95 to R97) -/

/-- An interval in its signed 48 bits (03 R87, R96). DESIGN CHOICE (log entry 21): one beyond ±2^47 keeps its low 48 bits. -/
def low48 (v : Int) : Int := toInt 48 (ofInt 48 v)

/-- The block is published (03 R96). -/
def statPublish (n : Nat) (s : State) : State :=
  let c := s.ch n
  let st := c.stat
  let e := s.get (R.CLP_CH_CFG_N_EXP n)
  let mean := ofInt 96 (st.sum * 2 ^ (24 - e))
  let num := (st.n * st.sq : Int) - st.sum * st.sum
  let sd := if st.n ≤ 1 then 0 else isqrt (num.toNat * 65536 / (st.n * (st.n - 1)))
  let a := 0x031000 + 0x80 * n
  let s := wrWord (wrWord (wrWord s (a + 0x38) (wordOf mean 0)) (a + 0x3C) (wordOf mean 1)) (a + 0x40) (wordOf mean 2)
  let lo := ofInt 64 (low48 st.min)
  let hi := ofInt 64 (low48 st.max)
  let s := wrWord (wrWord s (a + 0x48) (wordOf lo 0)) (a + 0x4C) (wordOf lo 1)
  let s := wrWord (wrWord s (a + 0x50) (wordOf hi 0)) (a + 0x54) (wordOf hi 1)
  let s := (s.put (R.CLP_CH_SDEV_SDEV n) (satW 32 sd)).putB (R.CLP_CH_STAT_SDEV_SAT n) (decide (2 ^ 32 ≤ sd))
  let s := (s.put (R.CLP_CH_STAT_N_N n) st.n).put (R.CLP_CH_STAT_N_BLOCK_SEQ n) ((s.get (R.CLP_CH_STAT_N_BLOCK_SEQ n) + 1) % 128)
  let s := s.setCh n { c with stat := { stopped := !s.flag (R.CLP_CH_CFG_STAT_CONT n), restart := st.restart, prev := st.prev } }
  raiseEvt (R.CLP_CH_STAT_STAT_DONE n) (159 + n) s

/-- A valid sample enters the block (03 R95, R96). -/
def statSample (n : Nat) (x : Int) (s : State) : State :=
  let c := s.ch n
  let st := c.stat
  if st.stopped then s
  else
    let st := { st with n := st.n + 1, sum := st.sum + x, sq := st.sq + x.natAbs * x.natAbs,
                        min := if st.n = 0 then x else min st.min x, max := if st.n = 0 then x else max st.max x }
    let s := s.setCh n { c with stat := st }
    if 2 ^ s.get (R.CLP_CH_CFG_N_EXP n) ≤ st.n then statPublish n s else s

/-- The time-interval error of a stamp against the block's first (03 R95): in 2^-10 ns, towards minus infinity. -/
def tieOf (s0 s nominal : Nat) : Int :=
  let d := rawfDiff s s0 * 65536
  (d - roundDiv d nominal * nominal) / 65536

/-- A start stamp's sample, for PERIOD and TIE (03 R95). -/
def statStamp (n : Nat) (st : Stamp) (s : State) : State :=
  let c := s.ch n
  match s.get (R.CLP_CH_CFG_STAT_SRC n) with
  | 1 =>
    let s' := s.setCh n { c with stat := { c.stat with prev := if st.inv then none else some st.dlv } }
    match c.stat.prev with
    | some p => if st.inv || st.gap then s' else statSample n (rawfDiff st.dlv p) s'
    | none => s'
  | 2 =>
    let nom := s.get2 (R.CLP_CH_NOMINAL_LO_NOMINAL n) (R.CLP_CH_NOMINAL_HI_NOMINAL n)
    if st.inv || nom == 0 || c.stat.stopped then s
    else
      let s0 := c.stat.s0.getD st.dlv
      statSample n (tieOf s0 st.dlv nom) (s.setCh n { c with stat := { c.stat with s0 := some s0 } })
  | _ => s

/-! ## Start/stop mode (03 R91 to R94) -/

/-- The state's code (CLP STAT.STATE). -/
def SsState.code : SsState → Nat
  | .idle => 0
  | .armed => 1
  | .waitStop => 2

/-- The start/stop machine goes to a state. -/
def ssGo (n : Nat) (x : SsState) (s : State) : State := (s.setCh n { s.ch n with ss := x }).put (R.CLP_CH_STAT_STATE n) x.code

/-- After a result or a timeout: ARMED if REARM, else IDLE. -/
def ssEnd (n : Nat) (s : State) : State := ssGo n (if s.flag (R.CLP_CH_CFG_REARM n) then .armed else .idle) s

/-- A result d, in 2^-10 ns, is queued, shown in RES and counted in the statistics (03 R87, R93, R94). -/
def ssResult (n : Nat) (d : Int) (inv : Bool) (s : State) : State :=
  let coin := decide (d.natAbs ≤ 2)
  let e := ofInt 60 (low48 d) + bit inv * 2 ^ 60 + bit coin * 2 ^ 62 + 2 ^ 63
  let s := qArrive n e (s.put2 (R.CLP_CH_RES_LO_RES n) (R.CLP_CH_RES_HI_RES n) e)
  let s := if s.get (R.CLP_CH_CFG_STAT_SRC n) = 0 ∧ ¬ inv then statSample n d s else s
  ssEnd n s

/-- Are the two stamps of one and the same edge? -/
def sameEdge (a b : Stamp) : Bool := a.src == b.src && a.arr == b.arr

/-- A start stamp (03 R91). The last unused stop stamp may already be the stop: within 2 LSB before the start, or with
SIGNED = 1 within PRE_WIN. An edge that served as a stop is no start (R92). POST_WIN runs from s. -/
def ssStart (n : Nat) (st : Stamp) (s : State) : State :=
  let c := s.ch n
  match c.ss with
  | .idle | .waitStop => s
  | .armed =>
    if c.used.any (sameEdge st) then s
    else
    let at' := ((s.now : Int) - rawDiff s.raw (st.dlv / 4096)).toNat
    let post : State :=
      (ssGo n .waitStop (s.setCh n { c with pendStart := st, startAt := at', postWin := s.get (R.CLP_CH_POST_WIN_POST_WIN n) }))
    match c.held with
    | none => post
    | some p =>
      let d := rawfDiff p.dlv st.dlv
      let pre := s.flag (R.CLP_CH_CFG_SIGNED n) && decide (-(s.get (R.CLP_CH_PRE_WIN_PRE_WIN n) : Int) ≤ d)
      if !sameEdge p st && (decide (-2 ≤ d) || pre) then
        ssResult n d (p.inv || st.inv) (s.setCh n { c with held := none, used := some p, pendStart := st })
      else post

/-- A stop stamp (03 R91, R92). -/
def ssStop (n : Nat) (st : Stamp) (s : State) : State :=
  let c := s.ch n
  match c.ss with
  | .idle => s.setCh n { c with held := some st }
  | .armed => if sameEdge st c.pendStart then s else s.setCh n { c with held := some st }
  | .waitStop =>
    if sameEdge st c.pendStart then s
    else
      let d := rawfDiff st.dlv c.pendStart.dlv
      if d < -2 then s.setCh n { c with held := some st }
      else ssResult n d (st.inv || c.pendStart.inv) (s.setCh n { c with held := none, used := some st })

/-- POST_WIN cycles have passed since the start with no stop (03 R91); 0 = never. -/
def ssTimeout (n : Nat) (s : State) : State :=
  let c := s.ch n
  if c.ss = .waitStop ∧ c.postWin ≠ 0 ∧ c.startAt + c.postWin ≤ s.now then
    ssEnd n (s.addSat (R.CLP_CH_MISS_TIMEOUT n) 1)
  else s

/-- CMD.ARM (03 R91). -/
def ssArm (n : Nat) (s : State) : State :=
  if (s.ch n).ss = .idle ∧ s.get (R.CLP_CH_CFG_MODE n) = 2 then ssGo n .armed s else s

/-- CMD.DISARM (03 R91). -/
def ssDisarm (n : Nat) (s : State) : State := ssGo n .idle s

/-! ## The burst buffer (03 R86) -/

/-- May a path pass a stamp on: it holds one, and 20 ns have passed since the last? -/
def pathReady (s : State) (p : ClpPath) : Bool :=
  !p.buf.isEmpty && (match p.outAt with | some o => decide (o + 5 ≤ s.now) | none => true)

/-- A start stamp is passed on: to the queue in STREAM, to the state machine in START_STOP, and to the statistics; in OFF nothing comes of it (03 R81). -/
def passStart (n : Nat) (st : Stamp) (s : State) : State :=
  if s.get (R.CLP_CH_CFG_MODE n) = 0 then s
  else
    let s := pmcCount (32 + n) s
    let s := if s.get (R.CLP_CH_CFG_MODE n) = 1 then qArrive n (st.dlv + bit st.inv * 2 ^ 60 + bit st.fall * 2 ^ 62) s else ssStart n st s
    statStamp n st s

/-- The channel's next stamp is passed on: of the two paths' first, the earlier delivered one, the start on a tie (03 R92); in START_STOP the later one waits for it. -/
def deliver (n : Nat) (s : State) : State :=
  let c := s.ch n
  let a := pathReady s c.start
  let b := pathReady s c.stop
  match c.start.buf, c.stop.buf with
  | x :: xs, y :: ys =>
    let first := decide (rawfDiff x.dlv y.dlv ≤ 0)
    let ss := s.get (R.CLP_CH_CFG_MODE n) == 2
    if a && (first || (!b && !ss)) then
      passStart n x (s.setCh n { c with start := { c.start with buf := xs, outAt := some s.now } })
    else if b && (!first || !ss) then ssStop n y (s.setCh n { c with stop := { c.stop with buf := ys, outAt := some s.now } })
    else s
  | x :: xs, [] =>
    if a then passStart n x (s.setCh n { c with start := { c.start with buf := xs, outAt := some s.now } }) else s
  | [], y :: ys => if b then ssStop n y (s.setCh n { c with stop := { c.stop with buf := ys, outAt := some s.now } }) else s
  | [], [] => s

/-! ## Commands of a channel -/

/-- The queue emptied (CMD.FLUSH); the next entry carries GAP. -/
def clpFlush (n : Nat) (s : State) : State := qCheck n (s.setCh n { s.ch n with queue := [], gapNext := true })

/-- Both prescalers of a channel restarted (03 R84). -/
def prescSync (n : Nat) (s : State) : State :=
  let c := s.ch n
  s.setCh n { c with start := { c.start with presc := 0 }, stop := { c.stop with presc := 0 } }

/-- CMD.STAT_RESTART: at the next edge (03 R97). -/
def statRestartReq (n : Nat) (s : State) : State :=
  let c := s.ch n
  s.setCh n { c with stat := { c.stat with restart := true } }

/-- A write to CFG, SRC or EXT_DELAY has taken effect (03 R83). -/
def clpRestart (n : Nat) (s : State) : State :=
  let c := s.ch n
  let go : SsState := if s.flag (R.CLP_CH_CFG_REARM n) then .armed else .idle
  let st : ClpStat := { stopped := c.stat.stopped, restart := c.stat.restart }
  ssGo n go (s.setCh n { c with stat := st, gapNext := true, held := none })

/-- A change of NOMINAL has taken effect (03 R83): with STAT_SRC = 2 the block in progress is discarded. -/
def clpNominal (n : Nat) (s : State) : State :=
  let c := s.ch n
  if s.get (R.CLP_CH_CFG_STAT_SRC n) = 2 then
    s.setCh n { c with stat := { stopped := c.stat.stopped, restart := c.stat.restart } }
  else s

/-! ## Calibration (03 R76 to R79) -/

/-- A slice's profile by raw code, in 2^-64 (03 R76, R79). -/
def profOf (conv k : Nat) (p : List Nat) : List Nat :=
  if p.isEmpty then (List.range 1536).map (fun c => (Config.factoryBin conv k c).toNat) else p

/-- The profile with a Stroke's density hits accumulated, weight 1/4096 (03 R76). DESIGN CHOICE (log entry 21): held to 2^-64, rounded down. -/
def profNext (p : List Nat) (hits : Tbl Nat) : List Nat := p.zipIdx.map (fun e => (e.1 * 4095 + tget 0 hits e.2 * 2 ^ 51) / 4096)

/-- The slices with the stored profiles: each waits for the scale of its first probe set (03 R79). -/
def slicesStart (t : Tbl ClpSlice) : Tbl ClpSlice := t.foldl (fun a e => tset {} a e.1 { prof := e.2.prof }) []

/-- The density hits by code. -/
def hitTbl (l : List (Nat × Nat)) : Tbl Nat := l.foldl (fun t h => tset 0 t h.1 (tget 0 t h.1 + h.2)) []

/-- The sum of 64 probes' code differences: the codes of one core cycle in 1/64 (03 R76). -/
def probeSum (l : List (Nat × Nat)) : Nat := l.foldl (fun n p => n + ((p.1 : Int) - p.2).natAbs) 0

/-- The share of the profile below a position q in 1/64 codes, in 2^-70. -/
def profSpan : List Nat → Nat → Nat
  | [], _ => 0
  | v :: t, q => if q < 64 then v * q else v * 64 + profSpan t (q - 64)

/-- Each bin's centre, from the share `a` below the first on; span: the share of a core cycle, in 2^-70 (03 R76): 4096 units a cycle, to the nearest. -/
def tableFrom (span : Nat) : Nat → List Nat → List Nat
  | _, [] => []
  | a, v :: t => min 4095 ((4096 * 64 * (2 * a + v) + span) / (2 * span)) :: tableFrom span (a + v) t

/-- The width of the widest bin in units of 2^-10 ns, rounded up (log entry 21). -/
def widestBin (span : Nat) (p : List Nat) : Nat := if span = 0 then 2 ^ 16 else (4096 * 64 * p.foldl max 0 + (span - 1)) / span

/-- Does a calibration fail (03 R77)? -/
def calFails (old : ClpSlice) (i : CalIn) (scale wide : Nat) : Bool :=
  i.probes.any (fun p => decide (1535 < p.1) || decide (1535 < p.2)) || decide (48 < wide) ||
    (old.scale != 0 && decide (2 * old.scale < 100 * ((scale : Int) - old.scale).natAbs))

/-- The idle slice's calibration at an edge (03 R76 to R78). k: the slice that was idle. -/
def sliceCal (k : Nat) (i : CalIn) (s : State) : State :=
  let old := s.slice i.conv k
  let scale := probeSum i.probes
  let p := profNext (profOf i.conv k old.prof) (hitTbl i.hits)
  let span := profSpan p scale
  let wide := widestBin span p
  let new := if calFails old i scale wide then { old with prof := p, fails := old.fails + 1, scale := scale }
    else { prof := p, table := tableFrom span 0 p, scale := scale, binMax := wide, calRes := (Config.calRes i.probes p).toNat, fails := 0, bad := false }
  { s with clp := { s.clp with slices := tset {} s.clp.slices (2 * i.conv + k) new } }

/-- A converter's flags and figures published (03 R77, R78, R99). k: the slice that converts from this edge on. DESIGN CHOICE (log entry 21): CAL_HELD stays 1 with CAL_BAD,
while the slice still holds its old table. -/
def calPublish (k conv : Nat) (s : State) : State :=
  let a := s.slice conv 0
  let b := s.slice conv 1
  let bad := a.bad || b.bad
  let f := ((s.slice conv k).calRes, (s.slice conv k).binMax)
  let s := { s with clp := { s.clp with figs := tset (0, 0) s.clp.figs conv f } }
  if conv < 24 then
    let was := s.flag (R.CLP_CH_STAT_CAL_BAD conv)
    let s := (s.putB (R.CLP_CH_STAT_CAL_HELD conv) (decide (0 < a.fails) || decide (0 < b.fails))).putB (R.CLP_CH_STAT_CAL_BAD conv) bad
    let s := (s.put (R.CLP_CH_CAL_CAL_RES conv) f.1).put (R.CLP_CH_CAL_BIN_MAX conv) (min 255 f.2)
    let s := s.put (R.CLP_CH_STAT_ACTIVE_SLICE conv) k
    if was && !bad then irqWithdraw (159 + conv) s else s
  else if conv < 40 then s.putB (R.CLP_AUX_CAL_LANE_BAD.bitAt (conv - 24)) bad
  else s.putB R.CLP_AUX_CAL_LATCH_BAD bad

/-- The fault source of a converter past its hold (17 R427). -/
def calSource (conv : Nat) : Nat := if conv < 24 then 27 + conv else if conv < 40 then 51 + (conv - 24) else 67

/-- A failed slice's hold of CAL_HOLD of its own calibrations ends (03 R77). -/
def calHoldEnd (conv : Nat) (s : State) : State :=
  let lim := s.get R.CLP_CAL_CFG_CAL_HOLD
  let due := fun k => decide (lim < (s.slice conv k).fails) && !(s.slice conv k).bad
  if due 0 || due 1 then
    let was := (s.slice conv 0).bad || (s.slice conv 1).bad
    let t := (if due 0 then tset {} s.clp.slices (2 * conv) { s.slice conv 0 with bad := true } else s.clp.slices)
    let t := (if due 1 then tset {} t (2 * conv + 1) { s.slice conv 1 with bad := true } else t)
    let s := calPublish (convSlice s) conv { s with clp := { s.clp with slices := t } }
    if was then s else faultRaise (calSource conv) (if conv < 24 then irqRequest (159 + conv) s else s)
  else s

/-- CLP's calibrations at an edge (03 R76 to R78); strokes is already that of the new edge. -/
def clpCalEdge (l : List CalIn) (s : State) : State :=
  let k := convSlice s
  let s := { s with clp := { s.clp with figsE := s.clp.figs } }
  if !domOn s 10 then s
  else (List.range 41).foldl (fun s conv => calPublish k conv s) (l.foldl (fun s i => if i.conv < 41 then sliceCal k i s else s) s)

/-! ## The commands -/

/-- EDGE_ARRIVAL (03 R72, R84 to R86): an edge of source src, with the raw code its converter reads, reaches channel n. An alarm's edges come with its firing (R80). -/
def execEdgeArrival (n : Fin 24) (src : Fin 64) (fall : Bool) (code : BitVec 11) (dt : Nat) (s : State) :
    Host.Outcome State Fault Refusal :=
  live s (if 0x20 ≤ src.val ∧ src.val ≤ 0x27 then s.tick dt else edgeArrive n src fall code.toNat (s.tick dt))

/-- STAMP_DELIVER (03 R73, R86). -/
def execStampDeliver (n : Fin 24) (dt : Nat) (s : State) : Host.Outcome State Fault Refusal := live s (deliver n (s.tick dt))

/-- STOP_TIMEOUT (03 R91). -/
def execStopTimeout (n : Fin 24) (dt : Nat) (s : State) : Host.Outcome State Fault Refusal := live s (ssTimeout n (s.tick dt))

/-- CAL_HOLD_EXPIRE (03 R77, R99): converters 0 to 23 the channels, 24 to 39 the lane trackers, 40 the GNSS latch. -/
def execCalHoldExpire (conv : Fin 41) (s : State) : Host.Outcome State Fault Refusal := live s (calHoldEnd conv s)

/-- CAL_WARMUP_END (03 R79): four Strokes after PD_CLP left reset. -/
def execCalWarmupEnd (dt : Nat) (s : State) : Host.Outcome State Fault Refusal :=
  live s (
    let s := s.tick dt
    if s.clp.warmFrom + 4 * 31250 ≤ s.now then { s with clp := { s.clp with warm := false } } else s)

/-- CLP_Q_READ (03 R88). -/
def execClpQRead (j : Iface) (n : Fin 24) (dt : Nat) (s : State) : Host.Outcome State Fault Refusal := live s (clpQRead j.num n (s.tick dt)).2

/-- ARM (03 R91). -/
def execClpArm (n : Fin 24) (s : State) : Host.Outcome State Fault Refusal := live s (ssArm n s)

/-- DISARM (03 R91). -/
def execClpDisarm (n : Fin 24) (s : State) : Host.Outcome State Fault Refusal := live s (ssDisarm n s)

/-- PRESC_SYNC (03 R84). -/
def execPrescSync (n : Fin 24) (s : State) : Host.Outcome State Fault Refusal := live s (prescSync n s)

/-- STAT_RESTART (03 R97). -/
def execStatRestart (n : Fin 24) (s : State) : Host.Outcome State Fault Refusal := live s (statRestartReq n s)

/-- CLP_FLUSH (03 R87). -/
def execClpFlush (n : Fin 24) (s : State) : Host.Outcome State Fault Refusal := live s (clpFlush n s)

/-- SYNC_ALL (03 R84). -/
def execSyncAll (s : State) : Host.Outcome State Fault Refusal := live s ((List.range 24).foldl (fun s n => prescSync n s) s)

/-- MEAN_READ (03 R97). -/
def execMeanRead (j : Iface) (n : Fin 24) (s : State) : Host.Outcome State Fault Refusal :=
  live s (readAs j.num (0x031038 + 0x80 * n) s).2

end Sys2Proof.Machine
end

