-- ==== Sys2Proof/Machine/Alm.lean ====
section
/-! DEFINITION. The alarms of ETM (02 R62 to R64), with the edges that they give the Clapper (03 R80). -/

namespace Sys2Proof.Machine

/-! ## Targets and firing -/

/-- An alarm's target. -/
def almTgt (s : State) (n : Nat) : Nat := s.get2 (R.ETM_ALM_TGT_LO_TGT_LO n) (R.ETM_ALM_TGT_HI_TGT_HI n)

/-- Is alarm n's target reached (02 R62, R63)? -/
def almDue (s : State) (n : Nat) : Bool := decide (0 ≤ rawDiff s.raw (almTgt s n))

/-- An alarm armed or re-armed: LATE is due where its target already is (02 R63). -/
def almArm (n : Nat) (s : State) : State :=
  { s with etm := { s.etm with almLate := tset false s.etm.almLate n (s.flag (R.ETM_ALM_CTL_ARM n) && almDue s n), almAt := tset 0 s.etm.almAt n s.now } }

/-- Does alarm n fire at this cycle: armed and due, where it was due already at its arming from the next cycle on (02 R63)? -/
def almFires (s : State) (n : Nat) : Bool :=
  s.flag (R.ETM_ALM_CTL_ARM n) && almDue s n && (!tget false s.etm.almLate n || decide (tget 0 s.etm.almAt n < s.now))

/-- The alarm's edge at the Clapper: one per firing, at every channel that names the source (03 R74, R80). -/
def almEdge (n : Nat) (s : State) : State := (List.range 24).foldl (fun s c => edgeArrive c (0x20 + n) false 0 s) s

/-- A fired alarm moves on by its PERIOD, or disarms (02 R63). -/
def almNext (n : Nat) (s : State) : State :=
  let p := s.get (R.ETM_ALM_PERIOD_PERIOD n)
  if s.flag (R.ETM_ALM_CTL_PERIODIC n) ∧ p ≠ 0 then
    s.put2 (R.ETM_ALM_TGT_LO_TGT_LO n) (R.ETM_ALM_TGT_HI_TGT_HI n) ((almTgt s n + p) % 2 ^ 48)
  else s.put (R.ETM_ALM_CTL_ARM n) 0

/-- Alarm n has fired now: nothing of its arming is left to mark late. -/
def almMark (n : Nat) (s : State) : State :=
  { s with etm := { s.etm with almLate := tset false s.etm.almLate n false, almWas := tset none s.etm.almWas n (some s.now) } }

/-- FIRED, and LATE where the target was already past at the arming (02 R63). -/
def almShow (n : Nat) (s : State) : State :=
  let t := raiseEvt (R.ETM_ALM_CTL_FIRED n) (12 + n) s
  if tget false s.etm.almLate n then t.put (R.ETM_ALM_CTL_LATE n) 1 else t

/-- Alarm n fires where it is armed and due (02 R63). -/
def almFire (n : Nat) (s : State) : State :=
  if almFires s n then almNext n (almMark n (almShow n (almEdge n s))) else s

/-- W1C bits of an alarm's CTL (02 R64). -/
def almClear (n v : Nat) (s : State) : State :=
  let s := if tbit v 8 then s.put (R.ETM_ALM_CTL_FIRED n) 0 else s
  let s := if tbit v 9 then s.put (R.ETM_ALM_CTL_LATE n) 0 else s
  if tbit v 8 || tbit v 9 then irqWithdrawAll s else s

/-- Word k of alarm n's four registers written, on its own cycle (02 R64). CTL's FIRED and LATE are W1C. A fire of the same cycle comes first and belongs to the old
target; a new target is then armed. -/
def almWrite (n k v : Nat) (s : State) : State :=
  let s := almFire n (if k = 3 then almClear n v s else s)
  let s := if k < 2 ∧ tget none s.etm.almWas n = some s.now then s.put (R.ETM_ALM_CTL_ARM n) 1 else s
  almArm n (match k with
    | 0 => s.put (R.ETM_ALM_TGT_LO_TGT_LO n) v
    | 1 => s.put (R.ETM_ALM_TGT_HI_TGT_HI n) v
    | 2 => s.put (R.ETM_ALM_PERIOD_PERIOD n) v
    | _ => (s.putB (R.ETM_ALM_CTL_ARM n) (tbit v 0)).putB (R.ETM_ALM_CTL_PERIODIC n) (tbit v 1))

/-! ## The commands -/

/-- ALARM_WRITE (02 R64): word k (0 to 3) of alarm n's registers. -/
def execAlarmWrite (n : Fin 8) (k : Fin 4) (v : BitVec 32) (dt : Nat) (s : State) : Host.Outcome State Fault Refusal :=
  live s (almWrite n k v.toNat (s.tick dt))

/-- ALARM_FIRE (02 R63). -/
def execAlarmFire (n : Fin 8) (dt : Nat) (s : State) : Host.Outcome State Fault Refusal := live s (almFire n (s.tick dt))

end Sys2Proof.Machine
end

