-- ==== Sys2Proof/Machine/Rmon.lean ====
section
/-! DEFINITION. The snapshots of the physical references with their phase samples and fast flags (04 R106, R109, R110), and the
32 monitors (04 R101 to R125). -/

namespace Sys2Proof.Machine

/-- A monitor's own state. -/
def State.mon (s : State) (m : Nat) : Mon := tget {} s.rmon.mons m

/-- A monitor's own state set. -/
def State.setMon (s : State) (m : Nat) (v : Mon) : State := { s with rmon := { s.rmon with mons := tset {} s.rmon.mons m v } }

/-- A reference's published snapshot. -/
def State.snap (s : State) (m : Nat) : Snap := tget {} s.clp.snaps m

/-! ## Phase samples and fast flags -/

/-- The stamped period P in 2^-26 ns (04 R103). -/
def stampedPeriod (s : State) (m : Nat) : Nat :=
  s.get2 (R.RMON_MON_NOM_PERIOD_LO_NOM_PERIOD m) (R.RMON_MON_NOM_PERIOD_HI_NOM_PERIOD m) * 2 ^ s.get (R.CLP_CH_CFG_PRESC m)

/-- G in quarters (04 R109). -/
def losGap4 (s : State) (m : Nat) : Nat :=
  match s.get (R.RMON_MON_CFG_LOS_GAP m) with
  | 0 => 5
  | 1 => 6
  | 2 => 8
  | _ => 16

/-- The prediction x̂ at an instant, in 2^-26 ns (04 R110): the published phase and frequency run on. -/
def predict (o : Mon) (t : Int) : Option Int :=
  match o.xk with
  | none => none
  | some (x, tk) => some (x * 65536 + (o.freq.getD 0) * (t - tk) / 2 ^ 44)

/-- Does |x − x̂| exceed PSTEP_THR (04 R110)? -/
def stepOver (s : State) (m : Nat) (o : Mon) (x t : Int) : Bool :=
  let thr := s.get (R.RMON_MON_PSTEP_THR_PSTEP_THR m)
  match predict o t with
  | none => false
  | some p => thr != 0 && decide (thr * 65536 < (x * 65536 - p).natAbs)

/-- et(s) of a stamp in 2^-26 ns (04 R106): engine time against the origin, or the RAWF difference. -/
def etSince (s : State) (m : Nat) (origin : Int × Nat) (dlv : Nat) : Int :=
  if s.flag (R.RMON_MON_CFG_FBASE m) then rawfDiff dlv origin.2 * 65536
  else (etTotal s.etm dlv - origin.1) / 2 ^ 22

/-- The sample of one stamp (04 R106, R110), and the monitor with its origin and last x carried on. DEDUCED (log entry 22): x is truncated towards minus infinity. -/
def stampSample (s : State) (m : Nat) (o : Mon) (st : Stamp) : Samp × Mon :=
  let bare : Samp := { raw := st.dlv, inv := st.inv }
  if st.inv || !o.started then (bare, o)
  else match o.origin with
    | none => (bare, { o with origin := some (etTotal s.etm st.dlv, st.dlv), prevX := none })
    | some og =>
      let t := etSince s m og st.dlv
      let p : Int := stampedPeriod s m
      let xp := match o.freq with
        | some _ => (predict o t).getD 0
        | none => (o.prevX.getD 0) * 65536
      let x := (t - roundDiv (t - xp) p * p) / 65536
      ({ bare with x := x, t := t, has := true, step := stepOver s m o x t }, { o with prevX := some x })

/-- The samples of a snapshot's stamps, in order. -/
def stampSamples (s : State) (m : Nat) : List Stamp → Mon → List Samp × Mon
  | [], o => ([], o)
  | st :: l, o =>
    let r := stampSample s m o st
    let r2 := stampSamples s m l r.2
    (r.1 :: r2.1, r2.2)

/-- The distances of successive stamps, in 2^-10 ns; the first from the stamp before the snapshot where there is one. -/
def stampGaps : Option Nat → List Stamp → List Int
  | _, [] => []
  | none, a :: l => stampGaps (some a.dlv) l
  | some p, a :: l => rawfDiff a.dlv p :: stampGaps (some a.dlv) l

/-- The snapshot of a physical reference at an edge (01 R22, 04 R106, R109, R110), formed on what the monitor published at the
last edge. -/
def physSnap (s : State) (m : Nat) (stamps : List Stamp) (o : Mon) : Snap × Mon :=
  let r := stampSamples s m stamps o
  let p : Int := stampedPeriod s m
  let lim : Int := losGap4 s m * p
  let lastValid := match (stamps.filter (fun x => !x.inv)).getLast? with
    | some x => some x.dlv
    | none => o.lastValid
  let old := match lastValid with
    | some v => decide (lim < rawfDiff (((s.raw + 2 ^ 48 - 64) % 2 ^ 48) * 4096) v * 65536 * 4)
    | none => true
  let gap := (stampGaps none stamps).any (fun d => decide (lim < d * 65536 * 4))
  let spur := (stampGaps o.lastStamp stamps).any (fun d => decide (d * 65536 * 2 < p))
  let lastStamp := match stamps.getLast? with
    | some x => some x.dlv
    | none => o.lastStamp
  ({ samps := r.1, los := old || gap, step := spur || r.1.any (·.step), spur := spur, era := o.era },
    { r.2 with lastValid := lastValid, lastStamp := lastStamp })

/-- A channel's snapshot registers (03 R82). -/
def snapRegs (n : Nat) (stamps : List Stamp) (sn : Snap) (s : State) : State :=
  let a := stamps.head?.elim 0 (·.dlv)
  let b := stamps.getLast?.elim 0 (·.dlv)
  let s := (s.put (R.CLP_CH_SNAP_CNT_CNT n) (satW 16 stamps.length)).putB (R.CLP_CH_SNAP_CNT_INV n) (stamps.any (·.inv))
  let s := (s.putB (R.CLP_CH_SNAP_CNT_LOS n) sn.los).putB (R.CLP_CH_SNAP_CNT_STEP n) sn.step
  (s.put2 (R.CLP_CH_SNAP_FIRST_LO_FIRST n) (R.CLP_CH_SNAP_FIRST_HI_FIRST n) a).put2 (R.CLP_CH_SNAP_LAST_LO_LAST n)
    (R.CLP_CH_SNAP_LAST_HI_LAST n) b

/-- The Clapper's snapshot of channel n taken at an edge (01 R22, 03 R82). DESIGN CHOICE (log entry 21): the event channels, which feed no monitor, have no LOS and no STEP. -/
def clpSnap (n : Nat) (s : State) : State :=
  let c := s.ch n
  let s' := s.setCh n { c with cur := c.nxt, nxt := [] }
  if n < 16 then
    let r := physSnap s n c.cur (s.mon n)
    let s' := (s'.setMon n r.2)
    snapRegs n c.cur r.1 { s' with clp := { s'.clp with snaps := tset {} s'.clp.snaps n r.1 } }
  else snapRegs n c.cur {} s'

/-! ## Virtual references (04 R104, R105) -/

/-- A virtual source's sample enters the next snapshot of its monitor. -/
def vPush (m : Nat) (x : Samp) (s : State) : State :=
  { s with rmon := { s.rmon with vin := tset [] s.rmon.vin m (tget [] s.rmon.vin m ++ [x]) } }

/-- The monitor that a virtual source feeds. -/
def vMon (s : State) (vtype vidx : Nat) : Option Nat :=
  (List.range 32).find? (fun m => decide (16 ≤ m) && s.get (R.RMON_MON_SRC_VTYPE m) == vtype &&
    s.get (R.RMON_MON_SRC_VIDX m) == vidx && !(s.mon m).srcErr)

/-- The snapshot of a virtual reference at an edge: its samples, each with its STEP check (04 R110), and LOS. -/
def virtSnap (m : Nat) (los : Bool) (s : State) : State :=
  let o := s.mon m
  let l := (tget [] s.rmon.vin m).map (fun x => { x with step := x.step || (!x.inv && stepOver s m o x.x x.t) })
  let sn : Snap := { samps := l, los := los || l.any (·.los), step := l.any (·.step), spur := false, era := o.era }
  { s with clp := { s.clp with snaps := tset {} s.clp.snaps m sn }, rmon := { s.rmon with vin := tset [] s.rmon.vin m [] } }

/-- Is a write of SRC to monitor m valid (04 R104)? -/
def srcOk (s : State) (m vtype vidx : Nat) : Bool :=
  let range := match vtype with
    | 0 => true
    | 3 => decide (vidx < 16)
    | 4 => true
    | 5 => decide (vidx < 8)
    | _ => false
  let taken := (List.range 32).any (fun k => k != m && decide (16 ≤ k) && s.get (R.RMON_MON_SRC_VTYPE k) == vtype &&
    s.get (R.RMON_MON_SRC_VIDX k) == vidx)
  decide (18 ≤ m) && decide (m < 32) && range && (vtype == 0 || !taken)

/-- A write of SRC takes effect (04 R104): an invalid one is ignored and sets CFG_ERR; monitors 0 to 17 have no SRC of their own to write. The UTC data of the
source named before are dropped (02 R69). -/
def srcWrite (m v : Nat) (s : State) : State :=
  if m < 18 then s
  else if srcOk s m (v % 8) (bits v 15 4) then
    let s := if s.get (R.RMON_MON_SRC_VTYPE m) = v % 8 ∧ s.get (R.RMON_MON_SRC_VIDX m) = bits v 15 4 then s
      else { s with etm := { s.etm with utcUp := s.etm.utcUp.filter (fun e => e.1 != m) } }
    ((s.put (R.RMON_MON_SRC_VTYPE m) (v % 8)).put (R.RMON_MON_SRC_VIDX m) (bits v 15 4)).setMon m { s.mon m with srcErr := false }
  else s.setMon m { s.mon m with srcErr := true }

/-! ## Checks -/

/-- A check with hysteresis (04 R113). -/
def limCheck (v : Option Nat) (lim hyst : Nat) (was : Bool) : Bool :=
  match v with
  | none => false
  | some v => if lim = 0 then false else if lim < v then true else if v * 16 ≤ lim * (16 - hyst) then false else was

/-- A check of a figure of the phase history. on: the check is enabled; gone: LOS or CFG has ended the history, and the figure published stands, and with it the cause
(DESIGN CHOICE, log entry 22). -/
def figCheck (on gone : Bool) (v : Option Nat) (lim hyst : Nat) (was : Bool) : Bool :=
  if !on || lim == 0 then false else if gone then was else limCheck v lim hyst was

/-- The configuration whose change restarts a monitor (04 R124), as one number. -/
def cfgPrint (s : State) (m : Nat) : Nat :=
  let c := s.get (R.RMON_MON_CFG_INPUT_MODE m) + 8 * s.get (R.RMON_MON_CFG_TERM m) + 16 * s.get (R.RMON_MON_CFG_AC m)
    + 32 * s.get (R.RMON_MON_CFG_FBASE m) + 64 * s.get (R.RMON_MON_CFG_PSTEP_ACT m) + 256 * s.get (R.RMON_MON_CFG_LOS_GAP m)
  let p := if m < 16 then s.get (R.CLP_CH_CFG_PRESC m) else 0
  c + 2 ^ 10 * p + 2 ^ 15 * (s.get (R.RMON_MON_SRC_VTYPE m) + 8 * s.get (R.RMON_MON_SRC_VIDX m))
    + 2 ^ 30 * s.get (R.RMON_MON_TAU0_TAU0 m)
    + 2 ^ 46 * s.get2 (R.RMON_MON_NOM_PERIOD_LO_NOM_PERIOD m) (R.RMON_MON_NOM_PERIOD_HI_NOM_PERIOD m)

/-- Configuration error (04 R103, R104). -/
def monCfgErr (s : State) (m : Nat) : Bool :=
  if m < 16 then
    let nom := s.get2 (R.RMON_MON_NOM_PERIOD_LO_NOM_PERIOD m) (R.RMON_MON_NOM_PERIOD_HI_NOM_PERIOD m)
    let p := stampedPeriod s m
    decide (nom < 2 ^ 26) || decide (1000000000 * 2 ^ 26 < nom) || decide (p < 20 * 2 ^ 26) ||
      decide (s.get (R.RMON_MON_TAU0_TAU0 m) * 125000 * 2 ^ 26 < p) || s.get (R.CLP_CH_CFG_MODE m) != 1
  else s.get (R.RMON_MON_SRC_VTYPE m) == 0 || (s.mon m).srcErr

/-- The quality rank of an SSM and eSSM code (04 R118). -/
def qlRank (opt : Bool) (ssm essm : Nat) (failed : Bool) : Nat :=
  if failed then 0
  else if essm ≠ 0xFF then
    match essm with
    | 0x21 => 14
    | 0x20 => 13
    | 0x23 => if opt then 0 else 12
    | 0x22 => 6
    | _ => 0
  else if opt then
    match ssm with
    | 0x1 => 11
    | 0x0 => 10
    | 0x7 => 9
    | 0x4 => 8
    | 0xD => 7
    | 0xA => 5
    | 0xC => 4
    | 0xE => 3
    | _ => 0
  else
    match ssm with
    | 0x2 => 11
    | 0x4 => 9
    | 0x8 => 7
    | 0xB => 5
    | _ => 0

/-- The differences d_j × n of TDEV (04 R115) over samples in rising order: one per sample from the 3n-th on. -/
def tdevDiffs (n : Nat) (xs : List Int) : List Int :=
  (List.range (xs.length + 1 - 3 * n)).map (fun j =>
    (List.range n).foldl (fun a k => a + (xs.getD (j + k + 2 * n) 0 - 2 * xs.getD (j + k + n) 0 + xs.getD (j + k) 0)) 0)

/-- TDEV_VAL over samples newest first (04 R115); none until TDEV_WIN values of d_j exist. DESIGN CHOICE (log entry 22): the square root is rounded down. -/
def tdevOf (n win : Nat) (hist : List (Int × Int)) : Option Nat :=
  let d := tdevDiffs n ((hist.map (·.1)).take (3 * n + win - 1)).reverse
  if n = 0 ∨ win = 0 ∨ d.length < win then none
  else
    let sq := (d.drop (d.length - win)).foldl (fun a x => a + x.natAbs * x.natAbs) 0
    some (isqrt (sq / (6 * n * n * win)))

/-- MTIE_VAL over the last win samples held (04 R114). -/
def mtieOf (win : Nat) (hist : List (Int × Int)) : Option Nat :=
  match (hist.take win).map (·.1) with
  | [] => none
  | x :: l => some (l.foldl max x - l.foldl min x).toNat

/-- FREQ_EST over the samples held, newest first (04 R112). -/
def freqOf (win : Nat) (hist : List (Int × Int)) : Option Int :=
  let w := min win (hist.length - 1)
  match hist.head?, hist[w]? with
  | some a, some b => if w = 0 ∨ a.2 ≤ b.2 then none else some (satI 32 (roundDiv ((a.1 - b.1) * 65536 * 2 ^ 44) (a.2 - b.2)))
  | _, _ => none

/-! ## State (04 R122 to R125) -/

/-- A monitor's state field in RMON_STATE_LO and HI. -/
def monStateFld (m : Nat) : Fld := ⟨0x040000 + 4 * (m / 16), 2 * (m % 16) + 1, 2 * (m % 16)⟩

/-- A monitor goes to a state: published, counted, flagged and logged (04 R125). -/
def monGo (m new : Nat) (s : State) : State :=
  let old := s.get (R.RMON_MON_STAT_STATE m)
  if old = new then s
  else
    let s := ((s.put (R.RMON_MON_STAT_STATE m) new).put (monStateFld m) new).put (R.RMON_MON_STATE_TIME_STATE_TIME m) 0
    let s := raiseEvt (R.RMON_CHG_CHG.bitAt m) (48 + m) (s.addSat (R.RMON_MON_COUNTS_TRANS_CNT m) 1)
    logRec 0x158 ([m, old, new, 0] ++ leBytes 4 (rdWord s (R.RMON_MON_CAUSE_HARD m).addr)) s

/-- A change of state that completes the last edge's evaluation: published as of that edge (log entry 8). -/
def monGoPub (m new : Nat) (s : State) : State :=
  (monGo m new s).repub [(R.RMON_MON_STAT_STATE m).addr, (monStateFld m).addr]

/-- Is the TDEV window full where it must be (04 R122)? -/
def tdevFull (s : State) (m : Nat) : Bool :=
  !s.flag (R.RMON_MON_CFG_TDEV_EN m) ||
    decide (3 * s.get (R.RMON_MON_TDEV_CFG_TDEV_N m) + s.get (R.RMON_MON_TDEV_CFG_TDEV_WIN m) ≤ (s.mon m).hist.length + 1)

/-- A monitor without a history (04 R106, R124). -/
def monDrop (o : Mon) : Mon :=
  { o with started := false, origin := none, prevX := none, xk := none, freq := none, hist := [], mtie := none, tdev := none, ivN := 0, ivX := none }

/-- The figures of a history that is gone, once nothing but the table keeps the monitor from a new one (log entry 22). -/
def monZero (m : Nat) (s : State) : State :=
  ((s.put (R.RMON_MON_FREQ_EST_FREQ_EST m) 0).put (R.RMON_MON_MTIE_VAL_MTIE_VAL m) 0).put (R.RMON_MON_TDEV_VAL_TDEV_VAL m) 0

/-- A new history begins (04 R122, first row). -/
def monFresh (m : Nat) (s : State) : State :=
  let o := s.mon m
  monZero m (s.setMon m { monDrop o with era := o.era + 1, started := true, val := 0 })

/-- The state table at an edge (04 R122), but for the two rows that have steps of their own. -/
def monTable (m : Nat) (s : State) : State :=
  let hard := s.get (R.RMON_MON_CAUSE_HARD m) != 0
  let soft := s.get (R.RMON_MON_CAUSE_SOFT m) != 0
  let o := s.mon m
  match s.get (R.RMON_MON_STAT_STATE m) with
  | 0 => if hard then s else monGo m 1 (monFresh m s)
  | 1 => if hard then monGo m 0 s
    else s.setMon m { o with val := if soft then 0 else o.val + 1 }
  | 2 => if hard then monGo m 0 s else if soft then monGo m 3 (s.setMon m { o with clr := 0 }) else s
  | _ => if hard then monGo m 0 s else s.setMon m { o with clr := if soft then 0 else o.clr + 1 }

/-- The causes of quality (04 R117 to R120): hard, soft. -/
def qlCauses (s : State) (m : Nat) : Bool × Bool :=
  let o := s.mon m
  if !s.flag (R.RMON_MON_CFG_QL_EN m) then (false, false)
  else if m = 16 then (false, s.flag R.GNT_STAT_INTEG_WARN)
  else match s.get (R.RMON_MON_SRC_VTYPE m) with
    | 3 =>
      let r := qlRank (s.flag (R.RMON_MON_QL_CFG_QL_OPT m)) o.ssm o.essm o.qlFail
      (decide (r < s.get (R.RMON_MON_QL_CFG_QL_HARD_MIN m)), decide (r < s.get (R.RMON_MON_QL_CFG_QL_SOFT_MIN m)))
    | 4 | 5 => (decide (s.get (R.RMON_MON_QL_CFG_CLASS_MAX m) < o.cls), decide (s.get (R.RMON_MON_QL_CFG_ACC_MAX m) < o.acc))
    | _ => (false, false)

/-- The causes published, with the checks' flags. -/
def monCauses (m : Nat) (los lock cfg inv phard psoft : Bool) (s : State) : State :=
  let o := s.mon m
  let h := s.get (R.RMON_MON_CAUSE_HARD m)
  let f := s.get (R.RMON_MON_CAUSE_SOFT m)
  let hy := s.get (R.RMON_MON_CFG_HYST m)
  let fr := fun lim was => figCheck true (los || cfg) (o.freq.map Int.natAbs) lim hy was
  let mt := fun lim was => figCheck (s.flag (R.RMON_MON_CFG_MTIE_EN m)) (los || cfg) o.mtie lim hy was
  let td := fun lim was => figCheck (s.flag (R.RMON_MON_CFG_TDEV_EN m)) (los || cfg) o.tdev lim hy was
  let q := qlCauses s m
  let car := if !s.flag (R.RMON_MON_CFG_CAR_EN m) then false
    else if s.flagE R.SEL_CAR_STAT_STALE || !s.flagE (R.SEL_REF_FLAGS_MEASURED m) || !s.flagE (R.SEL_REF_FLAGS_DEV_VALID m) then tbit f 4
    else limCheck (some (s.getEI (R.SEL_REF_DEV_DEV m)).natAbs) (s.get (R.RMON_MON_CAR_SOFT_CAR_SOFT m)) hy (tbit f 4)
  let hard := bitsOf [los, fr (s.get (R.RMON_MON_FREQ_HARD_FREQ_HARD m)) (tbit h 1),
    mt (s.get (R.RMON_MON_MTIE_HARD_LIMIT m)) (tbit h 2), td (s.get (R.RMON_MON_TDEV_HARD_LIMIT m)) (tbit h 3),
    q.1, phard, lock, cfg, inv]
  let soft := bitsOf [fr (s.get (R.RMON_MON_FREQ_SOFT_FREQ_SOFT m)) (tbit f 0),
    mt (s.get (R.RMON_MON_MTIE_SOFT_LIMIT m)) (tbit f 1), td (s.get (R.RMON_MON_TDEV_SOFT_LIMIT m)) (tbit f 2),
    q.2, car, psoft]
  (s.put (R.RMON_MON_CAUSE_HARD m) hard).put (R.RMON_MON_CAUSE_SOFT m) soft

/-- The interval's end (04 R106, R112, R114, R115): the sample joins the history and the estimates are published. -/
def monInterval (m : Nat) (s : State) : State :=
  let o := s.mon m
  match o.ivX with
  | none => s.setMon m { o with ivN := 0 }
  | some x =>
    let hist := (x :: o.hist).take 68700
    let o' := { o with ivN := 0, ivX := none, hist := hist, xk := some x,
                       freq := freqOf (s.get (R.RMON_MON_FREQ_WIN_FREQ_WIN m)) hist,
                       mtie := mtieOf (s.get (R.RMON_MON_MTIE_WIN_MTIE_WIN m)) hist,
                       tdev := if s.flag (R.RMON_MON_CFG_TDEV_EN m) then
                           tdevOf (s.get (R.RMON_MON_TDEV_CFG_TDEV_N m)) (s.get (R.RMON_MON_TDEV_CFG_TDEV_WIN m)) hist
                         else none }
    let s := (s.setMon m o').put (R.RMON_MON_PHASE_PHASE m) (ofInt 32 (satI 32 x.1))
    let s := s.put (R.RMON_MON_FREQ_EST_FREQ_EST m) (ofInt 32 (o'.freq.getD 0))
    (s.put (R.RMON_MON_MTIE_VAL_MTIE_VAL m) (satW 32 (o'.mtie.getD 0))).put (R.RMON_MON_TDEV_VAL_TDEV_VAL m) (satW 32 (o'.tdev.getD 0))

/-- The step that a snapshot shows against the monitor's own prediction (04 R116): the last flagged sample's x − x̂, where it
still exceeds the threshold (log entry 11), or for a spurious edge the last sample's. -/
def monStep (s : State) (m : Nat) (o : Mon) (spur : Bool) (used : List Samp) : Option Int :=
  let l := used.filter (fun x => x.step && stepOver s m o x.x x.t)
  match (if l.isEmpty && spur then used else l).getLast? with
  | none => none
  | some x => (predict o x.t).map (fun p => (x.x * 65536 - p) / 65536)

/-- A step removed from the history (04 R116). -/
def monUnstep (d : Int) (o : Mon) : Mon :=
  { o with hist := o.hist.map (fun e => (e.1 + d, e.2)), xk := o.xk.map (fun e => (e.1 + d, e.2)) }

/-- A monitor held at an edge (04 R107): its causes and timers stand, but for LOCKOUT and CFG, which hold whatever else does (R124). -/
def monHold (m : Nat) (cfg lock : Bool) (s : State) : State :=
  let o := s.mon m
  let s := (s.setMon m { (if cfg then monDrop o else o) with invHold := true, invRun := o.invRun + 1 }).put (R.RMON_MON_STAT_INV_HOLD m) 1
  let h := s.get (R.RMON_MON_CAUSE_HARD m)
  let s := s.put (R.RMON_MON_CAUSE_HARD m) (withBit (withBit h 6 lock) 7 cfg)
  if lock || cfg then monGo m 0 s else s

/-- A monitor evaluated at an edge with samples to judge, or with none (04 R111 to R121). DEDUCED (log entry 22): interval k is TAU0 evaluations from the one after the
edge that published VALIDATING. -/
def monJudge (m : Nat) (sn : Snap) (cfg lock : Bool) (s : State) : State :=
  let o := s.mon m
  let valid := sn.samps.filter (fun x => !x.inv)
  let losNow := sn.los || (decide (m < 16) && s.get (R.CLP_CH_CFG_MODE m) == 0)
  let losOk := if losNow || sn.spur then 0 else o.losOk + valid.length
  let los := losNow || (tbit (s.get (R.RMON_MON_CAUSE_HARD m)) 0 && decide (losOk < s.get (R.RMON_MON_TAU0_LOS_CLR m)))
  let inv := tbit (s.get (R.RMON_MON_CAUSE_HARD m)) 8 && valid.isEmpty
  let keep := !los && !cfg
  let o1 := { o with losOk := losOk, invHold := false, invRun := 0 }
  let o1 := if keep then o1 else monDrop o1
  let used := if keep && o1.started && sn.era == o.era then valid.filter (fun x => x.has) else []
  let st := monStep s m o1 (sn.spur && keep) used
  let act := s.get (R.RMON_MON_CFG_PSTEP_ACT m)
  let spur := sn.spur && keep
  let since := if st.isSome && act == 1 && !spur then some 0 else o1.sinceStep.map (· + 1)
  let since := match since with | some k => if k ≠ 0 ∧ s.get (R.RMON_MON_CLR_TIME_CLR_TIME m) ≤ k then none else some k | none => none
  let o2 := match st with | some d => monUnstep d o1 | none => o1
  let o2 := { o2 with sinceStep := since, ivN := if o2.started then o2.ivN + 1 else 0,
                      ivX := match used.getLast? with | some x => some (x.x, x.t) | none => o2.ivX }
  let s := s.setMon m o2
  let s := if st.isSome || spur then
      (st.elim s (fun d => s.put (R.RMON_MON_LAST_STEP_LAST_STEP m) (ofInt 32 (satI 32 d)))).addSat (R.RMON_MON_COUNTS_STEP_CNT m) 1 else s
  let s := if o2.started && decide (s.get (R.RMON_MON_TAU0_TAU0 m) ≤ o2.ivN) then monInterval m s else s
  let s := if keep && !o2.started then monZero m s else s
  let s := s.put (R.RMON_MON_STAT_INV_HOLD m) 0
  monCauses m los lock cfg inv (spur || (st.isSome && act == 0)) since.isSome s

/-- A monitor at a Stroke edge (04 R101, R107, R122, R124). -/
def monEdge (m : Nat) (sn : Snap) (s : State) : State :=
  let o := s.mon m
  let fp := cfgPrint s m
  let err := monCfgErr s m
  let cfg := err || fp != o.cfgSeen || o.cfgForce || unitDown s (.rmon m)
  let lock := s.flag (R.RMON_MON_CFG_LOCKOUT m) || unitHeld s (.rmon m)
  let hold := !(decide (16 ≤ m) && sn.los) && (if sn.samps.isEmpty then o.invHold else sn.samps.all (·.inv))
  let s := (s.putB (R.RMON_CFG_ERR_CFG_ERR.bitAt m) err).putB (R.RMON_MON_STAT_CFG_ERR m) err
  let s := s.setMon m { o with cfgSeen := fp, cfgForce := false }
  let s := s.addSat (R.RMON_MON_STATE_TIME_STATE_TIME m) 1
  let s := (((s.put (R.RMON_MON_QL_RX_SSM m) o.ssm).put (R.RMON_MON_QL_RX_ESSM m) o.essm).put (R.RMON_MON_QL_RX_CLASS m) o.cls).put
    (R.RMON_MON_QL_RX_ACC m) o.acc
  let s := s.put (R.RMON_MON_STAT_QL_RANK m) (qlRank (s.flag (R.RMON_MON_QL_CFG_QL_OPT m)) o.ssm o.essm o.qlFail)
  let s := if hold then monHold m cfg lock s else monTable m (monJudge m sn cfg lock s)
  s.putB (R.RMON_MON_STAT_WIN_FULL m)
    (decide (s.get (R.RMON_MON_MTIE_WIN_MTIE_WIN m) ≤ (s.mon m).hist.length) && tdevFull s m)

/-- Every monitor at a Stroke edge, on the snapshots published at the last one (01 R26). -/
def rmonEdge (snaps : Tbl Snap) (s : State) : State := (List.range 32).foldl (fun s m => monEdge m (tget {} snaps m) s) s

/-- An accepted step of delta d (2^-16 ns) shifts every history (04 R108). -/
def rmonStepShift (d : Int) (s : State) : State :=
  let dx := d / 64
  (List.range 32).foldl (fun s m =>
    let o := s.mon m
    if m < 16 then
      if s.flag (R.RMON_MON_CFG_FBASE m) then s
      else s.setMon m { o with origin := o.origin.map (fun e => (e.1 + d * 2 ^ 32, e.2)) }
    else
      let mv := fun (x : Samp) => { x with x := x.x - dx, t := x.t + d * 1024 }
      let s := s.setMon m { o with hist := o.hist.map (fun e => (e.1 - dx, e.2 + d * 1024)),
                                   xk := o.xk.map (fun e => (e.1 - dx, e.2 + d * 1024)),
                                   ivX := o.ivX.map (fun e => (e.1 - dx, e.2 + d * 1024)) }
      let s := s.put (R.RMON_MON_PHASE_PHASE m) (ofInt 32 (satI 32 ((o.xk.elim (s.getI (R.RMON_MON_PHASE_PHASE m)) (·.1)) - dx)))
      let sn := s.snap m
      let s := { s with clp := { s.clp with snaps := tset {} s.clp.snaps m { sn with samps := sn.samps.map mv } } }
      { s with rmon := { s.rmon with vin := tset [] s.rmon.vin m ((tget [] s.rmon.vin m).map mv) } }) s

/-- A re-epoch restarts every monitor with FBASE = 0 (04 R108). -/
def rmonReepoch (s : State) : State :=
  (List.range 32).foldl (fun s m =>
    if s.flag (R.RMON_MON_CFG_FBASE m) then s else s.setMon m { s.mon m with cfgForce := true }) s

/-! ## Quality received -/

/-- An ESMC PDU's codes taken by a lane's monitor (04 R117): info says whether it is an Information PDU, which also restarts the
5 s. -/
def esmcRx (lane ssm essm : Nat) (info : Bool) (s : State) : State :=
  match vMon s 3 lane with
  | none => s
  | some m =>
    if !s.flag (R.RMON_MON_CFG_QL_EN m) then s
    else
      let o := s.mon m
      s.setMon m { o with ssm := ssm, essm := essm, qlFail := if info then false else o.qlFail,
                          esmcAt := if info then s.strokes else o.esmcAt }

/-- The clockClass and clockAccuracy that a session or a link last announced (04 R119). -/
def qualityRx (vtype vidx cls acc : Nat) (s : State) : State :=
  match vMon s vtype vidx with
  | none => s
  | some m => s.setMon m { s.mon m with cls := cls, acc := acc }

/-! ## The commands -/

/-- INV_HOLD_TIMEOUT (04 R107): after 64 Strokes of only INV samples the monitor goes INVALID with cause INV. -/
def execInvHoldTimeout (m : Fin 32) (s : State) : Host.Outcome State Fault Refusal :=
  live s (if (s.mon m).invHold ∧ 64 ≤ (s.mon m).invRun ∧ ¬ tbit (s.get (R.RMON_MON_CAUSE_HARD m)) 8 then
      monGoPub m 0 (s.put (R.RMON_MON_CAUSE_HARD m) (withBit (s.get (R.RMON_MON_CAUSE_HARD m)) 8 true)) else s)

/-- VALIDATION_COMPLETE (04 R122): no cause of any kind, the validation timer at VAL_TIME, the TDEV window full. -/
def execValidationComplete (m : Fin 32) (s : State) : Host.Outcome State Fault Refusal :=
  live s (if s.get (R.RMON_MON_STAT_STATE m) = 1 ∧ s.get (R.RMON_MON_CAUSE_HARD m) = 0 ∧ s.get (R.RMON_MON_CAUSE_SOFT m) = 0
      ∧ s.get (R.RMON_MON_VAL_TIME_VAL_TIME m) < (s.mon m).val ∧ tdevFull s m ∧ ¬ (s.mon m).invHold then monGoPub m 2 s else s)

/-- CLEAR_TIME_COMPLETE (04 R122). -/
def execClearTimeComplete (m : Fin 32) (s : State) : Host.Outcome State Fault Refusal :=
  live s (if s.get (R.RMON_MON_STAT_STATE m) = 3 ∧ s.get (R.RMON_MON_CAUSE_HARD m) = 0 ∧ s.get (R.RMON_MON_CAUSE_SOFT m) = 0
      ∧ s.get (R.RMON_MON_CLR_TIME_CLR_TIME m) < (s.mon m).clr ∧ ¬ (s.mon m).invHold then monGoPub m 2 s else s)

/-- ESMC_TIMEOUT (04 R117): no Information PDU for 5 s. -/
def execEsmcTimeout (m : Fin 32) (s : State) : Host.Outcome State Fault Refusal :=
  live s (if s.get (R.RMON_MON_SRC_VTYPE m) = 3 ∧ s.flag (R.RMON_MON_CFG_QL_EN m) ∧ (s.mon m).esmcAt + 40000 ≤ s.strokes then
      s.setMon m { s.mon m with qlFail := true } else s)

end Sys2Proof.Machine
end

