-- ==== Sys2Proof/Machine/Sel.lean ====
section
/-! DEFINITION. SEL: the measurement stage and the Carillon (05 R140 to R148, R560), corroboration (R149 to R152) and the priority
tables (R127 to R139). -/

namespace Sys2Proof.Machine

/-- A reference as SEL holds it. -/
def State.ref (s : State) (m : Nat) : RefSt := tget {} s.sel.refs m

/-- A reference's record set. -/
def State.setRef (s : State) (m : Nat) (v : RefSt) : State := { s with sel := { s.sel with refs := tset {} s.sel.refs m v } }

/-- The monitor state published at the last edge. -/
def monE (s : State) (m : Nat) : Nat := s.getE (R.RMON_MON_STAT_STATE m)

/-- The corroboration status published at the last edge. -/
def corrE (s : State) (m : Nat) : Nat := s.getE (R.SEL_REF_FLAGS_CORR m)

/-! ## Measurement (05 R140 to R143) -/

/-- wrap_P into (−P/2, P/2] (05 R140). -/
def wrapP (p v : Int) : Int :=
  if p ≤ 0 then v
  else
    let r := v % p
    if p < 2 * r then r - p else r

/-- Is a reference of class TIME (05 R141)? -/
def classTime (s : State) (m : Nat) : Bool :=
  if m < 16 then stampedPeriod s m == 1000000000 * 2 ^ 26
  else
    let v := s.get (R.RMON_MON_SRC_VTYPE m)
    v == 1 || v == 4 || v == 5

/-- The sample that y rests on (05 R140): the last stamp of the snapshot, INV or not (SNAP_LAST), or the last sample that a virtual source delivered. -/
def lastSample (m : Nat) (sn : Snap) : Option Samp := (sn.samps.filter (fun x => decide (m < 16) || x.has)).getLast?

/-- The y of a sample, in 2^-10 ns, and its instant in 2^-26 ns (05 R140). -/
def sampleY (s : State) (m : Nat) (x : Samp) : Int × Int :=
  if m < 16 then
    let et := etTotal s.etm x.raw / 2 ^ 22
    (-(wrapP (stampedPeriod s m) et) / 65536, et)
  else (x.x, x.t)

/-- Wrap in 2^-10 ns for a physical reference; none for a virtual one (05 R146). -/
def wrapRef (s : State) (m : Nat) (v : Int) : Int :=
  if m < 16 then wrapP (stampedPeriod s m) (v * 65536) / 65536 else v

/-- The Carillon frequency over the window held (05 R142), 2^-44. -/
def carFreq (hist : List (Nat × Int × Int)) : Int :=
  match hist.head?, hist.getLast? with
  | some a, some b => if b.2.1 < a.2.1 then satI 32 (roundDiv ((a.2.2 - b.2.2) * 65536 * 2 ^ 44) (a.2.1 - b.2.1)) else 0
  | _, _ => 0

/-- The measurement of one reference at an edge (05 R140 to R142), on the snapshot published at the last one. -/
def selMeasure (m : Nat) (sn : Snap) (s : State) : State :=
  let o := s.ref m
  let s := s.putB (R.SEL_REF_FLAGS_CLASS m) (classTime s m)
  if monE s m = 0 then
    ((s.setRef m { o with y := none, hist := [], since := none, age := 0 }).put (R.SEL_REF_FLAGS_MEASURED m) 0).put
      (R.SEL_REF_FLAGS_F_FULL m) 0
  else
    let fwin := s.get R.SEL_CAR_FWIN_FWIN
    let o1 := match lastSample m sn with
      | none => { o with age := o.age + 1, hist := o.hist.filter (fun e => decide (s.strokes ≤ e.1 + fwin)) }
      | some x =>
        let v := sampleY s m x
        let y := match o.y with
          | none => v.1
          | some p => if m < 16 then p + wrapRef s m (v.1 - p) else v.1
        let hist := ((s.strokes, v.2, y) :: o.hist).filter (fun e => decide (s.strokes ≤ e.1 + fwin))
        { o with y := some y, lastRaw := x.raw, age := 0, hist := hist, since := some (o.since.getD s.strokes) }
    let f := carFreq o1.hist
    let full := s.flag (R.SEL_REF_FLAGS_F_FULL m) || (match o1.since, o1.hist.head? with
      | some k, some e => decide (k + fwin ≤ e.1)
      | _, _ => false)
    let y := ofInt 64 (satI 48 (o1.y.getD 0))
    let s := (s.setRef m o1).put (R.SEL_REF_FLAGS_MEASURED m) 1
    let s := (s.put (R.SEL_REF_FREQ_F_M m) (ofInt 32 f)).putB (R.SEL_REF_FLAGS_F_FULL m) full
    wrWord (wrWord s (R.SEL_REF_Y_LO_Y m).addr (wordOf y 0)) (R.SEL_REF_Y_HI_Y m).addr (wordOf y 1)

/-- An accepted step of delta d (2^-16 ns) shifts y and E (05 R143). -/
def selStepShift (d : Int) (s : State) : State :=
  let dx := d / 64
  let s := (List.range 32).foldl (fun s m =>
    let o := s.ref m
    let s := s.setRef m { o with y := o.y.map (· - dx), hist := o.hist.map (fun e => (e.1, e.2.1 + d * 1024, e.2.2 - dx)) }
    if o.y.isSome then
      let y := ofInt 64 (satI 48 ((o.y.getD 0) - dx))
      wrWord (wrWord s (R.SEL_REF_Y_LO_Y m).addr (wordOf y 0)) (R.SEL_REF_Y_HI_Y m).addr (wordOf y 1)
    else s) s
  if s.get R.SEL_CAR_STAT_N_MEM = 0 then s
  else
    let e := ofInt 64 (s.get2I 48 R.SEL_CAR_E_LO_E R.SEL_CAR_E_HI_E - dx)
    wrWord (wrWord s R.SEL_CAR_E_LO_E.addr (wordOf e 0)) R.SEL_CAR_E_HI_E.addr (wordOf e 1)

/-! ## The estimator (05 R144 to R147, R560) -/

/-- E published at the last edge. -/
def carE (s : State) : Int := toInt 48 (s.getE2 R.SEL_CAR_E_LO_E R.SEL_CAR_E_HI_E)

/-- z of a reference under an offset, brought to the edge (05 R145). -/
def carZ (s : State) (m : Nat) (c : Int) : F32 :=
  let o := s.ref m
  let drift := fround (s.getEI (R.SEL_REF_FREQ_F_M m) * o.age * 128000000) 1 (-44)
  (F32.ofI ((o.y.getD 0) - c)).add drift

/-- s2 with a residual averaged in, or set from it where unset (05 R145, R560). -/
def s2Next (s2 : Option F32) (r : F32) (tc : Nat) : Option F32 :=
  match s2 with
  | none => some (r.mul r)
  | some v => some (v.add (((r.mul r).sub v).mul { m := 1, e := -(tc : Int) }))

/-- The sum of a list in order. -/
def fsum (l : List F32) : F32 := l.foldl F32.add {}

/-- v of each member from its s2, an unset one counting as the mean of those set, or 1 (05 R145, R560). -/
def carV (l : List (Option F32)) : List F32 :=
  let have' := l.filterMap id
  let mean := if have'.isEmpty then F32.ofI 1 else (fsum have').div (F32.ofI have'.length)
  l.map (fun x =>
    let v := x.getD mean
    (F32.ofI 1).div (if v.lt (F32.ofI 1) then F32.ofI 1 else v))

/-- The cap of weights (05 R145): each weight above it is fixed at it and the rest shared in proportion to v. fuel: the
members. -/
def carCap (cap : F32) : Nat → List (F32 × F32 × Bool) → List F32
  | 0, l => l.map (·.2.1)
  | fuel + 1, l =>
    if l.any (fun x => !x.2.2 && cap.lt x.2.1) then
      let l1 := l.map (fun x => if !x.2.2 && cap.lt x.2.1 then (x.1, cap, true) else x)
      let rest := (F32.ofI 1).sub (fsum ((l1.filter (·.2.2)).map (·.2.1)))
      let tot := fsum ((l1.filter (fun x => !x.2.2)).map (·.1))
      carCap cap fuel (l1.map (fun x => if x.2.2 then x else (x.1, (rest.mul x.1).div tot, false)))
    else l.map (·.2.1)

/-- The weights of the members from their s2 (05 R145). -/
def carWeights (wmax : Nat) (l : List (Option F32)) : List F32 :=
  let n := l.length
  if n * wmax < 256 then l.map (fun _ => (F32.ofI 1).div (F32.ofI n))
  else
    let v := carV l
    let tot := fsum v
    carCap (fround wmax 256 0) (n + 1) (v.map (fun x => (x, x.div tot, false)))

/-- The members in ascending index. -/
def carMembers (s : State) : List Nat := (List.range 32).filter (fun m => (s.ref m).member)

/-- The weighted sum of a list over weights, in order. -/
def wsum (w z : List F32) : F32 := fsum (List.zipWith F32.mul w z)

/-- The members' s2 updated by a run (05 R145), from the weights that they gave at its start. -/
def carS2 (tc wmax : Nat) (z : List F32) (s2 : List (Option F32)) : List (Option F32) :=
  if z.length < 2 then s2
  else
    let w := carWeights wmax s2
    (List.range z.length).map (fun i =>
      let acc := fsum ((List.range z.length).filterMap (fun j =>
        if j = i then none else some ((w.getD j {}).mul (z.getD j {}))))
      let e := acc.div ((F32.ofI 1).sub (w.getD i {}))
      s2Next (s2.getD i none) ((z.getD i {}).sub e) tc)

/-- A non-member's running s2 (05 R145, R560): formed while it is a candidate under 05 R144 (its bit in SEL_CAR_MASK, measured, VALID and CLEAR) and the ensemble is not
empty. DESIGN CHOICE (log entry 16): a first measurement with an empty ensemble takes its provisional offset against the E that then reads 0. -/
def candUpdate (m : Nat) (empty : Bool) (tc : Nat) (s : State) : State :=
  let o := s.ref m
  if o.member then s
  else if o.y.isNone || o.vc == 0 || !tbit (s.get R.SEL_CAR_MASK_MASK) m then s.setRef m { o with prov := none, s2 := none }
  else
    let c := if classTime s m then 0 else o.prov.getD (o.y.getD 0 - carE s)
    let s2 := if empty then o.s2 else s2Next o.s2 ((carZ s m c).sub (F32.ofI (carE s))) tc
    s.setRef m { o with prov := some c, s2 := s2 }

/-- A reference's c published, held outside SOLVER_B (05 R147). -/
def cPublish (m : Nat) (s : State) : State :=
  (s.put (R.SEL_REF_C_OFF_C_OFF m) (ofInt 32 (satI 32 ((s.ref m).c.getD 0)))).putB (R.SEL_REF_FLAGS_C_VALID m)
    (!classTime s m && (s.ref m).c.isSome)

/-- c lost (05 R147): a FREQ reference without it has no valid deviation (R146). -/
def cLost (m : Nat) (s : State) : State :=
  let s := cPublish m s
  if !classTime s m && (s.ref m).c.isNone then (s.put (R.SEL_REF_FLAGS_DEV_VALID m) 0).put (R.SEL_REF_DEV_DEV m) 0 else s

/-- A measured reference's deviations published (05 R146). -/
def carDev (m : Nat) (e f : Int) (any : Bool) (w : Option F32) (s : State) : State :=
  let o := s.ref m
  let y := o.y.getD 0
  let t := classTime s m
  let dv := any && o.y.isSome && (t || o.c.isSome)
  let dev := if !dv then 0 else if t then y - e else wrapRef s m (y - o.c.getD 0 - e)
  let fdev := if any then s.getEI (R.SEL_REF_FREQ_F_M m) - f else 0
  let sig := match o.s2 with | some v => satW 32 (isqrt v.floor.toNat) | none => 0
  let s := (s.put (R.SEL_REF_DEV_DEV m) (ofInt 32 (satI 32 dev))).put (R.SEL_REF_FDEV_FDEV m) (ofInt 32 (satI 32 fdev))
  let s := cPublish m (s.put (R.SEL_REF_SIGMA_SIGMA m) sig)
  let s := (s.putB (R.SEL_REF_FLAGS_DEV_VALID m) dv).putB (R.SEL_REF_FLAGS_MEMBER m) o.member
  s.put (R.SEL_REF_FLAGS_WEIGHT m) (match w with | some v => satW 16 (v.toI 16).toNat | none => 0)

/-- A run of the estimator (05 R145, R146, R560): the values of the last edge in, the new estimate published. -/
def carRun (s : State) : State :=
  let tc := s.get R.SEL_CAR_CFG_CAR_TC
  let wmax := s.get R.SEL_CAR_CFG_W_MAX
  let ms := carMembers s
  let z := ms.map (fun m => carZ s m (if classTime s m then 0 else (s.ref m).c.getD 0))
  let s2 := carS2 tc wmax z (ms.map (fun m => (s.ref m).s2))
  let s := (List.range 32).foldl (fun s m => candUpdate m ms.isEmpty tc s) s
  let s := (List.zip ms s2).foldl (fun s p => s.setRef p.1 { s.ref p.1 with s2 := p.2 }) s
  let w := carWeights wmax s2
  let e := (wsum w z).toI 0
  let f := satI 32 ((wsum w (ms.map (fun m => F32.ofI (s.getEI (R.SEL_REF_FREQ_F_M m))))).toI 0)
  let s := s.put R.SEL_CAR_STAT_N_MEM ms.length
  let s := s.put R.SEL_CAR_STAT_N_TIME (ms.filter (classTime s)).length
  let s := s.put R.SEL_CAR_MEMBERS_MEMBERS (ms.foldl (fun a m => a + 2 ^ m) 0)
  let ew := ofInt 64 (satI 48 e)
  let s := wrWord (wrWord s R.SEL_CAR_E_LO_E.addr (wordOf ew 0)) R.SEL_CAR_E_HI_E.addr (wordOf ew 1)
  let s := s.put R.SEL_CAR_F_F (ofInt 32 f)
  (List.range 32).foldl (fun s m =>
    if s.flagE (R.SEL_REF_FLAGS_MEASURED m) then
      carDev m e f (!ms.isEmpty) ((List.zip ms w).lookup m) s
    else
      let s := ((s.put (R.SEL_REF_DEV_DEV m) 0).put (R.SEL_REF_FDEV_FDEV m) 0).put (R.SEL_REF_FLAGS_WEIGHT m) 0
      let s := s.put (R.SEL_REF_SIGMA_SIGMA m) (match (s.ref m).s2 with | some v => satW 32 (isqrt v.floor.toNat) | none => 0)
      cPublish m ((s.put (R.SEL_REF_FLAGS_DEV_VALID m) 0).putB (R.SEL_REF_FLAGS_MEMBER m) (s.ref m).member)) s

/-- The estimator's run on the y and the ages of its start edge (05 R145); the members are those left after this edge (05 R144). -/
def carTask (s : State) : State :=
  let live := s.sel.refs
  let t := carRun ((List.range 32).foldl (fun s m =>
    let i := tget {} s.sel.carIn m
    s.setRef m { s.ref m with y := i.y, age := i.age }) s)
  (List.range 32).foldl (fun s m =>
    let o := tget {} live m
    s.setRef m { s.ref m with y := o.y, age := o.age }) t

/-- Is a reference due to join: a candidate that has waited CAR_JOIN Strokes (05 R144)? None joins while SOLVER_B is down (05 R147). -/
def joinDue (s : State) (m : Nat) : Bool :=
  let o := s.ref m
  !o.member && !unitDown s .solverB && tbit (s.get R.SEL_CAR_MASK_MASK) m && o.y.isSome && decide (s.get R.SEL_CAR_CFG_CAR_JOIN ≤ o.vc)

/-- Does candidate a join before b: the smaller s2, unset last, then the index (05 R144)? -/
def joinsFirst (s : State) (a b : Nat) : Bool :=
  match (s.ref a).s2, (s.ref b).s2 with
  | some x, some y => x.lt y || (!y.lt x && decide (a < b))
  | some _, none => true
  | none, some _ => false
  | none, none => decide (a < b)

/-- A candidate joins where a place is free for it (05 R144, R145). -/
def carJoin (m : Nat) (s : State) : State :=
  let ms := carMembers s
  let ahead := (List.range 32).filter (fun k => k != m && joinDue s k && joinsFirst s k m)
  if joinDue s m && decide (ms.length + ahead.length < 16) then
    let o := s.ref m
    let c := if classTime s m then o.c else some (o.y.getD 0 - (if ms.isEmpty then 0 else carE s))
    s.setRef m { o with member := true, c := c, prov := none }
  else s

/-! ## Corroboration (05 R149 to R152) -/

/-- The test of R151 with the values published at the last edge: none is neither pass nor failure; else 0 passes, or the reason. -/
def corrTest (s : State) (m : Nat) : Option Nat :=
  let o := s.ref m
  let y := toInt 48 (s.getE2 (R.SEL_REF_Y_LO_Y m) (R.SEL_REF_Y_HI_Y m))
  let e := carE s
  let mem := s.getE R.SEL_CAR_MEMBERS_MEMBERS
  let others := (List.range 32).filter (fun k => k != m && tbit mem k)
  let thr : Int := s.get R.SEL_CORR_THR_CORR_THR
  let full := s.flagE (R.SEL_REF_FLAGS_F_FULL m)
  let fd := fun (f' : Int) => decide ((s.getEI (R.SEL_REF_FREQ_F_M m) - f').natAbs ≤ s.get R.SEL_CORR_FTHR_CORR_FTHR)
  let f := s.getEI R.SEL_CAR_F_F
  if classTime s m then
    if others.any (fun k => classTime s k) then (if ((y - e).natAbs : Int) ≤ thr then some 0 else some 1)
    else if s.flagE (R.BND_SET_BOUND_W3_UNBOUNDED 0) then some 5
    else
      let lower : Int := s.getE (R.BND_SET_BOUND_W0_LOWER 0) + s.getE (R.BND_SET_BOUND_W1_LOWER 0) * 2 ^ 32
      let upper : Int := s.getE (R.BND_SET_BOUND_W1_UPPER 0) + s.getE (R.BND_SET_BOUND_W2_UPPER 0) * 2 ^ 16
      if -upper - thr * 64 ≤ y * 64 ∧ y * 64 ≤ lower + thr * 64 then some 0 else some 2
  else match o.c, others.isEmpty with
    | some c, false =>
      if thr < (wrapRef s m (y - c - e)).natAbs then some 1
      else if !fd f then some 3
      else if full then some 0 else none
    | _, _ => if !fd (if others.isEmpty then 0 else f) then some 3 else if full then some 0 else none

/-- A reference's corroboration status set, published in both places. -/
def corrPut (m v : Nat) (s : State) : State :=
  (s.put (R.SEL_REF_FLAGS_CORR m) v).put ⟨0x050030 + 4 * (m / 16), 2 * (m % 16) + 1, 2 * (m % 16)⟩ v

/-- A reference enters DISPUTED (05 R150). -/
def corrDispute (m why : Nat) (s : State) : State :=
  let s := (corrPut m 2 s).put (R.SEL_REF_FLAGS_CORR_WHY m) why
  logRec 0x162 [m, why] (raiseEvt R.SEL_EVT_DISPUTED 47 s)

/-- A reference reaches CLEAR (05 R150): from DISPUTED with the event. -/
def corrDone (m : Nat) (s : State) : State :=
  let was := s.get (R.SEL_REF_FLAGS_CORR m)
  let s := corrPut m 0 s
  if was = 2 then raiseEvt R.SEL_EVT_CORROBORATED 47 s else s

/-- A reference reaches CLEAR by its count (05 R150): from DISPUTED with the record. -/
def corrClear (m : Nat) (s : State) : State :=
  let was := s.get (R.SEL_REF_FLAGS_CORR m)
  let s := corrDone m s
  if was = 2 then logRec 0x164 [m, s.get (R.SEL_REF_FLAGS_CORR_WHY m)] s else s

/-- Does the count reach CORR_TIME at this edge (05 R150): a test that is made and passes? -/
def corrFull (s : State) (m : Nat) : Bool :=
  !s.flagE R.SEL_CAR_STAT_STALE && (s.ref m).y.isSome && corrTest s m == some 0 && decide (s.get R.SEL_CORR_TIME_CORR_TIME ≤ (s.ref m).cnt + 1)

/-- A reference accepted by a Custodian (05 R150, R152). With its count complete at the same edge it is corroborated. -/
def corrAccept (m : Nat) (s : State) : State :=
  let full := corrFull s m
  let s := corrDone m { s with bnd := { s.bnd with accepted := withBit s.bnd.accepted m true } }
  logRec (if full then 0x164 else 0x163) [m, s.get (R.SEL_REF_FLAGS_CORR_WHY m)] s

/-- The corroboration table at an edge (05 R150), but for the step that completes the count. -/
def corrEdge (m : Nat) (s : State) : State :=
  let o := s.ref m
  let mon := monE s m
  let acc := tbit s.sel.accept m
  let stale := s.flagE R.SEL_CAR_STAT_STALE
  let s := s.setRef m { o with prevMon := mon }
  let o := s.ref m
  match corrE s m with
  | 0 => s
  | 1 =>
    if mon = 0 then s.setRef m { o with cnt := 0 }
    else if acc then corrAccept m s
    else if stale then corrDispute m 4 s
    else if o.y.isNone then s
    else match corrTest s m with
      | none => s
      | some 0 => s.setRef m { o with cnt := o.cnt + 1 }
      | some w => corrDispute m w (s.setRef m { o with cnt := 0 })
  | _ =>
    if mon = 0 then s.setRef m { o with cnt := 0 }
    else if acc then corrAccept m s
    else if stale || o.y.isNone then s
    else match corrTest s m with
      | none => s
      | some 0 => s.setRef m { o with cnt := o.cnt + 1 }
      | some w => (s.setRef m { o with cnt := 0 }).put (R.SEL_REF_FLAGS_CORR_WHY m) w

/-- The first row of the table (05 R150): a monitor publishes VALIDATING after INVALID in a locked era. -/
def corrStart (m : Nat) (before : Nat) (s : State) : State :=
  if corrE s m = 0 ∧ before = 0 ∧ monE s m = 1 ∧ s.flagE R.SEL_ERA_ERA_LOCKED then
    corrPut m 1 (s.setRef m { s.ref m with cnt := 0 })
  else s

/-! ## Membership at an edge, and the eras (05 R144, R147, R149) -/

/-- The count of Strokes VALID and CLEAR, and a member's leaving (05 R144). While SOLVER_B is down nobody counts (05 R147). DESIGN CHOICE (log entry 16): a reference that
leaves VALID or CLEAR loses its s2 and its provisional offset with its place. -/
def carKeep (m : Nat) (s : State) : State :=
  let o := s.ref m
  if monE s m = 2 ∧ ¬ unitDown s .solverB ∧ corrE s m = 0 ∧ o.y.isSome then s.setRef m { o with vc := satW 32 (o.vc + 1) }
  else s.setRef m { o with vc := 0, member := false, prov := none, s2 := none }

/-- A monitor's restart with cause CFG drops c (05 R147). -/
def carCfg (m : Nat) (s : State) : State :=
  if tbit (s.getE (R.RMON_MON_CAUSE_HARD m)) 7 ∧ (s.ref m).c.isSome then cLost m (s.setRef m { s.ref m with c := none }) else s

/-- A new era (05 R147, R149): y and E as they are published at its edge. -/
def selNewEra (s : State) : State :=
  let e := s.get2I 48 R.SEL_CAR_E_LO_E R.SEL_CAR_E_HI_E
  let s := (List.range 32).foldl (fun s m =>
    let o := s.ref m
    let c := if o.member && !classTime s m then some (o.y.getD 0 - e) else if classTime s m then o.c else none
    corrPut m 0 (cLost m (s.setRef m { o with c := c, cnt := 0 }))) s
  s.put R.SEL_ERA_ERA_LOCKED 0

/-! ## Tables (05 R127 to R139) -/

/-- Does entry k of channel c count: enabled, and no enabled entry at a lower position names its reference (05 R127)? -/
def entryCounts (s : State) (c k : Nat) : Bool :=
  s.flagE (R.SEL_TCH_ENTRY_EN c k) &&
    !(List.range k).any (fun j => s.flagE (R.SEL_TCH_ENTRY_EN c j) && s.getE (R.SEL_TCH_ENTRY_REF c j) == s.getE (R.SEL_TCH_ENTRY_REF c k))

/-- The entry of channel c that counts for reference r. -/
def entryOf (s : State) (c r : Nat) : Option Nat :=
  (List.range 32).find? (fun k => s.getE (R.SEL_TCH_ENTRY_REF c k) == r && entryCounts s c k)

/-- Eligible (05 R129). -/
def eligible (s : State) (c r : Nat) : Bool :=
  (entryOf s c r).isSome && (monE s r == 2 || monE s r == 3) && (c != 0 || corrE s r == 0)

/-- The rank of a reference in a channel's table; 16 where it has none. -/
def rankOf (s : State) (c r : Nat) : Nat := (entryOf s c r).elim 16 (fun k => s.getE (R.SEL_TCH_ENTRY_RANK c k))

/-- The members of a group with its lowest rank. -/
def lowestRank (s : State) (c : Nat) (g : List Nat) : List Nat :=
  let m := g.foldl (fun a r => min a (rankOf s c r)) 16
  g.filter (fun r => rankOf s c r == m)

/-- max f − min f over the members whose f is full; 0 with fewer than two (05 R136). -/
def spreadOf (s : State) (g : List Nat) : Nat :=
  let f := (g.filter (fun r => s.flagE (R.SEL_REF_FLAGS_F_FULL r))).map (fun r => s.getEI (R.SEL_REF_FREQ_F_M r))
  match f with
  | [] => 0
  | x :: l => (l.foldl max x - l.foldl min x).toNat

/-- What pick answers (05 R136): the reference, whether DISAGREE is raised, whether DIS_HOLD is set. -/
structure Pick where
  ref : Nat
  disagree : Bool := false
  hold : Bool := false
  deriving DecidableEq, Repr

/-- The member of a group closest in frequency to F, the lower index on a tie. -/
def nearestF (s : State) (g : List Nat) : Nat :=
  let d := fun r => (s.getEI (R.SEL_REF_FREQ_F_M r) - s.getEI R.SEL_CAR_F_F).natAbs
  (g.foldl (fun (b : Option Nat) r => match b with
    | none => some r
    | some x => if d r < d x then some r else some x) none).getD 0

/-- pick (05 R136, R137); g in ascending index, not empty. -/
def pickRef (s : State) (c : Nat) (g : List Nat) : Pick :=
  let first := g.headD 0
  let h := g.filter (fun r => s.flagE (R.SEL_REF_FLAGS_F_FULL r))
  let thr := s.getE (R.SEL_TCH_DIS_FTHR_DIS_FTHR c)
  let nvalid := ((List.range 32).filter (fun m => tbit (s.getE R.SEL_CAR_MEMBERS_MEMBERS) m && monE s m == 2)).length
  if g.length ≤ 1 then { ref := first }
  else if s.flagE R.SEL_CAR_STAT_STALE then { ref := first, disagree := true }
  else if 0 < thr ∧ thr < spreadOf s g then
    (if 3 ≤ nvalid then { ref := nearestF s h, hold := true } else { ref := first, disagree := true, hold := true })
  else { ref := first }

/-- A channel's choice at an edge (05 R131): the selection (none 63), the cause where it is a change, and the pick. -/
structure Choice where
  sel : Nat
  cause : Nat
  pick : Pick
  group : List Nat
  deriving DecidableEq, Repr

/-- The cause of leaving cur (05 R135). -/
def causeOf (s : State) (c cur : Nat) : Nat :=
  if cur = 63 then 1
  else if (entryOf s c cur).isNone then 2
  else if monE s cur ≤ 1 ∨ (c = 0 ∧ corrE s cur ≠ 0) then 3
  else 4

/-- A choice by pick from a group. -/
def choosePick (s : State) (c cause : Nat) (g : List Nat) : Choice :=
  let l := lowestRank s c g
  let p := pickRef s c l
  { sel := p.ref, cause := cause, pick := p, group := l }

/-- The choice of R131. -/
def selChoose (s : State) (c : Nat) : Choice :=
  let cur := s.getE (R.SEL_TCH_STAT_SELECTED c)
  let el := (List.range 32).filter (eligible s c)
  let v := el.filter (fun r => monE s r == 2)
  let sus := el.filter (fun r => monE s r == 3)
  let cand := if v.isEmpty then sus else v
  let keep : Choice := { sel := cur, cause := 0, pick := { ref := cur }, group := [] }
  let fr := s.getE (R.SEL_TCH_CTL_FORCE_REF c)
  let done := fun r => (entryOf s c r).elim false (fun k => tbit (s.getE (R.SEL_TCH_WTR_DONE_WTR_DONE c)) k)
  let better := cand.filter (fun r => decide (rankOf s c r < rankOf s c cur) && done r)
  let revert := s.flagE (R.SEL_TCH_CTL_REVERT c) && !better.isEmpty
  if s.flagE (R.SEL_TCH_CTL_FORCE_EN c) && el.contains fr then { sel := fr, cause := 6, pick := { ref := fr }, group := [] }
  else if cand.isEmpty then { sel := 63, cause := 7, pick := { ref := 63 }, group := [] }
  else if cand.contains cur || (sus.contains cur && s.flagE (R.SEL_TCH_STAT_DIS_HOLD c)) then
    (if revert then choosePick s c 5 better else keep)
  else choosePick s c (causeOf s c cur) cand

/-- DISAGREE raised (05 R138). -/
def selDisagree (c : Nat) (g : List Nat) (s : State) : State :=
  let s := raiseEvt (R.SEL_EVT_DISAGREE.bitAt c) (39 + c) s
  logRec 0x161 ([c, g.length, 0, 0] ++ leBytes 4 (g.foldl (fun a m => a + 2 ^ m) 0) ++ leBytes 4 (s.getE R.SEL_CAR_F_F)
    ++ (g.map (fun m => leBytes 4 (s.getE (R.SEL_REF_FREQ_F_M m)))).flatten) s

/-- Does DIS_HOLD clear (05 R139)? -/
def disClear (s : State) (c cur : Nat) : Bool :=
  let el := (List.range 32).filter (eligible s c)
  let grp := el.filter (fun r => rankOf s c r == rankOf s c cur)
  !(grp.any (fun r => r != cur)) || decide (4 * spreadOf s grp ≤ 3 * s.getE (R.SEL_TCH_DIS_FTHR_DIS_FTHR c))

/-- A channel's selection at an edge (05 R128, R131 to R139). -/
def selChannel (c : Nat) (s : State) : State :=
  let cur := s.getE (R.SEL_TCH_STAT_SELECTED c)
  let ch := selChoose s c
  let forced := s.flagE (R.SEL_TCH_CTL_FORCE_EN c) && !eligible s c (s.getE (R.SEL_TCH_CTL_FORCE_REF c))
  let s := s.putB (R.SEL_TCH_STAT_FORCE_IGN c) forced
  let s := s.put (R.SEL_TCH_TBL_ERR_TBL_ERR c)
    ((List.range 32).foldl (fun a k => a + bit (s.flagE (R.SEL_TCH_ENTRY_EN c k) && !entryCounts s c k) * 2 ^ k) 0)
  let changed := ch.sel != cur
  let hold := if changed then ch.pick.hold else s.flagE (R.SEL_TCH_STAT_DIS_HOLD c) && !disClear s c cur
  let s := s.putB (R.SEL_TCH_STAT_DIS_HOLD c) hold
  let s := s.putB (R.SEL_TCH_STAT_TIER c) (decide (ch.sel < 32) && monE s ch.sel == 3)
  let s := if ch.pick.disagree then selDisagree c ch.group s else s
  let s := if c = 0 ∧ ch.sel ≠ 63 then s.put R.SEL_ERA_ERA_LOCKED 1 else s
  if changed then
    let s := (s.put (R.SEL_TCH_STAT_SELECTED c) ch.sel).put (R.SEL_TCH_STAT_SW_CAUSE c) ch.cause
    let s := s.put (R.SEL_TCH_STAT_SW_SEQ c) ((s.get (R.SEL_TCH_STAT_SW_SEQ c) + 1) % 65536)
    logRec 0x160 [c, cur, ch.sel, ch.cause] (raiseEvt (R.SEL_EVT_SWITCH.bitAt c) (31 + c) s)
  else s

/-- The wait-to-restore timers of a channel at an edge (05 R132); a timer below WTR clears its WTR_DONE bit. -/
def wtrEdge (c : Nat) (s : State) : State :=
  (List.range 32).foldl (fun s k =>
    let r := s.getE (R.SEL_TCH_ENTRY_REF c k)
    let up := eligible s c r && monE s r == 2
    let t := if up then satW 32 (tget 0 s.sel.timers (c * 32 + k) + 1) else 0
    let s := { s with sel := { s.sel with timers := tset 0 s.sel.timers (c * 32 + k) t } }
    if t < s.get (R.SEL_TCH_WTR_WTR c) then s.put ((R.SEL_TCH_WTR_DONE_WTR_DONE c).bitAt k) 0 else s) s

/-- A write to an entry restarts its timer (05 R127). -/
def wtrRestart (c k : Nat) (s : State) : State :=
  { s with sel := { s.sel with timers := tset 0 s.sel.timers (c * 32 + k) 0 } }.put ((R.SEL_TCH_WTR_DONE_WTR_DONE c).bitAt k) 0

/-- SEL at a Stroke edge (05 R128), on the snapshots published at the last one. -/
def selEdge (snaps : Tbl Snap) (s : State) : State :=
  let before := s.sel.refs
  let s := (List.range 8).foldl (fun s c => wtrEdge c (selChannel c s)) s
  let s := (List.range 32).foldl (fun s m =>
    carKeep m (carCfg m (corrEdge m (corrStart m (tget {} before m).prevMon s)))) s
  let s := (List.range 32).foldl (fun s m => selMeasure m (tget {} snaps m) s) s
  { s with sel := { s.sel with accept := 0 } }

/-- What SEL shows of the estimate (01 R30, R31; 05 R146), after what is published at the edge. -/
def selStat (s : State) : State :=
  let stale := outputStale s .carillon
  let s := (s.putB R.SEL_CAR_STAT_STALE stale).put R.SEL_CAR_STAT_AGE (satW 16 (taskAge s .carillon))
  let ok := !stale && decide (0 < s.get R.SEL_CAR_STAT_N_MEM)
  let s := s.putB R.SEL_CAR_STAT_EST_VALID ok
  if ok then s else (List.range 32).foldl (fun s m => s.put (R.SEL_REF_FLAGS_DEV_VALID m) 0) s

/-- SEL_ACCEPT written (05 R152): the bits wait for the edge. -/
def acceptReq (v : Nat) (s : State) : State := { s with sel := { s.sel with accept := s.sel.accept ||| v } }

/-! ## The commands -/

/-- WTR_EXPIRE (05 R132): the timer of entry k of channel c has reached WTR. -/
def execWtrExpire (c : Fin 8) (k : Fin 32) (s : State) : Host.Outcome State Fault Refusal :=
  live s (if s.get (R.SEL_TCH_WTR_WTR c) ≤ tget 0 s.sel.timers (c * 32 + k) then
      s.pub ((R.SEL_TCH_WTR_DONE_WTR_DONE c).bitAt k) 1 else s)

/-- CARILLON_ESTIMATE (05 R145): SOLVER_B's one-Stroke task has worked out the estimate; carTask is published at the edge that ends its period. -/
def execCarillonEstimate (s : State) : Host.Outcome State Fault Refusal := live s (taskHand .carillon s)

/-- CAR_JOIN_EXPIRE (05 R144). -/
def execCarJoinExpire (m : Fin 32) (s : State) : Host.Outcome State Fault Refusal := live s (carJoin m s)

/-- CORROBORATED (05 R150): the passing count has reached CORR_TIME. -/
def execCorroborated (m : Fin 32) (s : State) : Host.Outcome State Fault Refusal :=
  live s (if s.get (R.SEL_REF_FLAGS_CORR m) ≠ 0 ∧ s.get R.SEL_CORR_TIME_CORR_TIME ≤ (s.ref m).cnt ∧ 0 < (s.ref m).cnt then
      let t := corrClear m s
      { t with edge := (t.pub (R.SEL_REF_FLAGS_CORR m) 0).edge } else s)

/-- ACCEPT (05 R152): of reference m, at the next edge. -/
def execSelAccept (m : Fin 32) (s : State) : Host.Outcome State Fault Refusal := live s (acceptReq (2 ^ m.val) s)

end Sys2Proof.Machine
end

