-- ==== Sys2Proof/Machine/Bnd.lean ====
section
/-! DEFINITION. BND: the bound sets, their terms and bases (06 R155 to R170, R173), the figures served (R176, R177), the targets (R179)
and the reflexes on published bounds (R168, R489). Terms and sums are held in 2^-48 ns (R160). -/

namespace Sys2Proof.Machine

/-- A bound set. -/
def State.bset (s : State) (k : Nat) : BndSet := tget {} s.bnd.sets k

/-- A bound set's own state set. -/
def State.setBset (s : State) (k : Nat) (v : BndSet) : State := { s with bnd := { s.bnd with sets := tset {} s.bnd.sets k v } }

/-- What session or path pair feeds a virtual reference, as an index of ups. -/
def upsIdx (s : State) (m : Nat) : Nat :=
  s.getE (R.RMON_MON_SRC_VIDX m) + (if s.getE (R.RMON_MON_SRC_VTYPE m) = 5 then 4096 else 0)

/-- The upstream data of a reference. -/
def upsOf (s : State) (m : Nat) : UpInfo := tget {} s.bnd.ups (upsIdx s m)

/-! ## clockAccuracy (06 R177) -/

/-- The limits of R177 from code 0x17 on, in 0.5 ps. -/
def accLimits : List Nat := ((List.range 25).map (fun i => 10 ^ (i / 2) * (if i % 2 = 1 then 5 else 2))) ++ [2 * 10 ^ 13]

/-- The limit of an announced code in 2^-48 ns, rounded up, where it has one. -/
def accLimit (code : Nat) : Option Nat := if code < 0x17 then none else (accLimits[code - 0x17]?).map (fun l => (l * 2 ^ 48 + 1999) / 2000)

/-- The lowest code whose limit is at least M, in 2^-16 ns (06 R177). -/
def accCode (m : Nat) (unb : Bool) : Nat :=
  if unb then 0xFE
  else match accLimits.findIdx? (fun l => decide (m * 2000 ≤ l * 65536)) with
    | some i => 0x17 + i
    | none => 0x31

/-! ## Declaration and trace (06 R156, R161) -/

/-- Has a session's TLV arrived within the last 3 Announce intervals (06 R161)? -/
def tlvFresh (s : State) (u : UpInfo) : Bool := u.bound.isSome && decide (s.now ≤ u.taken + 3 * u.annStrokes * 31250)

/-- Does the announced accuracy declare a session (06 R161)? -/
def accDeclares (u : UpInfo) : Bool := u.acc != 0xFE && u.acc != 0x31 && (accLimit u.acc).isSome

/-- Is a TIME reference declared (06 R161)? -/
def declared (s : State) (m : Nat) : Bool :=
  if m < 16 then s.flagE (R.BND_REF_FLAGS_SRC_DECL m)
  else
    let u := upsOf s m
    match s.getE (R.RMON_MON_SRC_VTYPE m), u.bound with
    | 1, _ => true
    | 4, some b => !b.2.2
    | 4, none => accDeclares u
    | 5, some b => !b.2.2
    | _, _ => false

/-- The trace of a TIME reference (06 R156): kind and ID. -/
def traceOf (s : State) (m : Nat) : Nat × Nat :=
  if m < 16 then (2, m)
  else match s.getE (R.RMON_MON_SRC_VTYPE m) with
    | 1 => (1, 0)
    | 4 => (3, s.getE (R.RMON_MON_SRC_VIDX m))
    | _ => (4, (upsOf s m).leader)

/-- Is a reference's sample good (06 R161)? -/
def goodSample (s : State) (k m : Nat) : Bool :=
  let sn := s.snap m
  let o := s.ref m
  o.y.isSome && !sn.los && !sn.step && !sn.samps.any (·.inv) && decide (o.age ≤ s.getE (R.BND_SET_TRK_AGE_TRK_AGE k))

/-! ## The live terms (06 R158, R159) -/

/-- |Tj − 25 °C| × 0.4 ps/°C in 2^-48 ns, rounded up. -/
def driftTerm (s : State) : Nat := ((s.getEI R.BND_TEMP_TJ - 400).natAbs * 2 ^ 44 + 2499) / 2500

/-- A bound grown with its age by UPS_RATE (06 R158), both in 2^-48 ns. -/
def upsGrow (s : State) (u : UpInfo) (v : Nat) : Nat :=
  v * 2 ^ 32 + ((s.now + 31250 - u.taken) * s.getE R.BND_UPS_RATE_UPS_RATE + 3) / 4

/-- SRC (06 R158), in 2^-48 ns. -/
def srcTerm (s : State) (m : Nat) : Nat × Nat :=
  let both := fun (v : Nat) => (v * 2 ^ 32, v * 2 ^ 32)
  let acc := fun (c : Nat) => ((accLimit c).getD 0, (accLimit c).getD 0)
  if m < 16 then both (s.getE (R.BND_REF_SRC_UNC_SRC_UNC m))
  else
    let u := upsOf s m
    let vt := s.getE (R.RMON_MON_SRC_VTYPE m)
    if vt = 1 then both (s.getE R.GNT_SOL_UNC_SOL_UNC)
    else match u.bound with
      | some b =>
        if vt = 4 ∧ ¬ tlvFresh s u ∧ accDeclares u then acc u.acc
        else (upsGrow s u b.2.1, upsGrow s u b.1)
      | none => acc u.acc

/-- The converter that measures a reference (06 R158): 0 to 23 a channel, 24 to 39 a lane's tracker, 40 the GNSS latch. -/
def convOf (s : State) (m : Nat) : Nat :=
  if m < 16 then m
  else match s.getE (R.RMON_MON_SRC_VTYPE m) with
    | 1 => 40
    | 2 => 17
    | 3 => 24 + s.getE (R.RMON_MON_SRC_VIDX m)
    | _ => 24 + (upsOf s m).lane

/-- CLP (06 R158), in 2^-48 ns, from the figures that the converter published at the last edge. -/
def clpTerm (s : State) (m : Nat) : Nat :=
  let c := tget (0, 0) s.clp.figsE (convOf s m)
  (6 * c.1 + 32 * c.2) * 2 ^ 32

/-- TRK from a phase in 2^-10 ns and its age (06 R159). -/
def trkTerm (s : State) (k m age : Nat) (y : Int) : Nat × Nat :=
  let g := 2000000 * (age + 2) * (s.getEI (R.RMON_MON_FREQ_EST_FREQ_EST m)).natAbs
  let fl := s.getE (R.BND_SET_TRK_FLOOR_TRK_FLOOR k) * 2 ^ 32
  ((-y).toNat * 2 ^ 38 + g + fl, y.toNat * 2 ^ 38 + g + fl)

/-- The live slots 0 to 6. eng: a set that rests on a TIME reference; else a frequency-mode set's (06 R157). -/
def liveTerms (s : State) (k m age : Nat) (eng : Bool) (y : Int) : List (Nat × Nat) :=
  let both := fun (v : Nat) => (v, v)
  let u := upsOf s m
  let up := eng && decide (16 ≤ m) && (s.getE (R.RMON_MON_SRC_VTYPE m) == 4 || s.getE (R.RMON_MON_SRC_VTYPE m) == 5)
  [if eng then srcTerm s m else (0, 0), both (s.getE (R.BND_REF_CAL_UNC_CAL_UNC m) * 2 ^ 32), both (clpTerm s m), both (driftTerm s),
    both (if up then u.asym * 2 ^ 32 else 0), both (if up then u.hop * 2 ^ 32 else 0), trkTerm s k m age y]

/-! ## The model's half-widths and the growth of HOLD (06 R163, R164) -/

/-- The half-widths of the model in effect. -/
def halfWidths (s : State) : HalfW :=
  { f0 := s.getE R.BND_D_F0_D_F0, a1 := s.getE R.BND_D_A1_D_A_k, a2 := s.getE R.BND_D_A2_D_A_k, a3 := s.getE R.BND_D_A3_D_A_k,
    b1 := s.getE R.BND_D_B1_D_B_k, b2 := s.getE R.BND_D_B2_D_B_k, b3 := s.getE R.BND_D_B3_D_B_k, t0 := s.getEI R.BND_TREF_T0,
    tMin := s.getEI R.BND_TRANGE_TMIN, tMax := s.getEI R.BND_TRANGE_TMAX, ordB := s.bnd.learn.fitB }

/-- A product of two values with 32 fraction bits, rounded up. -/
def mulUp (a b : Nat) : Nat := (a * b + (2 ^ 32 - 1)) / 2 ^ 32

/-- A square root with 32 fraction bits, rounded up. -/
def sqrtUp (a : Nat) : Nat :=
  let r := isqrt (a * 2 ^ 32)
  if r * r < a * 2 ^ 32 then r + 1 else r

/-- u under the model law, in 2^-84 (06 R163). tau in raw counts, dt16 in 2^-4 K. -/
def modelRate (s : State) (h : HalfW) (tau dt16 : Nat) : Nat :=
  let d := (tau * 2 ^ 32 + 21599999999999) / 21600000000000
  let d2 := mulUp d d
  let t := dt16 * 2 ^ 28
  let t2 := mulUp t t
  h.f0 * 2 ^ 32 + h.a1 * d + h.a2 * d2 + h.a3 * mulUp d2 d + h.b1 * t + h.b2 * t2 + h.b3 * mulUp t2 t
    + s.getE R.BND_LCFG_NK * (s.getE R.BND_SIG_FL_SIG_FL * 2 ^ 32 + s.getE R.BND_SIG_RW_SIG_RW * sqrtUp d)

/-- The larger distance of two temperatures from T0, with TSLEW (06 R163), in 2^-4 K. -/
def tempSpan (s : State) (h : HalfW) (a b : Int) : Nat :=
  max (a - h.t0).natAbs (b - h.t0).natAbs + s.getE R.BND_TEMP_TSLEW

/-- HOLD grown to the edge after next at rate u (06 R163). -/
def holdGrow (s : State) (b : BndSet) (u : Nat) : BndSet :=
  let tau := s.now + 31250 - b.origin
  { b with u := u, hold := b.hold + (u * (tau - b.tauPrev) + (2 ^ 34 - 1)) / 2 ^ 34, tauPrev := tau }

/-- HOLD under the model law. -/
def holdModel (s : State) (b : BndSet) : BndSet :=
  let tj := s.getEI R.BND_TEMP_TJ
  let dt := if b.first then tempSpan s b.hw b.tjMin b.tjMax else tempSpan s b.hw tj s.bnd.tjPrev
  { holdGrow s b (modelRate s b.hw (s.now + 31250 - b.origin) dt) with first := false }

/-- HOLD under FENV of the followed reference (06 R164). -/
def holdAssist (s : State) (b : BndSet) (r : Nat) : BndSet :=
  holdGrow s b ((s.getE (R.BND_REF_FENV_FENV r) + 256 * (s.getEI (R.RMON_MON_FREQ_EST_FREQ_EST r)).natAbs) * 2 ^ 32)

/-- Temperatures since the origin. -/
def tjSeen (s : State) (b : BndSet) : BndSet :=
  let tj := s.getEI R.BND_TEMP_TJ
  { b with tjMin := min b.tjMin tj, tjMax := max b.tjMax tj }

/-- Slots 0 to 6 frozen and HOLD at 0 (06 R162): live, origin and the half-widths stand at the last TRACK computation. -/
def bndFreeze (b : BndSet) : BndSet := { b with hold := 0, tauPrev := 0, first := true }

/-- What a hold from a sample would rest on, at this edge (06 R162, R163). new: the sample is reference m's latest, read at the last edge; else it is an edge older. -/
def origNext (s : State) (new : Bool) (m : Nat) (r : HoldOrig) : HoldOrig :=
  let tj := s.getEI R.BND_TEMP_TJ
  if new then { origin := ((s.now : Int) + rawDiff ((s.ref m).lastRaw / 4096) s.raw).toNat, tjMin := tj, tjMax := tj, hw := halfWidths s }
  else { r with tjMin := min r.tjMin tj, tjMax := max r.tjMax tj }

/-- Does channel c run in FREQ mode on a reference? -/
def freqOn (s : State) (c : Nat) : Bool := s.getE (R.TCH_CH_CTL_MODE c) == 2 && decide (s.getE (R.SEL_TCH_STAT_SELECTED c) < 32)

/-- The origins of the references measured, and of the FREQ channels' servo inputs. -/
def origsEdge (s : State) : State :=
  let up := fun (new : Bool) (m k : Nat) (t : Tbl HoldOrig) => tset {} t k (origNext s new m (tget {} t k))
  let t := (List.range 32).foldl (fun t m => if (s.ref m).y.isSome then up ((s.ref m).age == 0) m m t else t) s.bnd.origs
  let t := (List.range 8).foldl (fun t c =>
    if c ≠ 0 ∧ freqOn s c then up ((tget {} s.tch.chs c).eAge == 0) (s.getE (R.SEL_TCH_STAT_SELECTED c)) (32 + c) t else t) t
  { s with bnd := { s.bnd with origs := t } }

/-- TRACK on reference m (06 R161): the trace, the live terms, and what a hold from the sample would rest on. age: the sample's; o: its origin's index. -/
def bndTrack (s : State) (k m age o : Nat) (eng : Bool) (y : Int) (tr : Nat × Nat) (seq : Nat) (b : BndSet) : BndSet :=
  let r := tget {} s.bnd.origs o
  { b with basis := 1, kind := tr.1, id := tr.2, seq := seq, hold := 0, tauPrev := 0, stepU := 0, stepL := 0, sticky := 0,
           live := liveTerms s k m age eng y, origin := r.origin, tjMin := r.tjMin, tjMax := r.tjMax, hw := r.hw }

/-! ## The basis (06 R161) -/

/-- What an evaluation says beside the set: the level causes, and a trace break with the y on which the new TRK rests. -/
structure BndEval where
  set : BndSet
  cause : Nat := 0
  brk : Option Int := none
  deriving DecidableEq, Repr

/-- A set with no basis. -/
def bndNone (b : BndSet) (cause sticky : Nat) : BndEval :=
  { set := { b with basis := 0, kind := 0, id := 0, hold := 0, tauPrev := 0, stepU := 0, stepL := 0, sticky := b.sticky ||| sticky }, cause := cause }

/-- y of a reference as SEL published it at the last edge (05 R140). -/
def selY (s : State) (m : Nat) : Int := toInt 48 (s.getE2 (R.SEL_REF_Y_LO_Y m) (R.SEL_REF_Y_HI_Y m))

/-- The ENGINE set's table, tried in order. -/
def bndEngine (s : State) : BndEval :=
  let b := tjSeen s (s.bset 0)
  let m := s.getE (R.SEL_TCH_STAT_SELECTED 0)
  let some' := decide (m < 32)
  let time := some' && s.flagE (R.SEL_REF_FLAGS_CLASS m)
  let freq := some' && !s.flagE (R.SEL_REF_FLAGS_CLASS m)
  if s.flag R.ETM_STAT_BACKUP_CLK then bndNone b 1 0
  else if time && !declared s m then bndNone b 0 16
  else if freq && !s.flagE (R.BND_REF_FLAGS_FENV_DECL m) then bndNone b 4 0
  else if time && corrE s m == 0 && goodSample s 0 m then
    let tr := traceOf s m
    let acc := tbit s.bnd.accepted m
    let move := b.basis == 0 || tr != (b.kind, b.id) || acc
    let y := selY s m
    { set := bndTrack s 0 m (s.ref m).age m true y tr (if move then (b.seq + 1) % 65536 else b.seq) b,
      brk := if (b.basis != 0 && tr != (b.kind, b.id)) || acc then some y else none }
  else if b.basis = 0 then bndNone b 0 0
  else
    let b := if b.basis = 1 then bndFreeze b else b
    if freq then { set := holdAssist s { b with basis := 2 } m } else { set := holdModel s { b with basis := 3 } }

/-- A frequency-mode channel set's table (06 R161). -/
def bndFreq (s : State) (c : Nat) : BndEval :=
  let k := 1 + c
  let b := tjSeen s (s.bset k)
  let m := s.getE (R.SEL_TCH_STAT_SELECTED c)
  if s.flag R.ETM_STAT_BACKUP_CLK then bndNone b 1 0
  else if decide (m < 32) && goodSample s k m then
    let e := s.getEI (R.TCH_CH_PERR_PERR c)
    let move := b.basis == 0 || (5, m) != (b.kind, b.id)
    { set := bndTrack s k m (tget {} s.tch.chs c).eAge (32 + c) false e (5, m) (if move then (b.seq + 1) % 65536 else b.seq) b,
      brk := if b.basis != 0 && move then some e else none }
  else if b.basis = 0 then bndNone b 0 0
  else { set := holdModel s { (if b.basis = 1 then bndFreeze b else b) with basis := 3 } }

/-! ## Publication -/

/-- A value in 2^-48 ns, in 2^-16 ns rounded up. -/
def unitUp (v : Nat) : Nat := (v + (2 ^ 32 - 1)) / 2 ^ 32

/-- The largest side of a BOUND (06 R16). -/
def sideMax : Nat := 0xFFFFFFFFFFFF

/-- A set's target in 2^-16 ns, 0 for none (06 R179). -/
def bndTarget (s : State) (k : Nat) : Nat :=
  let ns := s.get (R.BND_SET_TARGET_TGT_NS k)
  (if ns ≠ 0 then ns else match s.get (R.BND_SET_TARGET_PRESET k) with
    | 1 => 100
    | 2 => 40
    | 3 => 30
    | 4 => 100
    | _ => 0) * 65536

/-- A set's published BOUND: LOWER, UPPER, UNBOUNDED. -/
def bndOf (s : State) (k : Nat) : Nat × Nat × Bool :=
  (s.get (R.BND_SET_BOUND_W0_LOWER k) + s.get (R.BND_SET_BOUND_W1_LOWER k) * 2 ^ 32,
    s.get (R.BND_SET_BOUND_W1_UPPER k) + s.get (R.BND_SET_BOUND_W2_UPPER k) * 2 ^ 16, s.flag (R.BND_SET_BOUND_W3_UNBOUNDED k))

/-- As bndOf, at the last edge. -/
def bndOfE (s : State) (k : Nat) : Nat × Nat × Bool :=
  (s.getE (R.BND_SET_BOUND_W0_LOWER k) + s.getE (R.BND_SET_BOUND_W1_LOWER k) * 2 ^ 32,
    s.getE (R.BND_SET_BOUND_W1_UPPER k) + s.getE (R.BND_SET_BOUND_W2_UPPER k) * 2 ^ 16, s.flagE (R.BND_SET_BOUND_W3_UNBOUNDED k))

/-- A BOUND and its causes published, with the entries into UNBOUNDED (06 R170) and past the target (R179). -/
def bndPublish (k lower upper cause : Nat) (s : State) : State :=
  let cause := withBit cause 5 (decide (sideMax < lower) || decide (sideMax < upper))
  let unb := cause != 0
  let was := s.flag (R.BND_SET_BOUND_W3_UNBOUNDED k)
  let wasT := s.flag (R.BND_SET_STAT_TGT_EXC k)
  let t := bndTarget s k
  let exc := t != 0 && (unb || decide (t < max lower upper))
  let lo := if unb then sideMax else lower
  let up := if unb then sideMax else upper
  let s := (s.put (R.BND_SET_BOUND_W0_LOWER k) (lo % 2 ^ 32)).put (R.BND_SET_BOUND_W1_LOWER k) (lo / 2 ^ 32)
  let s := (s.put (R.BND_SET_BOUND_W1_UPPER k) (up % 2 ^ 16)).put (R.BND_SET_BOUND_W2_UPPER k) (up / 2 ^ 16)
  let s := (s.putB (R.BND_SET_BOUND_W3_UNBOUNDED k) unb).put (R.BND_SET_STAT_UNB_CAUSE k) cause
  let s := s.putB (R.BND_SET_STAT_TGT_EXC k) exc
  let s := if unb && !was then logRec 0x168 [k, cause] (raiseEvt (R.BND_EVT_UNB.bitAt k) (2 + k) s) else s
  if exc && !wasT then raiseEvt (R.BND_EVT_TGT.bitAt k) 11 s else s

/-- A set's terms published, saturated (06 R160). -/
def bndTerms (k : Nat) (t : List (Nat × Nat)) (s : State) : State :=
  (List.range 13).foldl (fun s j =>
    let v := t.getD j (0, 0)
    (s.put (R.BND_SET_TERM_U_UPPER k j) (satW 32 (unitUp v.1))).put (R.BND_SET_TERM_L_LOWER k j) (satW 32 (unitUp v.2))) s

/-- A TRACE_BREAK of set k (06 R157, R161, R167), with the trace before and the y on which the new TRK rests. -/
def bndBreak (k oldKind oldId : Nat) (y : Int) (s : State) : State :=
  let b := bndOfE s k
  let n := s.bset k
  logRec 0x169 ([k, oldKind, n.kind, 0] ++ leBytes 2 oldId ++ leBytes 2 n.id ++ leBytes 2 n.seq ++ leBytes 6 (ofInt 48 (satI 48 y))
    ++ leBytes 6 b.1 ++ leBytes 6 b.2.1 ++ [bit b.2.2]) (raiseEvt R.BND_EVT_TRACE_BREAK 11 s)

/-- Slots 0 to 7 and 10 of a set, by its basis. -/
def bndSlots (b : BndSet) : List (Nat × Nat) :=
  (if b.basis = 0 then List.replicate 7 (0, 0) else b.live) ++
    [if b.basis = 2 ∨ b.basis = 3 then (b.hold, b.hold) else (0, 0)]

/-- HOLDOVER's level causes and the sticky TEXT (06 R169). -/
def bndHoldCauses (s : State) (e : BndEval) : BndEval :=
  let b := e.set
  let tx := s.getE R.BND_LCFG_TEXT * 16
  let tj := s.getEI R.BND_TEMP_TJ
  let out := b.basis == 3 && decide (0 < b.hw.ordB) && (decide (tj < b.hw.tMin - tx) || decide (b.hw.tMax + tx < tj))
  let nom := b.basis == 3 && s.getE R.BND_STAT_MODEL_STATE == 0
  { e with set := { b with sticky := if out then b.sticky ||| 8 else b.sticky },
           cause := (e.cause ||| (if nom then 4 else 0)) ||| (if b.basis = 0 then 2 else 0) }

/-- The common figures of a set published: basis, trace, sequence, the hold's length (06 R158 to R162). -/
def bndHead (k : Nat) (b : BndSet) (s : State) : State :=
  let s := (s.put (R.BND_SET_STAT_BASIS k) b.basis).putB (R.BND_SET_STAT_FROZEN k) (decide (2 ≤ b.basis))
  let s := (s.put (R.BND_SET_TRACE_KIND k) b.kind).put (R.BND_SET_TRACE_ID k) b.id
  let s := s.put (R.BND_SET_SEQ_TRACE_SEQ k) b.seq
  s.put (R.BND_SET_HOLD_TAU_HOLD_TAU k) (if 2 ≤ b.basis then satW 32 ((s.now - b.origin) / 31250) else 0)

/-- The sums of a set's terms, in 2^-16 ns rounded up: LOWER, UPPER (06 R160). -/
def bndSum (t : List (Nat × Nat)) : Nat × Nat :=
  (unitUp (t.foldl (fun a v => a + v.2) 0), unitUp (t.foldl (fun a v => a + v.1) 0))

/-- Has the channel an enabled output (06 R158)? -/
def chanOut (s : State) (c : Nat) : Bool :=
  (List.range 16).any (fun o => s.flagE (R.OUT_CFG_EN o) && s.getE (R.OUT_CFG_TCH o) == c)

/-- OUTP of a channel's set (06 R158), in 2^-48 ns. -/
def outpTerm (s : State) (c : Nat) : Nat := if chanOut s c then (16 * 2 ^ 48 + 999) / 1000 + driftTerm s else 0

/-- MARGIN of a set in 2^-48 ns. -/
def marginTerm (s : State) (k : Nat) : Nat := s.getE (R.BND_SET_MARGIN_MARGIN k) * 2 ^ 32

/-- MERGE's two sides (06 R173): the offset to the winning half, on its side, plus TRK_FLOOR. -/
def mergeTerm (s : State) : Nat × Nat :=
  match s.bnd.part.merge with
  | none => (0, 0)
  | some o =>
    let fl := s.getE (R.BND_SET_TRK_FLOOR_TRK_FLOOR 0) * 2 ^ 32
    ((-o).toNat * 2 ^ 32 + fl, o.toNat * 2 ^ 32 + fl)

/-- PART at an edge (06 R173): from the edge after the one at which its conditions are published it grows by the half-leader's rate; without a rate, cause PART. -/
def partGrow (s : State) : State :=
  let p := s.bnd.part
  if p.on && !p.was then s
  else if p.on then
    let u := if p.own then some (s.bset 0).u else p.rate.map (· * 2 ^ 32)
    match u with
    | some v => { s with bnd := { s.bnd with part := { p with val := p.val + (v * 31250 + (2 ^ 34 - 1)) / 2 ^ 34 } } }
    | none => s.setBset 0 { s.bset 0 with sticky := (s.bset 0).sticky ||| 128 }
  else s

/-- The ENGINE set's terms. -/
def engineTerms (s : State) : List (Nat × Nat) :=
  let b := s.bset 0
  let p := s.bnd.part.val
  let m := marginTerm s 0
  bndSlots b ++ [(p, p), mergeTerm s, (b.stepU * 2 ^ 32, b.stepL * 2 ^ 32), (0, 0), (m, m)]

/-- A set evaluated: its state, its figures, its terms and its BOUND. -/
def bndSetOut (k : Nat) (t : List (Nat × Nat)) (b : BndSet) (cause : Nat) (s : State) : State :=
  let sum := bndSum t
  bndPublish k sum.1 sum.2 (cause ||| b.sticky) (bndTerms k t (bndHead k b s))

/-- A set that starts anew with its channel's mode (07 R182). -/
def bndModeSeen (k mode : Nat) (s : State) : State :=
  let b := s.bset k
  if b.mode = mode then s else s.setBset k { seq := b.seq, mode := mode }

/-- A channel's set at an edge (06 R157). cause: the ENGINE set's level causes. -/
def bndChannel (c cause : Nat) (s : State) : State :=
  let k := 1 + c
  let mode := if c = 0 then 1 else s.getE (R.TCH_CH_CTL_MODE c)
  let o := outpTerm s c
  let m := marginTerm s k
  let s := bndModeSeen k mode s
  if mode = 1 then
    let b := s.bset 0
    let t := (engineTerms s).take 11 ++ [(o, o), (m + marginTerm s 0, m + marginTerm s 0)]
    bndSetOut k t b cause s
  else if mode = 2 then
    let old := s.bset k
    let e := bndHoldCauses s (bndFreq s c)
    let s := s.setBset k e.set
    let s := match e.brk with
      | some y => bndBreak k old.kind old.id y s
      | none => s
    bndSetOut k (bndSlots e.set ++ [(0, 0), (0, 0), (0, 0), (o, o), (m, m)]) e.set e.cause s
  else bndSetOut k (List.replicate 12 (0, 0) ++ [(m, m)]) { s.bset k with sticky := 0 } (2 + bit (s.flag R.ETM_STAT_BACKUP_CLK)) s

/-- BND at a Stroke edge: every set evaluated on the values published at the last edge, and published (06 R155 to R170). -/
def bndEdge (s : State) : State :=
  let s := origsEdge s
  let old := s.bset 0
  let e := bndHoldCauses s (bndEngine s)
  let s := s.setBset 0 { e.set with mode := 1 }
  let m := s.getE (R.SEL_TCH_STAT_SELECTED 0)
  let acc := if e.set.basis = 1 then withBit s.bnd.accepted m false else s.bnd.accepted
  let acc := (List.range 32).foldl (fun a r => if corrE s r = 0 ∨ tbit s.sel.accept r then a else withBit a r false) acc
  let s := { s with bnd := { s.bnd with accepted := acc } }
  let s := match e.brk with
    | some y => bndBreak 0 old.kind old.id y s
    | none => s
  let s := partGrow s
  let s := bndSetOut 0 (engineTerms s) (s.bset 0) e.cause s
  let s := (List.range 8).foldl (fun s c => bndChannel c e.cause s) s
  { s with bnd := { s.bnd with tjPrev := s.getEI R.BND_TEMP_TJ } }

/-! ## Reflexes and what other blocks tell BND -/

/-- PUB_SEQ moves on (01 R33). -/
def pubMoves (s : State) : State := s.put R.GEN_STROKE_STAT_PUB_SEQ ((s.get R.GEN_STROKE_STAT_PUB_SEQ + 1) % 16)

/-- Does set k follow engine time? -/
def engSet (s : State) (k : Nat) : Bool := decide (k ≤ 1) || s.get (R.TCH_CH_CTL_MODE (k - 1)) == 1

/-- One set's published BOUND and STEP term moved by an accepted step (06 R168), d in 2^-16 ns. -/
def bndStepSet (k : Nat) (d : Int) (s : State) : State :=
  let b := bndOf s k
  let s := (s.put (R.BND_SET_TERM_U_UPPER k 10) (satW 32 (s.get (R.BND_SET_TERM_U_UPPER k 10) + d.toNat))).put
    (R.BND_SET_TERM_L_LOWER k 10) (satW 32 (s.get (R.BND_SET_TERM_L_LOWER k 10) + (-d).toNat))
  if b.2.2 then s
  else bndPublish k (b.1 + (-d).toNat) (b.2.1 + d.toNat) (withBit (s.get (R.BND_SET_STAT_UNB_CAUSE k)) 5 false) s

/-- The step adder (06 R168): at the edge of an accepted step. -/
def bndStep (d : Int) (s : State) : State :=
  let b := s.bset 0
  let s := s.setBset 0 { b with stepU := b.stepU + d.toNat, stepL := b.stepL + (-d).toNat }
  pubMoves ((List.range 9).foldl (fun s k => if engSet s k then bndStepSet k d s else s) s)

/-- The backup-oscillator reflex (19 R489): UNBOUNDED in every published BOUND, with cause BACKUP. -/
def bndBackup (s : State) : State :=
  pubMoves ((List.range 9).foldl (fun s k =>
    bndPublish k (bndOf s k).1 (bndOf s k).2.1 (s.get (R.BND_SET_STAT_UNB_CAUSE k) ||| 1) s) s)

/-- The core returns to the system PLL (06 R169): BACKUP no longer holds, and the sets stay without a basis. -/
def bndReturn (s : State) : State :=
  (List.range 9).foldl (fun s k =>
    bndPublish k (bndOf s k).1 (bndOf s k).2.1 (withBit (s.get (R.BND_SET_STAT_UNB_CAUSE k)) 0 false) s) s

/-- A frequency-mode channel has published a build-out with servo input e (06 R157). -/
def bndBuildOut (c : Nat) (e : Int) (s : State) : State :=
  let k := 1 + c
  let b := s.bset k
  let s := s.setBset k { b with seq := (b.seq + 1) % 65536 }
  bndBreak k b.kind b.id e (s.put (R.BND_SET_SEQ_TRACE_SEQ k) ((b.seq + 1) % 65536))

/-- M of set 0, and its A (06 R176), in 2^-16 ns. -/
def bndM (s : State) : Nat := max (bndOfE s 0).1 (bndOfE s 0).2.1

/-- A of R176. -/
def bndA (s : State) : Nat :=
  max (s.getE (R.BND_SET_TERM_U_UPPER 0 4) + s.getE (R.BND_SET_TERM_U_UPPER 0 5))
    (s.getE (R.BND_SET_TERM_L_LOWER 0 4) + s.getE (R.BND_SET_TERM_L_LOWER 0 5))

/-- A value in 2^-16 ns in the NTP short format, rounded up to 2^-16 s (06 R176). -/
def ntpShort (v : Nat) : Nat := (v + 999999999) / 1000000000

/-- Root Delay (06 R176). -/
def rootDelay (s : State) : Nat := ntpShort (2 * bndA s)

/-- Root Dispersion (06 R176). -/
def rootDispersion (s : State) : Nat := ntpShort (bndM s - bndA s)

/-- HOLDMAX_EXPIRE (06 R169): HOLD_TAU of set k has passed HOLD_MAX hours. A time-mode set follows the ENGINE set. -/
def holdMaxExpire (k : Nat) (s : State) : State :=
  let h := s.get R.BND_CTL_HOLD_MAX
  let due := fun j => h != 0 && decide (2 ≤ (s.bset j).basis) && decide (h * 28800000 < s.get (R.BND_SET_HOLD_TAU_HOLD_TAU j))
  let go := fun (j : Nat) (s : State) => (bndPublish j (bndOf s j).1 (bndOf s j).2.1
    (s.get (R.BND_SET_STAT_UNB_CAUSE j) ||| 64) s).repub ((List.range 5).map (fun w => 0x061000 + 0x100 * j + 4 * w))
  if k = 0 then
    if due 0 then
      let s := s.setBset 0 { s.bset 0 with sticky := (s.bset 0).sticky ||| 64 }
      (List.range 9).foldl (fun s j => if j = 0 || engSet s j then go j s else s) s
    else s
  else if due k then go k (s.setBset k { s.bset k with sticky := (s.bset k).sticky ||| 64 })
  else s

/-- HOLDMAX_EXPIRE of set k (06 R169). -/
def execHoldmaxExpire (k : Fin 9) (s : State) : Host.Outcome State Fault Refusal := live s (holdMaxExpire k s)

end Sys2Proof.Machine
end

