-- ==== Sys2Proof/Machine/Learn.lean ====
section
/-! DEFINITION. The oscillator model (06 R171, R172, R175): learning-grade seconds, bins, the least-squares fit with exact rationals, the
state table, the prediction, and the re-centring. -/

namespace Sys2Proof.Machine

/-- The learner set. -/
def State.setLearn (s : State) (l : LearnSt) : State := { s with bnd := { s.bnd with learn := l } }

/-! ## Linear algebra over the rationals -/

/-- A row less q times another. -/
def rowSub (q : Rat) (a b : List Rat) : List Rat := List.zipWith (fun x y => x - q * y) a b

/-- Gauss and Jordan's elimination from column c on, n columns left; none for a singular matrix. -/
def gaussAux : Nat → Nat → List (List Rat) → Option (List (List Rat))
  | 0, _, m => some m
  | n + 1, c, m =>
    match (List.range m.length).find? (fun i => decide (c ≤ i) && (m.getD i []).getD c 0 != 0) with
    | none => none
    | some p =>
      let piv := m.getD p []
      let q := piv.getD c 0
      let row := piv.map (fun x => x / q)
      let m1 := (m.set p (m.getD c [])).set c row
      gaussAux n (c + 1) ((List.range m1.length).map (fun i =>
        if i = c then row else rowSub ((m1.getD i []).getD c 0) (m1.getD i []) row))

/-- The inverse of a square matrix. -/
def matInv (m : List (List Rat)) : Option (List (List Rat)) :=
  let n := m.length
  let aug := (List.range n).map (fun i => (m.getD i []) ++ (List.range n).map (fun j => if i = j then (1 : Rat) else 0))
  (gaussAux n 0 aug).map (fun r => r.map (fun row => row.drop n))

/-- The inner product. -/
def dot (a b : List Rat) : Rat := (List.zipWith (fun x y => x * y) a b).foldl (fun x y => x + y) 0

/-- The nearest integer, ties away from zero. -/
def ratRound (q : Rat) : Int := roundDiv q.num q.den

/-- The smallest integer that is at least q. -/
def ratCeil (q : Rat) : Int := ceilDiv q.num q.den

/-- The smallest natural number whose square is at least q. -/
def sqrtCeil (q : Rat) : Nat :=
  let c := (ratCeil q).toNat
  let r := isqrt c
  if r * r < c then r + 1 else r

/-- Least squares: the coefficients and the squares of their standard errors (06 R172 item 3). -/
def lsq (rows : List (List Rat)) (ys : List Rat) : Option (List Rat × List Rat) :=
  let p := (rows.headD []).length
  let cols := (List.range p).map (fun j => rows.map (fun r => r.getD j 0))
  let xtx := cols.map (fun a => cols.map (fun b => dot a b))
  let xty := cols.map (fun a => dot a ys)
  match matInv xtx with
  | none => none
  | some inv =>
    let beta := inv.map (fun r => dot r xty)
    let rss := (List.zipWith (fun r y => (y - dot r beta) * (y - dot r beta)) rows ys).foldl (fun a b => a + b) 0
    let s2 : Rat := if p < rows.length then rss / ((rows.length - p : Nat) : Rat) else 0
    some (beta, (List.range p).map (fun j => s2 * (inv.getD j []).getD j 0))

/-! ## The prediction (06 R171) -/

/-- Days from the model's epoch to an instant in total raw counts. -/
def daysFrom (epoch at' : Nat) : Rat := (((at' : Int) - (epoch : Int) : Int) : Rat) / 21600000000000

/-- The model's p0 in 2^-60. -/
def modelP0 (s : State) : Int := s.get2I 48 R.BND_P0_LO_P0 R.BND_P0_HI_P0

/-- pred at an instant and a temperature in 2^-4 °C (06 R171), 2^-60, exact. -/
def predAt (s : State) (at' : Nat) (tj : Int) : Rat :=
  let d := daysFrom s.bnd.learn.epoch at'
  let t : Rat := ((tj - s.getI R.BND_TREF_T0 : Int) : Rat) / 16
  (modelP0 s : Rat) + 256 * ((s.getI R.BND_A1_A_k : Rat) * d + (s.getI R.BND_A2_A_k : Rat) * (d * d) + (s.getI R.BND_A3_A_k : Rat) * (d * d * d)
    + (s.getI R.BND_B1_B_k : Rat) * t + (s.getI R.BND_B2_B_k : Rat) * (t * t) + (s.getI R.BND_B3_B_k : Rat) * (t * t * t))

/-- The model's half-widths at an instant and a temperature, with NK × SIG_FL (06 R172), 2^-60. -/
def widthAt (s : State) (at' : Nat) (tj : Int) : Rat :=
  let d0 := daysFrom s.bnd.learn.epoch at'
  let d := if d0 < 0 then -d0 else d0
  let t : Rat := (((tj - s.getI R.BND_TREF_T0).natAbs : Nat) : Rat) / 16
  256 * ((s.get R.BND_D_F0_D_F0 : Rat) + (s.get R.BND_D_A1_D_A_k : Rat) * d + (s.get R.BND_D_A2_D_A_k : Rat) * (d * d)
    + (s.get R.BND_D_A3_D_A_k : Rat) * (d * d * d) + (s.get R.BND_D_B1_D_B_k : Rat) * t + (s.get R.BND_D_B2_D_B_k : Rat) * (t * t)
    + (s.get R.BND_D_B3_D_B_k : Rat) * (t * t * t) + ((s.get R.BND_LCFG_NK * s.get R.BND_SIG_FL_SIG_FL : Nat) : Rat))

/-- MODEL_STATE as it reads (06 R172 item 4): NONE while DEF_AGE or DEF_TCO reads 0. -/
def modelState (s : State) : Nat :=
  if s.get R.BND_DEF_AGE_DEF_AGE = 0 ∨ s.get R.BND_DEF_TCO_DEF_TCO = 0 then 0 else s.bnd.learn.mstate

/-- BND_PRED and MODEL_STATE published at an edge (06 R171). -/
def predEdge (s : State) : State :=
  let st := modelState s
  let p := if st = 0 then 0 else satI 48 (ratRound (predAt s s.now (s.getI R.BND_TEMP_TJ)))
  let w := ofInt 64 p
  wrWord (wrWord (s.put R.BND_STAT_MODEL_STATE st) R.BND_PRED_LO_PRED.addr (w % 2 ^ 32)) R.BND_PRED_HI_PRED.addr (w / 2 ^ 32)

/-! ## The model's registers -/

/-- p0 set, its HI word sign-extended. -/
def setP0 (v : Int) (s : State) : State :=
  let w := ofInt 64 (satI 48 v)
  wrWord (wrWord s R.BND_P0_LO_P0.addr (w % 2 ^ 32)) R.BND_P0_HI_P0.addr (w / 2 ^ 32)

/-- The six higher coefficients set: a1 to a3, b1 to b3. -/
def setCoef (l : List Int) (s : State) : State :=
  let w := fun (j : Nat) => ofInt 32 (satI 32 (l.getD j 0))
  let s := ((s.put R.BND_A1_A_k (w 0)).put R.BND_A2_A_k (w 1)).put R.BND_A3_A_k (w 2)
  ((s.put R.BND_B1_B_k (w 3)).put R.BND_B2_B_k (w 4)).put R.BND_B3_B_k (w 5)

/-- The half-widths of the six higher coefficients set. -/
def setWidths (l : List Nat) (s : State) : State :=
  let w := fun (j : Nat) => satW 32 (l.getD j 0)
  let s := ((s.put R.BND_D_A1_D_A_k (w 0)).put R.BND_D_A2_D_A_k (w 1)).put R.BND_D_A3_D_A_k (w 2)
  ((s.put R.BND_D_B1_D_B_k (w 3)).put R.BND_D_B2_D_B_k (w 4)).put R.BND_D_B3_D_B_k (w 5)

/-- The model's epoch set. -/
def setEpoch (at' : Nat) (s : State) : State :=
  let s := s.setLearn { s.bnd.learn with epoch := at' }
  s.put2 R.BND_EPOCH_RAW_LO_EPOCH R.BND_EPOCH_RAW_HI_EPOCH (at' % 2 ^ 48)

/-- The model re-centred by D days (06 R172 item 5, R175): each coefficient rounded to its own unit. -/
def recentre (d : Rat) (s : State) : State :=
  let a1 : Rat := s.getI R.BND_A1_A_k
  let a2 : Rat := s.getI R.BND_A2_A_k
  let a3 : Rat := s.getI R.BND_A3_A_k
  let p := modelP0 s + ratRound (256 * (a1 * d + a2 * (d * d) + a3 * (d * d * d)))
  let n1 := ratRound (a1 + 2 * a2 * d + 3 * a3 * (d * d))
  let n2 := ratRound (a2 + 3 * a3 * d)
  let b := fun (f : Fld) => s.getI f
  setCoef [n1, n2, s.getI R.BND_A3_A_k, b R.BND_B1_B_k, b R.BND_B2_B_k, b R.BND_B3_B_k] (setP0 p s)

/-- The model re-centred on the last Stroke edge. -/
def recentreNow (s : State) : State :=
  setEpoch s.gen.edgeNow (recentre (daysFrom s.bnd.learn.epoch s.gen.edgeNow) s)

/-- The model to NONE: coefficients and half-widths 0 (06 R172). -/
def modelNone (s : State) : State :=
  let s := setWidths [] (setCoef [] (setP0 0 (s.put R.BND_D_F0_D_F0 0)))
  let l := s.bnd.learn
  let s := s.setLearn { l with mstate := 0, f0N := 0, f0S := 0, f0Q := 0, since := 0, part := [], bins := [], fitA := 0, fitB := 0,
                               wasFull := false }
  (s.put R.BND_STAT_MODEL_STATE 0).put R.BND_STAT_GOOD_SEC 0

/-! ## Learning seconds -/

/-- Does the Stroke that ends here leave its second learning-grade (06 R172 item 1)? stepped: a step was applied at its edge. -/
def strokeGrade (s : State) (stepped : Bool) : Bool :=
  let m := s.getE (R.SEL_TCH_STAT_SELECTED 0)
  s.getE (R.BND_SET_STAT_BASIS 0) == 1 && decide (m < 32) && monE s m == 2 && corrE s m == 0 && s.getE R.ETM_STAT_RE_STATE == 0
    && !stepped && !s.flagE (R.TCH_CH_STAT_SLEW_ACT 0) && !s.flagE R.ETM_STAT_BACKUP_CLK && !s.flag R.ETM_STAT_BACKUP_CLK

/-- The learning second at an edge: one more Stroke, and a full second handed to the task. -/
def learnEdge (stepped : Bool) (s : State) : State :=
  let l := s.bnd.learn
  let c := l.sec
  let seq := s.getE (R.BND_SET_SEQ_TRACE_SEQ 0)
  let same := c.n == 0 || c.trace == seq
  let c := { n := c.n + 1, ok := c.ok && strokeGrade s stepped && same, rate := c.rate + s.etm.rate,
             tj := c.tj + s.getEI R.BND_TEMP_TJ, trace := seq }
  let s := if s.strokeNum % 8000 = 0 then s.setLearn { l with sec := {}, ready := if c.n = 8000 then some c else none }
    else s.setLearn { l with sec := c }
  if s.bnd.clrReq then modelNone { s with bnd := { s.bnd with clrReq := false } } else s

/-! ## The fit -/

/-- The span of a list. -/
def spanOf (l : List Int) : Int := l.foldl max (l.headD 0) - l.foldl min (l.headD 0)

/-- The ageing orders that the bins admit (06 R172 item 3): order k from a span of 2^k days. -/
def ordersA (bins : List LearnBin) : Nat :=
  let sp := spanOf (bins.map (fun b => (b.at' : Int)))
  if 8 * 21600000000000 ≤ sp then 3 else if 4 * 21600000000000 ≤ sp then 2 else if 2 * 21600000000000 ≤ sp then 1 else 0

/-- The temperature orders that the bins admit: order k from a span of 4k K. -/
def ordersB (bins : List LearnBin) : Nat :=
  let sp := spanOf (bins.map (·.tj))
  if 12 * 16 ≤ sp then 3 else if 8 * 16 ≤ sp then 2 else if 4 * 16 ≤ sp then 1 else 0

/-- The powers x, x², … up to order k. -/
def powers (x : Rat) (k : Nat) : List Rat := (List.range k).map (fun j => x ^ (j + 1))

/-- A full fit published (06 R172 item 3), about epoch and T0. -/
def fullFit (t0 : Int) (s : State) : State :=
  let bins := s.bnd.learn.bins
  let ka := ordersA bins
  let kb := ordersB bins
  let ep := s.gen.edgeNow
  let ksig := s.get R.BND_LCFG_KSIG
  let rows := bins.map (fun b => (1 : Rat) :: powers (daysFrom ep b.at') ka ++ powers (((b.tj - t0 : Int) : Rat) / 16) kb)
  match lsq rows (bins.map (fun b => (b.rate : Rat))) with
  | none => recentreNow s
  | some (beta, se) =>
    let co := fun (j : Nat) => ratRound (beta.getD j 0 / 256)
    let wd := fun (j : Nat) => max 1 (sqrtCeil (((ksig * ksig : Nat) : Rat) * se.getD j 0 / 65536))
    let pick := fun {α : Type} (f : Nat → α) (z : α) (off k n : Nat) => if n ≤ k then f (off + n) else z
    let as := [pick co 0 0 ka 1, pick co 0 0 ka 2, pick co 0 0 ka 3, pick co 0 ka kb 1, pick co 0 ka kb 2, pick co 0 ka kb 3]
    let ws := [pick wd (s.get R.BND_DEF_AGE_DEF_AGE) 0 ka 1, pick wd 0 0 ka 2, pick wd 0 0 ka 3,
      pick wd (s.get R.BND_DEF_TCO_DEF_TCO) ka kb 1, pick wd 0 ka kb 2, pick wd 0 ka kb 3]
    let s := setWidths ws (setCoef as (setP0 (ratRound (beta.getD 0 0)) (s.put R.BND_D_F0_D_F0 (satW 32 (wd 0)))))
    let tj := bins.map (·.tj)
    let s := (s.put R.BND_TRANGE_TMIN (ofInt 16 (tj.foldl min (tj.headD 0)))).put R.BND_TRANGE_TMAX (ofInt 16 (tj.foldl max (tj.headD 0)))
    let s := (s.put R.BND_TREF_T0 (ofInt 16 t0)).put R.BND_STAT_RESTORED 0
    setEpoch ep (s.setLearn { s.bnd.learn with fitA := ka, fitB := kb })

/-- The coefficients beyond p0 as those that are not fitted (06 R172 items 3 and 4). -/
def unfit (s : State) : State :=
  let s := setWidths [s.get R.BND_DEF_AGE_DEF_AGE, 0, 0, s.get R.BND_DEF_TCO_DEF_TCO, 0, 0] (setCoef [] s)
  s.setLearn { s.bnd.learn with fitA := 0, fitB := 0 }

/-- p0 and d_f0 from the seconds gathered (06 R172 item 4). -/
def f0Fit (s : State) : State :=
  let l := s.bnd.learn
  let n : Rat := (l.f0N : Rat)
  let mean : Rat := (l.f0S : Rat) / n
  let var : Rat := if l.f0N < 2 then 0 else ((l.f0Q : Rat) - n * (mean * mean)) / ((l.f0N - 1 : Nat) : Rat)
  let k := s.get R.BND_LCFG_KSIG
  let w := max 1 (sqrtCeil (((k * k : Nat) : Rat) * (var / n) / 65536))
  setP0 (ratRound mean) (s.put R.BND_D_F0_D_F0 (satW 32 w))

/-- FULL again after a restore without the RTC (06 R175): the other coefficients are kept, re-centred on the edge. -/
def f0Full (s : State) : State :=
  let s := (f0Fit (recentreNow s)).put R.BND_STAT_RESTORED 0
  s.setLearn { s.bnd.learn with mstate := 2, wasFull := false }

/-- F0_ONLY from the seconds gathered (06 R172 item 4). -/
def f0Only (t0 : Int) (s : State) : State :=
  let s := f0Fit s
  let s := (s.put R.BND_TREF_T0 (ofInt 16 t0)).put R.BND_STAT_RESTORED 0
  let s := setEpoch s.gen.edgeNow (unfit s)
  s.setLearn { s.bnd.learn with mstate := 1, since := 0 }

/-- A learning-grade second counted (06 R172 items 2 and 4). -/
def learnSecond (mean tj : Int) (s : State) : State :=
  let l := s.bnd.learn
  let s := s.put R.BND_STAT_GOOD_SEC (satW 24 (s.get R.BND_STAT_GOOD_SEC + 1))
  s.setLearn { l with f0N := l.f0N + 1, f0S := l.f0S + mean, f0Q := l.f0Q + (mean * mean).toNat, since := l.since + 1,
                      part := l.part ++ [(s.gen.edgeNow, mean, tj)] }

/-- The bin in progress closed where it is full (06 R172 item 2); answers the new bin. -/
def closeBin (s : State) : Option LearnBin × State :=
  let l := s.bnd.learn
  let n := s.get R.BND_LCFG_LBIN
  if n ≤ l.part.length ∧ 0 < l.part.length then
    let k := l.part.length
    let b : LearnBin := {
      at' := (l.part.foldl (fun a p => a + p.1) 0) / k,
      rate := roundDiv (l.part.foldl (fun a p => a + p.2.1) 0) k,
      tj := roundDiv (l.part.foldl (fun a p => a + p.2.2) 0) k }
    let bins := l.bins ++ [b]
    (some b, s.setLearn { l with part := [], bins := bins.drop (bins.length - s.get R.BND_LWIN_LWIN) })
  else (none, s)

/-- A new bin that violates the envelope (06 R172): to F0_ONLY, ENV_VIOL, the event, and the count restarts. -/
def envCheck (b : LearnBin) (s : State) : State :=
  let diff : Rat := (b.rate : Rat) - predAt s b.at' b.tj
  let a := if diff < 0 then -diff else diff
  if widthAt s b.at' b.tj < a then
    let s := unfit ((s.put R.BND_STAT_ENV_VIOL 1).put R.BND_STAT_GOOD_SEC 0)
    let s := s.setLearn { s.bnd.learn with mstate := 1, since := 0 }
    logRec 0x16A [] (raiseEvt R.BND_EVT_ENV 11 s)
  else s.put R.BND_STAT_ENV_VIOL 0

/-- The state table after a learning-grade second (06 R172 item 4). DESIGN CHOICE (log entry 24): in FULL a fit is made while the bins admit ageing order 1, which FULL asks
for; else the model is re-centred. -/
def modelTable (t0 : Int) (s : State) : State :=
  let n := s.bnd.learn
  if n.mstate = 0 then
    if s.get R.BND_F0_MIN_F0_MIN ≤ n.f0N then (if n.wasFull then f0Full s else f0Only t0 s) else s
  else if (n.mstate = 2 ∨ s.get R.BND_LEARN_MIN_LEARN_MIN ≤ n.since) ∧ 1 ≤ ordersA n.bins then
    let s := fullFit t0 s
    s.setLearn { s.bnd.learn with mstate := 2 }
  else recentreNow s

/-- The learning task's run on the second that has ended (06 R172). While DEF_AGE or DEF_TCO reads 0 seconds and bins gather, and the model stands. -/
def learnRun (t0 : Int) (s : State) : State :=
  let l := s.bnd.learn
  let s := s.setLearn { l with work := none }
  let use := s.get R.BND_DEF_AGE_DEF_AGE != 0 && s.get R.BND_DEF_TCO_DEF_TCO != 0
  let good := l.work.any (·.ok) && s.flag R.BND_CTL_LEARN_EN
  if good then
    let c := l.work.getD {}
    let r := closeBin (learnSecond (roundDiv c.rate c.n) (roundDiv c.tj c.n) s)
    if use then
      let s := if l.mstate = 0 then r.2 else r.1.elim r.2 (fun b => envCheck b r.2)
      let s := modelTable t0 s
      s.put R.BND_STAT_MODEL_STATE (modelState s)
    else r.2
  else if l.mstate = 0 || !use then s
  else recentreNow s

/-- The half-width and p0 moved by a steering write (07 R202): m = dcode × kdac in 2^-60, w = |dcode| × kunc in 2^-60. -/
def modelSteer (m : Int) (w : Nat) (s : State) : State :=
  (setP0 (modelP0 s - m) s).put R.BND_D_F0_D_F0 (satW 32 (s.get R.BND_D_F0_D_F0 + (w + 255) / 256))

/-- OSC_MODEL_LEARN (06 R172): the task has run; learnRun is published where its period ends; t0 (2^-4 °C) is the reference temperature that its fit chooses. -/
def execOscModelLearn (t0 : BitVec 16) (s : State) : Host.Outcome State Fault Refusal :=
  live s (taskHand (.learning t0) s)

end Sys2Proof.Machine
end

