-- ==== Sys2Proof/Machine/Tch.lean ====
section
/-! DEFINITION. TCH: the timing channels' loops (07 R181 to R201) and the steering port (R202, R203). -/

namespace Sys2Proof.Machine

/-- A channel's loop. -/
def State.tc (s : State) (c : Nat) : TchCh := tget {} s.tch.chs c

/-- A channel's loop set. -/
def State.setTc (s : State) (c : Nat) (v : TchCh) : State := { s with tch := { s.tch with chs := tset {} s.tch.chs c v } }

/-- A channel's published rate, 2^-60. -/
def tchRate (s : State) (c : Nat) : Int := s.get2I 48 (R.TCH_CH_RATE_LO_RATE c) (R.TCH_CH_RATE_HI_RATE c)

/-- A signed 48-bit value in a LO and HI register, HI sign-extended. -/
def put48 (lo hi : Fld) (v : Int) (s : State) : State :=
  let w := ofInt 64 (satI 48 v)
  wrWord (wrWord s lo.addr (w % 2 ^ 32)) hi.addr (w / 2 ^ 32)

/-- A channel's rate set; TCH_0's is RATE_ADJ at the same edge (07 R181). -/
def setTchRate (c : Nat) (v : Int) (s : State) : State :=
  let s := put48 (R.TCH_CH_RATE_LO_RATE c) (R.TCH_CH_RATE_HI_RATE c) v s
  if c = 0 then { s with etm := { s.etm with ratePub := satI 48 v } } else s

/-! ## The sample and the error (07 R183 to R185) -/

/-- The delivered sample of a reference in 2^-26 ns, reference time minus engine time (07 R183, R199), on the stepped line (R185). -/
def tchSample (s : State) (m : Nat) : Option Int :=
  if m < 16 then
    if s.getE (R.CLP_CH_SNAP_CNT_CNT m) = 0 then none
    else
      let last := s.getE2 (R.CLP_CH_SNAP_LAST_LO_LAST m) (R.CLP_CH_SNAP_LAST_HI_LAST m)
      some (-(wrapP (stampedPeriod s m) (etTotal s.etm last / 2 ^ 22)))
  else
    match (s.snap m).samps.getLast? with
    | none => none
    | some x => some (x.x * 65536 - (s.tch.stepD.getD 0) * 1024)

/-- What a channel reads of its reference: x in 2^-26 ns, flagged, flagged STEP, PSW. -/
structure TchIn where
  x : Option Int := none
  flag : Bool := false
  step : Bool := false
  psw : Bool := false
  deriving DecidableEq, Repr

/-- The reading of reference m. -/
def tchRead (s : State) (m : Nat) : TchIn :=
  if 32 ≤ m then {}
  else
    let sn := s.snap m
    { x := tchSample s m, flag := sn.los || sn.step || sn.samps.any (·.inv), step := sn.step, psw := sn.samps.any (·.psw) }

/-- The servo input (07 R184), in 2^-10 ns; x in 2^-10 ns. -/
def tchErr (s : State) (c m : Nat) (x : Int) : Int :=
  let t := s.tc c
  let time := s.flagE (R.SEL_REF_FLAGS_CLASS m)
  if c = 0 ∧ time then x
  else
    let e := x - t.phi / 64 - t.pbo
    if time then e else wrapRef s m e

/-! ## The gains (07 R186 to R188) -/

/-- The bandwidth of a code (07 R186). -/
def codeBw (k : Nat) : F32 :=
  let m := match k % 3 with
    | 0 => 1
    | 1 => 2
    | _ => 5
  if 12 ≤ k then dround (m * 10 ^ (k / 3 - 4)) 1 0 else dround m (10 ^ (4 - k / 3)) 0

/-- ζ and K(ζ) (07 R187), as numbers over 10 000. -/
def dampOf (d : Nat) : Nat × Nat :=
  match d with
  | 0 => (5000, 18174)
  | 1 => (7070, 20582)
  | 2 => (10000, 24824)
  | 3 => (20000, 42492)
  | _ => (50000, 100999)

/-- T_s of a reference in 2^-26 ns (07 R188). -/
def tsOf (s : State) (m : Nat) : Nat :=
  if m < 16 then max (stampedPeriod s m) (125000 * 2 ^ 26)
  else match s.get (R.RMON_MON_SRC_VTYPE m) with
    | 1 => epochStrokes s * 125000 * 2 ^ 26
    | 4 => (upsOf s m).syncNs * 2 ^ 26
    | _ => 125000 * 2 ^ 26

/-- kp, ki and whether the bandwidth is limited (07 R188). -/
def tchGains (s : State) (c m k : Nat) : F32 × F32 × Bool :=
  let ts := tsOf s m
  let f3 := codeBw k
  let lim := dround (1000000000 * 2 ^ 26) (8 * ts) 0
  let low := lim.lt f3
  let f := if low then lim else f3
  let d := dampOf (s.getE (R.TCH_CH_CTL_DAMP c))
  let wn := ddiv (dmul dTwoPi f) (dround d.2 10000 0)
  (dmul (dmul (dround 2 1 0) (dround d.1 10000 0)) wn, dmul (dmul wn wn) (dround ts (1000000000 * 2 ^ 26) 0), low)

/-! ## The loop filter (07 R189) -/

/-- FCLAMP in 2^-60, at most 2^-13. -/
def fclampOf (s : State) (c : Nat) : Int := ((min (s.getE (R.TCH_CH_FCLAMP_FCLAMP c)) (2 ^ 27) * 2 ^ 20 : Nat) : Int)

/-- PSLEW in 2^-92, at most 2^-13. -/
def pslewOf (s : State) (c : Nat) : Int := ((min (s.getE (R.TCH_CH_PSLEW_PSLEW c)) (2 ^ 27) * 2 ^ 52 : Nat) : Int)

/-- A rate bounded by FCLAMP in every state (07 R189, R198, R204). -/
def tchClamp (c : Nat) (s : State) : State :=
  let f := fclampOf s c
  let r := tchRate s c
  if f < r.natAbs then
    let t := s.tc c
    setTchRate c (clampI (-f) f r) ((s.setTc c { t with integ := clampI (-f * 2 ^ 32) (f * 2 ^ 32) t.integ }).put
      (R.TCH_CH_STAT_CLAMP_ACT c) 1)
  else s

/-- An exponential average moved towards r over n Strokes. -/
def avgMove (tc : Nat) (r : Int) : Nat → Int → Int
  | 0, v => v
  | n + 1, v => avgMove tc r n (v + (r - v) / 2 ^ tc)

/-- The average of R196 takes in the rate of an update in LOCKED. DESIGN CHOICE (log entry 25): the rate counts for the Strokes since the update before it. -/
def histAdd (c : Nat) (s : State) : State :=
  let t := s.tc c
  let r := tchRate s c * 2 ^ 32
  s.setTc c { t with avg := some (t.avg.elim r (avgMove (s.getE (R.TCH_CH_HIST_HIST_TC c)) r t.sinceUpd)) }

/-- An update on e (07 R189), with the gains of the state it is made in. -/
def tchUpdate (c m : Nat) (e : Int) (acq : Bool) (s : State) : State :=
  let t := s.tc c
  let k := if acq then s.getE (R.TCH_CH_CTL_ACQ_BW c) else s.getE (R.TCH_CH_CTL_BW c)
  let g := tchGains s c m k
  let es := dround e (1024 * 1000000000) 0
  let ps := pslewOf s c
  let p := dgrid (dmul g.1 es) 92
  let slew := decide (ps < p.natAbs)
  let p := clampI (-ps) ps p
  let i := if slew then t.integ else t.integ + dgrid (dmul g.2.1 es) 92
  let r := i + p
  let f : Int := fclampOf s c * 2 ^ 32
  let clamp := decide (f < r.natAbs)
  let r := if clamp then clampI (-f) f r else r
  let i := if clamp then clampI (-f) f i else i
  let s := s.setTc c { t with integ := i, eHold := e, lastRef := m, eAge := 0 }
  let s := (s.putB (R.TCH_CH_STAT_SLEW_ACT c) slew).putB (R.TCH_CH_STAT_CLAMP_ACT c) clamp
  let s := s.put (R.TCH_CH_PERR_PERR c) (ofInt 32 (satI 32 e))
  let s := setTchRate c (roundDiv r (2 ^ 32)) s
  let s := if acq then s else histAdd c s
  s.setTc c { s.tc c with sinceUpd := 0 }

/-- BW_LIM at every edge (07 R188): for the bandwidth of the channel's state. -/
def tchBwLim (c m : Nat) (s : State) : State :=
  if 32 ≤ m then s
  else
    let k := if s.get (R.TCH_CH_STAT_STATE c) = 3 then s.getE (R.TCH_CH_CTL_BW c) else s.getE (R.TCH_CH_CTL_ACQ_BW c)
    s.putB (R.TCH_CH_STAT_BW_LIM c) (tchGains s c m k).2.2

/-! ## States (07 R190) -/

/-- A channel goes to a state: the change is an event. -/
def tchGo (c st : Nat) (s : State) : State :=
  if s.get (R.TCH_CH_STAT_STATE c) = st then s
  else
    let s : State := raiseEvt (R.TCH_EVT_STATE_CHG.bitAt c) (22 + c) (s.put (R.TCH_CH_STAT_STATE c) st)
    if st = 4 then raiseEvt (R.TCH_EVT_HO_ENTER.bitAt c) (22 + c) s else s

/-- BND_PRED at the last edge, 2^-60. -/
def bndPred (s : State) : Int := toInt 48 (s.getE2 R.BND_PRED_LO_PRED R.BND_PRED_HI_PRED)

/-- HIST as it stands HO_GUARD Strokes back (07 R196), 2^-92. -/
def histNow (t : TchCh) : Int := t.line.getLastD 0

/-- The holdover rate (07 R198). free: TCH_0 in FREERUN. -/
def tchHoRate (c : Nat) (free : Bool) (s : State) : State :=
  let t := s.tc c
  let h := if free then roundDiv (histNow t) (2 ^ 32) else t.h
  let src := if s.getE R.BND_STAT_MODEL_STATE ≠ 0 then 2 else if s.flag (R.TCH_CH_STAT_HIST_VALID c) then 1 else 0
  let r := match src with
    | 2 => if c = 0 then bndPred s else if s.flagE (R.TCH_CH_CTL_HO_MODEL c) then t.h + (bndPred s - t.q0) else t.h
    | 1 => h
    | _ => if free then 0 else tchRate s c
  tchClamp c (setTchRate c r (s.put (R.TCH_CH_STAT_HO_SRC c) src))

/-- Entry to HOLDOVER (07 R197). -/
def tchHoldover (c : Nat) (s : State) : State :=
  let t := s.tc c
  let s := s.setTc c { t with h := roundDiv (histNow t) (2 ^ 32), q0 := bndPred s, lockN := 0 }
  tchHoRate c false (tchGo c 4 (s.put (R.TCH_CH_HO_TIME_HO_TIME c) 0))

/-- A build-out (07 R194), on e with the wrap; a frequency-mode set re-declares its phase (06 R157). -/
def tchBuildOut (c m : Nat) (x : Int) (s : State) : State :=
  let t := s.tc c
  let b := tchErr s c m x - t.eHold
  let pbo := satI 48 (t.pbo + b)
  let s := s.setTc c { t with pbo := pbo }
  let s := put48 (R.TCH_CH_PBO_LO_PBO c) (R.TCH_CH_PBO_HI_PBO c) pbo s
  let s := (s.put (R.TCH_CH_PBO_LAST_PBO_LAST c) (ofInt 32 (satI 32 b))).addSat (R.TCH_CH_COUNTS_PBO_CNT c) 1
  if c = 0 then s else bndBuildOut c (tchErr s c m x) s

/-- The channel works on a sample (07 R189, R190, R193, R194). -/
def tchWork (c m : Nat) (x : Int) (s : State) : State :=
  let st := s.get (R.TCH_CH_STAT_STATE c)
  let time0 := decide (c = 0) && s.flagE (R.SEL_REF_FLAGS_CLASS m)
  let t := s.tc c
  let enter := st == 1 || st == 4
  let s := if enter then
      let s := s.setTc c { t with integ := tchRate s c * 2 ^ 32, lockN := 0 }
      tchGo c 2 (if st = 4 then s.put (R.TCH_CH_HO_TIME_HO_TIME c) 0 else s)
    else s
  let t := s.tc c
  let due := enter || t.pend || t.lastRef != m
  let s := s.setTc c { t with pend := false }
  let s := if time0 then put48 (R.TCH_CH_PBO_LO_PBO c) (R.TCH_CH_PBO_HI_PBO c) 0 (s.setTc c { s.tc c with pbo := 0 })
    else if due && s.flagE (R.TCH_CH_CTL_PBO_EN c) then tchBuildOut c m x s else s
  let e := tchErr s c m x
  let now := s.get (R.TCH_CH_STAT_STATE c)
  let s := tchUpdate c m e (now == 2) s
  let thr : Nat := s.getE (R.TCH_CH_LOCK_THR_LOCK_THR c)
  let t := s.tc c
  if now = 2 then s.setTc c { t with lockN := if e.natAbs ≤ thr then t.lockN + 1 else 0 }
  else
    let n := if 4 * thr < e.natAbs then t.lockN + 1 else 0
    if s.getE (R.TCH_CH_LOCK_CNT_LOCK_CNT c) ≤ n ∧ 0 < n then tchGo c 2 (s.setTc c { t with lockN := 0 })
    else s.setTc c { t with lockN := n }

/-- A frozen edge (07 R191): no update; the last rate, but in HOLDOVER and in TCH_0's FREERUN the rate of R198. -/
def tchFrozen (c : Nat) (again : Bool) (s : State) : State :=
  let t := s.tc c
  let s := if t.frzRun = 0 then s.addSat (R.TCH_CH_COUNTS_FRZ_CNT c) 1 else s
  let s := s.setTc c { t with frzRun := t.frzRun + 1, pend := t.pend || again }
  let s := s.put (R.TCH_CH_FRZ_MAX_FRZ_MAX c) (max (s.get (R.TCH_CH_FRZ_MAX_FRZ_MAX c)) (satW 16 (t.frzRun + 1)))
  if s.get (R.TCH_CH_STAT_STATE c) = 4 then tchHoRate c false s
  else if c = 0 ∧ s.get (R.TCH_CH_STAT_STATE c) = 1 then tchHoRate c true s
  else s

/-- The step request of TCH_0 (07 R199): the first of its era. -/
def tchStepReq (m : Nat) (r : TchIn) (s : State) : State :=
  match r.x with
  | none => s
  | some x =>
    if s.flag (R.TCH_CH_STAT_STEP_ERA 0) || !s.flagE (R.SEL_REF_FLAGS_CLASS m) || monE s m != 2 || r.flag then s
    else
      let s := s.put (R.TCH_CH_STAT_STEP_ERA 0) 1
      if s.getE (R.TCH_CH_STEP_THR_STEP_THR 0) * 2 ^ 26 < x.natAbs then
        let d := (if 0 ≤ x then x / 1024 else -(-x / 1024))
        let s := { s with etm := { s.etm with autoReq := some { abs := false, val := d } } }
        raiseEvt R.TCH_EVT_STEP_REQ 30 (s.setTc 0 { s.tc 0 with stepFrz := 2 })
      else s

/-- φ of a FREQ channel runs on over the Stroke that ends here (07 R184). -/
def tchPhase (c : Nat) (s : State) : State :=
  if c = 0 then s
  else
    let t := s.tc c
    let r := toInt 48 (s.getE2 (R.TCH_CH_RATE_LO_RATE c) (R.TCH_CH_RATE_HI_RATE c))
    let phi := t.phi + roundDiv ((r - s.etm.rate) * 125000) (2 ^ 44)
    put48 (R.TCH_CH_PHASE_LO_PHI c) (R.TCH_CH_PHASE_HI_PHI c) (phi / 64) (s.setTc c { t with phi := phi })

/-- The delay line and the run of LOCKED (07 R196), and HOLDOVER's time. -/
def tchTail (c : Nat) (before : Nat) (s : State) : State :=
  let t := s.tc c
  let g := s.getE (R.TCH_CH_HIST_HO_GUARD c)
  let st := s.get (R.TCH_CH_STAT_STATE c)
  let t := { t with line := ((t.avg.getD 0) :: t.line).take (g + 1), lockRun := if st = 3 then t.lockRun + 1 else 0 }
  let s := put48 (R.TCH_CH_HIST_LO_HIST c) (R.TCH_CH_HIST_HI_HIST c) (roundDiv (histNow t) (2 ^ 32)) (s.setTc c t)
  if st = 4 ∧ before = 4 then s.addSat (R.TCH_CH_HO_TIME_HO_TIME c) 1 else s

/-- The freeze causes (07 R191), as STAT.FRZ_CAUSE. After a step edge a selection that changed counts, whether or not a sample is in hand (R204). -/
def tchCauses (s : State) (c m : Nat) (r : TchIn) : Nat :=
  let t := s.tc c
  let good := r.x.isSome && !r.flag && !r.psw
  bit r.flag + 2 * bit (t.lastRef != m && (!good || (decide (c = 0) && s.tch.stepD.isSome))) + 4 * bit r.psw
    + 8 * bit (decide (c = 0) && (decide (0 < t.stepFrz) || s.tch.stepD.isSome))

/-- The loop of TCH_0 or a FREQ channel at an edge (07 R190). A flagged sample met by a restart is discarded (R204). -/
def tchLoop (c : Nat) (s : State) : State :=
  let m := s.getE (R.SEL_TCH_STAT_SELECTED c)
  let before := s.get (R.TCH_CH_STAT_STATE c)
  let r := tchRead s m
  let r := if (s.tc c).fresh && r.flag then {} else r
  let s := s.setTc c { s.tc c with fresh := false, eAge := (s.tc c).eAge + 1, sinceUpd := (s.tc c).sinceUpd + 1 }
  let s := if c = 0 ∧ m < 32 then tchStepReq m r s else s
  let fz := if m < 32 then tchCauses s c m r else 0
  let t := s.tc c
  let s := s.setTc c { t with stepFrz := t.stepFrz - 1 }
  let s := (s.put (R.TCH_CH_STAT_FRZ_CAUSE c) fz).putB (R.TCH_CH_STAT_FROZEN c) (fz != 0)
  let s := s.put (R.TCH_CH_STAT_REF c) (if m < 32 then m else 63)
  let s :=
    if 32 ≤ m then
      let s := s.setTc c { s.tc c with frzRun := 0 }
      if c = 0 ∧ before = 1 then tchHoRate c true s
      else if before = 4 then tchHoRate c false s else tchHoldover c s
    else if fz ≠ 0 then tchFrozen c (tbit fz 1 || (tbit fz 0 && r.step)) s
    else
      let s := s.setTc c { s.tc c with frzRun := 0 }
      match r.x with
      | some x => tchWork c m (x / 65536) s
      | none =>
        if before = 4 then tchHoRate c false s else if c = 0 ∧ before = 1 then tchHoRate c true s else s
  tchPhase c (tchTail c before (tchBwLim c m (tchClamp c s)))

/-- A channel restarted as its mode says (07 R182). -/
def tchRestart (c : Nat) (s : State) : State :=
  let st := match s.get (R.TCH_CH_CTL_MODE c) with
    | 1 => 5
    | 2 => 1
    | _ => 0
  let s := setTchRate c 0 (s.setTc c { fresh := true })
  let s := put48 (R.TCH_CH_PBO_LO_PBO c) (R.TCH_CH_PBO_HI_PBO c) 0 (put48 (R.TCH_CH_PHASE_LO_PHI c) (R.TCH_CH_PHASE_HI_PHI c) 0 s)
  let s := (s.put (R.TCH_CH_STAT_HIST_VALID c) 0).put (R.TCH_CH_STAT_FROZEN c) 0
  let s := (s.put (R.TCH_CH_STAT_FRZ_CAUSE c) 0).put (R.TCH_CH_STAT_REF c) 63
  tchGo c st s

/-- A write of CTL takes effect (07 R182): a MODE that changed restarts the channel; TCH_0's MODE stays TIME. old: the word before. -/
def tchCtlApplied (c old : Nat) (s : State) : State :=
  if c = 0 then s.put (R.TCH_CH_CTL_MODE 0) 1
  else if old % 4 = s.get (R.TCH_CH_CTL_MODE c) then s
  else tchRestart c s

/-- A step of d (2^-16 ns) has been applied at this edge (07 R185, R191). -/
def tchStepped (d : Int) (s : State) : State :=
  let s := { s with tch := { s.tch with stepD := some d } }
  (List.range 8).foldl (fun s c =>
    if c ≠ 0 ∧ s.get (R.TCH_CH_CTL_MODE c) = 2 then
      let t := s.tc c
      put48 (R.TCH_CH_PHASE_LO_PHI c) (R.TCH_CH_PHASE_HI_PHI c) ((t.phi - d) / 64) (s.setTc c { t with phi := t.phi - d })
    else s) s

/-- A new era (07 R204). -/
def tchNewEra (s : State) : State := s.put (R.TCH_CH_STAT_STEP_ERA 0) 0

/-! ## The steering port (07 R202, R203) -/

/-- The code width. -/
def steerBits (s : State) : Nat :=
  match s.get R.TCH_STEER_CFG_BITS with
  | 0 => 16
  | 1 => 20
  | _ => 24

/-- The code sent (07 R203). -/
def steerSend (s : State) : State :=
  let code := s.get R.TCH_STEER_CODE_CODE
  let out := fun (l : List Nat) (s : State) => { s with tch := { s.tch with sent := l } }
  match s.get R.TCH_STEER_CFG_PORT with
  | 1 => out (beBytes 4 (s.get R.TCH_STEER_CFG_PFX * 2 ^ 24 + (code * 2 ^ (24 - steerBits s)) % 2 ^ 24)) s
  | 2 =>
    let q := (s.get R.TCH_STEER_STAT_SEQ + 1) % 256
    let l := [0x5A, code / 65536, code / 256 % 256, code % 256, q]
    out (l ++ [l.foldl (fun a b => a ^^^ b) 0]) (s.put R.TCH_STEER_STAT_SEQ q)
  | _ => s

/-- The oscillator moved by d codes (07 R202): feed-forward in TCH_0, and BND's model. -/
def steerMove (d : Int) (s : State) : State :=
  let k := s.getI R.TCH_STEER_KDAC_KDAC
  let t := s.tc 0
  let s := s.setTc 0 { t with integ := t.integ - d * k * 2 ^ 32 }
  modelSteer (d * k) (d.natAbs * s.get R.TCH_STEER_KUNC_KUNC) (tchClamp 0 (setTchRate 0 (tchRate s 0 - d * k) s))

/-- A written code at its edge (07 STEER_CODE): sent, with the feed-forward of the difference. In HOLDOVER nothing is sent and the code is held (R203); DESIGN CHOICE
(log entry 25): the written one waits. -/
def steerCodeEdge (s : State) : State :=
  match s.tch.codeReq with
  | none => s
  | some v =>
    if s.get (R.TCH_CH_STAT_STATE 0) = 4 then s
    else
    let s := { s with tch := { s.tch with codeReq := none } }
    let old := s.get R.TCH_STEER_CODE_CODE
    steerSend (steerMove ((v % 2 ^ 24 : Nat) - (old : Int)) (s.put R.TCH_STEER_CODE_CODE v))

/-- A steering update (07 R202), due every PER seconds from Stroke 0. -/
def steerUpdate (s : State) : State :=
  let per := s.get R.TCH_STEER_CFG_PER * 8000
  let k := s.getI R.TCH_STEER_KDAC_KDAC
  if s.get R.TCH_STEER_CFG_PORT = 0 ∨ per = 0 ∨ (s.strokes - 1) % per ≠ 0 then s
  else if k = 0 ∨ s.getE (R.TCH_CH_STAT_STATE 0) ≠ 3 ∨ s.flagE (R.TCH_CH_STAT_FROZEN 0) then s.put R.TCH_STEER_STAT_HELD 1
  else
    let stp : Int := s.get R.TCH_STEER_STEP_STEER_STEP
    let q := if 0 < k then roundDiv s.tch.mean (2 * k) else roundDiv (-s.tch.mean) (-2 * k)
    let d := clampI (-stp) stp q
    let code := clampI 0 (2 ^ steerBits s - 1) (s.get R.TCH_STEER_CODE_CODE + d)
    let s := (s.put R.TCH_STEER_CODE_CODE code.toNat).addSat R.TCH_STEER_STAT_UPD_CNT 1
    let s := steerMove d (s.put R.TCH_STEER_STAT_HELD 0)
    steerSend { s with etm := { s.etm with rate := s.etm.ratePub } }

/-! ## The edge -/

/-- TCH at a Stroke edge: every channel (07 R181, R190), after the code written to the steering port. -/
def tchEdge (s : State) : State :=
  let s : State := (List.range 8).foldl (fun (s : State) c =>
    if c = 0 then s
    else match s.getE (R.TCH_CH_CTL_MODE c) with
      | 2 => tchLoop c s
      | 1 => setTchRate c (tchRate s 0) s
      | _ => setTchRate c 0 s) (steerCodeEdge (tchLoop 0 s))
  let s : State := { s with tch := { s.tch with stepD := none } }
  let sum : Int := s.tch.rateSum + s.etm.rate
  if s.strokeNum % 8000 = 0 then { s with tch := { s.tch with rateSum := 0, mean := roundDiv sum 8000 } }
  else { s with tch := { s.tch with rateSum := sum } }

/-! ## The commands -/

/-- A channel's registers as published at the last edge. -/
def tchPub (c : Nat) (s : State) : State := s.repub ((List.range 22).map (fun w => 0x071000 + 0x100 * c + 4 * w))

/-- What a channel's row publishes, as of the edge that it completes; a change of TCH_0's rate is that of the channels that follow it (07 R181). -/
def tchRepub (c : Nat) (s : State) : State :=
  let s := tchPub c s
  if c = 0 then
    (List.range 8).foldl (fun s d => if s.get (R.TCH_CH_STAT_STATE d) = 5 then tchPub d (setTchRate d (tchRate s 0) s) else s)
      { s with etm := { s.etm with rate := s.etm.ratePub } }
  else s

/-- TCH_LOCKED (07 R190): LOCK_CNT successive updates within LOCK_THR. -/
def execTchLocked (c : Fin 8) (s : State) : Host.Outcome State Fault Refusal :=
  live s (if s.get (R.TCH_CH_STAT_STATE c) = 2 ∧ 0 < (s.tc c).lockN ∧ s.getE (R.TCH_CH_LOCK_CNT_LOCK_CNT c) ≤ (s.tc c).lockN then
      tchRepub c (tchGo c 3 (s.setTc c { s.tc c with lockN := 0 })) else s)

/-- HIST_VALID (07 R196): LOCKED for 2^HIST_TC + HO_GUARD Strokes in succession. -/
def execHistValid (c : Fin 8) (s : State) : Host.Outcome State Fault Refusal :=
  live s (if 2 ^ s.getE (R.TCH_CH_HIST_HIST_TC c) + s.getE (R.TCH_CH_HIST_HO_GUARD c) ≤ (s.tc c).lockRun then
      s.pub (R.TCH_CH_STAT_HIST_VALID c) 1 else s)

/-- STEER_CODE_WRITE (07 R202): the code is sent at the next edge. -/
def execSteerCodeWrite (v : BitVec 24) (s : State) : Host.Outcome State Fault Refusal :=
  live s { s with tch := { s.tch with codeReq := some v.toNat } }

/-- MODEL_CLR (06 R172), at the next edge. -/
def execModelClr (s : State) : Host.Outcome State Fault Refusal := live s { s with bnd := { s.bnd with clrReq := true } }

end Sys2Proof.Machine
end

