-- ==== Sys2Proof/Machine/Apl.lean ====
section
/-! DEFINITION. The APLLs (08 R206 to R213), and the outputs' Muffling (R220 to R224). -/

namespace Sys2Proof.Machine

/-! ## Plans (08 R206, R207) -/

/-- A plan's nominal phase-detector frequency in Hz. -/
def planPd (s : State) (k j : Nat) : Rat :=
  (s.get R.PWR_SPLL_OSC_HZ_OSC_HZ : Rat) / (s.get (R.APL_APLL_PLAN_W0_PRE_DIV k j) : Rat)

/-- A plan's nominal VCO frequency in Hz. -/
def planVco (s : State) (k j : Nat) : Rat :=
  planPd s k j * ((s.get (R.APL_APLL_PLAN_W0_FB_INT k j) : Rat) +
    (s.get (R.APL_APLL_PLAN_W1_FB_NUM k j) : Rat) / (s.get (R.APL_APLL_PLAN_W2_FB_DEN k j) : Rat))

/-- Is a plan valid (08 R206)? -/
def planOk (s : State) (k j : Nat) : Bool :=
  let pd := planPd s k j
  let den := s.get (R.APL_APLL_PLAN_W2_FB_DEN k j)
  let v := planVco s k j
  decide (s.get (R.APL_APLL_PLAN_W0_PRE_DIV k j) ≠ 0) && decide (1000000 ≤ pd) && decide (pd ≤ 125000000) && den != 0
    && decide (s.get (R.APL_APLL_PLAN_W1_FB_NUM k j) < den) && decide (10000000000 ≤ v) && decide (v ≤ 13000000000)

/-- The nominal VCO frequency of the plan in use. -/
def vcoOf (s : State) (k : Nat) : Rat := planVco s k (s.apll k).plan

/-- r_a in effect, 2^-60. -/
def fineOf (s : State) (k : Nat) : Int := s.get2I 48 (R.APL_APLL_FINE_LO_R_A k) (R.APL_APLL_FINE_HI_R_A k)

/-- A write to a plan's divider word takes effect (08 R207): ignored for the plan in use while EN = 1, else BAND_VALID clears. -/
def planWordApplied (k j w old : Nat) (s : State) : State :=
  let key := 0x081100 + 0x400 * k + 0x10 * j + 4 * w
  let a := s.apll k
  if a.st ≠ 0 ∧ a.plan = j ∧ s.flag (R.APL_APLL_CTL_EN k) then wrWord s key old
  else s.put (R.APL_APLL_PLAN_W3_BAND_VALID k j) 0

/-! ## Output phase (08 R215, R223) -/

/-- Is the output's class PULSE? -/
def isPulse (s : State) (k : Nat) : Bool := s.flag (R.OUT_CFG_CLASS k)

/-- Is an output aligned (08 R217)? -/
def isAligned (s : State) (k : Nat) : Bool := isPulse s k || s.flag (R.OUT_CFG_ALIGN k)

/-- n raw counts in VCO cycles × 2^48 at the r_a in effect. -/
def countCycles (s : State) (a n : Nat) : Int := ratRound (vcoOf s a * (1 + (fineOf s a : Rat) / 2 ^ 60) * 2 ^ 48 * (n : Rat) / 250000000)

/-- A position in the Stroke, in VCO cycles × 2^48, on the scale of ph, which is without the Roll term. -/
def unRolled (o : OutSt) (v : Int) : Int := v * 2 ^ 60 / (2 ^ 60 + o.roll)

/-- The first edge that leaves an output in the Stroke: its next, or after a release the first past the quiet time (08 R223). -/
def firstEdge (o : OutSt) : Int := if o.quiet ≤ o.ph then o.ph else o.ph + ceilDiv (o.quiet - o.ph) o.div * o.div

/-- Does an output stand at its idle level now (08 R216, R223)? One that is released and has given no edge yet does. -/
def atIdle (s : State) (k : Nat) : Bool :=
  let o := s.outp k
  let a := s.get (R.OUT_CFG_APLL k)
  let pos := unRolled o (countCycles s a (s.now - s.gen.edgeNow))
  if o.wait && decide (pos < firstEdge o) then true
  else
    let now := decide (o.ph ≤ pos)
    let el := if now then (pos - o.ph) % o.div else o.cyc - (o.ph - pos)
    if isPulse s k then
      let w := ratRound (((if now then s.get (R.OUT_WIDTH_WIDTH k) else o.wid : Nat) : Rat) * vcoOf s a * 2 ^ 48 / 1000000000)
      decide (w ≤ el)
    else decide (2 * el < (if now then o.div else o.cyc)) == s.flag (R.OUT_CFG_IDLE k)

/-- An output stands at its idle level: MUFFLED, or OFF where EN = 0 (08 R222). -/
def outStopped (k : Nat) (s : State) : State :=
  let o := s.outp k
  if s.flag (R.OUT_CFG_EN k) then s.setOutp k { o with st := 1, evM := true, mufs := o.mufs + 1 }
  else s.setOutp k { o with st := 0 }

/-- An output is asked to stop (08 R222, R223). -/
def outMuffle (k : Nat) (s : State) : State :=
  let o := s.outp k
  if o.st = 2 then
    let s' := s.setOutp k { o with st := 3 }
    if atIdle s k then outStopped k s' else s'
  else s

/-- The reflex Muffle of an APLL's outputs (08 R208, R223; 01 R37); cause LOCK is recorded at once (08 R220). -/
def apllMuffle (k : Nat) (s : State) : State :=
  (List.range 16).foldl (fun s o =>
    if s.get (R.OUT_CFG_APLL o) = k then
      outMuffle o (if s.flag (R.OUT_CFG_EN o) then s.put ((R.OUT_STAT_MUF_CAUSE o).bitAt 0) 1 else s)
    else s) s

/-- Do all outputs of an APLL stand still? -/
def apllQuiet (s : State) (k : Nat) : Bool :=
  (List.range 16).all (fun o => s.get (R.OUT_CFG_APLL o) != k || decide ((s.outp o).st ≤ 1))

/-! ## An APLL's states (08 R208) -/

/-- Start from OFF or with a plan loaded: ACQUIRE at a stored band, else SEARCH; an invalid plan stays in OFF (08 R206). -/
def apllStart (k : Nat) (s : State) : State :=
  let j := s.get (R.APL_APLL_CTL_PLAN_SEL k)
  let a := s.apll k
  let a := { a with plan := j, selSeen := j, tries := 0, stop := false, band := s.get (R.APL_APLL_PLAN_W3_BAND k j) }
  if planOk s k j then
    apllSync k (s.setApll k { a with st := if s.flag (R.APL_APLL_PLAN_W3_BAND_VALID k j) then 2 else 1 })
  else s.setApll k { a with st := 0, hop := false }

/-- An event group bit kept for the next publication: 0 UNLOCK, 1 LOCKED, 2 HOP_DONE, 3 FENCED, 4 BAND_STORE. -/
def apllEvt (k e : Nat) (s : State) : State := s.setApll k { s.apll k with evts := withBit (s.apll k).evts e true }

/-- An APLL goes OFF once its outputs stand still (08 R208). -/
def apllOff (k : Nat) (s : State) : State :=
  let a := s.apll k
  if a.stop && apllQuiet s k then
    (s.setApll k { a with st := 0, stop := false, hop := false, lockHeld := false, stable := 0 }).put (R.APL_APLL_STAT_LOCK k) 0
  else s

/-- The losses of LOCKED in the last 8 000 Strokes. -/
def recentUnl (s : State) (k : Nat) : Nat := ((s.apll k).losses.filter (fun t => decide (s.strokes < t + 8000))).length

/-- A band stored in the plan in use (08 R210). -/
def bandStore (k b : Nat) (s : State) : State :=
  let j := (s.apll k).plan
  let s := (s.put (R.APL_APLL_PLAN_W3_BAND k j) b).put (R.APL_APLL_PLAN_W3_BAND_VALID k j) 1
  let s := s.put (R.APL_APLL_PLAN_W3_BAND_TJ k j) (s.get R.BND_TEMP_TJ)
  apllEvt k 4 (s.setApll k { s.apll k with band := b })

/-- An APLL FENCED: its event and its fault source (08 R208). -/
def apllFence (k : Nat) (s : State) : State :=
  faultRaise (16 + k) (apllEvt k 3 (s.setApll k { s.apll k with st := 6 }))

/-- The lock criterion (08 R209): n successive PD cycles with no |error| above err, in 2^-16 ns. -/
def lockMet (s : State) (k n err : Nat) : Bool :=
  decide (2 ^ s.get (R.APL_APLL_LOCK_CFG_LOCK_N k) ≤ n) && decide (err * 1000 ≤ s.get (R.APL_APLL_LOCK_CFG_LOCK_WIN k) * 65536)

/-- Does what the phase detector saw take LOCK (08 R209)? -/
def lockGone (s : State) (k : Nat) (why : LockLoss) : Bool :=
  match why with
  | .slip | .range => true
  | .cycles n least => decide (4 ≤ n) && decide (s.get (R.APL_APLL_LOCK_CFG_UNLOCK_WIN k) * 65536 < least * 1000)

/-- LOCK becomes 0 (08 R208, R209). -/
def lockLost (k : Nat) (s : State) : State :=
  let a := s.apll k
  let s := (s.setApll k { a with lockHeld := false }).put (R.APL_APLL_STAT_LOCK k) 0
  match a.st with
  | 3 => s.setApll k { s.apll k with st := 2, tries := 0 }
  | 4 =>
    let n := recentUnl s k
    let m := s.get (R.APL_APLL_CTL_RELOCK_MAX k)
    let s := apllMuffle k (s.setApll k { s.apll k with st := 2, tries := 0, unl := a.unl + 1, losses := s.strokes :: a.losses.take 255 })
    let s := apllEvt k 0 s
    if m ≠ 0 ∧ m < n + 1 then apllFence k s else faultRaise (16 + k) s
  | _ => s

/-- An APLL's STAT published with its events and counts (08 R33's edge). -/
def apllPublish (k : Nat) (s : State) : State :=
  let a := s.apll k
  let s := (s.put (R.APL_APLL_STAT_STATE k) a.st).put (R.APL_APLL_STAT_PLAN_ACT k) a.plan
  let s := (s.put (R.APL_APLL_STAT_BAND k) a.band).putB (R.APL_APLL_STAT_PLAN_ERR k) (!planOk s k (s.get (R.APL_APLL_CTL_PLAN_SEL k)))
  let s := s.put (R.APL_APLL_STAT_RECENT_UNL k) (satW 8 (recentUnl s k))
  let s := (s.addSat (R.APL_APLL_COUNTS_UNLOCK_CNT k) a.unl).addSat (R.APL_APLL_COUNTS_HOP_CNT k) a.hops
  let s := s.setApll k { a with unl := 0, hops := 0, evts := 0 }
  (List.range 5).foldl (fun s e => if tbit a.evts e then raiseEvt ⟨0x080000, 4 * e + k, 4 * e + k⟩ (80 + k) s else s) s

/-- The power domain of an APLL (19 R471). -/
def apllDom (k : Nat) : Nat := if k < 2 then 8 else 9

/-- The edge's rows of R208 that a write makes due: EN, PLAN_SEL, a start from OFF. A unit in reset, or whose domain is not ON,
does nothing (17 R433, 19 R474). -/
def apllRows (k : Nat) (s : State) : State :=
  let a := s.apll k
  let sel := s.get (R.APL_APLL_CTL_PLAN_SEL k)
  if unitDown s (.apll k) || !domOn s (apllDom k) then s
  else if !s.flag (R.APL_APLL_CTL_EN k) then
    if a.st = 0 then s else apllOff k (apllMuffle k (s.setApll k { a with stop := true }))
  else if sel ≠ a.selSeen ∧ a.st ≠ 0 ∧ a.st ≠ 6 then
    apllMuffle k ((s.setApll k { a with st := 5, selSeen := sel, hop := true, hops := a.hops + 1, lockHeld := false, stop := false }).put
      (R.APL_APLL_STAT_LOCK k) 0)
  else if a.st = 0 then apllStart k s
  else s.setApll k { a with stop := false }

/-- r_a at an edge (08 R211): the channel's rate as published at the edge, to 2^-48. -/
def fineEdge (k : Nat) (s : State) : State :=
  let f := s.get (R.APL_APLL_CTL_FINE_TCH k)
  let r := if f < 8 then roundDiv (tchRate s f) 4096 * 4096 else 0
  put48 (R.APL_APLL_FINE_LO_R_A k) (R.APL_APLL_FINE_HI_R_A k) r s

/-- An APLL at a Stroke edge, after the writes that take effect there. -/
def apllEdge (k : Nat) (s : State) : State :=
  let s := apllRows k s
  let a := s.apll k
  let lock := s.flag (R.APL_APLL_STAT_LOCK k)
  let s := s.setApll k { a with stable := if a.st = 3 ∧ a.lockHeld then a.stable + 1 else a.stable, lockHeld := lock,
                                losses := a.losses.filter (fun t => decide (s.strokes < t + 8000)) }
  apllPublish k (fineEdge k s)

/-- What a LOCKA pin does in a PD cycle (08 R213): released, sinking throughout, or sinking for a time in 2^-16 ns. -/
inductive LockaPin where
  | released | sinks
  | pulse (w : Rat)
  deriving DecidableEq, Repr

/-- The sink pulse of a PD cycle with error err, in 2^-16 ns (08 R213): pulses below 1 ns are suppressed. -/
def lockaPulse (s : State) (k : Nat) (err : Int) : LockaPin :=
  let tpd : Rat := 1000000000 * 65536 / planPd s k (s.apll k).plan
  let w : Rat := min ((err.natAbs * 2 ^ s.get (R.APL_APLL_CTL_LK_GAIN k) : Nat) : Rat) (tpd - 2 * 65536)
  if w < 65536 then .released else .pulse w

/-- LOCKA_k in a PD cycle with error err, in 2^-16 ns (08 R213). -/
def lockaPin (s : State) (k : Nat) (err : Int) : LockaPin :=
  if !domOn s (apllDom k) || s.pwr.rst.isSome then .released
  else match (s.apll k).st with
    | 2 | 3 | 4 => lockaPulse s k err
    | _ => .sinks

end Sys2Proof.Machine
end

