-- ==== Sys2Proof/Machine/Out.lean ====
section
/-! DEFINITION. The outputs (08 R215 to R224) at a Stroke edge, and the commands of APL and OUT. -/

namespace Sys2Proof.Machine

/-! ## Figures (08 R215, R216) -/

/-- The nominal period in VCO cycles. -/
def divNom (s : State) (k : Nat) : Rat :=
  if isPulse s k then (s.get (R.OUT_PULSE_PER_PULSE_PER k) : Rat) * vcoOf s (s.get (R.OUT_CFG_APLL k)) / 1000000000
  else (s.get2 (R.OUT_DIV_INT_LO_DIV_INT k) (R.OUT_DIV_INT_HI_DIV_INT k) : Rat)
    + (s.get (R.OUT_DIV_NUM_DIV_NUM k) : Rat) / (s.get (R.OUT_DIV_DEN_DIV_DEN k) : Rat)

/-- The nominal frequency in Hz. -/
def outHz (s : State) (k : Nat) : Rat := vcoOf s (s.get (R.OUT_CFG_APLL k)) / divNom s k

/-- CFG_ERR (08 R216). -/
def outCfgErr (s : State) (k : Nat) : Bool :=
  let mode := s.get (R.TCH_CH_CTL_MODE (s.get (R.OUT_CFG_TCH k)))
  let den := s.get (R.OUT_DIV_DEN_DIV_DEN k)
  let per := s.get (R.OUT_PULSE_PER_PULSE_PER k)
  let wid := s.get (R.OUT_WIDTH_WIDTH k)
  let hz := outHz s k
  let div := den == 0 || decide (den ≤ s.get (R.OUT_DIV_NUM_DIV_NUM k))
  let cls := if isPulse s k then
      mode == 2 || decide (per < 8) || decide (2000000000 < per) || decide (wid < 4) || decide (per < wid + 4)
    else decide (s.get2 (R.OUT_DIV_INT_LO_DIV_INT k) (R.OUT_DIV_INT_HI_DIV_INT k) < 6) || decide (2 * hz < 1) || decide (1500000000 < hz)
      || (s.flag (R.OUT_CFG_ALIGN k) && hz.den != 1)
  mode == 0 || div || cls || (s.flag (R.OUT_CFG_ALIGN k) && mode == 2)

/-- The Roll term rho of R218, 2^-60, from a in 2^-48 ns. DEDUCED (log entry 20): it takes a away, so that with R217's a and R215's 1 + rho its sign is that of −a. -/
def rollTerm (s : State) (k : Nat) (a : Int) : Int :=
  let lim : Int := (min (s.get (R.OUT_ROLL_RATE_ROLL_RATE k)) (2 ^ 27) * 2 ^ 20 : Nat)
  let need : Int := (a.natAbs : Int) * 4096 / 125000
  let r := if lim < need then lim else need
  if a < 0 then r else -r

/-- (1 + r_a) / (1 + r_c) (08 R215), from 2^-60. -/
def divTrim (ra rc : Int) : Rat := (1 + (ra : Rat) / 2 ^ 60) / (1 + (rc : Rat) / 2 ^ 60)

/-- d_eff × 2^48 without its Roll term (08 R215). -/
def divEff (s : State) (k : Nat) : Int :=
  max 1 (ratRound (divNom s k * divTrim (fineOf s (s.get (R.OUT_CFG_APLL k))) (tchRate s (s.get (R.OUT_CFG_TCH k))) * 2 ^ 48))

/-- The Roll term's factor 1 + rho on d_eff (08 R215), × 2^60. -/
def rollDiv (o : OutSt) : Int := 2 ^ 60 + o.roll

/-- VCO cycles × 2^48 as local time in 2^-48 ns. -/
def cycToNs (s : State) (a : Nat) (ph : Int) : Int :=
  ratRound ((ph : Rat) * 1000000000 / (vcoOf s a * (1 + (fineOf s a : Rat) / 2 ^ 60)))

/-- Engine time, in 2^-48 ns, an offset in local 2^-48 ns after the edge at which it was last re-anchored (02 R44). -/
def etAfter (e : EtmSt) (x : Int) : Int := ((e.sec * secUnits + e.sub : Nat) : Int) + x + x * e.rate / 2 ^ 60

/-- A position placed on the nearest 1/128 of a VCO period (08 R215). -/
def placed (s : State) (a : Nat) (ph : Int) : Int :=
  let g : Int := 2 ^ 41
  let v : Int := (s.apll a).vph
  roundDiv (ph + v) g * g - v

/-- The period of an aligned output in 2^-48 ns (08 R217). -/
def alignPer (s : State) (k : Nat) : Rat :=
  if isPulse s k then (s.get (R.OUT_PULSE_PER_PULSE_PER k) : Rat) * 2 ^ 48 else 1000000000 * 2 ^ 48 / outHz s k

/-- PHASE_OFS in 2^-48 ns. -/
def phaseOfs (s : State) (k : Nat) : Int := s.get2I 48 (R.OUT_PHASE_OFS_LO_PHASE_OFS k) (R.OUT_PHASE_OFS_HI_PHASE_OFS k) * 2 ^ 32

/-- ALIGN_ERR in 2^-48 ns (08 R217): the next edge as placed less its target, wrapped into (−P/2, P/2]. -/
def alignErr (s : State) (k : Nat) : Int :=
  let a := s.get (R.OUT_CFG_APLL k)
  let t := etAfter s.etm (cycToNs s a (placed s a (s.outp k).ph)) - phaseOfs s k
  let p := alignPer s k
  let n := ((t : Rat) / p)
  ratRound ((t : Rat) - p * ((ceilDiv (2 * n.num - n.den) (2 * n.den) : Int) : Rat))

/-! ## The Stroke that ends (08 R215, R217) -/

/-- The leading edges of the Stroke that ends: LAST_EDGE and QERR of the last of them that left, and the phase carried on, the Roll term in
effect. With the engine time of the Stroke that ends, which lasted cnt raw counts. -/
def outAdvance (cnt k : Nat) (s : State) : State :=
  let o := s.outp k
  let a := s.get (R.OUT_CFG_APLL k)
  let len := unRolled o (countCycles s a cnt)
  if o.ph < len then
    let n := (len - o.ph + o.div - 1) / o.div
    let last := (o.ph + (n - 1) * o.div) * rollDiv o / 2 ^ 60
    let s' := s.setOutp k { o with ph := o.ph + n * o.div - len, quiet := 0, cyc := o.div, wid := s.get (R.OUT_WIDTH_WIDTH k),
                                   wait := o.wait && !decide (o.quiet ≤ last) }
    if 2 ≤ o.st ∧ o.quiet ≤ last then
      let pl := placed s a last
      let et := etOf (etAfter s.etm (cycToNs s a pl))
      let w := etPack et
      let q := roundDiv (cycToNs s a (pl - last)) (2 ^ 32)
      let s' := (s'.put (R.OUT_LAST_EDGE_W0_LAST_EDGE k) (wordOf w 0)).put (R.OUT_LAST_EDGE_W1_LAST_EDGE k) (wordOf w 1)
      (s'.put (R.OUT_LAST_EDGE_W2_LAST_EDGE k) (wordOf w 2)).put (R.OUT_QERR_QERR k) (ofInt 16 q)
    else s'
  else s.setOutp k { o with ph := o.ph - len, quiet := 0 }

/-- All outputs and the VCO phases over the Stroke that ends, of cnt raw counts, before engine time is re-anchored. -/
def outsAdvance (cnt : Nat) (s : State) : State :=
  let s := (List.range 16).foldl (fun s k => outAdvance cnt k s) s
  (List.range 4).foldl (fun s a =>
    s.setApll a { s.apll a with vph := (((s.apll a).vph + countCycles s a cnt) % 2 ^ 48).toNat }) s

/-! ## Causes and states (08 R220 to R222) -/

/-- Is the RELEASE condition met (08 R221)? -/
def releaseOk (s : State) (k : Nat) : Bool :=
  let r := s.get (R.OUT_CFG_RELEASE k)
  r == 0 || (s.flag (R.TCH_CH_STAT_STEP_ERA 0) && !tbit (s.get (R.TCH_CH_STAT_FRZ_CAUSE 0)) 3 &&
    (r != 2 || !s.flag (R.BND_SET_BOUND_W3_UNBOUNDED (1 + s.get (R.OUT_CFG_TCH k)))))

/-- MUF_CAUSE (08 R220). -/
def mufCauses (s : State) (k : Nat) : Nat :=
  let c := s.get (R.OUT_CFG_TCH k)
  let time := s.get (R.TCH_CH_CTL_MODE c) == 1
  let st := s.get (R.TCH_CH_STAT_STATE (if time then 0 else c))
  let a := s.apll (s.get (R.OUT_CFG_APLL k))
  bitsOf [a.st != 4 || a.stop, s.flag (R.OUT_CFG_MUF_HO k) && (st == 1 || st == 4), !releaseOk s k,
    s.flag (R.OUT_CFG_MUF_TGT k) && s.flag (R.BND_SET_STAT_TGT_EXC (1 + c)), s.flag (R.OUT_CFG_MUFFLE k),
    time && s.get R.ETM_STAT_RE_STATE != 0, time && s.flag R.ETM_STAT_BACKUP_CLK, outCfgErr s k || (s.outp k).cfgNow]

/-- The first edge after a release (08 R223): the first target at least 2 µs on, or the first divider boundary. -/
def outRelease (k : Nat) (s : State) : State :=
  let o := s.outp k
  let a := s.get (R.OUT_CFG_APLL k)
  let o := { o with st := 2, quiet := countCycles s a 500, wait := true }
  let o := if isAligned s k then { o with ra := fineOf s a, rc := tchRate s (s.get (R.OUT_CFG_TCH k)) } else o
  let ph := if isAligned s k then
      let p := alignPer s k
      let from' : Rat := (etAfter s.etm (2000 * 2 ^ 48) - phaseOfs s k : Int)
      let n := ratCeil (from' / p)
      let t := ratRound (p * (n : Rat)) + phaseOfs s k - etmOffset s.etm
      let loc : Rat := (t : Rat) / (1 + (s.etm.rate : Rat) / 2 ^ 60)
      ratRound (loc * vcoOf s a * (1 + (fineOf s a : Rat) / 2 ^ 60) / 1000000000)
    else o.ph
  raiseEvt (R.OUT_EVT_RELEASED.bitAt k) (84 + k) (s.setOutp k { o with ph := ph })

/-- An output's table at an edge (08 R222). -/
def outRows (k : Nat) (s : State) : State :=
  let o := { s.outp k with cfgNow := (s.outp k).restart, restart := false, moved := false }
  let s := s.setOutp k o
  let en := s.flag (R.OUT_CFG_EN k)
  let cause := mufCauses s k
  let s := s.put (R.OUT_STAT_MUF_CAUSE k) (if en then cause else 0)
  if unitDown s (.out k) then s
  else if !en then
    match o.st with
    | 2 => outMuffle k s
    | 1 => s.setOutp k { o with st := 0 }
    | _ => s
  else match o.st with
    | 0 => s.setOutp k { o with st := 1, moved := true }
    | 1 => if cause = 0 then outRelease k s else s
    | 2 => if cause = 0 then s else outMuffle k s
    | _ => if cause = 0 then s.setOutp k { o with st := 2 } else s

/-- The rest of an output's table at an edge, where what completes that edge has changed its causes (08 R222): one transition an edge. -/
def outAgain (k : Nat) (s : State) : State :=
  let o := s.outp k
  let cause := mufCauses s k
  if unitDown s (.out k) || !s.flag (R.OUT_CFG_EN k) then s
  else
    let s := s.put (R.OUT_STAT_MUF_CAUSE k) cause
    if o.moved then s
    else match o.st with
      | 1 => if cause = 0 then outRelease k s else s
      | 2 => if cause = 0 then s else outMuffle k s
      | 3 => if cause = 0 then s.setOutp k { o with st := 2 } else s
      | _ => s

/-- An output's figures for the Stroke that begins, and its registers (08 R215 to R219). -/
def outFigures (k : Nat) (s : State) : State :=
  let o := s.outp k
  let a := s.get (R.OUT_CFG_APLL k)
  let al := isAligned s k
  let ra := fineOf s a
  let rc := tchRate s (s.get (R.OUT_CFG_TCH k))
  let o := { o with ph := ratRound ((o.ph : Rat) * (divTrim ra rc / divTrim o.ra o.rc)), ra := ra, rc := rc }
  let s := s.setOutp k o
  let err := if al && !outCfgErr s k then alignErr s k else 0
  let step := cycToNs s a (2 ^ 40)
  let roll := if 2 ≤ o.st ∧ step < err.natAbs then rollTerm s k err else 0
  let s := s.setOutp k { o with div := divEff s k, roll := roll }
  let s := if al then put48 (R.OUT_ALIGN_ERR_LO_A k) (R.OUT_ALIGN_ERR_HI_A k) (err / 2 ^ 38) s else s
  let s := (s.putB (R.OUT_STAT_ROLLING k) (roll != 0)).putB (R.OUT_STAT_ALIGNED k) (o.st == 2 && (!al || roll == 0))
  s.putB (R.OUT_STAT_CFG_ERR k) (outCfgErr s k)

/-- An output's state and its Muffles published. -/
def outPublish (k : Nat) (s : State) : State :=
  let o := s.outp k
  let s := (s.put (R.OUT_STAT_STATE k) o.st).addSat (R.OUT_COUNTS_MUF_CNT k) o.mufs
  let s := s.setOutp k { o with evM := false, mufs := 0 }
  let s := if o.evM then raiseEvt (R.OUT_EVT_MUFFLED.bitAt k) (84 + k) s else s
  let s := s.putB (R.OUT_MAP_NOT_RUN.bitAt k) (s.flag (R.OUT_CFG_EN k) && o.st != 2)
  s.putB (R.OUT_MAP_ROLLING.bitAt k) (o.roll != 0)

/-- The fields of CFG whose write restarts an output (08 R224): EN, FORMAT, CLASS, APLL, TCH, ALIGN. -/
def outCfgKey (w : Nat) : Nat := w &&& 0x7B8F

/-- A write to an output's CFG has taken effect (08 R224). -/
def outCfgApplied (k old : Nat) (s : State) : State :=
  if outCfgKey old = outCfgKey (rdWord s (R.OUT_CFG_EN k).addr) then s
  else
    let o := s.outp k
    s.setOutp k { o with restart := true }

/-- What a driver puts on its two balls (08 R216, R222, R223, 21 R531): none is high-impedance. DESIGN CHOICE (log entry 26): OFF is high-impedance. -/
def outPins (s : State) (k : Nat) : Option Bool × Option Bool :=
  let f := s.get (R.OUT_CFG_FORMAT k)
  let st := (s.outp k).st
  let idle := if isPulse s k then s.flag (R.OUT_CFG_POL k) else s.flag (R.OUT_CFG_IDLE k)
  let v := if st == 1 || atIdle s k then idle else !idle
  if f == 0 || f == 7 || st == 0 || s.pwr.rst.isSome || bankLow s (k / 8) then (none, none)
  else if f == 5 then (some v, some v)
  else if f == 6 then (some v, none)
  else (some v, some !v)

/-- One output at an edge. -/
def outOne (k : Nat) (s : State) : State := outPublish k (outFigures k (outRows k s))

/-- APL and OUT at a Stroke edge, after engine time and the writes that take effect there. -/
def outsEdge (s : State) : State :=
  let s := (List.range 4).foldl (fun s k => apllEdge k s) s
  let s := (List.range 16).foldl (fun s k => outOne k s) s
  (List.range 4).foldl (fun s k => apllOff k s) s

/-! ## The commands -/

/-- PLAN_LOADED (08 R208): in HOP, with every output of the APLL MUFFLED. -/
def execPlanLoaded (k : Fin 4) (s : State) : Host.Outcome State Fault Refusal :=
  live s (if (s.apll k).st = 5 ∧ apllQuiet s k then apllStart k s else s)

/-- BAND_FOUND (08 R208, R210): the band that a cold search found. -/
def execBandFound (k : Fin 4) (band : BitVec 8) (s : State) : Host.Outcome State Fault Refusal :=
  live s (if (s.apll k).st = 1 then
      let s := bandStore k band.toNat s
      s.setApll k { s.apll k with st := 2, tries := 0 } else s)

/-- SEARCH_FAIL (08 R208): no band locks. -/
def execSearchFail (k : Fin 4) (s : State) : Host.Outcome State Fault Refusal :=
  live s (if (s.apll k).st = 1 then apllFence k s else s)

/-- TUNING_AT_RAIL (08 R208, R210): each adjacent band is tried once, up first where up; then a cold search. -/
def execTuningAtRail (k : Fin 4) (up : Bool) (s : State) : Host.Outcome State Fault Refusal :=
  live s (
    let a := s.apll k
    if a.st = 2 then
      let b := s.get (R.APL_APLL_PLAN_W3_BAND k a.plan)
      let hi := min 255 (b + 1)
      let lo := b - 1
      match a.tries with
      | 0 => s.setApll k { a with tries := 1, band := if up then hi else lo }
      | 1 => s.setApll k { a with tries := 2, band := if a.band = hi then lo else hi }
      | _ => s.setApll k { a with tries := 0, st := 1 }
    else s)

/-- LOCK_CRITERION_MET (08 R208, R209): n successive PD cycles whose largest |error| is err. -/
def execLockCriterionMet (k : Fin 4) (n err dt : Nat) (s : State) : Host.Outcome State Fault Refusal :=
  live s (
    let s := s.tick dt
    let a := s.apll k
    if a.st = 2 ∧ lockMet s k n err then
      let s := if a.tries = 0 then s else bandStore k a.band s
      (s.setApll k { s.apll k with st := 3, stable := 0, lockHeld := false, tries := 0 }).put (R.APL_APLL_STAT_LOCK k) 1
    else s)

/-- LOCK_LOST (08 R208, R209). -/
def execLockLost (k : Fin 4) (why : LockLoss) (dt : Nat) (s : State) : Host.Outcome State Fault Refusal :=
  live s (
    let s := s.tick dt
    if s.flag (R.APL_APLL_STAT_LOCK k) && lockGone s k why then lockLost k s else s)

/-- APLL_STABLE (08 R208): the stable count has reached LOCK_STABLE; the outputs that have no other cause are released at the edge. -/
def execApllStable (k : Fin 4) (s : State) : Host.Outcome State Fault Refusal :=
  live s (
    let a := s.apll k
    if a.st = 3 ∧ 0 < a.stable ∧ s.get (R.APL_APLL_CTL_LOCK_STABLE k) ≤ a.stable then
      let s := apllEvt k 1 (s.setApll k { a with st := 4, hop := false })
      let s := apllPublish k (if a.hop then apllEvt k 2 s else s)
      (List.range 16).foldl (fun s o => if s.get (R.OUT_CFG_APLL o) = k.val then outPublish o (outFigures o (outAgain o s)) else s) s
    else s)

/-- What APL and OUT make of rates that the completion of the edge has changed (08 R211, R215, R220): as published at that edge. -/
def ratesAgain (s : State) : State :=
  let s := (List.range 4).foldl (fun s k => (fineEdge k s).repub [(R.APL_APLL_FINE_LO_R_A k).addr, (R.APL_APLL_FINE_HI_R_A k).addr]) s
  (List.range 16).foldl (fun s k =>
    (outPublish k (outFigures k (outAgain k s))).repub [(R.OUT_STAT_STATE k).addr, (R.OUT_ALIGN_ERR_LO_A k).addr, (R.OUT_ALIGN_ERR_HI_A k).addr]) s

/-- FREEZE_TO_HOLDOVER (07 R190): frozen for more than 64 edges; the selection is kept. -/
def execFreezeToHoldover (c : Fin 8) (s : State) : Host.Outcome State Fault Refusal :=
  live s (if 64 < (s.tc c).frzRun ∧ s.get (R.TCH_CH_STAT_STATE c) ≠ 4 then ratesAgain (tchRepub c (tchHoldover c s)) else s)

/-- STEER_UPDATE (07 R202). -/
def execSteerUpdate (s : State) : Host.Outcome State Fault Refusal := live s (ratesAgain (tchRepub 0 (steerUpdate s)))

/-- OUT_REACHES_IDLE (08 R222, R223). -/
def execOutReachesIdle (k : Fin 16) (dt : Nat) (s : State) : Host.Outcome State Fault Refusal :=
  live s (
    let s := s.tick dt
    if (s.outp k).st = 3 then apllOff (s.get (R.OUT_CFG_APLL k)) (outStopped k s) else s)

end Sys2Proof.Machine
end

