-- ==== Sys2Proof/Machine/Gns.lean ====
section
/-! DEFINITION. GNS: the sample clock (09 R229 to R232), the front-end table (R233, R234), spectrum, notches and jamming (R235 to R238),
acquisition (R239 to R243), the channels' states (R244 to R249), the epoch latch and the record (R250 to R256). -/

namespace Sys2Proof.Machine

/-- GNS set. -/
def State.setGns (s : State) (g : GnsSt) : State := { s with gns := g }

/-- A channel. -/
def State.gch (s : State) (n : Nat) : GnsCh := tget {} s.gns.chs n

/-- A channel set. -/
def State.setGch (s : State) (n : Nat) (c : GnsCh) : State := s.setGns { s.gns with chs := tset {} s.gns.chs n c }

/-- Band b (0 B1, 1 B5) of a channel. -/
def GnsCh.band (c : GnsCh) (b : Nat) : BandSt := if b = 0 then c.b1 else c.b5

/-- Band b of a channel set. -/
def GnsCh.setBand (c : GnsCh) (b : Nat) (v : BandSt) : GnsCh := if b = 0 then { c with b1 := v } else { c with b5 := v }

/-- Is a channel IDLE (09 R247)? -/
def GnsCh.idle (c : GnsCh) : Bool := c.b1.st == 0 && c.b5.st == 0

/-- Is a channel in DUAL (09 R246)? joint: JOINT_EN. -/
def GnsCh.dual (c : GnsCh) (joint : Bool) : Bool := joint && c.b1.st == 2 && c.b5.st == 2

/-- CH_STATE (09 R254). A channel with both bands active and not in DUAL shows the band that is in PLL, B1 first (log entry 28). -/
def GnsCh.state (c : GnsCh) (joint : Bool) : Nat :=
  if c.idle then 0 else if c.dual joint then 3
  else if c.b1.st = 2 then 1 else if c.b5.st = 2 then 2 else if c.b1.st ≠ 0 then 1 else 2

/-- Does the baseband run: its domain ON, not in reset, EN = 1? -/
def gnsOn (s : State) : Bool := domOn s 3 && (s.get R.GNT_SLEEP_STAT_SLP_STATE % 3 == 0) && !unitDown s .gnss && s.flag R.GNS_CTL_EN

/-! ## Signals (09 R227, R228) -/

/-- Chip rate in Hz. -/
def sigRate (sig : Nat) : Nat := if sig < 0x10 then 1023000 else 10230000

/-- Primary length in chips. -/
def sigLen (sig : Nat) : Nat :=
  match sig with
  | 0x01 | 0x05 => 1023
  | 0x03 => 4092
  | _ => 10230

/-- Is the signal tracked as BOC(1,1)? -/
def sigBoc (sig : Nat) : Bool := sig == 2 || sig == 3 || sig == 4

/-- Cells per chip (09 R240). -/
def sigCells (sig : Nat) : Nat := if sigBoc sig then 4 else 2

/-- The band of a signal. -/
def sigBand (sig : Nat) : Nat := if sig < 0x10 then 0 else 1

/-- The searched signal of a system on a band. -/
def searchSig (sys b : Nat) : Nat :=
  if b = 1 then 0x11 + sys
  else match sys with
    | 0 => 0x01
    | 1 => 0x03
    | 2 => 0x04
    | _ => 0x05

/-- The primary period in ms (09 R227). -/
def sigMs (sig : Nat) : Nat :=
  match sig with
  | 0x02 | 0x04 => 10
  | 0x03 => 4
  | _ => 1

/-- Is the tracked component a pilot (09 R227)? -/
def sigPilot (sig : Nat) : Bool := sig != 1 && sig != 5

/-- The length of the primary code in 2^-18 chip. -/
def sigSpan (sig : Nat) : Nat := sigLen sig * 2 ^ 18

/-- NC of a signal (09 R240). -/
def sigNc (s : State) (sig : Nat) : Nat :=
  if 0x10 ≤ sig then s.get R.GNS_ACQ_CFG_NC_B5 else if sigBoc sig then s.get R.GNS_ACQ_CFG_NC_BOC else s.get R.GNS_ACQ_CFG_NC_CA

/-- Is a satellite excluded (09 exclusion masks)? SVID of a QZSS satellite is its PRN less 192. -/
def excluded (s : State) (sys svid : Nat) : Bool :=
  match sys with
  | 0 => tbit (s.get R.GNS_EXCL_GPS_GPS) (svid - 1)
  | 1 => tbit (s.get2 R.GNS_EXCL_GAL_LO_GAL R.GNS_EXCL_GAL_HI_GAL) (svid - 1)
  | 2 => tbit (s.get2 R.GNS_EXCL_BDS_LO_BDS R.GNS_EXCL_BDS_HI_BDS) (svid - 1)
  | _ => tbit (s.get R.GNS_EXCL_QZS_QZS) (svid - 1)

/-- Does the almanac mark a satellite as lacking a signal's band (09 R228)? -/
def sigLacks (s : State) (sys svid sig : Nat) : Bool := s.gns.aid.any (fun a => a.sys == sys && a.svid == svid && a.sig == sig && !a.served)

/-- Is band b enabled and able to run (09 R230)? -/
def bandOn (s : State) (b : Nat) : Bool :=
  (if b = 0 then s.flag R.GNS_CTL_B1_EN else s.flag R.GNS_CTL_B5_EN) && !tbit s.gns.bandOff b

/-- Is a system enabled? -/
def sysOn (s : State) (sys : Nat) : Bool := tbit (s.get R.GNS_CTL_SYS_EN) sys

/-- The SVIDs searched of a system (09 R228). -/
def svids (sys : Nat) : List Nat :=
  match sys with
  | 0 => (List.range 32).map (· + 1)
  | 1 => (List.range 36).map (· + 1)
  | 2 => (List.range 45).map (· + 19)
  | _ => (List.range 10).map (· + 1)

/-! ## The sample clock (09 R230 to R232) -/

/-- One component of a sample from its two pins (09 R229): bit 1 the sign, bit 0 the magnitude. -/
def portComp (s : State) (pins : Nat) (k : Nat) : Int :=
  let neg := tbit pins (2 * k + 1) != s.flag R.GNS_PORT_SIGN_POL
  let big := tbit pins (2 * k) != s.flag R.GNS_PORT_MAG_POL
  (if neg then -1 else 1) * (if big then 3 else 1)

/-- A sample of the port (09 R229): I and Q of B1 and of B5, at the edge that SCLK_EDGE selects. Bank 3 without its rail reads 0. -/
def portSample (x : SclkIn) (s : State) : State :=
  let pins := if bankLow s 3 then 0 else (if s.flag R.GNS_PORT_SCLK_EDGE then x.fall else x.rise).toNat
  let v := portComp s pins
  let pair := fun (sw : Bool) (a b : Int) => if sw then [b, a] else [a, b]
  s.setGns { s.gns with port := pair (s.flag R.GNS_PORT_IQ_SWAP_B1) (v 0) (v 1) ++ pair (s.flag R.GNS_PORT_IQ_SWAP_B5) (v 2) (v 3) }

/-- The nominal sample rate in Hz. -/
def sclkHz (s : State) : Nat :=
  match s.get R.GNS_PORT_SCLK_NOM with
  | 0 => 16368000
  | 1 => 20460000
  | 2 => 40920000
  | _ => 81840000

/-- Is a band's IF out of range (09 R230)? -/
def ifBad (s : State) (f : Fld) : Bool := decide (4 * sclkHz s * 16 < 10 * (s.getI f).natAbs)

/-- The bands that stay off, bit b, and PORT_ERR (09 R230). -/
def portCheck (s : State) : State :=
  let e1 := ifBad s R.GNS_IF_B1_IF
  let e5 := ifBad s R.GNS_IF_B5_IF || (s.get R.GNS_PORT_SCLK_NOM == 0 && s.flag R.GNS_CTL_B5_EN)
  (s.setGns { s.gns with bandOff := bit e1 + 2 * bit e5 }).putB R.GNS_STAT_PORT_ERR (e1 || e5)

/-- The latch converter's stamp at a RAW48 and raw code: RAWF, and INV (03 R98, R99). -/
def latchStamp (s : State) (raw code : Nat) : Nat × Bool :=
  let bk := s.flag R.ETM_STAT_BACKUP_CLK
  let fine := if bk then 0 else convFine s 40 code
  (raw % 2 ^ 48 * 4096 + fine, bk || s.clp.warm || (s.slice 40 (convSlice s)).bad)

/-- The fractional frequency between two stamps in 2^-44 (09 R231). -/
def sclkFreq (s : State) (a b : Nat × Int) : Int :=
  let n : Int := ((a.1 : Int) - (b.1 : Int)) * 1000000000 * 2 ^ 26
  let d : Int := (a.2 - b.2) * (sclkHz s : Int)
  if d ≤ 0 then 0 else roundDiv ((n - d) * 2 ^ 44) d

/-- Parts per million in 2^-44. -/
def ppm (n : Nat) : Nat := n * 2 ^ 44 / 1000000

/-- A band OFF: its record zeroed (09 R247). -/
def bandDrop (n b : Nat) (s : State) : State := s.setGch n ((s.gch n).setBand b {})

/-- A channel's two bands OFF; an IDLE channel is all zeros. -/
def chDrop (n : Nat) (s : State) : State := s.setGch n {}

/-- A channel with both bands OFF is free (09 R247). -/
def chFree (n : Nat) (s : State) : State := if (s.gch n).idle then s.setGch n {} else s

/-- An armed latch skipped: the epoch counts and the next record carries GAP (09 R250, R251). -/
def epochSkip (s : State) : State :=
  match s.gns.armed with
  | none => s
  | some a => s.setGns { s.gns with armed := none, last := a.1, gap := true, epochGo := true, newest := { eflags := 2 }, seq := (s.gns.seq + 1) % 2 ^ 32 }

/-- SCLK_LOS sets (09 R231, R232). -/
def sclkLos (s : State) : State :=
  let s := (s.put R.GNS_STAT_SCLK_LOS 1).put R.GNS_STAT_SCLK_OK 0
  let s := epochSkip (s.setGns { s.gns with sclk := [], good := 0, dwell := [], chs := [] })
  let s := s.put R.GNS_STAT_SRCH_STATE 0
  faultRaise 23 (raiseEvt R.GNS_EVT_SCLK_LOS 184 s)

/-- SCLK_OK sets (09 R231): the rate's window starts anew. -/
def sclkOk (s : State) : State :=
  if 8 ≤ s.gns.good ∧ ¬ s.flag R.GNS_STAT_SCLK_OK then
    let s := (s.put R.GNS_STAT_SCLK_OK 1).put R.GNS_STAT_SCLK_LOS 0
    raiseEvt R.GNS_EVT_SCLK_OK 184 (s.setGns { s.gns with sclk := s.gns.sclk.take 1 })
  else s

/-- SCLK_RATE of the stamps held, the newest against the oldest. -/
def sclkRate (s : State) : State :=
  match s.gns.sclk with
  | p :: q :: l => s.put R.GNS_SCLK_RATE_SCLK_RATE (ofInt 32 (satI 32 (sclkFreq s p.2 ((q :: l).getLastD q).2)))
  | _ => s

/-- What the rate over one Stroke says of the sample clock (09 R231); none: the Strokes' stamps do not follow each other. -/
def sclkJudge (f : Option Nat) (s : State) : State :=
  match f with
  | none => s
  | some f =>
    if ppm 200 < f then (if s.flag R.GNS_STAT_SCLK_LOS then s.setGns { s.gns with good := 0 } else sclkLos s)
    else sclkOk (s.setGns { s.gns with good := if f ≤ ppm 100 then s.gns.good + 1 else 0 })

/-- The stamp of the Stroke that ends taken into the rate (09 R231): a stamp that is INV is not used. Without a stamp the run of good Strokes ends. -/
def sclkEdge (i : Option SclkIn) (s : State) : State :=
  match i with
  | none => s.setGns { s.gns with good := 0 }
  | some x =>
    let at' := s.now - 31250 + min x.dt 31249
    let st := latchStamp s at' x.code
    let s := portSample x (s.setGns { s.gns with sclkAt := at' })
    if st.2 then s
    else
      let p := (s.strokes, x.idx, etTotal s.etm st.1 / 2 ^ 22)
      let f := match s.gns.sclk.head? with
        | some q => if q.1 + 1 = s.strokes then some (sclkFreq s p.2 q.2).natAbs else none
        | none => none
      sclkJudge f (sclkRate (s.setGns { s.gns with sclk := p :: s.gns.sclk.filter (fun q => decide (s.strokes ≤ q.1 + 8000)) }))

/-! ## The front-end table (09 R233, R234) -/

/-- A run or a due AGC read begins where the master is free. -/
def feNext (s : State) : State :=
  let g := s.gns
  if g.fe.isSome then s
  else if g.feAgain then
    let s := s.setGns { g with feAgain := false, feAbort := false }
    if s.get R.GNS_FE_CFG_N_ENT = 0 then raiseEvt R.GNS_EVT_FE_DONE 184 s
    else ((s.setGns { s.gns with fe := some 0, feAt := s.now, feRan := true, feHold := false, agcRun := none }).put R.GNS_FE_STAT_BUSY 1).put R.GNS_STAT_FE_BUSY 1
  else if g.agcDue ≠ 0 then
    let b := if tbit g.agcDue 0 then 0 else 1
    let e := if b = 0 then s.get R.GNS_AGC_CFG_AGC_IDX_B1 else s.get R.GNS_AGC_CFG_AGC_IDX_B5
    s.setGns { g with fe := some e, feAt := s.now, feRan := true, feHold := false, agcRun := some b, agcDue := withBit g.agcDue b false }
  else s

/-- FE_CMD.RUN (09 R233): ignored during a run. -/
def feRun (s : State) : State :=
  if s.flag R.GNS_STAT_FE_BUSY || s.gns.feAgain || !domOn s 3 then s else feNext (s.setGns { s.gns with feAgain := true })

/-- FE_CMD.ABORT (09 R233). -/
def feAbort (s : State) : State := if s.flag R.GNS_STAT_FE_BUSY then s.setGns { s.gns with feAbort := true } else s

/-- A run ends. -/
def feEnd (s : State) : State :=
  feNext (((s.setGns { s.gns with fe := none, feHold := false, agcRun := none, feAbort := false }).put R.GNS_FE_STAT_BUSY 0).put R.GNS_STAT_FE_BUSY 0)

/-- Half an SCK period and the length of entry k's transfer and of its wait, in 4 ns (09 R233). -/
def feHalf (s : State) : Nat := s.get R.GNS_FE_CFG_DIV + 1

/-- The length of entry k's transfer in 4 ns. -/
def feLen (s : State) (k : Nat) : Nat := (s.get (R.GNS_FE_TBL_CTRL_LEN k) + 1) * (2 * feHalf s)

/-- The front end's three pins, CS_N, SCK and MOSI, at an instant (09 R233, 21 R540): none is high-impedance, before the first run and without the domain. SCK
rests at MODE [1]; MODE [0] puts the captured edge second. -/
def fePins (s : State) (t : Nat) : Option (Bool × Bool × Bool) :=
  let g := s.gns
  if !domOn s 3 || !g.feRan then none
  else
    let rest := tbit (s.get R.GNS_FE_CFG_MODE) 1
    match g.fe with
    | none => some (true, rest, false)
    | some k =>
      let d := t - g.feAt
      if feLen s k ≤ d then some (!s.flag (R.GNS_FE_TBL_CTRL_HOLD_CS k), rest, false)
      else some (false, rest != (tbit (d / feHalf s) 0 != tbit (s.get R.GNS_FE_CFG_MODE) 0),
        tbit (s.get (R.GNS_FE_TBL_DATA_DATA k)) (s.get (R.GNS_FE_TBL_CTRL_LEN k) - d / (2 * feHalf s)))

/-- Is the entry in progress over, with its wait of DELAY µs (09 R233)? -/
def feOver (s : State) : Bool :=
  match s.gns.fe with
  | none => false
  | some k => decide (s.gns.feAt + feLen s k + 250 * s.get (R.GNS_FE_TBL_CTRL_DELAY k) ≤ s.now)

/-- An entry's transfer ends with the bits it captured (09 R233, R234). -/
def feEntry (rx : Nat) (s : State) : State :=
  match s.gns.fe with
  | none => s
  | some k =>
    let m := 2 ^ (s.get (R.GNS_FE_TBL_CTRL_LEN k) + 1)
    let v := rx % m
    let s := if s.flag (R.GNS_FE_TBL_CTRL_READ k) || s.gns.agcRun.isSome then s.put (R.GNS_FE_TBL_RX_RX k) v else s
    match s.gns.agcRun with
    | some b => feEnd (s.put (if b = 0 then R.GNS_AGC_REF_AGC_B1 else R.GNS_AGC_REF_AGC_B5) v)
    | none =>
      if s.flag (R.GNS_FE_TBL_CTRL_VERIFY k) && v != s.get (R.GNS_FE_TBL_DATA_DATA k) % m then
        feEnd (raiseEvt R.GNS_EVT_FE_ERR 184 ((s.put R.GNS_FE_STAT_ERR 1).put R.GNS_FE_STAT_ERR_IDX k))
      else if s.gns.feAbort then feEnd s
      else if s.get R.GNS_FE_CFG_N_ENT ≤ k + 1 then feEnd (raiseEvt R.GNS_EVT_FE_DONE 184 s)
      else s.setGns { s.gns with fe := some (k + 1), feAt := s.now, feHold := s.flag (R.GNS_FE_TBL_CTRL_HOLD_CS k) }

/-- The period of P ms, counted from Stroke 0, that the present Stroke lies in. -/
def msPeriod (s : State) (p : Nat) : Nat := s.strokeNum / 8 / max 1 p

/-- AGC_READ of band b (09 R234): once in every AGC_PER ms, counted from Stroke 0. -/
def agcRead (b : Nat) (s : State) : State :=
  let n := msPeriod s (s.get R.GNS_AGC_CFG_AGC_PER)
  if s.flag (if b = 0 then R.GNS_JAM_CFG_AGC_EN_B1 else R.GNS_JAM_CFG_AGC_EN_B5) ∧ domOn s 3 ∧ n ≠ tget 0 s.gns.agcAt b then
    feNext (s.setGns { s.gns with agcDue := withBit s.gns.agcDue b true, agcAt := tset 0 s.gns.agcAt b n })
  else s

/-! ## Spectrum, notches, jamming (09 R235 to R238) -/

/-- JI of a band (09 R238), 1/8 dB. -/
def jamInd (s : State) (b peak : Nat) : Nat :=
  let en := if b = 0 then s.flag R.GNS_JAM_CFG_AGC_EN_B1 else s.flag R.GNS_JAM_CFG_AGC_EN_B5
  let ref := if b = 0 then s.get R.GNS_AGC_REF_REF_B1 else s.get R.GNS_AGC_REF_REF_B5
  let agc := if b = 0 then s.get R.GNS_AGC_REF_AGC_B1 else s.get R.GNS_AGC_REF_AGC_B5
  let drop := if en then (ref - agc) * s.get R.GNS_AGC_CFG_AGC_STEP else 0
  min 255 ((drop + 1) / 2 + (peak - s.get R.GNS_JAM_CFG_PEAK_FLOOR))

/-- A notch's index. -/
def notchIdx (b n : Nat) : Nat := 4 * b + n

/-- A notch's 3 dB width in 2^-4 Hz. -/
def notchWidth (s : State) (b n : Nat) : Nat := 50000 * 2 ^ s.get (R.GNS_NOTCH_CTL_WIDTH b n) * 16

/-- The largest n up to 255 with 10^(n/80) at most a / b (09 R235, R241): a ratio of powers in 1/8 dB, rounded down. -/
def dB8 (a b : Nat) : Nat :=
  [128, 64, 32, 16, 8, 4, 2, 1].foldl (fun n k => if 10 ^ (n + k) * b ^ 80 ≤ a ^ 80 then n + k else n) 0

/-- The median of a spectrum: the lower of the two middle bins (log entry 27). -/
def specMed (l : List Nat) : Nat := (l.mergeSort (fun a b => decide (a ≤ b))).getD ((l.length - 1) / 2) 0

/-- The offset of bin k from the band IF in 2^-4 Hz: bin 128 lies at offset 0 of the samples. -/
def binOffset (s : State) (b k : Nat) : Int :=
  ((k : Int) - 128) * (sclkHz s : Int) / 16 - s.getI (if b = 0 then R.GNS_IF_B1_IF else R.GNS_IF_B5_IF)

/-- The spectral peaks: the bins above both neighbours, as (offset, power), the strongest first. -/
def specPeaks (s : State) (b : Nat) (l : List Nat) : List (Int × Nat) :=
  let n := l.length
  let at' := fun k => l.getD (k % n) 0
  ((List.range n).filter (fun k => decide (at' (k + n - 1) < at' k) && decide (at' (k + 1) ≤ at' k))).map (fun k => (binOffset s b k, at' k))
    |>.mergeSort (fun x y => decide (y.2 ≤ x.2))

/-- Is a tone held by an active notch of the band? -/
def toneHeld (s : State) (b : Nat) (f : Int) : Bool :=
  (List.range 4).any (fun n => s.flag (R.GNS_NOTCH_STAT_ACTIVE b n) &&
    decide (2 * (f - s.getI (R.GNS_NOTCH_FREQ_FREQ b n)).natAbs ≤ notchWidth s b n))

/-- A peak, as its offset and its level over the median, assigned to the free adaptive notch of lowest index whose threshold it exceeds (09 R236). -/
def notchAssign (b : Nat) (p : Int × Nat) (s : State) : State :=
  if toneHeld s b p.1 then s
  else match (List.range 4).find? (fun n => s.get (R.GNS_NOTCH_CTL_MODE b n) == 2 && !s.flag (R.GNS_NOTCH_STAT_ACTIVE b n) &&
      decide (s.get (R.GNS_NOTCH_CTL_NOTCH_THR b n) < p.2)) with
    | none => s
    | some n =>
      let s := ((s.put (R.GNS_NOTCH_STAT_ACTIVE b n) 1).put (R.GNS_NOTCH_FREQ_FREQ b n) (ofInt 32 p.1)).put
        (R.GNS_NOTCH_STAT_TONE b n) (min 255 p.2)
      s.setGns { s.gns with notchChg := true, notches := tset {} s.gns.notches (notchIdx b n) { below := 0, ref := p.1 } }

/-- What an active notch sees of its tone at an update (09 R236, R237). -/
def notchSee (b n : Nat) (v : Int × Nat × Nat) (s : State) : State :=
  if s.flag (R.GNS_NOTCH_STAT_ACTIVE b n) then
    let o := tget {} s.gns.notches (notchIdx b n)
    let low := decide (v.2.1 + 24 < s.get (R.GNS_NOTCH_CTL_NOTCH_THR b n))
    let s := ((s.put (R.GNS_NOTCH_FREQ_FREQ b n) (ofInt 32 v.1)).put (R.GNS_NOTCH_STAT_TONE b n) (min 255 v.2.1)).put
      (R.GNS_NOTCH_STAT_DEPTH b n) (min 255 v.2.2)
    let mv := decide (notchWidth s b n < (v.1 - o.ref).natAbs)
    s.setGns { s.gns with notchChg := s.gns.notchChg || mv,
                          notches := tset {} s.gns.notches (notchIdx b n) { o with below := if low then o.below + 1 else 0 } }
  else s

/-- A held tone released (09 R236, R237). -/
def notchDrop (b n : Nat) (s : State) : State :=
  let s := ((s.put (R.GNS_NOTCH_STAT_ACTIVE b n) 0).put (R.GNS_NOTCH_STAT_TONE b n) 0).put (R.GNS_NOTCH_STAT_DEPTH b n) 0
  s.setGns { s.gns with notchChg := true, notches := tset {} s.gns.notches (notchIdx b n) {} }

/-- The notch in effect: its centre from the band IF (09 R236). -/
def notchAt (s : State) (b n : Nat) : Option Int :=
  match s.get (R.GNS_NOTCH_CTL_MODE b n) with
  | 1 => some (tget 0 s.gns.notchSet (notchIdx b n))
  | 2 => if s.flag (R.GNS_NOTCH_STAT_ACTIVE b n) then some (s.getI (R.GNS_NOTCH_FREQ_FREQ b n)) else none
  | _ => none

/-- A notch's CTL as it takes effect (09 R236). mode: MODE before. A held tone is given up unless the notch stays adaptive; a fixed notch stands at the FREQ last
written. -/
def notchCtl (b n mode : Nat) (s : State) : State :=
  let new := s.get (R.GNS_NOTCH_CTL_MODE b n)
  if new = mode then s
  else
    let s := if s.flag (R.GNS_NOTCH_STAT_ACTIVE b n) then notchDrop b n s else s
    let s := if new = 1 then s.put (R.GNS_NOTCH_FREQ_FREQ b n) (ofInt 32 (tget 0 s.gns.notchSet (notchIdx b n))) else s
    if new = 1 ∨ mode = 1 then s.setGns { s.gns with notchChg := true } else s

/-- A notch's FREQ as it takes effect (09 R236): a held tone's centre still reads. old: the word before. -/
def notchFreq (b n old : Nat) (s : State) : State :=
  let f := s.getI (R.GNS_NOTCH_FREQ_FREQ b n)
  let was := tget 0 s.gns.notchSet (notchIdx b n)
  let mv := s.get (R.GNS_NOTCH_CTL_MODE b n) == 1 && decide (notchWidth s b n < (f - was).natAbs)
  let s := s.setGns { s.gns with notchSet := tset 0 s.gns.notchSet (notchIdx b n) f, notchChg := s.gns.notchChg || mv }
  if s.flag (R.GNS_NOTCH_STAT_ACTIVE b n) then s.put (R.GNS_NOTCH_FREQ_FREQ b n) old else s

/-- The code phase that the notches of a band in effect take from a signal, in 2^-18 chip (09 R237). -/
def notchCode (s : State) (b sig : Nat) : Int :=
  let d := (List.range 4).foldl (fun a n => match notchAt s b n with
    | some f => a + Config.notchDelay (s.get (R.GNS_NOTCH_CTL_WIDTH b n)) f
    | none => a) (0 : Int)
  roundDiv (d * (sigRate sig * 4 : Nat)) 1000000000

/-- A band's monitor update (09 R235 to R238), once in every millisecond counted from Stroke 0. -/
def specUpdate (b : Nat) (x : SpecIn) (s : State) : State :=
  let med := specMed x.bins
  let pk := dB8 (x.bins.foldl max 0) med
  let ji := jamInd s b pk
  let s := s.setGns (if b = 0 then { s.gns with pk1 := pk, ji1 := ji } else { s.gns with pk5 := pk, ji5 := ji })
  let s := s.setGns { s.gns with specAt := tset 0 s.gns.specAt b (msPeriod s 1) }
  let s := (List.range 4).foldl (fun s n => match x.notches[n]? with
    | some v => notchSee b n v s
    | none => s) s
  (specPeaks s b x.bins).foldl (fun s p => notchAssign b (p.1, dB8 p.2 med) s) s

/-- PEAK and JI published at the next edge, with JAM (09 R238). -/
def jamEdge (s : State) : State :=
  let thr := s.get R.GNS_JAM_CFG_JAM_THR
  let one := fun (b ji : Nat) (f : Fld) (s : State) =>
    let up := tbit s.gns.jamUp b
    if thr ≤ ji ∧ ¬ up then raiseEvt f 184 (s.setGns { s.gns with jamUp := withBit s.gns.jamUp b true })
    else if ji + 16 < thr then s.setGns { s.gns with jamUp := withBit s.gns.jamUp b false }
    else s
  let s := (s.put R.GNS_JAM_PEAK_B1 s.gns.pk1).put R.GNS_JAM_PEAK_B5 s.gns.pk5
  let s := (s.put R.GNS_JAM_JI_B1 s.gns.ji1).put R.GNS_JAM_JI_B5 s.gns.ji5
  one 1 s.gns.ji5 R.GNS_EVT_JAM_B5 (one 0 s.gns.ji1 R.GNS_EVT_JAM_B1 s)

/-! ## Acquisition (09 R239 to R243) -/

/-- The aiding of a satellite's signal, where the set is not stale. -/
def aidOf (s : State) (sys svid sig : Nat) : Option AidIn :=
  if outputStale s .aiding then none else s.gns.aid.find? (fun a => a.sys == sys && a.svid == svid && a.sig == sig)

/-- Is the code phase aided (09 R239)? -/
def codeAided (s : State) : Bool := !outputStale s .aiding && !(bndOfE s 0).2.2

/-- The cells of a satellite's grid (09 R240). -/
def gridCells (s : State) (sig : Nat) (a : Option AidIn) : Nat :=
  let full := sigLen sig * sigCells sig
  match a with
  | some x =>
    if codeAided s then
      min full ((2 * (bndM s + x.uRange * 65536) * sigRate sig * sigCells sig + 65536000000000 - 1) / 65536000000000 + 1)
    else full
  | none => full

/-- The Doppler bins of a satellite's grid (09 R240). -/
def gridBins (s : State) (sig : Nat) (a : Option AidIn) : Nat :=
  match a.bind (fun x => x.dop.map (fun _ => x.uDop)) with
  | some u => max 1 ((2 * u + 499) / 500)
  | none =>
    let sp := s.get R.GNS_ACQ_CFG_DOP_SPAN * 10
    if sigBand sig = 0 then 2 * ((sp + 499) / 500) + 1 else 2 * ((sp * 117645 + 78771000 - 1) / 78771000) + 1

/-- Entries per bin (09 R241). -/
def binParts (cells : Nat) : Nat := (cells + 4095) / 4096

/-- The entries of a satellite's grid. -/
def gridEntries (s : State) (sig : Nat) (a : Option AidIn) : Nat := gridBins s sig a * binParts (gridCells s sig a)

/-- Is a satellite held by a channel? -/
def satHeld (s : State) (sys svid : Nat) : Bool := s.gns.chs.any (fun c => !c.2.idle && c.2.sys == sys && c.2.svid == svid)

/-- The bands on which satellites are first searched. -/
def acqBands (s : State) : List Nat :=
  (match s.get R.GNS_CTL_ACQ_BAND with
    | 0 => [0]
    | 1 => [1]
    | _ => [0, 1]).filter (bandOn s)

/-- Every satellite and signal to be searched, GPS and QZSS L1 C/A first (09 R228, R239, R240). -/
def searchList (s : State) : List AcqEntry :=
  let all := (acqBands s).flatMap (fun b => [0, 3, 1, 2].flatMap (fun sys => (svids sys).map (fun v =>
    ({ kind := 2, sys := sys, svid := v, sig := searchSig sys b } : AcqEntry))))
  let vis := fun (e : AcqEntry) => outputStale s .aiding || (aidOf s e.sys e.svid e.sig).any (·.visible)
  let wait := fun (e : AcqEntry) => s.gns.retry.any (fun r => r.1.sys == e.sys && r.1.svid == e.svid)
  all.filter (fun e => sysOn s e.sys && !sigLacks s e.sys e.svid e.sig && !excluded s e.sys e.svid && !satHeld s e.sys e.svid && vis e && !wait e)

/-- Is an entry still wanted: its system, band and satellite in use, the satellite held by no channel, a handover's channel in PLL? -/
def entryLive (s : State) (e : AcqEntry) : Bool :=
  sysOn s e.sys && bandOn s (sigBand e.sig) && !excluded s e.sys e.svid && (if e.ch < 96 then !(s.gch e.ch).idle else !satHeld s e.sys e.svid)

/-- A dwell being packed: the entries taken, and what stays queued. -/
structure Pack where
  take : List AcqEntry := []
  rest : List AcqEntry := []
  cells : Nat := 0
  deriving DecidableEq, Repr

/-- The centre of entry idx of a satellite's grid (09 R240, R241): the code phase in 2^-18 chip and the Doppler in 2^-8 Hz. The bins rise, and within a bin the code
phase; an unaided window starts at code phase 0. -/
def gridAt (s : State) (sig : Nat) (a : Option AidIn) (cells idx : Nat) : Nat × Int :=
  let parts := binParts cells
  let size := (cells + parts - 1) / parts
  let half : Int := ((2 * (idx % parts) * size + size : Nat) : Int) - 1
  let first : Int := match a with
    | some x => if codeAided s then (x.codePh * (2 * sigCells sig) : Nat) - ((cells : Int) - 1) * 2 ^ 18 else 0
    | none => 0
  let ph := (first + half * 2 ^ 18) / (2 * sigCells sig : Nat) % (sigSpan sig : Int)
  let mid : Int := ((a.bind (·.dop)).getD 0) * 256
  (ph.toNat, mid + (2 * (idx / parts : Nat) - ((gridBins s sig a : Int) - 1)) * 64000)

/-- As many successive entries of a satellite's grid as fit. mid: an entry's centre. -/
def packGrid (mid : Nat → Nat × Int) (parts cells total : Nat) (e : AcqEntry) : Nat → Pack → Pack
  | 0, p => { p with rest := p.rest ++ [e] }
  | fuel + 1, p =>
    let size := (cells + parts - 1) / parts
    if e.idx < total ∧ p.take.length < 64 ∧ p.cells + size ≤ 4096 then
      packGrid mid parts cells total { e with idx := e.idx + 1 } fuel
        { p with take := p.take ++ [{ e with cells := size, codePh := (mid e.idx).1, dop := (mid e.idx).2 }], cells := p.cells + size }
    else if e.idx < total then { p with rest := p.rest ++ [e] }
    else p

/-- One queued entry packed where it fits (09 R241). -/
def packOne (s : State) (band : Nat) (p : Pack) (e : AcqEntry) : Pack :=
  if sigBand e.sig ≠ band then { p with rest := p.rest ++ [e] }
  else if e.kind = 2 then
    let a := aidOf s e.sys e.svid e.sig
    let c := gridCells s e.sig a
    let aided := codeAided s && a.isSome
    let e := { e with aided := aided, idx := if e.aided = aided then e.idx else 0, nc := sigNc s e.sig }
    packGrid (gridAt s e.sig a c) (binParts c) c (gridEntries s e.sig a) e 64 p
  else if p.take.length < 64 ∧ p.cells + e.cells ≤ 4096 then { p with take := p.take ++ [e], cells := p.cells + e.cells }
  else { p with rest := p.rest ++ [e] }

/-- The order of packing: verification, handover, aided, unaided (09 R241). -/
def packOrder (s : State) (l : List AcqEntry) : List AcqEntry :=
  let ai := fun (e : AcqEntry) => codeAided s && (aidOf s e.sys e.svid e.sig).isSome
  l.filter (fun e => e.kind == 0) ++ l.filter (fun e => e.kind == 1) ++ l.filter (fun e => e.kind == 2 && ai e)
    ++ l.filter (fun e => e.kind == 2 && !ai e)

/-- SEARCH_PLAN (09 R241): a dwell packed from the queue, which takes in every satellite to be searched. -/
def searchPlan (s : State) : State :=
  if !gnsOn s || !s.flag R.GNS_STAT_SCLK_OK || !s.gns.dwell.isEmpty then s
  else
    let q := s.gns.queue.filter (entryLive s)
    let new := (searchList s).filter (fun e => !q.any (fun x => x.sys == e.sys && x.svid == e.svid && x.sig == e.sig))
    let q := packOrder s (q ++ new)
    match q with
    | [] => (s.setGns { s.gns with queue := [] }).put R.GNS_STAT_SRCH_STATE 0
    | e :: _ =>
      let p := q.foldl (packOne s (sigBand e.sig)) {}
      let ca := codeAided s
      let s := (s.putB R.GNS_STAT_CODE_AIDED ca).putB R.GNS_STAT_DOP_AIDED (!outputStale s .aiding && s.gns.aid.any (·.dop.isSome))
      (s.setGns { s.gns with queue := p.rest, dwell := p.take, dwellFrom := s.strokes,
                             dwellNc := p.take.foldl (fun a e => max a e.nc) 0 }).put R.GNS_STAT_SRCH_STATE 2

/-- A verification entry for a detection (09 R242). -/
def verifyEntry (e : AcqEntry) (h : DwellHit) : AcqEntry :=
  { e with kind := 0, idx := 0, cells := 3, nc := 2 * e.nc, codePh := h.codePh, dop := h.dop }

/-- A detection of a first search or a handover (09 R242). -/
def acqDetect (e : AcqEntry) (h : DwellHit) (s : State) : State :=
  let same := fun (x : AcqEntry) => x.sys == e.sys && x.svid == e.svid && x.sig == e.sig
  pmcAdd 321 1 {} (s.setGns { s.gns with queue := s.gns.queue.filter (fun x => !same x) ++ [verifyEntry e h] })

/-- A band enters PULLIN from a confirmed detection (09 R247). -/
def bandPullin (n : Nat) (e : AcqEntry) (h : DwellHit) (s : State) : State :=
  let c := { s.gch n with sys := e.sys, svid := e.svid }
  s.setGch n (c.setBand (sigBand e.sig) { st := 1, sig := e.sig, codePh := h.codePh, dop := h.dop, half := sigPilot e.sig })

/-- A confirmation (09 R242, R243): to its channel, or to the lowest-numbered IDLE one; with none, CH_FULL and a retry. -/
def acqConfirm (e : AcqEntry) (h : DwellHit) (s : State) : State :=
  if e.ch < 96 then
    if (s.gch e.ch).idle ∨ ((s.gch e.ch).band (sigBand e.sig)).st ≠ 0 then s else pmcAdd 323 1 {} (bandPullin e.ch e h s)
  else if satHeld s e.sys e.svid then s
  else match (List.range 96).find? (fun n => (s.gch n).idle && !unitDown s (.gnssCh n)) with
    | some n =>
      let s := bandPullin n e h s
      s.setGns { s.gns with queue := s.gns.queue.filter (fun x => !(x.sys == e.sys && x.svid == e.svid)) }
    | none =>
      let s := raiseEvt R.GNS_EVT_CH_FULL 184 (s.addSat R.GNS_ACQ_STAT_CH_FULL 1)
      let r : AcqEntry := { kind := 2, sys := e.sys, svid := e.svid, sig := e.sig }
      s.setGns { s.gns with retry := s.gns.retry ++ [(r, s.strokes + s.get R.GNS_ACQ_CFG2_RETRY * 8000)] }

/-- The channel's other band of a handover (09 R243): the code phase predicted from the tracked band and the aided ionospheric difference, the Doppler scaled by
the ratio of the bands' carriers. -/
def hoEntry (n b : Nat) (s : State) : AcqEntry :=
  let c := s.gch n
  let src := c.band (1 - b)
  let sig := searchSig c.sys b
  let io := ((aidOf s c.sys c.svid sig).map (·.iono)).getD 0
  let ph := roundDiv ((src.codePh * sigRate sig : Nat) : Int) (sigRate src.sig) - roundDiv (io * (sigRate sig * 4 : Nat)) 1000000000
  { kind := 1, sys := c.sys, svid := c.svid, sig := sig, nc := if b = 1 then s.get R.GNS_ACQ_CFG_NC_B5 else s.get R.GNS_ACQ_CFG_NC_CA, ch := n,
    cells := (2 * s.get R.GNS_ACQ_CFG2_HO_WIN * sigRate sig * sigCells sig + 999999999) / 1000000000 + 1,
    codePh := (ph % (sigSpan sig : Int)).toNat,
    dop := if b = 1 then roundDiv (src.dop * 117645) 157542 else roundDiv (src.dop * 157542) 117645 }

/-- A verification that fails (09 R242, R243). -/
def acqVerFail (e : AcqEntry) (s : State) : State :=
  let s := pmcAdd 322 1 {} (s.addSat R.GNS_ACQ_STAT_VER_FAIL 1)
  if e.ch < 96 then
    s.setGns { s.gns with retry := s.gns.retry ++ [({ e with kind := 1 }, s.strokes + s.get R.GNS_ACQ_CFG2_RETRY * 8000)] }
  else
    let r : AcqEntry := { kind := 2, sys := e.sys, svid := e.svid, sig := e.sig }
    s.setGns { s.gns with queue := s.gns.queue ++ [r] }

/-- Does a power exceed the dwell's noise floor, the mean of its 64 noise cells, by ACQ_THR (09 R241, R242)? -/
def acqOver (s : State) (noise : List Nat) (p : Nat) : Bool :=
  decide (10 ^ s.get R.GNS_ACQ_CFG_ACQ_THR * (noise.foldl (· + ·) 0) ^ 80 < (64 * p) ^ 80)

/-- One entry of a dwell tested (09 R242). -/
def acqTest (hits : List DwellHit) (noise : List Nat) (k : Nat) (e : AcqEntry) (s : State) : State :=
  match hits.find? (fun h => h.entry == k && acqOver s noise h.power) with
  | some h => if e.kind = 0 then acqConfirm e h s else acqDetect e h s
  | none =>
    if e.kind = 0 then acqVerFail e s
    else if e.kind = 1 then
      s.setGns { s.gns with retry := s.gns.retry ++ [(e, s.strokes + s.get R.GNS_ACQ_CFG2_RETRY * 8000)] }
    else s

/-- The power of an entry of a dwell. -/
def hitPower (hits : List DwellHit) (k : Nat) : Nat := (hits.find? (fun h => h.entry == k)).elim 0 (·.power)

/-- The entries of a dwell, the strongest peak first (09 R257), each with its index. -/
def dwellOrder (hits : List DwellHit) (d : List AcqEntry) : List (Nat × AcqEntry) :=
  ((List.range d.length).zip d).mergeSort (fun a b => decide (hitPower hits b.1 ≤ hitPower hits a.1))

/-- DWELL_COMPLETE (09 R241, R242); an entry whose satellite or band has gone out of use counts no more (R249). -/
def dwellDone (hits : List DwellHit) (noise : List Nat) (s : State) : State :=
  let g := s.gns
  if !gnsOn s || g.dwell.isEmpty || decide (s.strokes < g.dwellFrom + 8 * g.dwellNc) then s
  else
    let s := (s.setGns { g with dwell := [] }).addSat R.GNS_ACQ_STAT_DWELLS 1
    let s := ((dwellOrder hits g.dwell).filter (fun p => entryLive s p.2)).foldl (fun s p => acqTest hits noise p.1 p.2 s) (pmcAdd 320 1 {} s)
    s.put R.GNS_STAT_SRCH_STATE (if s.gns.queue.isEmpty && (searchList s).isEmpty then 0 else 1)

/-- Entries whose wait is over are queued again (09 R242, R243); a handover is formed anew from the tracked band. -/
def searchRetry (s : State) : State :=
  let g := s.gns
  let due := g.retry.filter (fun r => decide (r.2 ≤ s.strokes))
  let ok := fun (r : AcqEntry × Nat) => r.1.ch ≥ 96 || ((s.gch r.1.ch).band (1 - sigBand r.1.sig)).st == 2
  s.setGns { g with retry := g.retry.filter (fun r => !decide (r.2 ≤ s.strokes)), queue := g.queue ++ (due.filter ok).map (fun r => if r.1.ch < 96 then hoEntry r.1.ch (sigBand r.1.sig) s else r.1) }

/-- A handover entry for a channel's other band (09 R243). -/
def handover (n : Nat) (s : State) : State :=
  let c := s.gch n
  let b := if c.b1.st = 2 then 1 else 0
  let src := c.band (1 - b)
  let queued := (s.gns.queue ++ s.gns.dwell ++ s.gns.retry.map (·.1)).any (fun e => e.ch == n)
  if src.st = 2 ∧ (c.band b).st = 0 ∧ bandOn s b ∧ sigLacks s c.sys c.svid (searchSig c.sys b) = false ∧ s.get R.GNS_ACQ_CFG2_HO_DELAY ≤ src.age ∧ ¬ queued then
    s.setGns { s.gns with queue := s.gns.queue ++ [hoEntry n b s] }
  else s

/-! ## Tracking (09 R244 to R249) -/

/-- The coherent interval of a band in ms (09 R244). -/
def cohMs (s : State) (b : BandSt) : Nat :=
  let t := s.get (if sigBand b.sig = 0 then R.GNS_LOOP_B1_T_COH else R.GNS_LOOP_B5_T_COH)
  let p := sigMs b.sig
  if sigPilot b.sig then (if b.secSync then p * max 1 (t / p) else p)
  else if b.bitSync then [20, 10, 5, 4, 2].foldl (fun a d => if a = 1 ∧ d ≤ t then d else a) 1
  else 1

/-- The loops that a band runs (09 R244, R245, R247): in PULLIN a FLL and a DLL at twice DLL_BW, in PLL a PLL; a band in COAST keeps its DLL and PLL. -/
def bandLoops (s : State) (b : BandSt) : LoopSet :=
  let r := fun (f g : Fld) => if sigBand b.sig = 0 then f else g
  let dll := [1, 2, 4, 10, 20, 40].getD (s.get (r R.GNS_LOOP_B1_DLL_BW R.GNS_LOOP_B5_DLL_BW)) 0
  let fll := [1, 2, 5, 10].getD (s.get (r R.GNS_LOOP_B1_FLL_BW R.GNS_LOOP_B5_FLL_BW)) 0
  let pll := [2, 3, 5, 8, 10, 15, 20, 25].getD (s.get (r R.GNS_LOOP_B1_PLL_BW R.GNS_LOOP_B5_PLL_BW)) 0
  let ord := 2 + s.get (r R.GNS_LOOP_B1_PLL_ORD R.GNS_LOOP_B5_PLL_ORD)
  { dll := if b.st = 1 then 2 * dll else dll, fll := if b.st = 1 then fll else 0, pll := if b.st = 1 then 0 else pll, ord := if b.st = 1 then 0 else ord,
    coh := cohMs s b, el := s.get (r R.GNS_LOOP_B1_EL_SP R.GNS_LOOP_B5_EL_SP), vevl := s.get (r R.GNS_LOOP_B1_VEVL_SP R.GNS_LOOP_B5_VEVL_SP) }

/-- A band's NCOs after an interval of t (2^-16 ns) in which they ran as x says (09 R255). -/
def ncoMove (t : Nat) (x : NcoIn) (b : BandSt) : BandSt :=
  let m : Int := sigSpan b.sig
  let c : Int := b.codePh + ((sigRate b.sig * t * 4 : Nat) : Int) / 1000000000 + x.code
  { b with codePh := (c % m).toNat, period := ((b.period + c / m) % 65536).toNat, phase := satWrap48 (b.phase + x.phase), dop := x.dop }
where
  /-- Wrapped to signed 48 bits. -/
  satWrap48 (v : Int) : Int := (v + 2 ^ 47) % 2 ^ 48 - 2 ^ 47

/-- How far a coasting band's NCOs run with the range that the other band tracks and the held ionospheric delay (09 R246): both bands' carriers and codes follow
the same range, so that they stand in the ratio of the carriers and of the chip rates. -/
def coastNco (b : Nat) (own other : BandSt) (x : NcoIn) : NcoIn :=
  let r := fun (v : Int) => if b = 1 then roundDiv (v * 117645) 157542 else roundDiv (v * 157542) 117645
  { code := roundDiv (x.code * (sigRate own.sig : Int)) (sigRate other.sig), phase := r x.phase, dop := r x.dop }

/-- What drives band b's NCOs: its own loops, or, in COAST while the other band is in PLL under JOINT_EN, the other band's range (09 R246). -/
def bandNco (s : State) (c : GnsCh) (b : Nat) (x1 x5 : NcoIn) : NcoIn :=
  let own := if b = 0 then x1 else x5
  if s.flag R.GNS_CTL_JOINT_EN ∧ (c.band b).st = 3 ∧ (c.band (1 - b)).st = 2 then
    coastNco b (c.band b) (c.band (1 - b)) (if b = 0 then x5 else x1)
  else own

/-- PLI of the last 20 ms (09 R248), rounded down (log entry 29). -/
def pliOf (l : List Int) : Nat := ((255 * max (0 : Int) (l.foldl (· + ·) 0)) / ((max 1 l.length * 2 ^ 32 : Nat) : Int)).toNat

/-- (I² − Q²)/(I² + Q²) in 2^-32; without any power 0. -/
def iqRatio (i q : Int) : Int := if i = 0 ∧ q = 0 then 0 else (i * i - q * q) * 2 ^ 32 / (i * i + q * q)

/-- A band's correlations of a millisecond (09 R244, R245, R248): PLI, C/N0, the phase discriminator where the coherent interval ends, the side peaks' run, and what
was found. jump: the discriminator moved by more than 0.25 cycle. -/
def bandSee (s : State) (t : BandTick) (b : BandSt) : BandSt × Bool :=
  let iq := (iqRatio t.i t.q :: b.iq).take 20
  let last := decide (cohMs s b ≤ b.run + 1)
  let jump := last && b.disc.any (fun d => decide (16384 < (t.disc - d).natAbs))
  let side := sigBoc b.sig && decide (t.prompt < max t.ve t.vl)
  ({ b with loops := bandLoops s b, iq := iq, pli := min 255 (pliOf iq), cn0 := min 255 t.cn0, run := if last then 0 else b.run + 1,
            disc := if last then some t.disc else b.disc, ve := t.ve, vl := t.vl, sideRun := if side then b.sideRun + 1 else 0,
            half := sigPilot b.sig || b.half || t.preamble, bitSync := b.bitSync || t.bitSync, secSync := b.secSync || t.secSync }, jump)

/-- A band at a 1 ms tick: its measurements and its timers. x: what drives its NCOs. -/
def bandTick (s : State) (x : NcoIn) (t : BandTick) (b : BandSt) : BandSt :=
  if b.st = 0 then b
  else
    let v := bandSee s t (ncoMove (1000000 * 2 ^ 16) x b)
    let b := v.1
    let lost := decide (b.pli < s.get R.GNS_LOCK_CFG_PLI_LOSS) || decide (b.cn0 < s.get R.GNS_LOCK_CFG_CN0_MIN)
    let ok := decide (s.get R.GNS_LOCK_CFG_PLI_LOCK ≤ b.pli)
    let slip := v.2 && !ok
    { b with slip := b.slip || slip, age := b.age + 1, good := if ok then b.good + 1 else 0, bad := if lost then b.bad + 1 else 0,
             lockMs := if b.st = 2 then (if slip then 0 else min 65535 (b.lockMs + 1)) else b.lockMs }

/-- L1C taken up in place of L1 C/A (09 R227): by a channel of GPS that tracks it, under L1C_EN. -/
def takeL1c (s : State) (sys : Nat) (t : BandTick) (b : BandSt) : BandSt :=
  match t.l1c with
  | none => b
  | some p =>
    if s.flag R.GNS_CTL_L1C_EN ∧ sys = 0 ∧ b.sig = 0x01 ∧ b.st = 2 then
      { b with sig := 0x02, codePh := p % sigSpan 0x02, half := true, bitSync := false, secSync := false, run := 0, disc := none }
    else b

/-- One channel's millisecond (09 R244 to R248). -/
def chTick (s : State) (t : ChTick) (c : GnsCh) : GnsCh :=
  let b1 := takeL1c s c.sys t.b1 (bandTick s (bandNco s c 0 t.b1.nco t.b5.nco) t.b1 c.b1)
  let b5 := bandTick s (bandNco s c 1 t.b1.nco t.b5.nco) t.b5 c.b5
  let d := c.dual (s.flag R.GNS_CTL_JOINT_EN)
  { c with b1 := b1, b5 := b5, rho := if d then t.rho else c.rho, iono := if d then t.iono else c.iono,
           bw := if d then [1, 2, 5, 10].getD (s.get R.GNS_LOCK_CFG_IONO_BW) 0 else 0 }

/-- TRACK_TICK (09 R247). -/
def trackTick (l : List ChTick) (s : State) : State :=
  if gnsOn s then
    l.foldl (fun s t =>
      let c := s.gch t.ch
      if 96 ≤ t.ch || c.idle || unitDown s (.gnssCh t.ch) then s
      else
        let c' := chTick s t c
        let n := bit (c'.b1.slip && !c.b1.slip) + bit (c'.b5.slip && !c.b5.slip)
        let s := s.setGch t.ch c'
        if n = 0 then s else pmcAdd 324 n {} s) s
  else s

/-- A band in PLL (09 R247). -/
def bandLock (n b : Nat) (s : State) : State :=
  let c := s.gch n
  let x := c.band b
  if (x.st = 1 ∨ x.st = 3) ∧ s.get R.GNS_LOCK_TIME_PLI_CNT ≤ x.good ∧ 0 < x.good then
    s.setGch n (c.setBand b { x with st := 2, age := 0, bad := 0, lockMs := 0 })
  else s

/-- A band in COAST with SLIP (09 R247, R248). -/
def bandLoss (n b : Nat) (s : State) : State :=
  let c := s.gch n
  let x := c.band b
  if x.st = 2 ∧ s.get R.GNS_LOCK_TIME_LOSS_MS ≤ x.bad ∧ 0 < x.bad then
    pmcAdd 324 1 {} (s.setGch n (c.setBand b { x with st := 3, age := 0, good := 0, slip := true }))
  else s

/-- A band's timeout to OFF (09 R247), unless the row to PLL, which stands before it, matches. -/
def bandTimeout (st lim n b : Nat) (s : State) : State :=
  let x := (s.gch n).band b
  let ok := decide (s.get R.GNS_LOCK_TIME_PLI_CNT ≤ x.good) && decide (0 < x.good)
  if x.st = st ∧ lim ≤ x.age ∧ !ok then chFree n (bandDrop n b s) else s

/-- A side peak (09 R248): after 20 ms the code NCO half a chip towards the stronger side, and SLIP. -/
def sidePeak (n b : Nat) (s : State) : State :=
  let c := s.gch n
  let x := c.band b
  if x.st = 0 ∨ ¬ sigBoc x.sig ∨ x.sideRun < 20 then s
  else
    let m := sigSpan x.sig
    let ph := if x.ve < x.vl then (x.codePh + 2 ^ 17) % m else (x.codePh + m - 2 ^ 17) % m
    pmcAdd 324 1 {} (s.setGch n (c.setBand b { x with side := true, slip := true, codePh := ph, sideRun := 0, lockMs := 0 }))

/-- The first row of R247 at an edge: what is excluded, disabled or released goes OFF (R249). -/
def chCheck (n : Nat) (s : State) : State :=
  let c := s.gch n
  if c.idle then s
  else if !gnsOn s || excluded s c.sys c.svid || !sysOn s c.sys || s.gns.rel.contains n || unitDown s (.gnssCh n) then
    let s := if excluded s c.sys c.svid then pmcAdd 325 1 {} s else s
    chDrop n s
  else
    let s := if bandOn s 0 then s else bandDrop n 0 s
    let s := if bandOn s 1 then s else bandDrop n 1 s
    chFree n s

/-- A channel's registers published. -/
def chPublish (n : Nat) (s : State) : State :=
  let c := s.gch n
  if c = {} ∧ rdWord s (R.GNS_CH_STAT_CH_STATE n).addr = 0 then s
  else
    let fl := fun (b : BandSt) => b.st + 8 * bitsOf [b.slip, b.half, b.bitSync, b.secSync, b.side]
    let s := wrWord s (0x0A1000 + 0x20 * n) (c.state (s.flag R.GNS_CTL_JOINT_EN) + 4 * c.sys + 16 * c.svid + 2 ^ 10 * c.b1.st + 2 ^ 12 * c.b5.st + 2 ^ 16 * c.b1.sig
      + 2 ^ 24 * c.b5.sig)
    let s := wrWord s (0x0A1004 + 0x20 * n) (c.b1.cn0 + 2 ^ 8 * c.b5.cn0 + 2 ^ 16 * c.b1.pli + 2 ^ 24 * c.b5.pli)
    let s := wrWord s (0x0A1008 + 0x20 * n) (c.b1.lockMs + 2 ^ 16 * c.b5.lockMs)
    let s := wrWord (wrWord s (0x0A100C + 0x20 * n) (ofInt 32 c.b1.dop)) (0x0A1010 + 0x20 * n) (ofInt 32 c.b5.dop)
    wrWord s (0x0A1014 + 0x20 * n) (fl c.b1 + 2 ^ 8 * fl c.b5)

/-! ## The latch and the record (09 R250 to R256) -/

/-- The epoch period in 2^-16 ns. -/
def epochPer (s : State) : Int := epochStrokes s * 125000 * 2 ^ 16

/-- The first epoch instant after an engine time, in 2^-16 ns (09 R250). -/
def nextEpoch (s : State) (t : Int) : Int :=
  let p := epochPer s
  let o : Int := (s.get R.GNS_EPOCH_OFS_OFS : Int) * 2 ^ 16 % p
  ((t - o) / p + 1) * p + o

/-- The RAW48 of an engine time (02 R67). -/
def rawOf (s : State) (t : Int) : Nat := (convTime s (etPack t)).out

/-- LATCH_ARM (09 R251): at the first edge that precedes an epoch instant by less than 4 Strokes. -/
def latchArm (s : State) : State :=
  let now := etOf (etTotal s.etm (s.raw * 4096))
  let t := nextEpoch s now
  if s.gns.armed.isSome ∨ t ≤ s.gns.last ∨ 500000 * 2 ^ 16 ≤ t - now then s
  else
    let s := s.setGns { s.gns with armed := some (t, rawOf s t) }
    if gnsOn s && s.flag R.GNS_STAT_SCLK_OK then s else epochSkip s

/-- A step accepted at this edge (09 R252): the epoch instants that lie ahead on the stepped line are still to be armed. -/
def gnsStepped (s : State) : State :=
  let s := s.setGns { s.gns with last := min s.gns.last (etOf (etTotal s.etm (s.raw * 4096))) }
  match s.gns.armed with
  | none => s
  | some a =>
    let r := rawOf s a.1
    let s := s.setGns { s.gns with armed := some (a.1, r), span := true }
    if 0 < rawDiff r s.raw then s else epochSkip s

/-- A band's values at the latched sample (09 R237, R255): its NCOs moved on to it, the code phase free of the notches' group delay. -/
def bandLatch (s : State) (t b : Nat) (x : NcoIn) (v : BandSt) : BandLatch :=
  let v := ncoMove t x v
  { codePh := ((v.codePh + notchCode s b v.sig) % (sigSpan v.sig : Int)).toNat, period := v.period, phase := v.phase, dop := v.dop }

/-- EPOCH_LATCH (09 R251): the stamp of the latched sample, its index, and every channel's NCOs on it. -/
def epochLatch (idx code : Nat) (l : List ChLatch) (s : State) : State :=
  match s.gns.armed with
  | none => s
  | some a =>
    let st := latchStamp s s.raw code
    if !gnsOn s then epochSkip s
    else if rawDiff (st.1 / 4096) a.2 < 0 then s
    else
      let g := s.gns
      let chs := (List.range 96).filterMap (fun n =>
        let c := s.gch n
        if c.idle then none
        else
          let x := (l.find? (fun x => x.ch == n)).getD { ch := n, t := 0, b1 := { code := 0, phase := 0, dop := c.b1.dop },
                                                         b5 := { code := 0, phase := 0, dop := c.b5.dop } }
          some (n, c, bandLatch s x.t 0 (bandNco s c 0 x.b1 x.b5) c.b1, bandLatch s x.t 1 (bandNco s c 1 x.b1 x.b5) c.b5))
      let fl := bit st.2 + 2 * bit g.gap + 4 * bit g.span + 8 * bit g.notchChg + 16 * bit (s.flag R.GNS_STAT_CODE_AIDED)
      let r : GnsRec := { seq := (g.seq + 1) % 2 ^ 32, target := a.1, latch := st.1, res := etTotal s.etm st.1 / 2 ^ 38 - a.1 / 64, rate := s.get R.GNS_SCLK_RATE_SCLK_RATE,
                          idx := idx % 2 ^ 32, ji1 := s.get R.GNS_JAM_JI_B1, ji5 := s.get R.GNS_JAM_JI_B5, eflags := fl, joint := s.flag R.GNS_CTL_JOINT_EN, chs := chs }
      let nt := (List.range 8).foldl (fun t k => tset {} t k { tget {} t k with ref := s.getI (R.GNS_NOTCH_FREQ_FREQ (k / 4) (k % 4)) }) g.notches
      s.setGns { g with armed := none, last := a.1, gap := false, span := false, notchChg := false, notches := nt, seq := r.seq,
                        pend := some (r, s.strokes + 2) }

/-- Is a bank pinned? -/
def bankPinned (s : State) (b : Nat) : Bool := s.gns.pins.any (fun p => p.2.any (fun q => q.1 == b))

/-- The slips that the published record has shown clear (09 R248). -/
def slipsClear (s : State) : State :=
  s.setGns { s.gns with chs := s.gns.chs.map (fun c => (c.1, { c.2 with b1 := { c.2.b1 with slip := false }, b5 := { c.2.b5 with slip := false } })) }

/-- A record published at the second edge after its latch (09 R256), into the bank that is not in view, or not pinned. -/
def recPublish (s : State) : State :=
  match s.gns.pend with
  | none => s
  | some (r, at') =>
    if s.strokes < at' then s
    else
      let g := s.gns
      let b := 1 - g.view
      let b := if bankPinned s b then g.view else b
      let s := s.setGns { g with pend := none, epochGo := true, newest := r }
      let s := if bankPinned s b then s else s.setGns { s.gns with banks := tset {} s.gns.banks b r, view := b }
      raiseEvt R.GNS_EVT_EPOCH 183 (slipsClear (s.put R.GNS_EPOCH_SEQ_SEQ r.seq))

/-- The bytes of a band record (09 R255). -/
def bandBytes (b : BandSt) (l : BandLatch) : List Nat :=
  if b.st = 0 then List.replicate 24 0
  else leBytes 4 l.codePh ++ leBytes 2 l.period ++ [b.sig, b.cn0] ++ leBytes 6 (ofInt 48 l.phase)
    ++ leBytes 2 (b.st + 8 * bitsOf [b.slip, b.half, b.bitSync, b.secSync, b.side]) ++ leBytes 4 (ofInt 32 l.dop) ++ leBytes 2 b.lockMs
    ++ [b.pli, 0]

/-- The bytes of channel record n (09 R254). -/
def chBytes (r : GnsRec) (n : Nat) : List Nat :=
  match r.chs.find? (fun x => x.1 == n) with
  | none => n :: List.replicate 63 0
  | some (_, c, l1, l5) =>
    [n, c.sys, c.svid, c.state r.joint] ++ leBytes 4 (if c.dual r.joint then ofInt 32 c.iono else 0) ++ List.replicate 8 0 ++ bandBytes c.b1 l1 ++ bandBytes c.b5 l5

/-- The bytes of the epoch header (09 R253). -/
def headBytes (r : GnsRec) : List Nat :=
  leBytes 4 r.seq ++ leBytes 12 (etPack r.target) ++ leBytes 8 r.latch ++ leBytes 4 (ofInt 32 r.res) ++ leBytes 4 r.rate ++ leBytes 4 r.idx
    ++ [r.ji1, r.ji5, r.chs.length, r.eflags] ++ List.replicate 8 0

/-- The word at offset off of a bank's record. -/
def measWord (s : State) (b off : Nat) : Nat :=
  let r := tget {} s.gns.banks b
  if r.seq = 0 ∧ r.target = 0 then 0
  else if off < 48 then ofLe (((headBytes r).drop off).take 4)
  else ofLe (((chBytes r ((off - 48) / 64)).drop ((off - 48) % 64)).take 4)

/-- The bank in view for an interface (09 R256). -/
def bankFor (s : State) (j : Iface) : Nat := (tget none s.gns.pins j.num).elim s.gns.view (·.1)

/-- Domain and reset effects at an edge: the search stops with EN = 0 (09 R241). -/
def gnsIdle (s : State) : State :=
  if gnsOn s then s
  else if s.gns.dwell.isEmpty && s.gns.queue.isEmpty then s.put R.GNS_STAT_SRCH_STATE 0
  else (s.setGns { s.gns with dwell := [], queue := [] }).put R.GNS_STAT_SRCH_STATE 0

/-- GNS at a Stroke edge. -/
def gnsEdge (i : Option SclkIn) (s : State) : State :=
  let s := gnsIdle (portCheck (if domOn s 3 then sclkEdge i s else s))
  let s := if gnsOn s then s else epochSkip s
  let s := (List.range 96).foldl (fun s n => chCheck n s) s
  let s := s.setGns { s.gns with rel := [], queue := s.gns.queue.filter (entryLive s) }
  let s := latchArm (recPublish (jamEdge s))
  let s := (List.range 96).foldl (fun s n => chPublish n s) s
  let act := s.gns.chs.filter (fun c => !c.2.idle)
  (s.put R.GNS_STAT_N_CH act.length).put R.GNS_STAT_N_DUAL
    (act.filter (fun c => c.2.dual (s.flag R.GNS_CTL_JOINT_EN))).length

/-! ## The commands -/

/-- SCLK_LOS (09 R231, R232): no GNSS_SCLK edge for 1 µs. -/
def execSclkLos (dt : Nat) (s : State) : Host.Outcome State Fault Refusal :=
  let t := s.tick dt
  live s (if domOn t 3 ∧ ¬ t.flag R.GNS_STAT_SCLK_LOS ∧ t.gns.sclkAt + 250 ≤ t.now then sclkLos t else t)

/-- SCLK_OK (09 R231): 8 successive good Strokes; the edge that completes them takes it. -/
def execSclkOk (s : State) : Host.Outcome State Fault Refusal := live s (sclkOk s)

/-- FE_RUN (09 R233). -/
def execFeRun (s : State) : Host.Outcome State Fault Refusal := live s (feRun s)

/-- FE_ABORT (09 R233). -/
def execFeAbort (s : State) : Host.Outcome State Fault Refusal := live s (feAbort s)

/-- FE_ENTRY_DONE (09 R233): an entry's transfer and its wait are over; rx the bits that it captured. -/
def execFeEntryDone (rx : BitVec 32) (dt : Nat) (s : State) : Host.Outcome State Fault Refusal :=
  let t := s.tick dt
  live s (if feOver t then feEntry (if bankLow t 3 then 0 else rx.toNat) t else t)

/-- AGC_READ of band b (09 R234): due every AGC_PER ms while AGC_EN_b = 1. -/
def execAgcRead (b : Fin 2) (s : State) : Host.Outcome State Fault Refusal :=
  live s (agcRead b s)

/-- SPECTRUM_UPDATE of band b (09 R235 to R238). -/
def execSpectrumUpdate (b : Fin 2) (x : SpecIn) (s : State) : Host.Outcome State Fault Refusal :=
  live s (if gnsOn s ∧ bandOn s b ∧ msPeriod s 1 ≠ tget 0 s.gns.specAt b then specUpdate b x s else s)

/-- NOTCH_RELEASE (09 R236): the tone has stayed below NOTCH_THR less 3 dB for 100 ms. -/
def execNotchRelease (b : Fin 2) (n : Fin 4) (s : State) : Host.Outcome State Fault Refusal :=
  live s (if s.flag (R.GNS_NOTCH_STAT_ACTIVE b n) ∧ 100 ≤ (tget {} s.gns.notches (notchIdx b n)).below then notchDrop b n s else s)

/-- ACQ_AIDING (09 R239): SOLVER_A's aiding set, published where the task's period ends. -/
def execAcqAiding (l : List AidIn) (s : State) : Host.Outcome State Fault Refusal :=
  live s (taskHand (.aiding l) s)

/-- SEARCH_PLAN (09 R241). -/
def execSearchPlan (s : State) : Host.Outcome State Fault Refusal := live s (searchPlan s)

/-- DWELL_COMPLETE (09 R241, R242): what the correlator saw of each entry. -/
def execDwellComplete (l : List DwellHit) (noise : List Nat) (s : State) : Host.Outcome State Fault Refusal := live s (dwellDone l noise s)

/-- SEARCH_RETRY (09 R242). -/
def execSearchRetry (s : State) : Host.Outcome State Fault Refusal := live s (searchRetry s)

/-- HANDOVER_QUEUE (09 R243). -/
def execHandoverQueue (n : Fin 96) (s : State) : Host.Outcome State Fault Refusal := live s (handover n s)

/-- TRACK_TICK (09 R247): the loops' measurements of the millisecond. -/
def execTrackTick (l : List ChTick) (s : State) : Host.Outcome State Fault Refusal := live s (trackTick l s)

/-- BAND_PLL_LOCK (09 R247). -/
def execBandPllLock (n : Fin 96) (b : Fin 2) (s : State) : Host.Outcome State Fault Refusal := live s (bandLock n b s)

/-- BAND_LOSS (09 R247). -/
def execBandLoss (n : Fin 96) (b : Fin 2) (s : State) : Host.Outcome State Fault Refusal := live s (bandLoss n b s)

/-- PULLIN_TIMEOUT (09 R247). -/
def execPullinTimeout (n : Fin 96) (b : Fin 2) (s : State) : Host.Outcome State Fault Refusal :=
  live s (bandTimeout 1 (s.get R.GNS_PULL_TIME_PULL_TIME) n b s)

/-- COAST_TIMEOUT (09 R247). -/
def execCoastTimeout (n : Fin 96) (b : Fin 2) (s : State) : Host.Outcome State Fault Refusal :=
  live s (bandTimeout 3 (s.get R.GNS_LOCK_TIME_COAST_MAX) n b s)

/-- CH_RELEASE (09 R247): both bands of channel n go OFF at the next edge. -/
def execChRelease (n : Fin 96) (s : State) : Host.Outcome State Fault Refusal :=
  live s (s.setGns { s.gns with rel := n.val :: s.gns.rel })

/-- SIDEPEAK (09 R248). -/
def execSidepeak (n : Fin 96) (b : Fin 2) (s : State) : Host.Outcome State Fault Refusal := live s (sidePeak n b s)

/-- EPOCH_LATCH (09 R251). -/
def execEpochLatch (idx : BitVec 32) (code : BitVec 11) (l : List ChLatch) (dt : Nat) (s : State) : Host.Outcome State Fault Refusal :=
  live s (epochLatch idx.toNat code.toNat l (s.tick dt))

/-- MEAS_HOLD (09 R256). -/
def execMeasHold (j : Iface) (s : State) : Host.Outcome State Fault Refusal :=
  live s (s.setGns { s.gns with pins := tset none s.gns.pins j.num (some (bankFor s j, s.strokes)) })

/-- MEAS_UNHOLD (09 R256). -/
def execMeasUnhold (j : Iface) (s : State) : Host.Outcome State Fault Refusal :=
  live s (s.setGns { s.gns with pins := tset none s.gns.pins j.num none })

/-- MEAS_PIN_EXPIRE (09 R256): 100 ms after it was set. -/
def execMeasPinExpire (j : Iface) (s : State) : Host.Outcome State Fault Refusal :=
  live s (match tget none s.gns.pins j.num with
    | some p => if p.2 + 800 ≤ s.strokes then s.setGns { s.gns with pins := tset none s.gns.pins j.num none } else s
    | none => s)

end Sys2Proof.Machine
end

