-- ==== Sys2Proof/Machine/Gnt.lean ====
section
/-! DEFINITION. GNT: the time solution, its integrity and its uncertainty (10 R259 to R271), the survey (R266), TIME_PULSE (R273) and
long sleep (R274). Figures inside the solution are carried in 2^-32 ns (log entry 40). -/

namespace Sys2Proof.Machine

/-- GNT set. -/
def State.setGnt (s : State) (g : GntSt) : State := { s with gnt := g }

/-! ## The satellites used (10 R259 to R262, R264) -/

/-- A used satellite: channel, arrival estimate (2^-32 ns), variance (2^-64 ns²), standard deviation and bias limit (2^-32 ns), the weight of
its estimate; the weights are over their own sum or over 2^30; dual: both bands are combined. -/
structure SatUse where
  ch : Nat
  dual : Bool
  z : Int
  sig : Nat
  b : Nat
  w : Int
  deriving DecidableEq, Repr

/-- Is a band of a record usable (10 R259)? -/
def solBand (s : State) (b : BandSt) : Bool :=
  b.st == 2 && b.half && (b.bitSync || b.secSync) && decide (s.get R.GNT_SOL_CFG_CN0_MASK ≤ b.cn0)

/-- ISB_UNC of a system (10 R264). -/
def isbUnc (s : State) (sys : Nat) : Nat :=
  if sys = s.get R.GNT_CTL_UTC_SYS then 0
  else match sys with
    | 0 => s.get R.GNT_ISB_UNC_GPS_ISB_UNC_GPS
    | 1 => s.get R.GNT_ISB_UNC_GAL_ISB_UNC
    | 2 => s.get R.GNT_ISB_UNC_BDS_ISB_UNC
    | _ => s.get R.GNT_ISB_UNC_QZS_ISB_UNC

/-- The delays of the antenna and the receiver for a use (10 R261): 0 DUAL, 1 B1, 2 B5; 2^-32 ns. -/
def solDelay (s : State) (use : Nat) : Int :=
  let a := s.getI R.GNT_ANT_DELAY_ANT_DELAY
  let d := s.getI R.GNT_ANT_DIFF_B5_ANT_DIFF_B5
  let r1 : Int := s.get R.GNT_RX_DELAY_B1_RX_DELAY_B1
  let r5 : Int := s.get R.GNT_RX_DELAY_B5_RX_DELAY_B5
  match use with
  | 0 => (a * 10491 - 13225 * d + 23716 * r1 - 13225 * r5) * 2 ^ 16 / 10491
  | 1 => (a + r1) * 2 ^ 16
  | _ => (a + d + r5) * 2 ^ 16

/-- σ² of a satellite in 2^-64 ns² (10 R262). -/
def solVar (s : State) (sinEl : Nat) : Nat :=
  let a := s.get R.GNT_SIG_A_SIG_A
  let b := s.get R.GNT_SIG_B_SIG_B
  a * a * 2 ^ 32 + b * b * 2 ^ 92 / (max 1 sinEl * max 1 sinEl)

/-- The epochs over which a DUAL satellite is smoothed at most (10 R262). -/
def smoothMax (s : State) : Nat := s.get R.GNT_RAIM_SMOOTH_S * 8000 / epochStrokes s

/-- A DUAL satellite smoothed with the ionosphere-free carrier (10 R262), in 2^-32 ns: the mean of the estimates of min(k, SMOOTH_S) epochs, carried on by the
carrier (log entry 31); anew after a SLIP or a change of use. -/
def smoothStep (s : State) (c : GnsCh) (x : SatIn) (o : Option (Nat × Int)) : Nat × Int :=
  let o := if c.b1.slip || c.b5.slip then none else o
  match o with
  | none => (1, x.zIf * 2 ^ 22)
  | some v =>
    let n := max 1 (min (v.1 + 1) (smoothMax s))
    (n, roundDiv (x.zIf * 2 ^ 22 + ((n : Int) - 1) * (v.2 + x.dPh * 2 ^ 22)) n)

/-- A satellite as the solution uses it, where it does (10 R259, R260, R264). -/
def satUse (s : State) (r : GnsRec) (x : SatIn) : Option SatUse :=
  match r.chs.find? (fun c => c.1 == x.ch) with
  | none => none
  | some (_, c, _, _) =>
    let u1 := solBand s c.b1
    let u5 := solBand s c.b5
    let use : Option Nat := if u1 && u5 then (if r.joint then some 0 else none)
      else if !s.flag R.GNT_CTL_SINGLE_EN then none else if u1 then some 1 else if u5 then some 2 else none
    if !x.held || decide (x.el < s.get R.GNT_SOL_CFG_EL_MASK * 256) then none
    else match use with
      | none => none
      | some u =>
        let z := if u = 0 then (smoothStep s c x ((s.gnt.smooth.find? (fun e => e.1 == x.ch)).map (·.2))).2 else (if u = 1 then x.z1 else x.z5) * 2 ^ 22
        let io := if u = 1 then x.iono1 else x.iono5
        let v := solVar s x.sinEl
        let b := isbUnc s c.sys * 2 ^ 16 + (s.get R.GNT_TROPO_RES_TROPO_RES * 2 ^ 46 + max 1 x.sinEl - 1) / max 1 x.sinEl
          + (if u = 0 then 0 else s.get R.GNT_IONO_FLOOR_IONO_FLOOR * 2 ^ 16 + s.get R.GNT_IONO_FRAC_IONO_FRAC * io * 2 ^ 8)
        some { ch := x.ch, z := z + solDelay s u, dual := u == 0, sig := isqrt v, b := b, w := (2 ^ 160 / max 1 v : Nat) }

/-! ## Estimate and integrity (10 R262 to R264) -/

/-- An estimate: y and σ_clk in 2^-32 ns, and the satellites with their weights, which are over den. -/
structure SolEst where
  y : Int
  sigClk : Nat
  den : Int
  use : List SatUse
  deriving DecidableEq, Repr

/-- The weighted mean over the satellites (10 R262, FIXED). -/
def estFixed (l : List SatUse) : SolEst :=
  let den := max 1 (l.foldl (fun a x => a + x.w) 0)
  { y := roundDiv (l.foldl (fun a x => a + x.w * x.z) 0) den, sigClk := isqrt (2 ^ 160 / den.toNat), den := den, use := l }

/-- The estimator of position and clock (10 R262, SURVEYING), with the delays of R261. -/
def estSurvey (l : List SatUse) (e : SurvIn) (delay : Nat → Int) : SolEst :=
  let use := l.map (fun x =>
    match e.rows.find? (fun r => r.1 == x.ch) with
    | some r => { x with w := r.2.1, z := r.2.2 * 2 ^ 22 + delay x.ch }
    | none => { x with w := 0 })
  { y := roundDiv (use.foldl (fun a x => a + x.w * x.z) 0) (2 ^ 30), sigClk := e.sigClk * 2 ^ 16, den := 2 ^ 30, use := use }

/-- The limit of a satellite's residual, 2^-32 ns (10 R263). -/
def satLimit (s : State) (x : SatUse) : Nat := s.get R.GNT_RAIM_EXCL_K * x.sig / 16 + x.b

/-- The satellite that fails the test by the largest ratio (10 R263). -/
def worstSat (s : State) (e : SolEst) : Option SatUse :=
  (e.use.filter (fun x => decide (satLimit s x < (x.z - e.y).natAbs))).foldl (fun w x =>
    match w with
    | none => some x
    | some v => if (v.z - e.y).natAbs * satLimit s x < (x.z - e.y).natAbs * satLimit s v then some x else some v) none

/-- The exclusions (10 R263): the last estimate, the channels excluded, and whether the test passes. est: the estimate after n exclusions. -/
def solTest (s : State) (est : Nat → List SatUse → SolEst) : Nat → Nat → List SatUse → List Nat → SolEst × List Nat × Bool
  | 0, n, l, ex =>
    let e := est n l
    (e, ex, (worstSat s e).isNone)
  | fuel + 1, n, l, ex =>
    let e := est n l
    match worstSat s e with
    | none => (e, ex, true)
    | some x => solTest s est fuel (n + 1) (l.filter (fun v => v.ch != x.ch)) (ex ++ [x.ch])

/-- SOL_UNC in 2^-16 ns, rounded up (10 R264). -/
def solUnc (s : State) (e : SolEst) (fixed : Bool) : Nat :=
  let bias := (e.use.foldl (fun a x => a + x.w.natAbs * x.b) 0 + e.den.toNat - 1) / max 1 e.den.toNat
  let pos := if fixed then (s.get R.GNT_POS_UNC_POS_UNC * 1000000 * 2 ^ 32 + 299792457) / 299792458 else 0
  let t := s.get R.GNT_RAIM_KU * e.sigClk + bias + pos + s.get R.GNT_UTC_UNC_UTC_UNC * 2 ^ 16
  (t + 65535) / 65536

/-- AMB (10 R267): how the whole periods are resolved; none where no method applies. -/
def solAmb (s : State) (i : SolIn) (r : GnsRec) (use : List SatUse) : Option Nat :=
  let b := bndOf s 0
  let near := use.all (fun u =>
    match r.chs.find? (fun c => c.1 == u.ch) with
    | none => false
    | some (_, c, _, _) => s.gns.aid.any (fun a => a.sys == c.sys && a.svid == c.svid && decide (bndM s + a.uRange * 65536 < 100000 * 65536)))
  if !b.2.2 && near then some 1
  else if s.get R.ETM_STAT_TIME_SRC != 0 && decide (s.get R.GNT_SOL_CFG_MIN_SV + 1 ≤ use.length)
      && i.coarse.any (fun e => decide (e.natAbs ≤ 2000000000)) then some 2
  else if i.decoded then some 3 else none

/-! ## The survey (10 R266) -/

/-- Does the solution run in SURVEYING: POS_MODE = SURVEY and the survey not ended? -/
def surveying (s : State) : Bool := s.flag R.GNT_CTL_POS_MODE && !s.gnt.survey.done

/-- The survey's three-dimensional standard deviation in 2^-16 mm. -/
def surveySig (v : Survey) : Nat :=
  isqrt (((v.n * v.sq - (v.x * v.x + v.y * v.y + v.z * v.z)) * 2 ^ 32 / ((v.n * v.n : Nat) : Int)).toNat)

/-- A passing epoch's position added, and the survey ended where it may (10 R266). -/
def surveyStep (e : SurvIn) (s : State) : State :=
  let o := s.gnt.survey
  let first := if o.n = 0 then s.strokes else o.from'
  let q := o.sq + e.x * e.x + e.y * e.y + e.z * e.z
  let v : Survey := { o with from' := first, n := o.n + 1, x := o.x + e.x, y := o.y + e.y, z := o.z + e.z, sq := q }
  let s := s.setGnt { s.gnt with survey := v }
  let d := s.strokes - v.from'
  let h := max 1 (d / 28800000)
  let ku := s.get R.GNT_RAIM_KU * surveySig v
  -- KU σ / sqrt(H) in mm, rounded up
  let unc := (isqrt (ku * ku / h) + 65535) / 65536
  if s.get R.GNT_SURVEY_CFG_SURVEY_MIN * 480000 ≤ d ∧ ku * ku ≤ (s.get R.GNT_SURVEY_CFG_SURVEY_ACC * 65536) ^ 2 * h then
    let m := fun (t : Int) => ofInt 40 (roundDiv t v.n)
    let s := s.put2 R.GNT_POS_X_LO_POS_X R.GNT_POS_X_HI_POS_X (m v.x)
    let s := s.put2 R.GNT_POS_Y_LO_POS_Y R.GNT_POS_Y_HI_POS_Y (m v.y)
    let s := s.put2 R.GNT_POS_Z_LO_POS_Z R.GNT_POS_Z_HI_POS_Z (m v.z)
    let s := (s.put R.GNT_POS_UNC_POS_UNC (satW 32 unc)).setGnt { s.gnt with survey := { v with done := true } }
    raiseEvt R.GNT_EVT_SURVEY_DONE 186 s
  else s

/-! ## The solution's states (10 R268 to R271) -/

/-- SLP_STATE: 0 AWAKE, 1 STORING, 2 ASLEEP, 3 WAKING. -/
def slpState (s : State) : Nat := s.get R.GNT_SLEEP_STAT_SLP_STATE

/-- SLP_STATE entered. -/
def slpGo (st : Nat) (s : State) : State := (s.setGnt { s.gnt with slpFrom := s.strokes }).put R.GNT_SLEEP_STAT_SLP_STATE st

/-- WAKING ends in AWAKE (10 R274). -/
def slpAwake (ms evt : Nat) (s : State) : State :=
  let s := (slpGo 0 s).put R.GNT_SLEEP_STAT_WAKE_MS (min 65535 ms)
  let s := raiseEvt (if evt = 0 then R.GNT_EVT_AWAKE else R.GNT_EVT_WAKE_SLOW) 186 s
  s.setGnt { s.gnt with slpReq := s.gnt.slpReq || s.gnt.slpPend, slpPend := false }

/-- The solution in NOFIX (10 R268). -/
def solNofix (s : State) : State :=
  let was := s.get R.GNT_STAT_SOL_STATE
  let s := ((s.put R.GNT_STAT_SOL_STATE 0).put R.GNT_STAT_CONV_CNT 0).setGnt s.gnt
  let s := { s with etm := { s.etm with utcGnss := {} } }
  if was = 2 then raiseEvt R.GNT_EVT_SOL_LOST 186 s else s

/-- May the solution run (10 R268, first row)? The service in WAKING counts as not asleep (log entry 41). -/
def solRuns (s : State) : Bool := s.flag R.GNT_CTL_EN && (slpState s == 0 || slpState s == 3)

/-- The state after a passing epoch (10 R268). -/
def solPass (s : State) : State :=
  let n := s.get R.GNT_SOL_CFG_CONV_N
  let s := match s.get R.GNT_STAT_SOL_STATE with
    | 0 => (s.put R.GNT_STAT_SOL_STATE 1).put R.GNT_STAT_CONV_CNT 1
    | 1 =>
      let c := s.get R.GNT_STAT_CONV_CNT + 1
      let s := s.put R.GNT_STAT_CONV_CNT (min 255 c)
      if n ≤ c then raiseEvt R.GNT_EVT_SOL_VALID 186 (s.put R.GNT_STAT_SOL_STATE 2) else s
    | _ => s
  if slpState s = 3 then slpAwake ((s.strokes - s.gnt.slpFrom) / 8) 0 s else s

/-- A channel set as three words. -/
def putChans (w0 : Fld) (l : List Nat) (s : State) : State :=
  let v := l.foldl (fun a n => a ||| 2 ^ n) 0
  (List.range 3).foldl (fun s k => s.put (w0.word k) (wordOf v k)) s

/-- The words that the solution publishes together. -/
def solWords : List Nat := (List.range 16).map (fun k => 0x0B0080 + 4 * k) ++ [0x0B0004, 0x0B0188]

/-- A passing epoch published (10 R264, R268 to R271). -/
def solPublish (r : GnsRec) (e : SolEst) (ex : List Nat) (amb unc : Nat) (i : SolIn) (s : State) : State :=
  let y := satI 48 (roundDiv e.y (2 ^ 22))
  let warn := decide (e.use.length < s.get R.GNT_SOL_CFG_DET_MIN)
  let was := s.flag R.GNT_STAT_INTEG_WARN
  let s := solPass s
  let s := put48 R.GNT_SOL_Y_LO_Y R.GNT_SOL_Y_HI_Y y s
  let s := (s.put R.GNT_SOL_UNC_SOL_UNC unc).put R.GNT_SOL_SEQ_SEQ r.seq
  let s := putChans R.GNT_EXCL_0_EXCL ex (putChans R.GNT_USED_0_USED (e.use.map (·.ch)) s)
  let s := ((s.putB R.GNT_STAT_INTEG_WARN warn).put R.GNT_STAT_N_USED e.use.length).put R.GNT_STAT_N_EXCL ex.length
  let s := (s.put R.GNT_STAT_AMB amb).setGnt { s.gnt with latchAt := some (s.strokes - (rawDiff s.raw (r.latch / 4096)).toNat / 31250) }
  let s := if warn && !was then raiseEvt R.GNT_EVT_INTEG 186 s else s
  let s := match i.utc with
    | none => s
    | some u =>
      let s := { s with etm := { s.etm with utcGnss := { valid := true, offset := u.1, leap := u.2.1, leapTai := u.2.2 } } }
      let s := ((s.put R.GNT_UTC_UTC_OFS (ofInt 16 u.1)).put R.GNT_UTC_VALID 1).put R.GNT_UTC_LEAP u.2.1
      s.put2 R.GNT_LEAP_TAI_LO_LEAP_TAI R.GNT_LEAP_TAI_HI_LEAP_TAI (u.2.2 % 2 ^ 48)
  if s.get R.GNT_STAT_SOL_STATE = 2 then
    match vMon s 1 0 with
    | some m => vPush m { x := y, t := etTotal s.etm r.latch / 2 ^ 22, raw := r.latch, has := true } s
    | none => s
  else s

/-- The smoothing after a record: what was smoothed goes on, everything else begins anew (10 R262). -/
def smoothNext (s : State) (r : GnsRec) (i : SolIn) (use : List SatUse) : Tbl (Nat × Int) :=
  (use.filter (·.dual)).filterMap (fun u =>
    match i.sats.find? (fun x => x.ch == u.ch), r.chs.find? (fun c => c.1 == u.ch) with
    | some x, some (_, c, _, _) => some (u.ch, smoothStep s c x ((s.gnt.smooth.find? (fun e => e.1 == u.ch)).map (·.2)))
    | _, _ => none)

/-- The whole solution of a record (10 R259 to R271). -/
def gntSolve (i : SolIn) (s : State) : State :=
  let r := s.gnt.recIn
  let sv := surveying s
  let s := s.put R.GNT_STAT_POS_STATE (if sv then 1 else 2)
  let s := if s.flag R.GNT_CTL_POS_MODE then s else s.setGnt { s.gnt with survey := {} }
  let s := s.put R.GNT_SLEEP_STAT_N_EPH (min 255 i.nEph)
  let use := i.sats.filterMap (satUse s r)
  let sm := smoothNext s r i use
  let dl := fun (ch : Nat) =>
    match r.chs.find? (fun c => c.1 == ch) with
    | some (_, c, _, _) => solDelay s (if solBand s c.b1 then (if solBand s c.b5 then 0 else 1) else 2)
    | none => 0
  let est := fun (n : Nat) (l : List SatUse) =>
    if sv then (match i.est[n]? with | some e => estSurvey l e dl | none => estFixed l) else estFixed l
  let t := solTest s est (s.get R.GNT_RAIM_MAX_EXCL) 0 use []
  let unc := solUnc s t.1 (!sv)
  let need := if sv then max 5 (s.get R.GNT_SOL_CFG_MIN_SV) else s.get R.GNT_SOL_CFG_MIN_SV
  let s := s.setGnt { s.gnt with smooth := sm }
  let s := if t.2.1.isEmpty then s else raiseEvt R.GNT_EVT_EXCL 186 s
  match solAmb s i r t.1.use with
  | none => solNofix s
  | some amb =>
    if !t.2.2 || decide (t.1.use.length < need) || decide (s.get R.GNT_UNC_MAX_UNC_MAX < unc) || r.eflags % 4 != 0
        || (sv && i.est.length ≤ t.2.1.length) then solNofix s
    else
      let s := solPublish r t.1 t.2.1 amb unc i s
      if sv then (match i.est[t.2.1.length]? with | some e => surveyStep e s | none => s) else s

/-! ## TIME_PULSE (10 R273) -/

/-- TP_CFG_ERR's condition. -/
def tpBad (s : State) : Bool :=
  let k := s.get R.GNT_TP_CFG_OUT_TP
  !(s.flag (R.OUT_CFG_EN k) && isPulse s k && s.get (R.TCH_CH_CTL_MODE (s.get (R.OUT_CFG_TCH k))) == 1
    && s.get (R.OUT_PULSE_PER_PULSE_PER k) == 1000000000)

/-- The last target instant in the Stroke that ends, in 2^-48 ns: before engine time is re-anchored. -/
def tpTarget (s : State) : Option Int :=
  let k := s.get R.GNT_TP_CFG_OUT_TP
  let t := etTotal s.etm (s.raw * 4096) - 1
  let p := phaseOfs s k
  let c := (t - p) / (secUnits : Int) * (secUnits : Int) + p
  if s.gnt.et0 ≤ c then some c else none

/-- The Stroke that ends noted: the message of its target instant is published at the edge after this one (10 R273). -/
def gntPre (s : State) : State :=
  s.setGnt { s.gnt with tpDue := s.gnt.tpNew, tpNew := if s.flag R.GNT_TP_CFG_TP_EN && !tpBad s then tpTarget s else none }

/-- A signed value saturated to 32 bits. -/
def sat32 (v : Int) : Nat := ofInt 32 (satI 32 v)

/-- The TIME_PULSE message of a target instant (10 R273). -/
def tpPublish (t : Int) (s : State) : State :=
  let k := s.get R.GNT_TP_CFG_OUT_TP
  let st := 1 + s.get (R.OUT_CFG_TCH k)
  let e := etUnpack (s.get (R.OUT_LAST_EDGE_W0_LAST_EDGE k) + s.get (R.OUT_LAST_EDGE_W1_LAST_EDGE k) * 2 ^ 32 + s.get (R.OUT_LAST_EDGE_W2_LAST_EDGE k) * 2 ^ 64)
  let tt := etOf t
  let ofs := e - tt
  let em := decide (2 * ofs.natAbs < secFrac)
  let basis := s.getE (R.BND_SET_STAT_BASIS st)
  let fl := bitsOf [basis == 1 && s.getE (R.BND_SET_TRACE_KIND st) == 1, decide (2 ≤ basis), em, s.flag (R.OUT_STAT_ROLLING k), s.flag R.GNT_STAT_INTEG_WARN,
    s.flag R.ETM_UTC_VALID] + 64 * s.get R.ETM_UTC_LEAP
  let n := (s.gnt.tpSeq + 1) % 2 ^ 32
  let msg := leBytes 4 n ++ leBytes 6 (etSec tt) ++ leBytes 2 (ofInt 16 (utcOffsetAt s.etm (etSec tt)))
    ++ leBytes 4 (if em then ofInt 32 (s.getI (R.OUT_QERR_QERR k)) else 0) ++ leBytes 4 (if em then sat32 ofs else 0)
    ++ ((List.range 4).map (fun w => leBytes 4 (tget (resetWord (0x061000 + 0x100 * st + 4 * w)) s.edge (0x061000 + 0x100 * st + 4 * w)).toNat)).flatten
    ++ [k, basis, s.get R.GNT_STAT_SOL_STATE, fl, s.get R.GNT_STAT_N_USED, s.get R.GNT_STAT_N_EXCL, 0, 0] ++ leBytes 4 (s.get R.GNT_SOL_AGE_AGE)
  let s := (List.range 12).foldl (fun s w => s.put (R.GNT_TP_W_TP w) (ofLe ((msg.drop (4 * w)).take 4))) s
  raiseEvt R.GNT_EVT_TP 185 (s.setGnt { s.gnt with tpSeq := n })

/-! ## Long sleep (10 R274) -/

/-- ASLEEP entered. -/
def slpAsleep (s : State) : State := slpGo 2 s

/-- SLEEP acts in AWAKE (10 R274): the baseband stops, the solution is in NOFIX. -/
def slpStart (s : State) : State :=
  let s := solNofix s
  let s := (List.range 96).foldl (fun s n => chDrop n s) s
  let s := s.setGns { s.gns with queue := [], retry := [], dwell := [], armed := none }
  if s.flag R.GNT_SLEEP_CTL_SLEEP_STORE then
    (slpGo 1 s).setGnt { (slpGo 1 s).gnt with storeReq := true, storeRes := none }
  else slpAsleep s

/-- WAKING entered: PD_GNSS is in use, and the front end is to be configured (10 R274). -/
def slpWaking (s : State) : State :=
  let s := slpGo 3 s
  s.setGnt { s.gnt with feDue := true }

/-- The service's rows at an edge (10 R274). -/
def slpEdge (s : State) : State :=
  let g := s.gnt
  let s := s.setGnt { g with slpReq := false, wakeReq := false }
  match slpState s with
  | 0 => if g.slpReq then slpStart s else s
  | 1 =>
    match g.storeRes with
    | some ok => raiseEvt R.GNT_EVT_ASLEEP 186 (slpAsleep (s.putB R.GNT_SLEEP_STAT_CACHE_OK ok))
    | none => s
  | 2 =>
    let wb := s.get R.GNT_SLEEP_CFG_WAKE_BOUND
    let b := bndOfE s 0
    if g.wakeReq || (wb != 0 && decide (wb * 65536 ≤ max b.1 b.2.1)) || (s.flag R.GNT_SLEEP_CTL_AUTO_WAKE_UNB && b.2.2) then slpWaking s else s
  | _ => if g.slpReq then s.setGnt { s.gnt with slpPend := true } else s

/-- GNT at a Stroke edge, after the outputs' Stroke and engine time's re-anchoring. -/
def gntEdge (s : State) : State :=
  let s := slpEdge s
  let s := if s.gnt.feDue && domOn s 3 then feRun (s.setGnt { s.gnt with feDue := false }) else s
  let s := if solRuns s then s else if s.get R.GNT_STAT_SOL_STATE = 0 then s else solNofix s
  let age := match s.gnt.latchAt with
    | none => s
    | some n => s.put R.GNT_SOL_AGE_AGE (satW 32 (s.strokes - n))
  let s := age.setGnt { age.gnt with tpOn := age.flag R.GNT_TP_CFG_TP_EN, tpSeq := if age.flag R.GNT_TP_CFG_TP_EN && !age.gnt.tpOn then 0 else age.gnt.tpSeq }
  let s := s.putB R.GNT_TP_CFG_TP_CFG_ERR (s.flag R.GNT_TP_CFG_TP_EN && tpBad s)
  match s.gnt.tpDue with
  | some t => if s.flag R.GNT_TP_CFG_TP_EN && !tpBad s then tpPublish t s else s
  | none => s

/-- Engine time just after the edge kept for the next Stroke. -/
def gntPost (s : State) : State := s.setGnt { s.gnt with et0 := etmOffset s.etm }

/-- A start of the device with EN = 1 enters WAKING (10 R274). -/
def gntStart (s : State) : State := if s.flag R.GNT_CTL_EN then slpWaking s else s

/-- A write to ANT_DELAY or ANT_DIFF_B5 has taken effect (10 R268). -/
def delayApplied (old new : Nat) (s : State) : State :=
  let s := logRec 0x170 (leBytes 4 old ++ leBytes 4 new) (raiseEvt R.GNT_EVT_DELAY_CHG 186 s)
  if s.get R.GNT_STAT_SOL_STATE = 1 then s.put R.GNT_STAT_CONV_CNT 1 else s

/-! ## The commands -/

/-- SOLVER_A's output for the newest record (10 R259 to R271); none: an epoch without a record or without a published solution, which fails. -/
def gntRun (o : Option SolIn) (s : State) : State :=
  if !solRuns s then s
  else match o with
    | none => solNofix s
    | some i => gntSolve i s

/-- GNSS_SOLUTION (10 R259 to R271): the task has worked out an epoch; gntRun is published at the edge that ends its period. -/
def execGnssSolution (o : Option SolIn) (s : State) : Host.Outcome State Fault Refusal :=
  live s (if solRuns s then taskHand (.gnss o) s else s)

/-- SURVEY_RST (10 R266): the mean discarded, the survey begun again. -/
def execSurveyRst (s : State) : Host.Outcome State Fault Refusal :=
  live s (s.setGnt { s.gnt with survey := {} })

/-- SLEEP (10 R274): at the next edge; in WAKING, on entry to AWAKE. -/
def execGnssSleep (s : State) : Host.Outcome State Fault Refusal := live s (s.setGnt { s.gnt with slpReq := true })

/-- WAKE (10 R274): at the next edge; it counts in ASLEEP only. -/
def execGnssWake (s : State) : Host.Outcome State Fault Refusal :=
  live s (if slpState s = 2 then s.setGnt { s.gnt with wakeReq := true } else s)

/-- SLEEP_MAX_EXPIRE (10 R274): SLEEP_MAX minutes since ASLEEP. -/
def execSleepMaxExpire (s : State) : Host.Outcome State Fault Refusal :=
  live s (
    let m := s.get R.GNT_SLEEP_CFG_SLEEP_MAX
    if slpState s = 2 ∧ m ≠ 0 ∧ m * 480000 ≤ s.strokes - s.gnt.slpFrom then (slpWaking s).repub [0x0B0188] else s)

/-- WAKE_SLOW (10 R274): 2 s in WAKING. -/
def execWakeSlow (s : State) : Host.Outcome State Fault Refusal :=
  live s (if slpState s = 3 ∧ 16000 ≤ s.strokes - s.gnt.slpFrom then (slpAwake 65535 1 s).repub [0x0B0188] else s)

end Sys2Proof.Machine
end

