-- ==== Sys2Proof/Machine/Lan.lean ====
section
/-! DEFINITION. The serial lanes (11): rates, transmit references, the stages of bring-up, supervision, trackers and patterns. The commands are in
LanCmd.lean, after the links that follow the lanes. -/

namespace Sys2Proof.Machine

/-- A lane's own state. -/
def State.lane (s : State) (k : Nat) : LaneSt := tget {} s.lan.lanes k

/-- A lane's own state set. -/
def State.setLane (s : State) (k : Nat) (v : LaneSt) : State := { s with lan := { s.lan with lanes := tset {} s.lan.lanes k v } }

/-- A lane's stage: 0 OFF, 1 DETECT, 2 TRAIN, 3 LOCK, 4 EXCHANGE, 5 ACTIVE, 6 TEST, 7 FENCED. -/
def laneStage (s : State) (k : Nat) : Nat := s.get (R.LAN_LANE_STAT_STAGE k)

/-- Is a lane ACTIVE? -/
def laneActive (s : State) (k : Nat) : Bool := laneStage s k == 5

/-- Does a lane run a Porarir link? -/
def lanePrl (s : State) (k : Nat) : Bool := s.get (R.LAN_LANE_CFG_MODE k) == 1

/-- A lane's rate. -/
def laneRate (s : State) (k : Nat) : Nat := s.get (R.LAN_LANE_CFG_RATE k)

/-- The word period in ps (11 R280). -/
def wordPs (rate : Nat) : Nat := if rate = 0 then 8000 else if rate = 1 then 6400 else 2560

/-- The line rate in Mb/s × 32 (11 R280). -/
def lineRate32 (rate : Nat) : Nat := if rate = 0 then 40000 else if rate = 1 then 330000 else 825000

/-- UI × n in 2^-10 ns. -/
def uiTimes (rate n : Nat) : Nat := (n * 32768000 + lineRate32 rate / 2) / lineRate32 rate

/-- Does the lane use Clause 73 (11, AN_EN ignored at RATE 0)? -/
def laneAn (s : State) (k : Nat) : Bool := !lanePrl s k && s.flag (R.LAN_LANE_CFG_AN_EN k) && laneRate s k != 0

/-- Does TRAIN apply? -/
def laneTrains (s : State) (k : Nat) : Bool :=
  lanePrl s k || laneAn s k || (s.flag (R.LAN_LANE_CFG_TRN_EN k) && laneRate s k != 0)

/-- Does EXCHANGE apply? -/
def laneExch (s : State) (k : Nat) : Bool := lanePrl s k || laneAn s k

/-- Is the drop of 19 R489 in force? -/
def laneDrop (s : State) : Bool := s.flag R.ETM_STAT_BACKUP_CLK

/-! ## Quads (11 R282 to R284) -/

/-- QCFG_ERR (11 R283). -/
def quadErr (s : State) (q : Nat) : Bool :=
  let t := s.get (R.LAN_QUAD_CFG_TXREF q)
  let d := s.get (R.LAN_QUAD_CFG_QDIV q)
  t != 0 && (d == 0 || vcoOf s (t - 1) / (d : Rat) != 156250000)

/-- Is a quad's APLL LOCKED with |r_a| at most n ppm (11 R284)? -/
def quadRefOk (s : State) (q n : Nat) : Bool :=
  let a := s.get (R.LAN_QUAD_CFG_TXREF q) - 1
  (s.apll a).st == 4 && decide ((fineOf s a).natAbs * 1000000 ≤ n * 2 ^ 60)

/-- A quad's reference changed: 0 the system PLL tap (11 R284). -/
def quadSet (q t : Nat) (s : State) : State :=
  if s.get (R.LAN_QUAD_STAT_TXREF_ACT q) = t then s
  else raiseEvt (R.LAN_EVT_QREF_SW.bitAt q) 116 (s.put (R.LAN_QUAD_STAT_TXREF_ACT q) t)

/-- A quad's reference where it may no longer run from its APLL (11 R283, R284), and its status. -/
def quadCheck (q : Nat) (s : State) : State :=
  let err := quadErr s q
  let t := s.get (R.LAN_QUAD_CFG_TXREF q)
  let act := s.get (R.LAN_QUAD_STAT_TXREF_ACT q)
  let s := if act != 0 && (err || act != t || !quadRefOk s q 100) then quadSet q 0 s else s
  let s := s.putB (R.LAN_QUAD_STAT_QCFG_ERR q) err
  let s := s.putB (R.LAN_QUAD_STAT_REF_FALLBACK q) (t != 0 && !err && s.get (R.LAN_QUAD_STAT_TXREF_ACT q) == 0)
  let on := domOn s (4 + q) && !laneDrop s
  let s := s.putB (R.LAN_QUAD_STAT_PLL0_LOCK q) (on && s.get (R.LAN_QUAD_CFG_PLL0_RATE q) != 0)
  s.putB (R.LAN_QUAD_STAT_PLL1_LOCK q) (on && s.get (R.LAN_QUAD_CFG_PLL1_RATE q) != 0)

/-- A quad at a Stroke edge, after the APLLs: the change to the APLL tap (11 R284). -/
def quadEdge (q : Nat) (s : State) : State :=
  let s := quadCheck q s
  let t := s.get (R.LAN_QUAD_CFG_TXREF q)
  if t != 0 && !quadErr s q && s.get (R.LAN_QUAD_STAT_TXREF_ACT q) == 0 && quadRefOk s q 90 then
    (quadSet q t s).put (R.LAN_QUAD_STAT_REF_FALLBACK q) 0
  else s

/-- CFG_ERR of a lane (11 R282). -/
def laneCfgErr (s : State) (k : Nat) : Bool :=
  let r := laneRate s k + 1
  s.get (R.LAN_QUAD_CFG_PLL0_RATE (k / 4)) != r && s.get (R.LAN_QUAD_CFG_PLL1_RATE (k / 4)) != r

/-! ## Stages (11 R285) -/

/-- A lane event. -/
def laneEvt (f : Fld) (k : Nat) (s : State) : State := raiseEvt f (100 + k) s

/-- A lane enters a stage: the timer starts, STAGE_CHG; DOWN on leaving ACTIVE, UP on entering it (11 R285, R290). -/
def stageGo (k st : Nat) (s : State) : State :=
  let old := laneStage s k
  if old = st then s
  else
    let o := s.lane k
    let train := old == 2 && decide (o.taps ≠ rdWord s (0x0C1008 + 0x100 * k))
    let lim := if st = 2 then s.get (R.LAN_LANE_TMR0_TRAIN_MAX k) else if st = 3 then s.get (R.LAN_LANE_TMR0_LOCK_MAX k) else s.get (R.LAN_LANE_TMR1_EXCH_MAX k)
    let s := s.setLane k { o with timer := s.now, limit := lim * msCounts, probes := 0, probeAt := none, org := none, hist := [], rx := [], tx := [], bad := true,
                                  cdr := decide (4 ≤ st) && o.cdr, inj := if st = 5 ∨ st = 6 then o.inj else 0,
                                  taps := if train then rdWord s (0x0C1008 + 0x100 * k) else o.taps }
    let s := laneEvt (R.LAN_EVT_STAGE_CHG.bitAt k) k (s.put (R.LAN_LANE_STAT_STAGE k) st)
    let s := s.putB (R.LAN_LANE_STAT_BLOCK_LOCK k) (decide (st = 4 ∨ st = 5))
    let s := if old = 6 then s.put (R.LAN_LANE_PRBS_STAT_LOCK k) 0 else s
    let s := if old = 5 then laneEvt (R.LAN_LANE_EVT_DOWN k) k ((s.put (R.LAN_LANE_TRK_STAT_X_VALID k) 0)) else s
    let s := if st = 5 then
        let s := s.setLane k { s.lane k with fails := 0 }
        laneEvt (R.LAN_LANE_EVT_UP k) k (s.addSat (R.LAN_LANE_COUNTS_UP_CNT k) 1)
      else s
    if st = 7 then laneEvt (R.LAN_LANE_EVT_FENCED k) k s else s

/-- A failure's record: stage and reason. -/
def laneWhy (k why : Nat) (s : State) : State :=
  (s.put (R.LAN_LANE_STAT_FAIL_STAGE k) (laneStage s k)).put (R.LAN_LANE_STAT_FAIL_WHY k) why

/-- Fail (11 R285): the record, the count of consecutive failures, LINK_FAIL; then DETECT. -/
def laneFail (k why : Nat) (s : State) : State :=
  let s := laneWhy k why s
  let n := (s.lane k).fails + 1
  let s := s.setLane k { s.lane k with fails := n }
  let s := if n = s.get (R.LAN_LANE_TMR1_FAIL_EVT k) then laneEvt (R.LAN_LANE_EVT_LINK_FAIL k) k s else s
  stageGo k 1 s

/-- The stage that follows DETECT. -/
def laneStartStage (s : State) (k : Nat) : Nat := if laneTrains s k then 2 else 3

/-- FEC_ACT (11 R281, R287). -/
def laneFec (s : State) (k : Nat) : Bool :=
  let st := laneStage s k
  decide (3 ≤ st) && decide (st ≤ 5) && laneRate s k == 2 && (if laneAn s k then (s.lane k).fec else s.flag (R.LAN_LANE_CFG_FEC k))

/-- Must the lane be OFF? -/
def laneMustOff (s : State) (k : Nat) : Bool :=
  !s.flag (R.LAN_LANE_CFG_EN k) || laneCfgErr s k || !domOn s (4 + k / 4) || laneDrop s || unitDown s (.lane k)

/-- What lane k's balls do (11 R294): the transmitter 0 high-impedance, 1 at its common mode without a swing, 2 driving; whether the receiver's termination is closed.
In TEST it stays closed (log entry 30). -/
def lanePins (s : State) (k : Nat) : Nat × Bool :=
  let st := laneStage s k
  if s.pwr.rst.isSome || !domOn s (4 + k / 4) || st == 0 || st == 7 then (0, false) else if st = 1 then (1, true) else (2, true)

/-- Is the calibration resistor of a lane's quad there (21 R527)? -/
def laneRcal (s : State) (k : Nat) : Bool := tbit s.lan.rcal (k / 4)

/-- The level rows of the table (11 R285), one row at most. -/
def laneRows (k : Nat) (s : State) : State :=
  let st := laneStage s k
  let s := s.putB (R.LAN_LANE_STAT_CFG_ERR k) (laneCfgErr s k)
  let s :=
    if st ≠ 7 ∧ laneMustOff s k then
      let s := if st ≠ 0 ∧ laneDrop s then laneWhy k 11 s else s
      stageGo k 0 s
    else if st = 7 then s
    else if st = 0 then stageGo k 1 s
    else if st ≠ 6 ∧ s.flag (R.LAN_LANE_CFG_TEST_EN k) then stageGo k 6 s
    else if st = 6 then (if s.flag (R.LAN_LANE_CFG_TEST_EN k) then s else stageGo k 1 s)
    else if st = 1 then (if s.flag (R.LAN_LANE_CFG_DET_EN k) then s else stageGo k (laneStartStage s k) s)
    else if s.flag (R.LAN_LANE_STAT_LOS k) then laneFail k 1 s
    else s
  s.putB (R.LAN_LANE_STAT_FEC_ACT k) (laneFec s k)

/-- The lane passes through OFF into DETECT (11 R296). -/
def laneRestart (k : Nat) (s : State) : State :=
  if laneStage s k = 7 then s else laneRows k (laneRows k (stageGo k 0 s))

/-- The fields of CFG whose change restarts a lane (11 R296): EN, MODE, RATE, AN_EN, TRN_EN, FEC. -/
def laneKey (w : Nat) : Nat := w &&& 0x3DF

/-- A lane's CFG has been written (11 R296; the rows for TEST_EN and DET_EN follow). -/
def laneCfgApplied (k old : Nat) (s : State) : State :=
  if laneKey old = laneKey (rdWord s (0x0C1000 + 0x100 * k)) then laneRows k s else laneRestart k s

/-- A quad's CFG has been written (11 R296). -/
def quadCfgApplied (q old : Nat) (s : State) : State :=
  let s := quadCheck q s
  if old % 16 = rdWord s (0x0C0100 + 0x10 * q) % 16 then s
  else (List.range 4).foldl (fun s i => laneRestart (4 * q + i) s) s

/-- A lane's TXEQ has been written (11 R296): held during TRAIN. -/
def txeqApplied (k : Nat) (s : State) : State :=
  if laneStage s k = 2 then s else s.setLane k { s.lane k with taps := rdWord s (0x0C1008 + 0x100 * k) }

/-- The LOL exits of the last 8 000 Strokes. -/
def laneRecent (s : State) (k : Nat) : List Nat := (s.lane k).recent.filter (fun n => decide (s.strokes < n + 8000))

/-- RECENT_LOL brought up to date. -/
def laneRecentPut (k : Nat) (s : State) : State :=
  let l := laneRecent s k
  if l = (s.lane k).recent then s else (s.setLane k { s.lane k with recent := l }).put (R.LAN_LANE_STAT_RECENT_LOL k) (satW 8 l.length)

/-- LOL in ACTIVE (11 R285, R295). -/
def laneLolExit (k : Nat) (s : State) : State :=
  let s := laneRecentPut k s
  let n := (s.lane k).recent.length + 1
  let m := s.get (R.LAN_LANE_TMR1_RELINK_MAX k)
  let s := pmcAdd (240 + k) 1 { port := some k } ((laneWhy k 2 s).addSat (R.LAN_LANE_COUNTS_LOL_CNT k) 1)
  let s := (s.setLane k { s.lane k with recent := (s.lane k).recent ++ [s.strokes] }).put (R.LAN_LANE_STAT_RECENT_LOL k) (satW 8 n)
  let s := if m ≠ 0 ∧ m < n then stageGo k 7 s else stageGo k 1 s
  faultRaise k s

/-- LOS sets (11 R285, R288). -/
def laneLos (k : Nat) (s : State) : State :=
  let s := (s.setLane k { s.lane k with bad := true }).put (R.LAN_LANE_STAT_LOS k) 1
  let st := laneStage s k
  if 2 ≤ st ∧ st ≤ 5 then laneFail k 1 s else s

/-- The CDR sets LOL once bit lock has been reached (11 R285, R288). -/
def laneLol (k : Nat) (s : State) : State :=
  if !(s.lane k).cdr then s
  else
    let s := (s.setLane k { s.lane k with bad := true }).put (R.LAN_LANE_STAT_LOL k) 1
    if laneActive s k && !s.flag (R.LAN_LANE_STAT_LOS k) then laneLolExit k s else s

/-! ## The trackers (11 R290, R291) -/

/-- A delivered stamp: RAWF, WIDX, INV. base: the RAW48 of the Stroke edge; dir: 0 receive, 1 transmit. -/
def trkStamp (s : State) (base k dir : Nat) (t : TrkIn) : Nat × Nat × Bool :=
  let fine := convFine s (24 + k) t.code
  let r := laneRate s k
  let d := tget 0 s.clp.fact (0x10000 + (2 * k + dir) * 4 + r) + (if dir = 0 then (uiTimes r (s.get (R.LAN_LANE_ALIGN_RX_ALIGN k)) : Int) else 0)
  (ofInt 60 ((((base + t.dt) % 2 ^ 48 * 4096 + fine : Nat) : Int) - d), t.widx % 2 ^ 48, convInv s (24 + k))

/-- A value wrapped into (−T/2, T/2]; num / den is T. -/
def wrapT (v num den : Int) : Int :=
  let r := (v * den) % num
  let r := if 2 * r ≤ num then r else r - num
  r / den

/-- The Synchronous Ethernet sample of a lane (11 R291), with engine time as it ran in the Stroke that ends. -/
def syncSample (k : Nat) (st : Nat × Nat × Bool) (s : State) : State :=
  let o := s.lane k
  let et := etTotal s.etm st.1
  let tw : Int := (wordPs (laneRate s k) : Int) * 2 ^ 48
  let org := o.org.getD (et, st.2.1, -(wrapT et tw 1000))
  let dw : Int := toInt 48 ((st.2.1 + 2 ^ 48 - org.2.1 % 2 ^ 48) % 2 ^ 48)
  let x := (org.2.2 + dw * tw / 1000 - (et - org.1)) / 2 ^ 38
  let old := o.hist.getLast?
  let rate : Option Int := old.bind (fun h =>
    if et ≤ h.1 then none
    else
      let n : Int := toInt 48 ((st.2.1 + 2 ^ 48 - h.2 % 2 ^ 48) % 2 ^ 48)
      some ((n * tw / 1000 - (et - h.1)) * 2 ^ 44 / (et - h.1)))
  let s := s.setLane k { o with org := some org, hist := (et, st.2.1) :: o.hist.take 7999 }
  let s := put48 (R.LAN_LANE_SYNCE_X_LO_X k) (R.LAN_LANE_SYNCE_X_HI_X k) x (s.put (R.LAN_LANE_TRK_STAT_X_VALID k) 1)
  let s := match rate with
    | some r => s.put (R.LAN_LANE_RX_RATE_RX_RATE k) (sat32 r)
    | none => s
  match vMon s 3 k with
  | some m => vPush m { x := satI 48 x, t := et / 2 ^ 22, raw := st.1, has := true, inv := st.2.2 } s
  | none => s

/-- A lane's stamps, counts and samples of the Stroke that ends (11 R290 to R292); before engine time is re-anchored. -/
def laneStroke (base : Nat) (i : LaneIn) (s : State) : State :=
  let k := i.lane
  if 16 ≤ k then s
  else
    let s := if s.flag (R.LAN_LANE_PRBS_STAT_LOCK k) then
        let b := s.get2 (R.LAN_LANE_BITS_LO_BITS k) (R.LAN_LANE_BITS_HI_BITS k) + i.bits
        let e := s.get2 (R.LAN_LANE_ERR_LO_ERR k) (R.LAN_LANE_ERR_HI_ERR k) + i.bad
        let s := (s.put2 (R.LAN_LANE_BITS_LO_BITS k) (R.LAN_LANE_BITS_HI_BITS k) (satW 48 b)).put2 (R.LAN_LANE_ERR_LO_ERR k) (R.LAN_LANE_ERR_HI_ERR k) (satW 48 e)
        if 2 ^ 48 - 1 ≤ b ∨ 2 ^ 48 - 1 ≤ e then s.put (R.LAN_LANE_PRBS_STAT_SAT k) 1 else s
      else s
    if !laneActive s k then s
    else
      let s := if i.errs = 0 then s else pmcAdd (224 + k) i.errs { port := some k } s
      let s := match i.tx with
        | none => s
        | some t =>
          let st := trkStamp s base k 1 t
          let s := (s.setLane k { s.lane k with tx := st :: (s.lane k).tx.take 2 }).put2 (R.LAN_LANE_TX_STAMP_LO_TX_STAMP k) (R.LAN_LANE_TX_STAMP_HI_TX_STAMP k) st.1
          (s.put2 (R.LAN_LANE_TX_WIDX_LO_TX_WIDX k) (R.LAN_LANE_TX_WIDX_HI_TX_WIDX k) st.2.1).putB (R.LAN_LANE_TRK_STAT_TX_INV_STAMP k) st.2.2
      match i.rx with
      | none => s.put (R.LAN_LANE_TRK_STAT_X_VALID k) 0
      | some t =>
        let st := trkStamp s base k 0 t
        let s := (s.setLane k { s.lane k with rx := st :: (s.lane k).rx.take 2 }).put2 (R.LAN_LANE_RX_STAMP_LO_RX_STAMP k) (R.LAN_LANE_RX_STAMP_HI_RX_STAMP k) st.1
        let s := (s.put2 (R.LAN_LANE_RX_WIDX_LO_RX_WIDX k) (R.LAN_LANE_RX_WIDX_HI_RX_WIDX k) st.2.1).putB (R.LAN_LANE_TRK_STAT_RX_INV_STAMP k) st.2.2
        syncSample k st s

/-- An accepted step of delta d (2^-16 ns): RX_RATE's window runs on (11 R291). -/
def laneStepped (d : Int) (s : State) : State :=
  { s with lan := { s.lan with lanes := s.lan.lanes.map (fun e => (e.1, { e.2 with hist := e.2.hist.map (fun h => (h.1 + d * 2 ^ 32, h.2)) })) } }

/-- LOS of a lane for the snapshot of the Stroke that ends (11 R289). -/
def laneSnapLos (s : State) (k : Nat) : Bool :=
  (s.lane k).bad || !laneActive s k || s.flag (R.LAN_LANE_STAT_LOS k) || s.flag (R.LAN_LANE_STAT_LOL k)

/-- A lane at a Stroke edge: its level rows, RECENT_LOL, and the window of R289 begun anew. -/
def laneEdge (k : Nat) (s : State) : State :=
  let s := laneRecentPut k (laneRows k s)
  let b := !laneActive s k || s.flag (R.LAN_LANE_STAT_LOS k) || s.flag (R.LAN_LANE_STAT_LOL k)
  if (s.lane k).bad = b then s else s.setLane k { s.lane k with bad := b }

/-! ## The pattern checker (11 R292) -/

/-- A pattern's polynomial x^n + x^m + 1, and whether O.150 inverts it (log entry 30). -/
def prbsPoly : Nat → Option (Nat × Nat × Bool)
  | 1 => some (7, 6, false)
  | 2 => some (15, 14, true)
  | 3 => some (23, 18, true)
  | 4 => some (31, 28, true)
  | _ => none

/-- The user pattern's 80 bits, bit 0 first. -/
def userPat (s : State) (k : Nat) : List Bool :=
  let v := s.get (R.LAN_LANE_USER0_USER k) + s.get (R.LAN_LANE_USER1_USER k) * 2 ^ 32 + s.get (R.LAN_LANE_USER2_USER k) * 2 ^ 64
  (List.range 80).map (tbit v)

/-- The bit that a lane in TEST transmits, none with TX_PAT off (11 R292, R293): prev: the generator's bits before it, newest first; i: its place in the user
pattern. TX_INV and an injection in progress invert it. -/
def laneTestBit (s : State) (k : Nat) (prev : List Bool) (i : Nat) : Option Bool :=
  let p := s.get (R.LAN_LANE_PRBS_CTL_TX_PAT k)
  let flip := (s.flag (R.LAN_LANE_CFG_TX_INV k)) != (decide (0 < (s.lane k).inj))
  if laneStage s k != 6 then none
  else match prbsPoly p with
    | some (n, m, inv) => some (((prev.getD (n - 1) false != prev.getD (m - 1) false) != inv) != flip)
    | none => if p == 5 then some ((userPat s k).getD (i % 80) false != flip) else none

/-- Do two lists hold the same bits, and at least n of them? -/
def sameBits (n : Nat) (a b : List Bool) : Bool := decide (n ≤ min a.length b.length) && (a.zip b).all (fun p => p.1 == p.2)

/-- Do the last received bits lock the checker (11 R292): 256 successive bits agree with its own generator, seeded from the bits before them, or with a rotation of
the user pattern? -/
def patLocks (s : State) (k : Nat) (l : List Bool) : Bool :=
  let l := l.map (fun b => b != s.flag (R.LAN_LANE_CFG_RX_INV k))
  let p := s.get (R.LAN_LANE_PRBS_CTL_RX_PAT k)
  match prbsPoly p with
  | some (n, m, inv) => sameBits 256 (l.drop n) (((l.drop (n - m)).zip l).map (fun e => (e.1 != e.2) != inv))
  | none =>
    let u := userPat s k
    p == 5 && (List.range 80).any (fun r => sameBits 256 l (((u ++ u ++ u ++ u ++ u).drop r).take l.length))

/-- LAN at a Stroke edge, after the APLLs. -/
def lanEdge (s : State) : State :=
  let s := (List.range 4).foldl (fun s q => quadEdge q s) s
  (List.range 16).foldl (fun s k => laneEdge k s) s

/-- The fence of a lane ends with its LOL fault state (11 R285). -/
def laneUnfence (k : Nat) (s : State) : State :=
  if laneStage s k = 7 then
    let s := (s.setLane k { s.lane k with recent := [] }).put (R.LAN_LANE_STAT_RECENT_LOL k) 0
    laneRows k (stageGo k 1 s)
  else s

end Sys2Proof.Machine
end

