-- ==== Sys2Proof/Machine/Key.lean ====
section
/-! DEFINITION. The key engine (14): uses, transactions, the journal, the random generator, re-masking and attestation. -/

namespace Sys2Proof.Machine

/-- Counts an operation of the key engine: 0 SIV, 1 HMAC, 2 UNWRAP, 3 commits, 4 re-mask passes, 5 refusals (18 R462). -/
def keyCnt (n : Nat) (s : State) : State := pmcCount (288 + n) s

/-! ## Uses (14 R363, R366, R367) -/

/-- What stands in the way of n uses of a key for an operation: 0 nothing, 1 refused, 2 a floor commit is due first. -/
def keyGate (s : State) (k op n : Nat) : Nat :=
  let c := s.slot k
  if !keyUsable s.key.slots k op then 1
  else if c.useMax = 0 then 0
  else if c.uses < n then 1
  else if c.life = 1 ∧ c.uses < c.floor + n then 2
  else 0

/-- n uses taken (14 R366): the last makes the key EXHAUSTED. -/
def keyTake (k n : Nat) (s : State) : State :=
  let c := s.slot k
  if c.useMax = 0 then s
  else
    let u := c.uses - n
    let s := s.setSlot k { c with uses := u, state := if u = 0 then 2 else c.state }
    if u = 0 then raiseEvt R.KEY_EVT_EXHAUSTED 188 s else s

/-- A floor commit asked for (14 R367). -/
def floorAsk (k : Nat) (s : State) : State :=
  s.setKey { s.key with floorDue := if s.key.floorDue.contains k then s.key.floorDue else s.key.floorDue ++ [k] }

/-- An operation of a key refused. -/
def keyRefuse (s : State) : State := keyCnt 5 s

/-! ## Checks of STAGE (14 R361, R371) -/

/-- The OPS that a kind permits (14 R361). -/
def kindOps (kind : Nat) : Nat :=
  match kind with
  | 1 => 0x10
  | 2 => 0x03
  | 3 => 0x30
  | 4 => 0x0C
  | 5 => 0x04
  | 6 => 0x03
  | 7 => 0x0C
  | 8 => 0x0C
  | _ => 0

/-- Does a key meet R361 and R367 in its slot? -/
def attrOk (t : Tbl KeySlot) (slot : Nat) (k : KeySlot) : Bool :=
  let ops := k.ops != 0 && (k.ops &&& kindOps k.kind) == k.ops
  let priv := match k.kind with
    | 4 => k.priv == 1
    | 5 => k.priv == 1 || k.priv == 2
    | _ => k.priv == 0
  let life := match k.kind with
    | 4 | 5 => decide (k.life ≤ 1)
    | _ => decide (k.life ≤ 2)
  let role := match k.kind with
    | 3 | 4 | 5 => k.role == 0
    | 6 => decide (k.role ≤ 7)
    | _ => true
  let place := match k.kind with
    | 4 => slot == 2
    | 5 => slot == 3
    | 3 | 6 | 7 | 8 => decide (4 ≤ slot)
    | _ => false
  let count := match k.life with
    | 0 => k.useMax == 0
    | 1 => k.useMax != 0
    | _ => true
  let rec anc : Nat → Nat → Bool
    | 0, _ => true
    | fuel + 1, p => p == 0 || ((kslot t p).life != 2 && anc fuel (kslot t p).parent)
  ops && priv && life && role && place && count && (k.life == 2 || anc 5 k.parent)

/-- An import's check (14 R371), the first failure; 0 passes. op: 1 plain, 2 wrapped, 3 generate. opens: the blob opens. The fixed slots' parent is
slot 0 (R360): another one is refused as PARENT (DEDUCED, log 55). -/
def importErr (t : Tbl KeySlot) (rngOk inband opens : Bool) (op slot : Nat) (k : KeySlot) : Nat :=
  let p := kslot t k.parent
  let fixed := decide (slot < 4)
  if (kslot t slot).state ≠ 0 ∨ slot < 2 ∨ (fixed ∧ k.kind ≠ slot + 2) then 3
  else if (fixed && k.parent != 0) || !keyLive t k.parent || !p.may 4 || (op == 2 && !p.may 5) then 4
  else if 4 < k.depth then 5
  else if !attrOk t slot k || (op == 3 && (k.kind != 3 || !rngOk)) then 6
  else if (k.kind == 6 && (keyByRole t 6 k.role none).isSome) || (k.kind == 7 && (keyByRole t 7 k.role (some k.spp)).isSome)
      || (k.kind == 8 && (keyByRole t 8 k.role none).isSome) then 7
  else if op = 2 ∧ !opens then 8
  else if op = 1 ∧ inband then 9
  else 0

/-- One staged operation applied to a table of slots (14 R365, R366, R370). -/
def applyOp (t : Tbl KeySlot) (o : KeyOp) : Tbl KeySlot :=
  let c := kslot t o.slot
  if o.op ≤ 3 then tset {} t o.slot { o.new with gen := c.gen, pgen := (kslot t o.new.parent).gen }
  else if o.op = 4 then tset {} t o.slot { c with state := 3 }
  else if o.op = 5 then
    tset {} t o.slot { c with uses := o.val, state := if o.val = 0 ∧ c.state = 1 then 2 else c.state,
                              floor := if c.life = 1 then o.val - 1023 else c.floor }
  else tset {} t o.slot { gen := (c.gen + 1) % 65536 }

/-- The store as it would stand after the staged operations. -/
def stagedSlots (s : State) : Tbl KeySlot := s.key.staged.foldl applyOp s.key.slots

/-- The associated data of a wrapped import (14 R368). -/
def wrapAd (k : KeySlot) : List Nat :=
  [k.kind, k.life, k.ops, k.priv] ++ beBytes 4 k.role ++ [k.spp, 0, 0, 0] ++ beBytes 4 k.useMax

/-- The staging registers' key bytes. -/
def stgData (s : State) (n : Nat) : List Nat := (List.range n).flatMap (fun w => leBytes 4 (rdWord s (0x0F0120 + 4 * w)))

/-- The new slot that the staging registers describe. -/
def stgSlot (s : State) (t : Tbl KeySlot) : KeySlot :=
  let u := s.get R.KEY_STG_USES_USE_MAX
  let p := s.get R.KEY_STG_OP_PARENT
  let life := s.get R.KEY_STG_ATTR_LIFE
  { state := 1, kind := s.get R.KEY_STG_ATTR_KIND, life := life, ops := s.get R.KEY_STG_ATTR_OPS, priv := s.get R.KEY_STG_ATTR_PRIV,
    role := s.get R.KEY_STG_ROLE_ROLE_ID, spp := s.get R.KEY_STG_ATTR_SPP, useMax := u, uses := u, parent := p,
    depth := (kslot t p).depth + 1, floor := if life = 1 then u - 1023 else 0 }

/-- Does interface j own the open transaction? -/
def keyOwns (s : State) (j : Iface) : Bool := s.get R.KEY_STAT_TXN_STATE == 1 && s.get R.KEY_STAT_TXN_OWNER == j.num

/-- A refusal (14 R371). event: STAGE_ERR. -/
def keyErr (code : Nat) (event : Bool) (s : State) : State :=
  let s := keyRefuse ((s.put R.KEY_ERR_ERR_CODE code).put R.KEY_ERR_ERR_IDX s.key.staged.length)
  if event then raiseEvt R.KEY_EVT_STAGE_ERR 188 s else s

/-- The first failure of a staged operation, 0 for none (14 R371), with the key that an import carries and whether its parent's UNWRAP was used. -/
def stageCheck (s : State) (j : Iface) (op : Nat) : Nat × Nat × Bool :=
  let t := stagedSlots s
  let slot := s.get R.KEY_STG_OP_SLOT
  let c := kslot t slot
  let k := stgSlot s t
  if !keyOwns s j then (1, 0, false)
  else if 16 ≤ s.key.staged.length then (2, 0, false)
  else match op with
    | 1 => (importErr t (s.flag R.KEY_STAT_RNG_OK) (j == .inband) true 1 slot k, ofLe (stgData s 8), false)
    | 2 =>
      let blob := toBytes (stgData s 12)
      let pk := toBytes (keyBytes (kslot t k.parent).key)
      let ad := toBytes (wrapAd k)
      let opens := keyGate s k.parent 5 1 == 0 && Config.aesSivOpens pk [ad] blob
      let e := importErr t (s.flag R.KEY_STAT_RNG_OK) false opens 2 slot k
      (e, ofLe ((Config.aesSivOpen pk [ad] blob).map (·.toNat)), e == 0 || e == 8)
    | 3 => (importErr t (s.flag R.KEY_STAT_RNG_OK) false true 3 slot k, 0, false)
    | 4 => (if slot < 2 ∨ c.state = 0 then 12 else 0, 0, false)
    | 5 => (if c.useMax = 0 ∨ c.uses < s.get R.KEY_STG_USES_USE_MAX then 10 else 0, 0, false)
    | _ => (if c.state = 3 ∨ keyState t slot = 4 then 0 else 11, 0, false)

/-- A sealed transaction in the active half; a compaction begins past 75 % (14 R374). -/
def jnlSeal (x : JTxn) (s : State) : State :=
  let n := s.nvm
  let n := if s.flag R.KEY_STAT_ACTIVE_HALF then { n with jnl1 := n.jnl1 ++ [x] } else { n with jnl0 := n.jnl0 ++ [x] }
  let s := jnlStat (s.setNvm { n with part := none })
  if 1536 < s.get R.KEY_JNL_USE_USED then s.put R.KEY_STAT_COMPACTING 1 else s

/-- A slot's record with its key in clear, as it is sealed under KWRAP; a VOLATILE key is never written (14 R367): its slot's record is FREE. -/
def jnlRec (t : Tbl KeySlot) (k : Nat) : Nat × KeySlot :=
  let c := kslot t k
  (k, if c.life = 2 then { gen := c.gen } else { c with stored := c.key, mask := 0 })

/-- The floor commit of a slot (14 R367): a transaction of its own. -/
def floorCommit (k : Nat) (s : State) : State :=
  if s.key.floorDue.contains k then
    let c := s.slot k
    let s := (s.setKey { s.key with floorDue := s.key.floorDue.filter (· != k) }).setSlot k { c with floor := c.floor - 1024 }
    let part := s.nvm.part
    let s := jnlSeal { seq := (s.get R.KEY_JNL_SEQ + 1) % 2 ^ 32, recs := [jnlRec s.key.slots k] } s
    s.setNvm { s.nvm with part := part }
  else s

/-- The floor commit that an unwrapping awaits (14 R367), made before it. -/
def stageFloor (j : Iface) (op : Nat) (s : State) : State :=
  let p := s.get R.KEY_STG_OP_PARENT
  if op = 2 ∧ keyOwns s j ∧ keyGate s p 5 1 = 2 then floorCommit p (floorAsk p s) else s

/-- STAGE by interface j (14 R370, R371). -/
def keyStage (j : Iface) (op : Nat) (s : State) : State :=
  let s := stageFloor j op (s.put R.KEY_STG_OP_OP op)
  let c := stageCheck s j op
  let slot := s.get R.KEY_STG_OP_SLOT
  let new := stgSlot s (stagedSlots s)
  let s := if c.2.2 then keyCnt 2 (keyTake new.parent 1 s) else s
  let busy := decide (c.1 = 1)
  let s := if op ≤ 2 ∧ !busy then stgErase s else s
  if c.1 ≠ 0 then keyErr c.1 true s
  else if op ≤ 3 then
    let r := if op = 3 then rngDraw 256 s else (c.2.1, s)
    let m := maskKey new r.1 r.2
    m.2.setKey { m.2.key with staged := m.2.key.staged ++ [{ op := op, slot := slot, new := m.1, val := 0 }] }
  else s.setKey { s.key with staged := s.key.staged ++ [{ op := op, slot := slot, new := {}, val := s.get R.KEY_STG_USES_USE_MAX }] }

/-! ## Transactions and the journal (14 R370 to R375) -/

/-- Is a slot's contents kept across reset? -/
def keptSlot (c : KeySlot) : Bool := c.life != 2

/-- Does a staged operation need the NVM (14 R370)? Only VOLATILE keys and slots do without. -/
def opNvm (t : Tbl KeySlot) (o : KeyOp) : Bool := if o.op ≤ 3 then keptSlot o.new else keptSlot (kslot t o.slot)

/-- The slots for which staged operations write a record, each operation against the store as the ones before it leave it. -/
def nvmSlots : Tbl KeySlot → List KeyOp → List Nat
  | _, [] => []
  | t, o :: l => (if opNvm t o then [o.slot] else []) ++ nvmSlots (applyOp t o) l

/-- The transaction that the staged operations write: a record for each persistent slot that they change. -/
def stagedTxn (s : State) : JTxn :=
  let t := stagedSlots s
  let l := (nvmSlots s.key.slots s.key.staged).eraseDups
  { seq := (s.get R.KEY_JNL_SEQ + 1) % 2 ^ 32, recs := l.map (jnlRec t) }

/-- The staged operations applied on one core cycle. -/
def keyApply (s : State) : State :=
  let t := stagedSlots s
  raiseEvt R.KEY_EVT_COMMIT_DONE 188 (keyCnt 3 (keyIdle (s.setKey { s.key with slots := t })))

/-- BEGIN (14 R370). -/
def keyBegin (j : Iface) (s : State) : State :=
  if s.get R.KEY_STAT_TXN_STATE = 0 then
    let s := (s.put R.KEY_STAT_TXN_STATE 1).put R.KEY_STAT_TXN_OWNER j.num
    s.setKey { s.key with staged := [], since := s.now }
  else if keyOwns s j then s
  else keyErr 1 false s

/-- COMMIT (14 R370). -/
def keyCommit (j : Iface) (s : State) : State :=
  if keyOwns s j then
    if !(nvmSlots s.key.slots s.key.staged).isEmpty then
      (s.setNvm { s.nvm with part := some (stagedTxn s) }).put R.KEY_STAT_TXN_STATE 2
    else keyApply s
  else keyErr 1 false s

/-- The seal is written (14 R370, R372). A commit waits for a compaction and for floor commits (R374, R384). -/
def keyCommitDone (s : State) : State :=
  if s.get R.KEY_STAT_TXN_STATE = 2 ∧ !s.flag R.KEY_STAT_COMPACTING ∧ s.key.floorDue.isEmpty then
    let x := stagedTxn s
    keyApply (jnlSeal x s)
  else s

/-- The commit fails before its seal (14 R370, R375). The records written stay without a seal. -/
def keyCommitFail (tmo : Bool) (s : State) : State :=
  if s.get R.KEY_STAT_TXN_STATE = 2 then
    let s := raiseEvt R.KEY_EVT_COMMIT_FAIL 188 (keyIdle s)
    if tmo then faultRaise 21 s else s
  else s

/-- The compaction's snapshot is sealed, the old half erased (14 R374). -/
def keyCompacted (s : State) : State :=
  if s.flag R.KEY_STAT_COMPACTING then
    let keep := (List.range 64).filter (fun k => decide (2 ≤ k) && ((s.slot k).state != 0 || (s.slot k).gen != 0))
    let x : JTxn := { seq := (s.get R.KEY_JNL_SEQ + 1) % 2 ^ 32, recs := keep.map (jnlRec s.key.slots) }
    let s := if s.flag R.KEY_STAT_ACTIVE_HALF then (s.setNvm { s.nvm with jnl0 := [x], jnl1 := [] }).put R.KEY_STAT_ACTIVE_HALF 0
      else (s.setNvm { s.nvm with jnl1 := [x], jnl0 := [] }).put R.KEY_STAT_ACTIVE_HALF 1
    raiseEvt R.KEY_EVT_COMPACT 188 (jnlStat (s.put R.KEY_STAT_COMPACTING 0))
  else s

/-! ## Re-masking (14 R377) -/

/-- A slot re-masked: its stored value v becomes v XOR (m XOR m'). -/
def remaskSlot (k : Nat) (s : State) : State :=
  let c := s.slot k
  if c.stored = 0 ∧ c.mask = 0 then s
  else
    let r := rngDraw 256 s
    r.2.setSlot k { c with stored := c.stored ^^^ (c.mask ^^^ r.1), mask := r.1 }

/-- Strokes between passes. -/
def remaskPer (s : State) : Nat := if s.flag R.ETM_STAT_BACKUP_CLK then 62 else 80

/-- Is a pass due in this Stroke: every 80, counted from Stroke 0 or from the last one on the backup, and on the backup every 62 since the last? -/
def remaskDue (s : State) : Bool := decide (s.key.remaskAt + remaskPer s < s.strokes)

/-- A pass over the store; the Mallets' caches follow with it. -/
def remaskPass (s : State) : State :=
  let s := if s.get (R.PWR_DOM_STATE 2) = 2 then s.addSat (R.PWR_DOM_WAKE_CNT 2) 1 else s
  let s := (List.range 64).foldl (fun s k => remaskSlot k s) s
  let n := s.strokes - 1
  let from' := s.key.remaskAt
  keyCnt 4 (s.setKey { s.key with remaskAt := if s.flag R.ETM_STAT_BACKUP_CLK then n else from' + (n - from') / 80 * 80 })

/-! ## PTP authentication (14 R380 to R382) -/

/-- The association of an SPP (14 R381). -/
def saOf (s : State) (spp : Nat) : Option Nat :=
  (List.range 16).find? (fun n => s.flag (R.KEY_SA_CFG_EN n) && s.get (R.KEY_SA_CFG_SPP n) == spp)

/-- The key that sends under an association (14 R381). -/
def saTxKey (s : State) (n : Nat) : Option Nat :=
  (keyByRole s.key.slots 7 (s.get (R.KEY_SA_TX_KEY_ID_TX_KEY_ID n)) (some (s.get (R.KEY_SA_CFG_SPP n)))).bind
    (fun k => if keyGate s k 2 1 = 1 then none else some k)

/-- A message with correctionField as the ICV takes it (14 R381). -/
def icvView (s : State) (n : Nat) (msg : List Nat) : List Nat :=
  if s.flag (R.KEY_SA_CFG_CF_ZERO n) then msg.take 8 ++ List.replicate 8 0 ++ msg.drop 16 else msg

/-- NOKEY (14 R382). -/
def noKey (s : State) : State := raiseEvt R.KEY_EVT_NOKEY 188 (s.addSat R.KEY_JNL_USE_NOKEY_CNT 1)

/-! ## Attestation (14 R383) -/

/-- The attestation message of interface j. -/
def attMsg (s : State) (j : Iface) : List Nat :=
  ascii "CWAT" ++ (List.range 8).flatMap (fun w => leBytes 4 (s.get ((R.KEY_ATT_CHAL_W0_CHAL.word w).ifc j)))
    ++ (List.range 4).flatMap (fun w => leBytes 4 (rdWord s (4 * w))) ++ [s.get R.GEN_LC_STATE, 0, 0, 0]
    ++ (List.range 8).flatMap (fun w => leBytes 4 (rdWord s (0x160040 + 4 * w)))

/-- ATT_CMD.GO (14 R383): captures the message, takes a use of KS_3; without a usable key NOKEY, zeros, and no use. -/
def attGo (j : Iface) (s : State) : State :=
  let msg := attMsg s j
  let s := (s.put (R.KEY_ATT_STAT_DONE.ifc j) 0).put (R.KEY_ATT_STAT_NOKEY.ifc j) 0
  let s := (List.range 8).foldl (fun s w => s.put ((R.KEY_ATT_RESP_W0_RESP.word w).ifc j) 0) s
  let bad := keyGate s 3 2 1 == 1 || ((s.slot 3).priv == 2 && !isCust s j) || s.get R.GEN_LC_STATE == 4
  if bad then
    let s := s.setKey { s.key with att := tset none s.key.att j.num none }
    raiseEvt R.KEY_EVT_NOKEY 188 (keyRefuse ((s.put (R.KEY_ATT_STAT_BUSY.ifc j) 0).put (R.KEY_ATT_STAT_NOKEY.ifc j) 1))
  else
    let s := (s.put (R.KEY_ATT_STAT_ATT_LC.ifc j) (s.get R.GEN_LC_STATE)).put (R.KEY_ATT_STAT_BUSY.ifc j) 1
    let s := (List.range 8).foldl (fun s w => s.put ((R.KEY_ATT_DIGEST_W0_DIGEST.word w).ifc j) (rdWord s (0x160040 + 4 * w))) s
    let s := s.setKey { s.key with att := tset none s.key.att j.num (some msg) }
    if keyGate s 3 2 1 = 2 then floorAsk 3 s else s

/-- The attestation completes (14 R383); nothing where none runs, or while its floor commit is awaited. -/
def attDone (j : Iface) (s : State) : State :=
  match tget none s.key.att j.num with
  | none => s
  | some msg =>
    if s.key.floorDue.contains 3 then s
    else
      let r := hmacOf (s.slot 3).key msg
      let s := keyCnt 1 (keyTake 3 1 (s.setKey { s.key with att := tset none s.key.att j.num none }))
      let s := (List.range 8).foldl (fun s w => s.put ((R.KEY_ATT_RESP_W0_RESP.word w).ifc j) (ofLe ((r.drop (4 * w)).take 4))) s
      (s.put (R.KEY_ATT_STAT_BUSY.ifc j) 0).put (R.KEY_ATT_STAT_DONE.ifc j) 1

/-! ## The commands -/

/-- REMASK_PASS (14 R377): where a pass is due. -/
def execRemaskPass (s : State) : Host.Outcome State Fault Refusal := live s (if remaskDue s then remaskPass s else s)

/-- BEGIN (14 R370). -/
def execKeyBegin (j : Iface) (dt : Nat) (s : State) : Host.Outcome State Fault Refusal := live s (keyBegin j (s.tick dt))

/-- STAGE_IMPORT_PLAIN (14 R368), of the staging registers. -/
def execStageImportPlain (j : Iface) (s : State) : Host.Outcome State Fault Refusal := live s (keyStage j 1 s)

/-- STAGE_IMPORT_WRAPPED (14 R368). -/
def execStageImportWrapped (j : Iface) (s : State) : Host.Outcome State Fault Refusal := live s (keyStage j 2 s)

/-- STAGE_GENERATE (14 R368). -/
def execStageGenerate (j : Iface) (s : State) : Host.Outcome State Fault Refusal := live s (keyStage j 3 s)

/-- STAGE_INVALIDATE (14 R365). -/
def execStageInvalidate (j : Iface) (s : State) : Host.Outcome State Fault Refusal := live s (keyStage j 4 s)

/-- STAGE_SET_USES (14 R366). -/
def execStageSetUses (j : Iface) (s : State) : Host.Outcome State Fault Refusal := live s (keyStage j 5 s)

/-- STAGE_RECLAIM (14 R365). -/
def execStageReclaim (j : Iface) (s : State) : Host.Outcome State Fault Refusal := live s (keyStage j 6 s)

/-- COMMIT (14 R370). -/
def execKeyCommit (j : Iface) (s : State) : Host.Outcome State Fault Refusal := live s (keyCommit j s)

/-- ABORT (14 R370). -/
def execKeyAbort (j : Iface) (s : State) : Host.Outcome State Fault Refusal := live s (if keyOwns s j then keyIdle s else s)

/-- TXN_DISCARD (14 R370): TXN_MAX ms since BEGIN. -/
def execTxnDiscard (dt : Nat) (s : State) : Host.Outcome State Fault Refusal :=
  live s (
    let s := s.tick dt
    if s.get R.KEY_STAT_TXN_STATE = 1 ∧ s.key.since + s.get R.KEY_CTL_TXN_MAX * msCounts ≤ s.now then
      raiseEvt R.KEY_EVT_TXN_DISCARD 188 (keyIdle s) else s)

/-- COMMIT_FAIL (14 R370): an NVM write fails (tmo: by a timeout), or PFAIL_N before the seal. -/
def execCommitFail (tmo : Bool) (s : State) : Host.Outcome State Fault Refusal := live s (keyCommitFail tmo s)

/-- COMPACTION_DONE (14 R374). -/
def execCompactionDone (s : State) : Host.Outcome State Fault Refusal := live s (keyCompacted s)

/-- FLOOR_COMMIT (14 R367): of a slot whose next use waits for it. -/
def execFloorCommit (k : Fin 64) (s : State) : Host.Outcome State Fault Refusal := live s (floorCommit k s)

/-- RNG_DEGRADED (14 R376): a health test fails. -/
def execRngDegraded (s : State) : Host.Outcome State Fault Refusal :=
  live s (faultRaise 24 (raiseEvt R.KEY_EVT_RNG_DEGRADED 188 (s.put R.KEY_STAT_RNG_OK 0)))

/-- RNG_RESEED (14 R376): after 2^20 outputs; pass: the source passes its tests. -/
def execRngReseed (pass : Bool) (s : State) : Host.Outcome State Fault Refusal :=
  live s (if 2 ^ 20 ≤ s.key.rngCnt ∧ pass then (s.setKey { s.key with rngCnt := 0 }).put R.KEY_STAT_RNG_OK 1 else s)

/-- ATT_GO (14 R383). -/
def execAttGo (j : Iface) (s : State) : Host.Outcome State Fault Refusal := live s (attGo j s)

/-- ATT_DONE (14 R383). -/
def execAttDone (j : Iface) (s : State) : Host.Outcome State Fault Refusal := live s (attDone j s)

end Sys2Proof.Machine
end

