-- ==== Sys2Proof/Machine/Mac.lean ====
section
/-! DEFINITION. MAC (12): the receive order, checksums, timestamp points, the transmit path and its queue, the host packet path and ESMC
transmission. -/

namespace Sys2Proof.Machine

/-- A port's own state. -/
def State.port (s : State) (k : Nat) : MacPort := tget {} s.mac.ports k

/-- A port's own state set. -/
def State.setPort (s : State) (k : Nat) (v : MacPort) : State := { s with mac := { s.mac with ports := tset {} s.mac.ports k v } }

/-- MAC set. -/
def State.setMac (s : State) (m : MacSt) : State := { s with mac := m }

/-! ## Reading a frame -/

/-- Two bytes, big-endian. -/
def be16 (b : List Nat) (o : Nat) : Nat := ofBe ((b.drop o).take 2)

/-- n bytes from o on. -/
def sub (b : List Nat) (o n : Nat) : List Nat := (b.drop o).take n

/-- A byte string with v put at o. -/
def putBytes (b : List Nat) (o : Nat) (v : List Nat) : List Nat := b.take o ++ v ++ b.drop (o + v.length)

/-- The VLAN tags recognised (12 R302). -/
def frameTags (b : List Nat) : Nat :=
  if be16 b 12 = 0x8100 ∨ be16 b 12 = 0x88A8 then (if be16 b 16 = 0x8100 then 2 else 1) else 0

/-- Where the EtherType stands. -/
def etAt (b : List Nat) : Nat := 12 + 4 * frameTags b

/-- The EtherType. -/
def etherType (b : List Nat) : Nat := be16 b (etAt b)

/-- An IP packet in a frame: version 6, source, destination, protocol, and where its payload stands and how long it is. -/
structure IpView where
  v6 : Bool
  at' : Nat
  src : List Nat
  dst : List Nat
  proto : Nat
  off : Nat
  len : Nat
  ok : Bool
  deriving DecidableEq, Repr

/-- The IP packet of a frame; ok: IHL = 5 and no fragment over IPv4 (13 R326). -/
def ipView (b : List Nat) : Option IpView :=
  let o := etAt b + 2
  if etherType b = 0x0800 ∧ b.getD o 0 / 16 = 4 ∧ 5 ≤ b.getD o 0 % 16 then
    let h := 4 * (b.getD o 0 % 16)
    some { v6 := false, at' := o, src := sub b (o + 12) 4, dst := sub b (o + 16) 4, proto := b.getD (o + 9) 0, off := o + h,
           len := min (be16 b (o + 2) - h) (b.length - (o + h)), ok := decide (h = 20) && be16 b (o + 6) % 0x4000 == 0 }
  else if etherType b = 0x86DD ∧ b.getD o 0 / 16 = 6 then
    some { v6 := true, at' := o, src := sub b (o + 8) 16, dst := sub b (o + 24) 16, proto := b.getD (o + 6) 0, off := o + 40,
           len := min (be16 b (o + 4)) (b.length - (o + 40)), ok := true }
  else none

/-! ## Checksums (12 R307, R308) -/

/-- The sum of a byte string's 16-bit words, the last padded with zero. -/
def sum16 : List Nat → Nat
  | [] => 0
  | [a] => a * 256
  | a :: b :: t => a * 256 + b + sum16 t

/-- A sum in ones' complement of 16 bits. -/
def fold16 (n : Nat) : Nat := if n = 0 then 0 else (n - 1) % 65535 + 1

/-- The sum over a UDP datagram and its pseudo-header. -/
def udpSum (b : List Nat) (v : IpView) : Nat := fold16 (sum16 (v.src ++ v.dst) + v.proto + v.len + sum16 (sub b v.off v.len))

/-- IP4_BAD and UDP_BAD (12 R307). -/
def sumsBad (b : List Nat) : Bool × Bool :=
  match ipView b with
  | none => (false, false)
  | some v =>
    let ip := !v.v6 && fold16 (sum16 (sub b v.at' (v.off - v.at'))) != 65535
    let frag := !v.v6 && be16 b (v.at' + 6) % 0x4000 != 0
    let f := be16 b (v.off + 6)
    (ip, v.proto == 17 && !frag && (if f = 0 then v.v6 else udpSum b v != 65535))

/-- The IPv4 header checksum written (12 R308). -/
def ipFix (b : List Nat) : List Nat :=
  match ipView b with
  | none => b
  | some v =>
    if v.v6 then b
    else
      let z := putBytes b (v.at' + 10) [0, 0]
      putBytes b (v.at' + 10) (beBytes 2 (65535 - fold16 (sum16 (sub z v.at' (v.off - v.at')))))

/-- The UDP checksum written (12 R308). -/
def udpFix (b : List Nat) : List Nat :=
  match ipView b with
  | none => b
  | some v =>
    if v.proto ≠ 17 then b
    else
      let c := 65535 - udpSum (putBytes b (v.off + 6) [0, 0]) v
      putBytes b (v.off + 6) (beBytes 2 (if c = 0 then 65535 else c))

/-! ## Timestamp points (12 R310) -/

/-- The line's word in UI, and the bytes that a word carries. -/
def wordUi (rate : Nat) : Nat := if rate = 0 then 10 else 66

/-- The bytes that a line word carries. -/
def wordBytes (rate : Nat) : Nat := if rate = 0 then 1 else 8

/-- Words from one index to another, 48 bits. -/
def widxDiff (a b : Nat) : Int := toInt 48 ((a + 2 ^ 48 - b % 2 ^ 48) % 2 ^ 48)

/-- The tracker's latest stamp at or before a word and the one before it (12 R310). -/
def trkPair (l : List (Nat × Nat × Bool)) (wf : Nat) : Option ((Nat × Nat × Bool) × (Nat × Nat × Bool)) :=
  match l with
  | a :: b :: c :: _ => if 0 ≤ widxDiff wf a.2.1 then some (a, b) else some (b, c)
  | a :: b :: [] => some (a, b)
  | _ => none

/-- The stamp of the bit b_f of word w_f as the tracker gives it, and INV. -/
def wordStamp (l : List (Nat × Nat × Bool)) (rate wf bf : Nat) : Nat × Bool :=
  match trkPair l wf with
  | none => ((l.headD (0, 0, true)).1, true)
  | some (a, b) =>
    let d := rawfDiff a.1 b.1
    let w := widxDiff a.2.1 b.2.1
    let u : Int := wordUi rate
    (ofInt 60 ((a.1 : Int) + roundDiv (d * (widxDiff wf a.2.1 * u + (min bf (wordUi rate - 1) : Nat))) (max 1 (w * u))), a.2.2 || b.2.2)

/-- The delivered receive stamp of a frame on port k (12 R310, R311). -/
def rxStamp (s : State) (k wf bf : Nat) : Nat × Bool :=
  let r := wordStamp (s.lane k).rx (laneRate s k) wf bf
  (ofInt 60 ((r.1 : Int) - s.getI (R.MAC_PORT_RX_CORR_RX_CORR k)), r.2)

/-- The delivered transmit stamp. -/
def txStamp (s : State) (k wf bf : Nat) : Nat × Bool :=
  let r := wordStamp (s.lane k).tx (laneRate s k) wf bf
  (ofInt 60 ((r.1 : Int) + s.getI (R.MAC_PORT_TX_CORR_TX_CORR k)), r.2)

/-- The RAWF now, not wrapped. -/
def nowF (s : State) : Nat := s.now * 4096

/-- The next Stroke edge as a RAWF, not wrapped. -/
def edgeF (s : State) : Nat := s.nextEdge * 4096

/-- The time that n bytes of a frame take on the line, in 2^-10 ns. -/
def lineTime (s : State) (k n : Nat) : Nat :=
  let r := laneRate s k
  (n + wordBytes r - 1) / wordBytes r * wordPs r * 1024 / 1000

/-- The reservation of the first word of port k at or after the later of 1 µs from now and the end of the frames committed or reserved, for a
frame of n bytes with FCS (13 R332): none where the word would lie beyond the next edge; else its delivered stamp and INV, and the RAWF, not
wrapped, at which the frame ends. -/
def reserve (s : State) (k bf n : Nat) : Option ((Nat × Bool) × Nat) :=
  let x := max (nowF s + 250 * 4096) (s.port k).busy
  let plain : Option ((Nat × Bool) × Nat) :=
    if edgeF s ≤ x then none else some ((ofInt 60 ((x : Int) + s.getI (R.MAC_PORT_TX_CORR_TX_CORR k)), true), x + lineTime s k n)
  match (s.lane k).tx with
  | a :: b :: _ =>
    let d := rawfDiff a.1 b.1
    let w := widxDiff a.2.1 b.2.1
    if d ≤ 0 ∨ w ≤ 0 then plain
    else
      let rel := rawfDiff (x % 2 ^ 60) a.1
      let j := ceilDiv (rel * w) d
      let at' := (x : Int) + (j * d / w - rel)
      if (edgeF s : Int) ≤ at' then none
      else some (txStamp s k (ofInt 48 ((a.2.1 : Int) + j)) bf, at'.toNat + lineTime s k n)
  | _ => plain

/-! ## Tagged frames (18 R466 to R468) -/

/-- Core cycles from a stamp to now, saturating at 0xFFFF. -/
def tagDelta (s : State) (rx : Nat) : Nat := satW 16 (rawDiff s.raw (rx / 4096 % 2 ^ 48)).toNat

/-- A frame's traffic class (18 R464): the PCP of the outermost tag, or DSCP[5:3] when it is untagged. -/
def frameClass (b : List Nat) : Nat :=
  if 0 < frameTags b then b.getD 14 0 / 32
  else
    let o := etAt b + 2
    if etherType b = 0x0800 then b.getD (o + 1) 0 / 32
    else if etherType b = 0x86DD then be16 b o / 512 % 8
    else 0

/-- The draw for a received frame (18 R466). -/
def tagDraw (k : Nat) (b : List Nat) (rx : Nat) (s : State) : Option TagRec × State :=
  let kk := s.get R.PMC_CTL_TAG_K
  let ctx : PmcCtx := { port := some k, tc := some (frameClass b) }
  if kk < 4 ∨ 20 < kk ∨ (s.flag R.PMC_CTL_TAG_FILT_EN ∧ !pmcPass s (s.get R.PMC_CTL_TAG_FILT) ctx) then (none, s)
  else
    let r := s.fresh 32
    if r.1 % 2 ^ kk ≠ 0 then (none, r.2)
    else
      let t : TagRec := { tseq := s.pmc.tseq, port := k, len := b.length, cls := frameClass b + 8 * bit (decide (0 < frameTags b)), rx := rx }
      (some t, pmcCount 384 { r.2 with pmc := { r.2.pmc with tseq := (s.pmc.tseq + 1) % 65536 } })

/-- A stage reached by a tagged frame: its counter (18 R462), 0 the lane boundary to 7 the delivery to the host path. -/
def tagStage (n : Nat) (t : Option TagRec) (s : State) : State := if t.isSome then pmcCount (384 + n) s else s

/-- A tag entry (18 R467). -/
def tagBytes (t : TagRec) (outcome : Nat) : List Nat :=
  leBytes 2 t.tseq ++ [t.port, outcome] ++ leBytes 2 t.len ++ [t.cls, t.mal] ++ leBytes 8 t.rx ++ leBytes 2 t.acc ++ leBytes 2 t.queue
    ++ leBytes 2 t.parse ++ leBytes 2 t.build ++ leBytes 2 t.emit ++ leBytes 2 t.commit ++ leBytes 2 t.qlevel ++ [0, 0]

/-- The entry of a frame that leaves its last stage (18 R468). -/
def tagEnd (t : Option TagRec) (outcome : Nat) (s : State) : State :=
  match t with
  | none => s
  | some t =>
    let b := tagBytes t outcome
    let e := (List.range 8).map (fun w => BitVec.ofNat 32 (ofLe (sub b (4 * w) 4)))
    if s.pmc.tags.length < 256 then { s with pmc := { s.pmc with tags := s.pmc.tags ++ [e] } }
    else if s.flag R.PMC_CTL_TAG_MODE then { s with pmc := { s.pmc with tags := s.pmc.tags.tail ++ [e] } }
    else raiseEvt R.PMC_EVT_TAG_FULL 193 (s.addSat R.PMC_TAG_LOST_TAG_LOST 1)

/-! ## The host packet path, receiving (12 R318, R320) -/

/-- A frame to the host path (12 R300 step 9, R318), without the HOST_EN test. -/
def hostPush (f : RxFrame) (s : State) : State :=
  if hrxFree s < hrxUnits f ∨ unitDown s .hostPath then
    let s := s.addSat (R.MAC_PORT_HRX_DROP_HRX_DROP f.port) 1
    tagEnd f.tag 10 (raiseEvt R.MAC_EVT_HRX_DROP 134 (pmcAdd (112 + f.port) 1 { port := some f.port, tc := some (frameClass f.bytes) } s))
  else
    let m := s.mac
    let s := s.setMac { m with hrx := m.hrx ++ [{ f with seq := m.hrxSeq, tag := none }], hrxSeq := (m.hrxSeq + 1) % 65536 }
    tagEnd f.tag 8 (tagStage 7 f.tag (raiseEvt R.MAC_EVT_HRX_AVAIL 133 s))

/-- A frame that nothing claims, or that the Mallets pass on (CLASS 1), at step 9 of R300. -/
def toHost (cls : Nat) (f : RxFrame) (s : State) : State :=
  if tbit (s.get R.MAC_HOST_CTL_HOST_EN) f.port then hostPush { f with cls := cls } s
  else
    let s := s.addSat (R.MAC_PORT_RX_NOHOST_RX_NOHOST f.port) 1
    tagEnd f.tag 9 (pmcAdd (112 + f.port) 1 { port := some f.port, tc := some (frameClass f.bytes) } s)

/-- A read of HRX_DATA (12 R320). -/
def hrxRead (s : State) : Nat × State :=
  match s.mac.hrx.head? with
  | none => (0, s)
  | some f =>
    if domOn s (4 + f.port / 4) then (frameWord f.bytes s.mac.hrxPos, s.setMac { s.mac with hrxPos := min f.bytes.length (s.mac.hrxPos + 4) }) else (0, s)

/-- HRX_POP (12 R320). -/
def hrxPop (s : State) : State := s.setMac { s.mac with hrx := s.mac.hrx.tail, hrxPos := 0 }

/-! ## The address filter (12 R304 to R306) -/

/-- The exact entries (12 R305). -/
def exactAddrs : List (List Nat) :=
  [[0x01, 0x1B, 0x19, 0, 0, 0], [0x01, 0x80, 0xC2, 0, 0, 0x0E], [0x01, 0, 0x5E, 0, 0x01, 0x81], [0x01, 0, 0x5E, 0, 0, 0x6B],
    [0x33, 0x33, 0, 0, 0x01, 0x81], [0x33, 0x33, 0, 0, 0, 0x6B], [0x01, 0x80, 0xC2, 0, 0, 0x02], [0x01, 0, 0x5E, 0, 0x01, 0x01]]

/-- A port's ADDR as six bytes. -/
def portAddr (s : State) (k : Nat) : List Nat := beBytes 2 (s.get (R.MAC_PORT_ADDR_HI_ADDR k)) ++ beBytes 4 (s.get (R.MAC_PORT_ADDR_LO_ADDR k))

/-- A user entry as six bytes. -/
def userAddr (s : State) (k j : Nat) : List Nat :=
  beBytes 2 (s.get (R.MAC_PORT_USER_j_HI_USER_j k j)) ++ beBytes 4 (s.get (R.MAC_PORT_USER_j_LO_USER_j k j))

/-- The hash bin of an address (12 R306). -/
def hashBin (a : List Nat) : Nat := crc32 a % 512

/-- Is a destination address accepted (12 R304)? -/
def daOk (s : State) (k : Nat) (a : List Nat) : Bool :=
  let group := a.headD 0 % 2 == 1
  let h := hashBin a
  a == portAddr s k || a == List.replicate 6 0xFF || s.flag (R.MAC_PORT_CFG_PROMISC k)
    || (group && (exactAddrs.zipIdx.any (fun e => e.1 == a && tbit (s.get (R.MAC_PORT_CFG_EXACT_EN k)) e.2)
        || (List.range 4).any (fun j => tbit (s.get (R.MAC_PORT_CFG_USER_EN k)) j && userAddr s k j == a)
        || (s.flag (R.MAC_PORT_CFG_HASH_EN k) && tbit (rdWord s (0x0D1040 + 0x200 * k + 4 * (h / 32))) (h % 32))))

/-! ## Where a frame goes (12 R300 steps 6 to 8) -/

/-- An ESMC PDU (step 6)? -/
def isEsmc (b : List Nat) : Bool := etherType b == 0x8809 && b.getD (etAt b + 2) 0 == 0x0A

/-- An in-band management request (step 7, 20 R520)? -/
def isMgmt (s : State) (k : Nat) (b : List Nat) : Bool :=
  s.flag R.HST_MGMT_CFG_EN && tbit (s.get R.HST_MGMT_CFG_PORTS) k && etherType b == s.get R.HST_MGMT_ETYPE_MGMT_ETYPE
    && b.take 6 == portAddr s k

/-- A served entry's address: 4 or 16 bytes. -/
def servedIp (s : State) (a : Nat) : List Nat :=
  if a < 16 then leBytes 4 (s.get (R.TSV_ADDR_IP_W0_IP a))
  else (List.range 4).flatMap (fun w => leBytes 4 (rdWord s (0x0E2000 + 0x20 * a + 4 * w)))

/-- The VLAN of a frame: the tag nearest the EtherType. -/
def frameVid (b : List Nat) : Option Nat := if frameTags b = 0 then none else some (be16 b (etAt b - 2) % 4096)

/-- Does an entry serve an address on port k with the frame's VLAN (13 R326)? -/
def entryFits (s : State) (k a : Nat) (ip : List Nat) (b : List Nat) : Bool :=
  s.flag (R.TSV_ADDR_SVC_VALID a) && servedIp s a == ip && tbit (s.get (R.TSV_ADDR_PORTS_PORTS a)) k
    && (match frameVid b with
        | some v => s.flag (R.TSV_ADDR_VLAN_TAGGED a) && s.get (R.TSV_ADDR_VLAN_VID a) == v
        | none => !s.flag (R.TSV_ADDR_VLAN_TAGGED a))

/-- The entry that serves an address, with one of its service bits: 1 NTP, 2 NTS, 3 PTP, 4 ARP_ND. -/
def servedBy (s : State) (k : Nat) (ip b : List Nat) (svc : List Nat) : Option Nat :=
  (List.range 32).find? (fun a => entryFits s k a ip b && svc.any (fun n => tbit (rdWord s (0x0E2018 + 0x20 * a)) n))

/-- A frame's kind for the Mallets (13 R326): 1 PTP over 802.3, 2 PTP over UDP, 3 NTP or NTS, 4 ARP, 5 neighbour solicitation. -/
def malKind (s : State) (k : Nat) (b : List Nat) : Option Nat :=
  if etherType b = 0x88F7 then (if s.get (R.TSV_PORT_CFG_TRANSPORT k) = 0 then some 1 else none)
  else if etherType b = 0x0806 then
    if (servedBy s k (sub b (etAt b + 26) 4) b [4]).isSome then some 4 else none
  else match ipView b with
    | none => none
    | some v =>
      if !v.ok then none
      else if v.proto = 17 then
        let p := be16 b (v.off + 2)
        if p = 123 then (if (servedBy s k v.dst b [1, 2]).isSome then some 3 else none)
        else if p = 319 ∨ p = 320 then (if (servedBy s k v.dst b [3]).isSome then some 2 else none)
        else none
      else if v.v6 ∧ v.proto = 58 ∧ b.getD v.off 0 = 135 then
        if (servedBy s k (sub b (v.off + 8) 16) b [4]).isSome then some 5 else none
      else none

/-- A Mallet. -/
def State.mal (s : State) (m : Nat) : Mallet := tget {} s.tsv.mals m

/-- A Mallet set. -/
def State.setMal (s : State) (m : Nat) (v : Mallet) : State := { s with tsv := { s.tsv with mals := tset {} s.tsv.mals m v } }

/-- The PTP message of a frame: where its header stands. -/
def ptpAt (b : List Nat) : Nat :=
  if etherType b = 0x88F7 then etAt b + 2 else match ipView b with | some v => v.off + 8 | none => b.length

/-- A peer's address as a session holds it: IPv6, or IPv4 as ::FFFF:a.b.c.d (13 R351). -/
def ip16 (a : List Nat) : List Nat := if a.length = 4 then List.replicate 10 0 ++ [0xFF, 0xFF] ++ a else a

/-- The unicast session of a PTP frame (13 R329): by port, peer address and portIdentity. -/
def sessOf (s : State) (k : Nat) (b : List Nat) : Option Nat :=
  let pid := sub b (ptpAt b + 20) 10
  let ip := (ipView b).elim (List.replicate 16 0) (fun v => ip16 v.src)
  (s.tsv.sess.find? (fun e => e.2.role != 2 && e.2.port == k && e.2.ip == ip && (e.2.pid == pid || e.2.pid == List.replicate 10 0xFF))).map (·.1)

/-- The Mallet with the fewest queued frames. -/
def malFewest (s : State) : Nat := (List.range 8).foldl (fun b m => if (s.mal m).q.length < (s.mal b).q.length then m else b) 0

/-- The Mallet that a frame goes to (13 R329). -/
def malFor (s : State) (k kind : Nat) (b : List Nat) : Nat :=
  if kind ≤ 2 then (match sessOf s k b with | some n => n % 8 | none => k % 8) else malFewest s

/-- A counter of Mallet m: 0 RX, 1 TX, 2 QFULL, 3 CSUM, 4 MALFORMED, 5 RATED, 6 NTSN, 7 NTS_OK, 8 NTP_OK, 9 PTP_OK, 10 TO_HOST, 11 NOTSENT. -/
def malCnt (m n : Nat) (s : State) : State := s.addSat ((R.TSV_MAL_RX_RX m).word n) 1

/-- A frame dropped by Mallet m. -/
def malDrop (m : Nat) (f : RxFrame) (s : State) : State :=
  tagEnd (f.tag.map (fun t => { t with mal := m })) 7 (pmcAdd (176 + m) 1 { port := some f.port, tc := some (frameClass f.bytes) } s)

/-- A frame delivered to its Mallet (13 R329). -/
def malDispatch (k kind : Nat) (f : RxFrame) (s : State) : State :=
  let m := malFor s k kind f.bytes
  let s := pmcAdd (160 + m) 1 { port := some k, tc := some (frameClass f.bytes) } (malCnt m 0 s)
  if unitDown s (.mallet m) ∨ s.get (R.PWR_DOM_STATE 2) ≠ 0 then malDrop m f s
  else if 256 ≤ (s.mal m).q.length then malDrop m f (raiseEvt R.TSV_EVT_QFULL 187 (malCnt m 2 s))
  else if f.ip4 ∨ f.udp then malDrop m f (malCnt m 3 s)
  else
    let t := f.tag.map (fun t => { t with mal := m, queue := tagDelta s f.stamp, qlevel := (s.mal m).q.length })
    let s := tagStage 2 f.tag s
    s.setMal m { s.mal m with q := (s.mal m).q ++ [{ f := { f with tag := t } }] }

/-- An in-band request waits, or is dropped where four do (20 R521). -/
def mgmtPush (r : MgmtReq) (s : State) : State :=
  if 4 ≤ s.hst.reqs.length then s.addSat R.HST_MGMT_CNT_BUSY 1 else { s with hst := { s.hst with reqs := s.hst.reqs ++ [r] } }

/-- The Extended QL TLV of a PDU: eSSM, and flags with the cascaded counts. -/
def esmcExt (b : List Nat) : Option (Nat × List Nat) :=
  let o := etAt b + 16
  if b.getD o 0 = 2 ∧ be16 b (o + 1) = 0x14 then some (b.getD (o + 3) 0, sub b (o + 12) 3) else none

/-- An ESMC PDU received (step 6). -/
def esmcIn (k : Nat) (f : RxFrame) (s : State) : State :=
  let b := f.bytes
  let o := etAt b
  let ext := esmcExt b
  let ql := be16 b (o + 12) == 0x0100 && b.getD (o + 14) 0 == 4
  let s := s.setPort k { s.port k with casc := ext.map (·.2) }
  let s := if ql ∧ sub b (o + 3) 5 = [0x00, 0x19, 0xA7, 0x00, 0x01] then
      esmcRx k (b.getD (o + 15) 0 % 16) (ext.elim 0xFF (·.1)) (!tbit (b.getD (o + 8) 0) 3) s else s
  if tbit (s.get R.MAC_HOST_CTL_ESMC_COPY) k then hostPush { f with cls := 2 } s else tagEnd f.tag 5 s

/-! ## Receiving (12 R300) -/

/-- The limit that a frame met: that before the last write of MAX_LEN where its first byte arrived before it (12 R303). -/
def rxLimit (s : State) (k stamp : Nat) (inv : Bool) : Nat :=
  let p := s.port k
  if p.maxAt ≠ 0 ∧ !inv ∧ rawDiff (stamp / 4096 % 2 ^ 48) (p.maxAt % 2 ^ 48) < 0 then p.maxOld else s.get (R.MAC_PORT_CFG_MAX_LEN k)

/-- A frame dropped by the MAC. -/
def rxDrop (k : Nat) (b : List Nat) (cnt : Fld) (t : Option TagRec) (outcome : Nat) (s : State) : State :=
  tagEnd t outcome (pmcAdd (112 + k) 1 { port := some k, tc := some (frameClass b) } (s.addSat cnt 1))

/-- A received frame, with its FCS (12 R300). -/
def frameRx (k : Nat) (b : List Nat) (wf bf : Nat) (cut : Bool) (s : State) : State :=
  if lanePrl s k || unitDown s (.mac k) || !(laneActive s k || cut) then s
  else if b.length < 64 then rxDrop k b (R.MAC_PORT_RX_RUNT_RX_RUNT k) none 0 s
  else
    let st := rxStamp s k wf bf
    let r := tagDraw k b st.1 s
    let t := r.1
    let s := r.2
    if rxLimit s k st.1 st.2 + 4 * frameTags b < b.length then rxDrop k b (R.MAC_PORT_RX_OVERSIZE_RX_OVERSIZE k) t 1 s
    else if cut then rxDrop k b (R.MAC_PORT_RX_TRUNC_RX_TRUNC k) t 2 s
    else
      let body := b.take (b.length - 4)
      if ofLe (b.drop (b.length - 4)) ≠ crc32 body then rxDrop k b (R.MAC_PORT_RX_FCS_RX_FCS k) t 3 s
      else
        let s := pmcAdd (96 + k) 1 { port := some k, tc := some (frameClass b) } (s.addSat (R.MAC_PORT_RX_FRAMES_RX_FRAMES k) 1)
        let t := t.map (fun e => { e with acc := tagDelta s st.1 })
        let s := tagStage 1 t s
        if !daOk s k (b.take 6) then rxDrop k b (R.MAC_PORT_RX_DA_MISS_RX_DA_MISS k) t 4 s
        else
          let c := sumsBad body
          let f : RxFrame := { port := k, bytes := body, stamp := st.1, inv := st.2, ntags := frameTags b, ip4 := c.1, udp := c.2, tag := t }
          if isEsmc body then esmcIn k f s
          else if isMgmt s k body then
            tagEnd t 6 (mgmtPush { msg := body.drop (etAt body + 2), port := some k, mac := sub body 6 6, tags := sub body 12 (4 * frameTags body) } s)
          else match malKind s k body with
            | some kind => malDispatch k kind f s
            | none => toHost 0 f s

/-! ## The transmit timestamp queue (12 R313 to R317) -/

/-- A queue entry (12 R314). -/
def tsqEntry (tag kind inv notSent aborted src stamp : Nat) : Nat :=
  tag + 2 ^ 16 * kind + 2 ^ 17 * inv + 2 ^ 18 * notSent + 2 ^ 19 * aborted + 2 ^ 20 * src + 2 ^ 32 * stamp

/-- An entry put into the queue of port k, or lost (12 R315). -/
def tsqPush (k e : Nat) (s : State) : State :=
  let p := s.port k
  if p.tsq.length < 512 then s.setPort k { p with tsq := p.tsq ++ [e] }
  else
    let g := match p.gap with
      | none => (e % 65536, 1)
      | some g => (g.1, satW 16 (g.2 + 1))
    pmcAdd (144 + k) 1 { port := some k } ((s.setPort k { p with gap := some g }).addSat (R.MAC_PORT_TSQ_DROP_TSQ_DROP k) 1)

/-- An entry that waited for the read of its cycle enters the queue (12 R317). -/
def tsqLate (k : Nat) (s : State) : State :=
  match (s.port k).late with
  | none => s
  | some e => tsqPush k e (s.setPort k { s.port k with late := none })

/-- Is the command that follows a read of TSQ_W0 of port k in the same core cycle? -/
def tsqReadNext (k : Nat) (s : State) : Bool :=
  let a := 0x0D10A4 + 0x200 * k
  match s.pending.head? with
  | some (.tsqRead _ m) => m.val == k
  | some (.spiRead b n _ dt) | some (.spiQread b n _ dt) =>
    b.toNat % 4 == 0 && decide (b.toNat ≤ a) && decide (a < b.toNat + 4 * n) && decide (s.gen.edgeNow + dt ≤ s.now)
  | some (.i2cRead d b n _ dt) =>
    d.toNat == i2cAddr s && b.toNat % 4 == 0 && decide (b.toNat ≤ a) && decide (a < b.toNat + 4 * n) && decide (s.gen.edgeNow + dt ≤ s.now)
  | _ => false

/-- A stamp reaches the queue: one that finds it full in the cycle of a read comes after the read (12 R317). -/
def tsqArrive (k e : Nat) (s : State) : State :=
  let s := tsqLate k s
  if 512 ≤ (s.port k).tsq.length && tsqReadNext k s then s.setPort k { s.port k with late := some e } else tsqPush k e s

/-- The head removed; the slot takes the pending gap marker (12 R315). -/
def tsqHead (k : Nat) (s : State) : State :=
  let p := s.port k
  match p.tsq, p.gap with
  | [], _ => s
  | _ :: t, none => s.setPort k { p with tsq := t }
  | _ :: t, some g =>
    let m := tsqEntry g.1 1 0 0 0 0 g.2
    raiseEvt (R.MAC_EVT_TSQ_GAP.bitAt k) (117 + k)
      (s.setPort k { p with tsq := t ++ [m], gap := none, gaps := (p.gaps ++ [g]).drop (p.gaps.length + 1 - 16) })

/-- The head removed, and what waited for it. -/
def tsqPop (k : Nat) (s : State) : State := tsqLate k (tsqHead k s)

/-- A read of TSQ_W0 of port k by reader r (12 R317, 19 R474). -/
def tsqRead (r k : Nat) (s : State) : Nat × State :=
  if (s.port k).tsq.isEmpty ∨ !domOn s (4 + k / 4) then
    let a := 0x0D10A4 + 0x200 * k
    let z : Option Word := some 0
    let caps := tset none (tset none s.caps (a + 4 + (r + 1) * 2 ^ 24) z) (a + 8 + (r + 1) * 2 ^ 24) z
    (0, { s with caps := caps }.put (R.MAC_PORT_TSQ_STAT_UNDERRUN k) 1)
  else
    let v := readAs r (0x0D10A4 + 0x200 * k) s
    (v.1, tsqPop k v.2)

/-- Is a tag in a run of lost tags? -/
def inRun (g : Nat × Nat) (tag : Nat) : Bool := decide ((tag + 65536 - g.1 % 65536) % 65536 < g.2)

/-- Is the Follow_Up of a tag suppressed (12 R316)? -/
def fuLost (s : State) (k tag : Nat) : Bool :=
  let p := s.port k
  (p.gap.elim false (inRun · tag)) || p.gaps.any (inRun · tag)

/-- The next TAG of a port (12 R313). -/
def tagNext (k : Nat) (s : State) : Nat × State :=
  let p := s.port k
  (p.tagNext, s.setPort k { p with tagNext := (p.tagNext + 1) % 65536 })

/-! ## Sending (12 R303, R308, R309, R312, R321) -/

/-- The one-step fields of a message written from a stamp's ETIME (13 R335). -/
def stampPtp (b : List Nat) (o : Nat) (t : Int) : List Nat :=
  let b := putBytes b (o + 34) (beBytes 6 (etSec t) ++ beBytes 4 (etNs t))
  let cf := toInt 64 (ofBe (sub b (o + 8) 8)) + etFrac t
  putBytes b (o + 8) (beBytes 8 (ofInt 64 cf))

/-- Does a one-step frame need the trailer, and does it lack it (12 R309)? -/
def trailer (s : State) (k : Nat) (b : List Nat) (o : Nat) : Bool × Bool :=
  match ipView b with
  | some v =>
    let need := v.v6 || !s.flag (R.MAC_PORT_CFG_V4_ZERO k)
    (need, need && be16 b (v.off + 4) != be16 b (o + 2) + 10)
  | none => (false, false)

/-- The trailer set so that the checksum written before the one-step fields stays valid (12 R309). -/
def trailFix (old new : List Nat) (o : Nat) : List Nat :=
  match ipView new with
  | none => new
  | some v =>
    let t := o + be16 new (o + 2)
    let z := putBytes new t [0, 0]
    let d := (sum16 (sub old v.off v.len) % 65535 + 65535 - sum16 (sub z v.off v.len) % 65535) % 65535
    if (t - v.off) % 2 = 0 then putBytes z t (beBytes 2 d) else putBytes z t (leBytes 2 d)

/-- A frame as it leaves, without FCS; NOTRAILER. -/
def txBuild (s : State) (k : Nat) (f : TxFrame) (t : Int) : List Nat × Bool :=
  let b := if f.ip then ipFix f.bytes else f.bytes
  let v4 := (ipView b).elim false (fun v => !v.v6)
  let b := if f.os.isSome && v4 && s.flag (R.MAC_PORT_CFG_V4_ZERO k) then putBytes b ((ipView b).elim 0 (·.off + 6)) [0, 0]
    else if f.udp then udpFix b else b
  match f.os with
  | none => (b, false)
  | some o =>
    let tr := trailer s k b o
    if tr.2 then (b, true)
    else
      let n := stampPtp b o t
      (if tr.1 then trailFix b n o else n, false)

/-- The next frame of a port (12 R321), and the rest. -/
def txNext (l : List TxFrame) : Option (TxFrame × List TxFrame) :=
  let take := fun (src : Nat) => (l.findIdx? (fun f => f.src == src)).bind (fun i => (l[i]?).map (fun f => (f, l.eraseIdx i)))
  match take 1 with
  | some x => some x
  | none => match take 2 with
    | some x => some x
    | none => match take 3 with
      | some x => some x
      | none => take 0

/-- A frame dropped before commit, because its lane is not ACTIVE (12 R314, R319; 13 R358). -/
def txDown (k : Nat) (f : TxFrame) (s : State) : State :=
  let s := if f.src = 0 then s.addSat (R.MAC_PORT_TX_DOWN_TX_DOWN k) 1 else s
  let s := if f.src = 1 then malCnt f.mal 11 s else s
  let s := match f.tsTag with
    | some t => tsqArrive k (tsqEntry t 0 0 1 0 f.src 0) s
    | none => s
  let s := match f.sess with
    | some n => { s with tsv := { s.tsv with sess := tset {} s.tsv.sess n { tget {} s.tsv.sess n with t3 := none } } }
    | none => s
  tagEnd f.tag 7 s

/-- Does the lane still carry a frame submitted on it: ACTIVE in Ethernet mode, and since before the submission? -/
def txUp (s : State) (k : Nat) (f : TxFrame) : Bool := laneActive s k && !lanePrl s k && decide ((s.lane k).timer ≤ f.at')

/-- The next frame of port k is committed to word wf, bit bf; a Mallet's frame to its reserved word (12 R312). cut: the lane leaves ACTIVE
during the frame. -/
def frameCommit (k wf bf : Nat) (cut : Bool) (s : State) : State :=
  match txNext (s.port k).tx with
  | none => s
  | some (f, rest) =>
    let s := s.setPort k { s.port k with tx := rest }
    if !txUp s k f then txDown k f s
    else
      let st := f.stamp.getD (txStamp s k wf bf)
      let t := txBuild s k f (etOf (etTotal s.etm st.1))
      let b := t.1
      let pad := b ++ List.replicate (60 - b.length) 0
      let line := pad ++ leBytes 4 (crc32 pad)
      let s := if b.length < 60 then s.addSat (R.MAC_PORT_TX_PAD_TX_PAD k) 1 else s
      let s := if t.2 then s.addSat (R.MAC_PORT_TX_NOTRAILER_TX_NOTRAILER k) 1 else s
      let s := pmcAdd (128 + k) 1 { port := some k, tc := some (frameClass line) } (s.addSat (R.MAC_PORT_TX_FRAMES_TX_FRAMES k) 1)
      let p := s.port k
      let busy := if f.stamp.isSome then p.busy else max p.busy (nowF s) + lineTime s k line.length
      let s := s.setPort k { p with sent := some (line, st.1), busy := busy }
      let s := match f.tsTag with
        | some t => tsqArrive k (tsqEntry t 0 (bit st.2) 0 (bit cut) f.src st.1) s
        | none => s
      let e := f.tag.map (fun e => { e with commit := tagDelta s e.rx })
      tagEnd e 0 (tagStage 6 e s)

/-! ## The host packet path, sending (12 R319) -/

/-- A submission rejected. -/
def htxReject (why : Nat) (s : State) : State :=
  raiseEvt R.MAC_EVT_HTX_REJECT 134 ((s.put R.MAC_HTX_STAT_REJECT 1).put R.MAC_HTX_STAT_REJ_WHY why)

/-- HTX_CMD.SUBMIT (12 R303, R313, R316, R319). -/
def htxSubmit (s : State) : State :=
  let k := s.get R.MAC_HTX_DESC_W0_PORT
  let len := s.get R.MAC_HTX_DESC_W0_LEN
  let w := s.mac.htx
  let b := w.take len
  let s := s.setMac { s.mac with htx := [] }
  if w.length ≠ (len + 3) / 4 * 4 then htxReject 2 s
  else if s.get (R.MAC_PORT_CFG_MAX_LEN k) + 4 * frameTags b < len + 4 then htxReject 1 s
  else if lanePrl s k then htxReject 3 s
  else if htxFree s < htxUnits len then htxReject 4 s
  else if s.flag R.MAC_HTX_DESC_W0_FU && fuLost s k (s.get R.MAC_HTX_DESC_W1_FU_TAG) then s.addSat (R.MAC_PORT_FU_SUPP_FU_SUPP k) 1
  else
    let r := if s.flag R.MAC_HTX_DESC_W0_TS_REQ then
        let r := tagNext k s
        (some r.1, r.2.put R.MAC_HTX_TAG_TAG r.1)
      else (none, s)
    let os := if s.flag R.MAC_HTX_DESC_W0_ONESTEP then some (s.get R.MAC_HTX_DESC_W1_OS_OFS) else none
    let f : TxFrame := { src := 0, bytes := b, tsTag := r.1, ip := s.flag R.MAC_HTX_DESC_W0_CSUM_IP, udp := s.flag R.MAC_HTX_DESC_W0_CSUM_UDP,
                         os := os, at' := s.now }
    let s := r.2
    if laneActive s k then s.setPort k { s.port k with tx := (s.port k).tx ++ [f] } else txDown k f s

/-! ## ESMC transmission (12 R322, R323) -/

/-- The channel that decides a port's clock: FINE_TCH of its quad's APLL (12 R323). -/
def decideTch (s : State) (k : Nat) : Option Nat :=
  let t := s.get (R.LAN_QUAD_CFG_TXREF (k / 4))
  let f := s.get (R.APL_APLL_CTL_FINE_TCH (t - 1))
  if t = 0 ∨ 7 < f then none else some f

/-- The reference that a channel follows, in ACQUIRE or LOCKED. -/
def chFollows (s : State) (c : Nat) : Option Nat :=
  let st := s.get (R.TCH_CH_STAT_STATE c)
  if st = 2 ∨ st = 3 then some (s.get (R.TCH_CH_STAT_REF c)) else none

/-- Is a reference carried by lane k? -/
def laneBorne (s : State) (m k : Nat) : Bool := decide (16 ≤ m) && decide (3 ≤ s.get (R.RMON_MON_SRC_VTYPE m)) && convOf s m == 24 + k

/-- The codes that port k sends (12 R323): the rule, SSM, eSSM, and the flags and cascaded counts where the spec states them. -/
def esmcCodes (s : State) (k : Nat) : Nat × Nat × Nat × Option (List Nat) :=
  if !s.flag (R.MAC_PORT_ESMC_CFG_QL_SRC k) then
    (0, s.get (R.MAC_PORT_ESMC_CFG_SSM_TX k), s.get (R.MAC_PORT_ESMC_CFG_ESSM_TX k), none)
  else
    let d := decideTch s k
    let m := d.bind (chFollows s)
    if s.flag (R.MAC_PORT_ESMC_CFG_DNU_EN k) && m.elim false (laneBorne s · k) then (1, 0xF, 0xFF, none)
    else if s.get (R.LAN_QUAD_STAT_TXREF_ACT (k / 4)) = 0 ∨ d.isNone then
      (2, s.get (R.MAC_PORT_ESMC_OSC_SSM k), s.get (R.MAC_PORT_ESMC_OSC_ESSM k), none)
    else match m with
      | some m =>
        if 16 ≤ m ∧ s.get (R.RMON_MON_SRC_VTYPE m) = 3 ∧ s.flag (R.RMON_MON_CFG_QL_EN m) then
          let c := (s.port (s.get (R.RMON_MON_SRC_VIDX m))).casc
          (3, (s.mon m).ssm, (s.mon m).essm, c.map (fun l => [l.getD 0 0, satW 8 (l.getD 1 0 + 1), l.getD 2 0]))
        else (4, s.get (R.MAC_PORT_ESMC_HO_SSM k), s.get (R.MAC_PORT_ESMC_HO_ESSM k), none)
      | none => (4, s.get (R.MAC_PORT_ESMC_HO_SSM k), s.get (R.MAC_PORT_ESMC_HO_ESSM k), none)

/-- The clock identity (19 R494). -/
def clockId (s : State) : List Nat := beBytes 4 (s.get R.GEN_CLKID_HI_CLKID) ++ beBytes 4 (s.get R.GEN_CLKID_LO_CLKID)

/-- Have the codes changed since the last PDU? -/
def esmcChanged (s : State) (k : Nat) : Bool :=
  let c := esmcCodes s k
  c.2.1 != s.get (R.MAC_PORT_ESMC_STAT_SSM_SENT k) || c.2.2.1 != s.get (R.MAC_PORT_ESMC_STAT_ESSM_SENT k)

/-- A PDU of port k put into its transmit list (12 R322): at most 10 in a second. -/
def esmcSend (k : Nat) (event : Bool) (s : State) : State :=
  let recent := (s.port k).pdus.filter (fun n => decide (s.now < n + 250000000))
  if 10 ≤ recent.length ∨ !laneActive s k ∨ lanePrl s k ∨ unitDown s (.mac k) then s
  else
    let c := esmcCodes s k
    let r := match c.2.2.2 with
      | some l => (l, s)
      | none => freshBytes 3 s
    let s := r.2
    let ext := if s.flag (R.MAC_PORT_ESMC_CFG_EXT k) then [2, 0, 0x14, c.2.2.1] ++ clockId s ++ r.1 ++ List.replicate 5 0 else []
    let b := [0x01, 0x80, 0xC2, 0, 0, 2] ++ portAddr s k ++ [0x88, 0x09, 0x0A, 0x00, 0x19, 0xA7, 0x00, 0x01, 0x10 + 8 * bit event, 0, 0, 0, 1, 0, 4, c.2.1] ++ ext
    let b := b ++ List.replicate (60 - b.length) 0
    let s := ((s.put (R.MAC_PORT_ESMC_STAT_SSM_SENT k) c.2.1).put (R.MAC_PORT_ESMC_STAT_ESSM_SENT k) c.2.2.1).putB (R.MAC_PORT_ESMC_STAT_DNU_ACT k) (c.1 == 1)
    let p := s.port k
    s.setPort k { p with tx := p.tx ++ [{ src := 2, bytes := b, at' := s.now }], infoAt := some s.now, pdus := recent ++ [s.now] }

/-- The one-second timer of port k has expired. -/
def esmcDue (s : State) (k : Nat) : Bool := (s.port k).infoAt.elim true (fun n => decide (n + 250000000 ≤ s.now))

/-- MAX_LEN of port k has been written (12 R303). -/
def macCfgApplied (k old : Nat) (s : State) : State := s.setPort k { s.port k with maxAt := s.now, maxOld := old % 2 ^ 14 }

/-! ## The commands -/

/-- FRAME_RX (12 R300): the bytes of a frame with its FCS on port k, its timestamp point at bit bf of word wf; cut: the lane left ACTIVE before the last byte. -/
def execFrameRx (k : Fin 16) (b : List Byte) (wf : BitVec 48) (bf : Nat) (cut : Bool) (dt : Nat) (s : State) : Host.Outcome State Fault Refusal :=
  live s (frameRx k (b.map (·.toNat)) wf.toNat bf cut (s.tick dt))

/-- HTX_DATA_WRITE (12 R319); what exceeds the buffer is lost. -/
def execHtxDataWrite (v : BitVec 32) (s : State) : Host.Outcome State Fault Refusal :=
  live s (if s.mac.htx.length < 32768 then s.setMac { s.mac with htx := s.mac.htx ++ leBytes 4 v.toNat } else s)

/-- SUBMIT (12 R319). -/
def execHtxSubmit (s : State) : Host.Outcome State Fault Refusal := live s (htxSubmit s)

/-- ABANDON (12 R319). -/
def execHtxAbandon (s : State) : Host.Outcome State Fault Refusal := live s (s.setMac { s.mac with htx := [] })

/-- FRAME_COMMIT (12 R312) on port k; wf, bf as the PCS gives them, for a frame that holds no reservation. -/
def execFrameCommit (k : Fin 16) (wf : BitVec 48) (bf : Nat) (cut : Bool) (dt : Nat) (s : State) : Host.Outcome State Fault Refusal :=
  live s (frameCommit k wf.toNat bf cut (s.tick dt))

/-- TSQ_READ (12 R317). -/
def execTsqRead (j : Iface) (k : Fin 16) (s : State) : Host.Outcome State Fault Refusal := live s (tsqRead j.num k s).2

/-- HRX_DATA_READ (12 R320). -/
def execHrxDataRead (s : State) : Host.Outcome State Fault Refusal := live s (hrxRead s).2

/-- HRX_POP (12 R320). -/
def execHrxPop (s : State) : Host.Outcome State Fault Refusal := live s (hrxPop s)

/-- ESMC_INFO_TX (12 R322): where the second is over; with a change of codes it is an Event PDU (R324). -/
def execEsmcInfoTx (k : Fin 16) (dt : Nat) (s : State) : Host.Outcome State Fault Refusal :=
  live s (
    let s := s.tick dt
    if s.flag (R.MAC_PORT_ESMC_CFG_ESMC_EN k) && esmcDue s k then esmcSend k (esmcChanged s k) s else s)

/-- ESMC_EVENT_TX (12 R322): where the codes differ from those last sent. -/
def execEsmcEventTx (k : Fin 16) (dt : Nat) (s : State) : Host.Outcome State Fault Refusal :=
  live s (
    let s := s.tick dt
    if s.flag (R.MAC_PORT_ESMC_CFG_ESMC_EN k) && esmcChanged s k then esmcSend k true s else s)

end Sys2Proof.Machine
end

