-- ==== Sys2Proof/Machine/Tsv.lean ====
section
/-! DEFINITION. TSV (13): the unsynchronised state, times in messages, the Mallets' answers to NTP, NTS, ARP and neighbour discovery. -/

namespace Sys2Proof.Machine

/-- TSV set. -/
def State.setTsv (s : State) (t : TsvSt) : State := { s with tsv := t }

/-! ## Unsynchronised (13 R336) -/

/-- The causes of R336, from the values published at the last edge. -/
def unsyncWhy (s : State) : Nat :=
  let b := bndOf s 0
  let m := s.get R.TSV_SYNC_MAX_SYNC_MAX
  bitsOf [b.2.2, s.get R.ETM_STAT_RE_STATE != 0, !s.flag (R.TCH_CH_STAT_STEP_ERA 0), m != 0 && decide (m * 65536 < max b.1 b.2.1)]

/-- Is a re-epoch in progress? -/
def reEpochs (s : State) : Bool := s.get R.ETM_STAT_RE_STATE != 0

/-- STAT.UNSYNC and its causes (13 R336). -/
def tsvUnsync (s : State) : State :=
  let w := unsyncWhy s
  let u := decide (w ≠ 0)
  let was := s.flag R.TSV_STAT_UNSYNC
  let s := (s.putB R.TSV_STAT_UNSYNC u).put R.TSV_STAT_UNSYNC_WHY w
  if u = was then s else raiseEvt R.TSV_EVT_UNSYNC_CHG 187 s

/-- TSV at a Stroke edge, after the stages have published: R336; the Reference Timestamp of R339; the slots no longer EXPIRED. -/
def tsvEdge (s : State) : State :=
  let t := s.tsv
  let at' := if s.get (R.BND_SET_STAT_BASIS 0) = 1 then some s.etimeNow else t.refAt
  tsvUnsync (s.setTsv { t with refAt := at', expired := t.expired.filter (fun j => ntsState s j == 3) })

/-- A new era of engine time: no edge of it was in TRACK yet (13 R339). -/
def tsvNewEra (s : State) : State := s.setTsv { s.tsv with refAt := none }

/-! ## Time in messages (13 R334, R335, R337) -/

/-- The ETIME of a stamp, in 2^-16 ns (13 R334). -/
def stampTime (s : State) (rawf : Nat) : Int := etOf (etTotal s.etm rawf)

/-- NTP64 (13 R335). -/
def ntp64 (s : State) (t : Int) : List Nat :=
  let sec := ofInt 32 ((etSec t : Int) - utcOffsetAt s.etm (etSec t) + 2208988800)
  beBytes 4 sec ++ beBytes 4 ((etNs t * 65536 + etFrac t) * 2 ^ 32 / (1000000000 * 65536))

/-- PTP80 (13 R335). -/
def ptp80 (t : Int) : List Nat := beBytes 6 (etSec t) ++ beBytes 4 (etNs t)

/-- The leap announced at an instant (13 R337): 0 none, 1, 2. -/
def leapAt (s : State) (t : Int) : Nat :=
  let u := s.etm.utcCur
  if u.leap ≠ 0 ∧ u.leapTai ≤ etSec t + 86400 ∧ etSec t < u.leapTai then u.leap else 0

/-! ## Frames (13 R328) -/

/-- An Ethernet frame. tags: the bytes between source and EtherType. -/
def ethFrame (dst src tags : List Nat) (et : Nat) (body : List Nat) : List Nat := dst ++ src ++ tags ++ beBytes 2 et ++ body

/-- An IP packet (13 R328): identification 0, DF = 1, no checksum yet. -/
def ipPacket (s : State) (v6 : Bool) (dscp : Nat) (src dst : List Nat) (proto : Nat) (body : List Nat) : List Nat :=
  let hop := s.get R.TSV_NTP_CFG_HOPLIM
  if v6 then [0x60 + dscp / 4, dscp % 4 * 64, 0, 0] ++ beBytes 2 body.length ++ [proto, hop] ++ src ++ dst ++ body
  else [0x45, dscp * 4] ++ beBytes 2 (20 + body.length) ++ [0, 0, 0x40, 0, hop, proto, 0, 0] ++ src ++ dst ++ body

/-- A UDP datagram without its checksum. -/
def udpGram (sp dp : Nat) (body : List Nat) : List Nat := beBytes 2 sp ++ beBytes 2 dp ++ beBytes 2 (8 + body.length) ++ [0, 0] ++ body

/-- The IP version's EtherType. -/
def ipType (v6 : Bool) : Nat := if v6 then 0x86DD else 0x0800

/-- The UDP payload of a frame. -/
def udpBody (b : List Nat) : List Nat :=
  match ipView b with
  | none => []
  | some v => sub b (v.off + 8) (min (be16 b (v.off + 4)) v.len - 8)

/-- The answer to a UDP request, everything exchanged (13 R328). -/
def replyUdp (s : State) (f : RxFrame) (body : List Nat) : List Nat :=
  let b := f.bytes
  match ipView b with
  | none => []
  | some v =>
    let e := (servedBy s f.port v.dst b [1, 2, 3]).getD 32
    let dscp := if e < 32 then s.get (R.TSV_ADDR_SVC_DSCP e) else 0
    let tags := sub b 12 (4 * frameTags b)
    let g := udpGram (be16 b (v.off + 2)) (be16 b v.off) body
    ethFrame (sub b 6 6) (b.take 6) tags (ipType v.v6) (ipPacket s v.v6 dscp v.dst v.src 17 g)

/-! ## The pipeline (13 R330, R332) -/

/-- The head of Mallet m's queue leaves. -/
def malPop (m : Nat) (s : State) : State := s.setMal m { s.mal m with q := (s.mal m).q.tail }

/-- The head waits for the next edge (13 R332). -/
def malWait (m : Nat) (mf : MalFrame) (s : State) : State :=
  s.setMal m { s.mal m with q := { mf with wait := some s.strokes } :: (s.mal m).q.tail }

/-- The head passed to the host path with CLASS 1 (12 R300). -/
def malToHost (m : Nat) (f : RxFrame) (s : State) : State := toHost 1 f (malCnt m 10 (malPop m s))

/-- The head dropped; cnt: the counter of the reason, if it has one. -/
def malReject (m : Nat) (cnt : Option Nat) (f : RxFrame) (s : State) : State :=
  let s := malPop m s
  malDrop m f (match cnt with | some n => malCnt m n s | none => s)

/-- A frame's length on the line, of n bytes without FCS. -/
def lineLen (n : Nat) : Nat := max 60 n + 4

/-- EMIT: a Mallet's frame handed to its port at its reservation (12 R312, 13 R332). r: the reserved stamp with INV, and the end. -/
def malEmit (m k : Nat) (r : (Nat × Bool) × Nat) (f : TxFrame) (s : State) : State :=
  let t := f.tag.map (fun x =>
    let d := tagDelta s x.rx
    { x with parse := d, build := d, emit := d })
  let s := tagStage 5 t (tagStage 4 t (tagStage 3 t s))
  let p := s.port k
  let f : TxFrame := { f with src := 1, mal := m, stamp := some r.1, at' := s.now, tag := t }
  pmcAdd (168 + m) 1 { port := some k, tc := some (frameClass f.bytes) } (malCnt m 1 (s.setPort k { p with tx := p.tx ++ [f], busy := r.2 }))

/-! ## The rate limit (13 R333) -/

/-- A token taken from the bucket of an address: whether there was one. -/
def rateTake (ip : List Nat) (s : State) : Bool × State :=
  if !s.flag R.TSV_CTL_RATE_EN then (true, s)
  else
    let b := (Config.rateBucket (toBytes ip)).toNat
    let full := s.get R.TSV_RATE_CFG_BURST * 250000000
    let lvl := match tget none s.tsv.buckets b with
      | none => full
      | some (l, at') => min full (l + (s.now - at') * s.get R.TSV_RATE_CFG_RATE_PPS)
    let ok := decide (250000000 ≤ lvl)
    (ok, s.setTsv { s.tsv with buckets := tset none s.tsv.buckets b (some (if ok then lvl - 250000000 else lvl, s.now)) })

/-! ## NTP (13 R338, R339) -/

/-- The extension fields of a message, each with its type and body, and the bytes left. -/
def extFields : Nat → List Nat → List (Nat × List Nat) × List Nat
  | 0, b => ([], b)
  | fuel + 1, b =>
    let l := be16 b 2
    if b.length = 20 ∨ b.length = 24 ∨ b.length < 4 ∨ l < 4 ∨ b.length < l then ([], b)
    else
      let r := extFields fuel (b.drop l)
      ((be16 b 0, sub b 4 (l - 4)) :: r.1, r.2)

/-- The extension fields of an NTP message. -/
def ntpExts (p : List Nat) : List (Nat × List Nat) × List Nat := extFields 64 (p.drop 48)

/-- Is an NTP request an NTS request (13 R341)? -/
def isNts (p : List Nat) : Bool :=
  ((ntpExts p).1.takeWhile (fun e => e.1 != 0x0404)).any (fun e => e.1 == 0x0104 || e.1 == 0x0204)

/-- The Reference ID of set 0's trace (13 R339). -/
def refId (s : State) : List Nat :=
  let o := s.get R.TSV_NTP_REFID_REFID_OVR
  if o ≠ 0 then beBytes 4 o
  else match s.getE (R.BND_SET_TRACE_KIND 0) with
    | 1 => ascii "GNSS"
    | 2 => ascii "PPS" ++ [0]
    | 3 => ascii "PTP" ++ [0]
    | 4 => ascii "PRR" ++ [0]
    | _ => [0, 0, 0, 0]

/-- The header of an NTP answer (13 R339). unsync: as R336, or a stamp INV. -/
def ntpHeader (s : State) (p : List Nat) (unsync : Bool) (t2 t3 : Int) : List Nat :=
  let vn := p.headD 0 / 8 % 8
  let li := if unsync then 3 else leapAt s t3
  let strat := if unsync then 16 else s.get R.TSV_NTP_CFG_STRATUM
  let root := if unsync then beBytes 4 0 ++ beBytes 4 0x100000 else beBytes 4 (satW 32 (rootDelay s)) ++ beBytes 4 (satW 32 (rootDispersion s))
  let ref := if unsync then List.replicate 8 0 else s.tsv.refAt.elim (List.replicate 8 0) (ntp64 s)
  [li * 64 + vn * 8 + 4, strat, p.getD 2 0, s.get R.TSV_NTP_CFG_PREC] ++ root ++ (if unsync then [0, 0, 0, 0] else refId s)
    ++ ref ++ sub p 40 8 ++ ntp64 s t2 ++ ntp64 s t3

/-- The header of a kiss or an NTSN (13 R333, R344): no timestamp but the Origin Timestamp. -/
def ntpKiss (s : State) (p : List Nat) (code : List Nat) : List Nat :=
  [3 * 64 + p.headD 0 / 8 % 8 * 8 + 4, 0, p.getD 2 0, s.get R.TSV_NTP_CFG_PREC] ++ List.replicate 8 0 ++ code ++ List.replicate 8 0 ++ sub p 40 8
    ++ List.replicate 16 0

/-- What PARSE finds of an NTP frame (13 R338): 0 a plain request, 1 an NTS request, 2 for the host path, 3 malformed. -/
def ntpParse (p : List Nat) : Nat :=
  let v := p.headD 0 / 8 % 8
  let mode := p.headD 0 % 8
  let left := (ntpExts p).2.length
  if p.length < 48 ∨ v = 0 ∨ 4 < v then 3
  else if mode ≠ 3 then 2
  else if isNts p then 1
  else if left = 20 ∨ left = 24 then 2
  else 0

/-- BUILD and EMIT of a plain NTP answer, or of a KoD RATE. -/
def ntpBuild (m bf : Nat) (mf : MalFrame) (s : State) : State :=
  let f := mf.f
  let p := udpBody f.bytes
  let n := (replyUdp s f (List.replicate 48 0)).length
  match reserve s f.port bf (lineLen n) with
  | none => malWait m mf s
  | some r =>
    let uns := decide (unsyncWhy s ≠ 0) || f.inv || r.1.2
    let h := if mf.kod then ntpKiss s p (ascii "RATE") else ntpHeader s p uns (stampTime s f.stamp) (stampTime s r.1.1)
    let s := if mf.kod then s else malCnt m 8 s
    malEmit m f.port r { src := 1, bytes := replyUdp s f h, ip := true, udp := true, tag := f.tag } (malPop m s)

/-- The stages of a plain NTP request (13 R338, R333). -/
def ntpRequest (m bf : Nat) (mf : MalFrame) (s : State) : State :=
  let f := mf.f
  let b := f.bytes
  let p := udpBody b
  if mf.wait.isSome then ntpBuild m bf mf s
  else
    let k := ntpParse p
    let ip := (ipView b).elim [] (·.src)
    let dst := (ipView b).elim [] (·.dst)
    if k = 3 then malReject m (some 4) f s
    else if k = 2 ∨ !s.flag R.TSV_CTL_NTP_EN ∨ (servedBy s f.port dst b [1]).isNone then malToHost m f s
    else
      let r := rateTake ip s
      if r.1 then ntpBuild m bf mf r.2
      else
        let s := pmcAdd (184 + m) 1 { port := some f.port, tc := some (frameClass b) } (malCnt m 5 r.2)
        if s.flag R.TSV_CTL_RATE_KOD then ntpBuild m bf { mf with kod := true } s else malReject m none f s

/-! ## NTS (13 R340 to R345) -/

/-- An NTS request in the form of R341: the Unique Identifier's body, the cookie's body, the placeholders' body lengths, the authenticator's nonce and
ciphertext, and the bytes before the authenticator. -/
def ntsForm (p : List Nat) : Option (List Nat × List Nat × List Nat × List Nat × List Nat × List Nat) :=
  let l := (ntpExts p).1
  let pre := l.takeWhile (fun e => e.1 != 0x0404)
  let uid := pre.filter (fun e => e.1 == 0x0104)
  let ck := pre.filter (fun e => e.1 == 0x0204)
  let ph := pre.filter (fun e => e.1 == 0x0304)
  match l[pre.length]?, uid, ck with
  | some a, [u], [c] =>
    let nl := be16 a.2 0
    let cl := be16 a.2 2
    let pad := (nl + 3) / 4 * 4
    if pre.length = 2 + ph.length ∧ 32 ≤ u.2.length ∧ u.2.length ≤ 64 ∧ 16 ≤ nl ∧ nl ≤ 64 ∧ 4 + pad + cl ≤ a.2.length then
      some (u.2, c.2, ph.map (·.2.length), sub a.2 4 nl, sub a.2 (4 + pad) cl, p.take (48 + pre.foldl (fun n e => n + 4 + e.2.length) 0))
    else none
  | _, _, _ => none

/-- A result of an opaque function cut or padded to n bytes. -/
def toLen (n : Nat) (l : List Byte) : List Nat := (l.map BitVec.toNat ++ List.replicate n 0).take n

/-- The opening of a cookie under slot j (13 R343): the keys C2S and S2C. -/
def cookieOpen (s : State) (k : Nat) (c : List Nat) : Option (List Nat) :=
  let key := toBytes (keyBytes (s.slot k).key)
  let ad := [toBytes (c.take 4), toBytes (sub c 4 16)]
  let x := toBytes (c.drop 20)
  if Config.aesSivOpens key ad x then
    let p := toLen 68 (Config.aesSivOpen key ad x)
    if be16 p 0 = 15 ∧ be16 p 2 = 0 then some (p.drop 4) else none
  else none

/-- AUTH of an NTS request (13 R343): the keys of its cookie, or none; and the state, with the uses taken. wait: a floor commit is due. -/
def ntsAuth (c nonce ct ad : List Nat) (s : State) : Option (List Nat) × Bool × State :=
  let slot := (List.range 8).find? (fun j => s.get (R.TSV_NTS_KEY_KEY_ID_KEY_ID j) == ofBe (c.take 4) && (ntsState s j == 1 || ntsState s j == 2))
  match slot.bind (ntsMk s) with
  | none => (none, false, s)
  | some k =>
    let g := keyGate s k 1 1
    if c.length ≠ 104 ∨ g = 1 then (none, false, s)
    else if g = 2 then (none, true, floorAsk k s)
    else
      let s := keyCnt 0 (keyTake k 1 s)
      match cookieOpen s k c with
      | none => (none, false, pmcCount 195 s)
      | some o =>
        let s := keyCnt 0 (pmcCount 192 s)
        if Config.aesSivOpens (toBytes (o.take 32)) [toBytes ad, toBytes nonce] (toBytes ct) then (some o, false, s) else (none, false, pmcCount 195 s)

/-- An extension field. -/
def extField (ty : Nat) (body : List Nat) : List Nat := beBytes 2 ty ++ beBytes 2 (4 + body.length) ++ body

/-- n cookies minted under slot j (13 R342). -/
def mint (j k : Nat) (keys : List Nat) : Nat → State → List Nat × State
  | 0, s => ([], s)
  | n + 1, s =>
    let r := rngDraw 128 s
    let id := beBytes 4 (s.get (R.TSV_NTS_KEY_KEY_ID_KEY_ID j))
    let nonce := beBytes 16 r.1
    let x := toLen 84 (Config.aesSivSeal (toBytes (keyBytes (s.slot k).key)) [toBytes id, toBytes nonce] (toBytes ([0, 15, 0, 0] ++ keys)))
    let t := mint j k keys n (keyCnt 0 (pmcCount 193 (keyTake k 1 r.2)))
    (extField 0x0204 (id ++ nonce ++ x) ++ t.1, t.2)

/-- The number of cookies of an answer (13 R345), within the uses that the minting key has. -/
def nCookies (s : State) (k : Nat) (p : List Nat) (uid : List Nat) (ph : List Nat) : Nat :=
  let fit := (p.length - (48 + 4 + uid.length + 40)) / 108
  let n := min (min (1 + (ph.filter (· == 104)).length) (s.get R.TSV_NTS_CFG_MAX_COOKIES)) fit
  if (s.slot k).useMax = 0 then n else min n (s.slot k).uses

/-- BUILD and EMIT of NTSN (13 R344). -/
def ntsnBuild (m bf : Nat) (mf : MalFrame) (uid : List Nat) (s : State) : State :=
  let f := mf.f
  let p := udpBody f.bytes
  let body := ntpKiss s p (ascii "NTSN") ++ extField 0x0104 uid
  let frame := replyUdp s f body
  match reserve s f.port bf (lineLen frame.length) with
  | none => malWait m mf s
  | some r =>
    let s := raiseEvt R.TSV_EVT_NTSN 187 (pmcCount 194 (malCnt m 6 (malPop m s)))
    malEmit m f.port r { src := 1, bytes := frame, ip := true, udp := true, tag := f.tag } s

/-- BUILD, SEAL and EMIT of an NTS answer (13 R345). j: the slot CURRENT at PARSE, k its key. -/
def ntsBuild (m bf : Nat) (mf : MalFrame) (uid ph : List Nat) (j k : Nat) (s : State) : State :=
  let f := mf.f
  let p := udpBody f.bytes
  let n := nCookies s k p uid ph
  let len := (replyUdp s f (List.replicate (48 + 4 + uid.length + 40 + 108 * n) 0)).length
  match reserve s f.port bf (lineLen len) with
  | none => malWait m mf s
  | some r =>
    let uns := decide (unsyncWhy s ≠ 0) || f.inv || r.1.2
    let head := ntpHeader s p uns (stampTime s f.stamp) (stampTime s r.1.1) ++ extField 0x0104 uid
    let ck := mint j k mf.opened n s
    let nn := rngDraw 128 ck.2
    let nonce := beBytes 16 nn.1
    let x := toLen (16 + 108 * n) (Config.aesSivSeal (toBytes (mf.opened.drop 32)) [toBytes head, toBytes nonce] (toBytes ck.1))
    let auth := extField 0x0404 (beBytes 2 16 ++ beBytes 2 (16 + 108 * n) ++ nonce ++ x)
    let s := malCnt m 7 (keyCnt 0 (malPop m nn.2))
    malEmit m f.port r { src := 1, bytes := replyUdp s f (head ++ auth), ip := true, udp := true, tag := f.tag } s

/-- After AUTH: the answer where the slot CURRENT at PARSE may mint, else NTSN. -/
def ntsAnswer (m bf : Nat) (mf : MalFrame) (uid ph : List Nat) (s : State) : State :=
  match mf.cur, mf.cur.bind (ntsMk s) with
  | some j, some k =>
    if mf.opened.isEmpty ∨ keyGate s k 0 1 = 1 then ntsnBuild m bf { mf with opened := [] } uid s
    else if keyGate s k 0 1 = 2 ∨ ((s.slot k).useMax ≠ 0 ∧ keyGate s k 0 (nCookies s k (udpBody mf.f.bytes) uid ph) = 2) then
      floorAsk k (s.setMal m { s.mal m with q := mf :: (s.mal m).q.tail })
    else ntsBuild m bf mf uid ph j k s
  | _, _ => ntsnBuild m bf { mf with opened := [] } uid s

/-- The stages of an NTS request (13 R341 to R345). -/
def ntsRequest (m bf : Nat) (mf : MalFrame) (s : State) : State :=
  let f := mf.f
  let b := f.bytes
  let p := udpBody b
  let dst := (ipView b).elim [] (·.dst)
  match ntsForm p with
  | none => malReject m (some 4) f s
  | some (uid, c, ph, nonce, ct, ad) =>
    if mf.wait.isSome ∨ !mf.opened.isEmpty then ntsAnswer m bf mf uid ph s
    else if (servedBy s f.port dst b [2]).isNone then malToHost m f s
    else if !s.flag R.TSV_CTL_NTS_EN then malReject m none f s
    else
      let r := rateTake ((ipView b).elim [] (·.src)) s
      if !r.1 then malReject m (some 5) f (pmcAdd (184 + m) 1 { port := some f.port, tc := some (frameClass b) } r.2)
      else
        let mf := { mf with cur := ntsCurrent s }
        if mf.cur.isNone then ntsnBuild m bf mf uid r.2
        else
          let a := ntsAuth c nonce ct ad r.2
          if a.2.1 then a.2.2.setTsv { a.2.2.tsv with buckets := s.tsv.buckets }
          else ntsAnswer m bf { mf with opened := a.1.getD [] } uid ph a.2.2

/-! ## ARP and neighbour discovery (13 R327) -/

/-- ARP from port k: operation 2, sender address, target. -/
def arpBody (s : State) (k op : Nat) (ip tmac tip : List Nat) : List Nat :=
  [0, 1, 8, 0, 6, 4, 0, op] ++ portAddr s k ++ ip ++ tmac ++ tip

/-- The stages of an ARP request. -/
def arpRequest (m bf : Nat) (mf : MalFrame) (s : State) : State :=
  let f := mf.f
  let b := f.bytes
  let a := sub b (etAt b + 2) 28
  if !s.flag R.TSV_CTL_ARP_EN ∨ be16 a 6 ≠ 1 then malToHost m f s
  else
    let frame := ethFrame (sub b 6 6) (portAddr s f.port) (sub b 12 (4 * frameTags b)) 0x0806 (arpBody s f.port 2 (sub a 24 4) (sub a 8 6) (sub a 14 4))
    match reserve s f.port bf (lineLen frame.length) with
    | none => malWait m mf s
    | some r => malEmit m f.port r { src := 1, bytes := frame, tag := f.tag } (malPop m s)

/-- A neighbour advertisement from port k for a target: its ICMPv6 body with checksum (flags: bit 6 S, bit 5 O). -/
def naFrame (s : State) (k : Nat) (tags : List Nat) (flags : Nat) (target dstMac dstIp : List Nat) : List Nat :=
  let z := [136, 0, 0, 0, flags, 0, 0, 0] ++ target ++ [2, 1] ++ portAddr s k
  let c := 65535 - fold16 (sum16 (target ++ dstIp) + 58 + z.length + sum16 z)
  let e := ((List.range 32).find? (fun a => servedIp s a == target && s.flag (R.TSV_ADDR_SVC_VALID a))).getD 32
  let dscp := if e < 32 then s.get (R.TSV_ADDR_SVC_DSCP e) else 0
  ethFrame dstMac (portAddr s k) tags 0x86DD (ipPacket s true dscp target dstIp 58 (putBytes z 2 (beBytes 2 c)))

/-- FF02::1 and its group address. -/
def allNodes : List Nat × List Nat := ([0xFF, 0x02] ++ List.replicate 13 0 ++ [1], [0x33, 0x33, 0, 0, 0, 1])

/-- The stages of a neighbour solicitation. -/
def nsRequest (m bf : Nat) (mf : MalFrame) (s : State) : State :=
  let f := mf.f
  let b := f.bytes
  match ipView b with
  | none => malToHost m f s
  | some v =>
    if !s.flag R.TSV_CTL_ND_EN then malToHost m f s
    else
      let dad := v.src == List.replicate 16 0
      let tags := sub b 12 (4 * frameTags b)
      let target := sub b (v.off + 8) 16
      let frame := if dad then naFrame s f.port tags 0x20 target allNodes.2 allNodes.1 else naFrame s f.port tags 0x60 target (sub b 6 6) v.src
      match reserve s f.port bf (lineLen frame.length) with
      | none => malWait m mf s
      | some r =>
        let s := if dad then raiseEvt R.TSV_EVT_CONFLICT 187 s else s
        malEmit m f.port r { src := 1, bytes := frame, tag := f.tag } (malPop m s)

/-- The tags that a served entry's frames carry. -/
def entryTags (s : State) (a : Nat) : List Nat :=
  if s.flag (R.TSV_ADDR_VLAN_TAGGED a) then [0x81, 0x00] ++ beBytes 2 (s.get (R.TSV_ADDR_VLAN_VID a)) else []

/-- A general frame that the device originates on port k, without a reservation. -/
def originFrame (m k : Nat) (f : TxFrame) (s : State) : State :=
  let p := s.port k
  pmcAdd (168 + m) 1 { port := some k } (malCnt m 1 (s.setPort k { p with tx := p.tx ++ [{ f with src := 1, mal := m, at' := s.now }] }))

/-- At the entry of lane k to ACTIVE (13 R327): gratuitous ARP and unsolicited advertisements for every served address of the port. -/
def arpAnnounce (k : Nat) (s : State) : State :=
  if lanePrl s k then s
  else
    (List.range 32).foldl (fun s a =>
      if !(s.flag (R.TSV_ADDR_SVC_VALID a) && s.flag (R.TSV_ADDR_SVC_ARP_ND a) && tbit (s.get (R.TSV_ADDR_PORTS_PORTS a)) k) then s
      else
        let ip := servedIp s a
        let b := if a < 16 then ethFrame (List.replicate 6 0xFF) (portAddr s k) (entryTags s a) 0x0806 (arpBody s k 1 ip (List.replicate 6 0) ip)
          else naFrame s k (entryTags s a) 0x20 ip allNodes.2 allNodes.1
        if (if a < 16 then s.flag R.TSV_CTL_ARP_EN else s.flag R.TSV_CTL_ND_EN) then originFrame (malFewest s) k { src := 1, bytes := b } s else s) s

/-- The kind of a queued frame: 1, 2 PTP, 3 NTP, 4 ARP, 5 neighbour solicitation, 6 NTS. -/
def frameKind (b : List Nat) : Nat :=
  if etherType b = 0x88F7 then 1
  else if etherType b = 0x0806 then 4
  else match ipView b with
    | none => 0
    | some v =>
      if v.proto = 17 then (if be16 b (v.off + 2) = 123 then (if ntpParse (udpBody b) = 1 then 6 else 3) else 2) else 5

/-! ## Keys (13 R340) -/

/-- NTS_KEY_EXPIRE (13 R340): slot j has become EXPIRED. -/
def ntsExpire (j : Nat) (s : State) : State :=
  if ntsState s j = 3 ∧ !s.tsv.expired.contains j then
    raiseEvt R.TSV_EVT_KEY_EXPIRED 187 (s.setTsv { s.tsv with expired := s.tsv.expired ++ [j] })
  else s

/-- Is a KEY_ID write of slot j a duplicate (13 R340)? -/
def keyIdTaken (s : State) (j v : Nat) : Bool :=
  (List.range 8).any (fun i => i != j && ntsState s i != 0 && s.get (R.TSV_NTS_KEY_KEY_ID_KEY_ID i) == v)

end Sys2Proof.Machine
end

