-- ==== Sys2Proof/Machine/Ptp.lean ====
section
/-! DEFINITION. PTP (13 R346 to R357): the messages, the session table, unicast negotiation, exchanges, Announce and authentication. The layouts of IEEE 1588-2019
that the spec names and does not give are PRESUMED (log entry 50). -/

namespace Sys2Proof.Machine

/-- A session. -/
def State.sess (s : State) (n : Nat) : Sess := tget {} s.tsv.sess n

/-- A session set; FREE where it is the empty entry. -/
def State.setSess (s : State) (n : Nat) (v : Sess) : State := s.setTsv { s.tsv with sess := tset {} s.tsv.sess n v }

/-- A session ended: its entry cleared, its upstream data gone (13 R352). -/
def sessFree (n : Nat) (s : State) : State :=
  { s.setSess n {} with bnd := { s.bnd with ups := tset {} s.bnd.ups n {} } }

/-- Raw counts in a second. -/
def secCounts : Nat := 250000000

/-- A signed byte. -/
def sbyte (b : Nat) : Int := toInt 8 b

/-- An interval of 2^log seconds in raw counts. -/
def logCounts (l : Int) : Nat := if 0 ≤ l then secCounts * 2 ^ l.toNat else secCounts / 2 ^ (-l).toNat

/-! ## Messages -/

/-- The port's portIdentity: the clock identity and the port's number, from 1 (log entry 50). -/
def portId (s : State) (k : Nat) : List Nat := clockId s ++ beBytes 2 (k + 1)

/-- A message of type ty: header and body; messageLength covers them. flags: flagField; cf: correctionField in 2^-16 ns. -/
def ptpMsg (s : State) (k ty flags : Nat) (cf : Int) (seq : Nat) (ctl : Nat) (log : Int) (body : List Nat) : List Nat :=
  [ty, 0x12] ++ beBytes 2 (34 + body.length) ++ [s.get R.TSV_PTP_CFG_DOMAIN, 0] ++ beBytes 2 flags ++ beBytes 8 (ofInt 64 cf) ++ [0, 0, 0, 0]
    ++ portId s k ++ beBytes 2 seq ++ [ctl, ofInt 8 log] ++ body

/-- messageType of a message. -/
def ptpType (msg : List Nat) : Nat := msg.headD 0 % 16

/-- The PTP message of a frame, cut to its messageLength. -/
def ptpOf (b : List Nat) : List Nat :=
  let m := b.drop (ptpAt b)
  m.take (be16 m 2)

/-- Where a message's TLVs begin. -/
def tlvAt (msg : List Nat) : Nat :=
  match ptpType msg with
  | 9 => 54
  | 11 => 64
  | _ => 44

/-- The TLVs of a byte string: type, value. -/
def tlvs : Nat → List Nat → List (Nat × List Nat)
  | 0, _ => []
  | fuel + 1, b =>
    if b.length < 4 ∨ b.length < 4 + be16 b 2 then []
    else (be16 b 0, sub b 4 (be16 b 2)) :: tlvs fuel (b.drop (4 + be16 b 2))

/-- The TLVs of a message. -/
def msgTlvs (msg : List Nat) : List (Nat × List Nat) := tlvs 64 (msg.drop (tlvAt msg))

/-- A TLV. -/
def tlv (ty : Nat) (v : List Nat) : List Nat := beBytes 2 ty ++ beBytes 2 v.length ++ v

/-- A message's timestamp at offset o, in 2^-16 ns. -/
def msgTime (msg : List Nat) (o : Nat) : Int := ((ofBe (sub msg o 6) * secFrac + ofBe (sub msg (o + 6) 4) * 65536 : Nat) : Int)

/-- correctionField, in 2^-16 ns. -/
def msgCf (msg : List Nat) : Int := toInt 64 (ofBe (sub msg 8 8))

/-- sequenceId. -/
def msgSeq (msg : List Nat) : Nat := be16 msg 30

/-- sourcePortIdentity. -/
def msgPid (msg : List Nat) : List Nat := sub msg 20 10

/-! ## Authentication (13 R354; 14 R380 to R382) -/

/-- The SPP that a message of a port and session uses (14 R381). -/
def sppOf (s : State) (k : Nat) (n : Option Nat) : Nat :=
  match n with
  | some n => if (s.sess n).auth then (s.sess n).spp else s.get (R.TSV_PORT_CFG_SPP k)
  | none => s.get (R.TSV_PORT_CFG_SPP k)

/-- What stands in the way of sealing: 0 no TLV is added, 1 it is, 2 the message is not sent, 3 a floor commit is due. -/
def sealGate (s : State) (k : Nat) (n : Option Nat) : Nat :=
  let a := s.get (R.TSV_PORT_CFG_AUTH k)
  if a = 0 then 0
  else match (saOf s (sppOf s k n)).bind (saTxKey s) with
    | some key => if keyGate s key 2 1 = 2 then 3 else 1
    | none => if a = 1 then 0 else 2

/-- NOKEY where a message that asks for the TLV finds no key (14 R382). -/
def sealNote (k : Nat) (n : Option Nat) (s : State) : State :=
  if s.get (R.TSV_PORT_CFG_AUTH k) ≠ 0 ∧ (sealGate s k n = 0 ∨ sealGate s k n = 2) then noKey s
  else if sealGate s k n = 3 then ((saOf s (sppOf s k n)).bind (saTxKey s)).elim s (fun key => floorAsk key s)
  else s

/-- A message sealed (14 R380, R381), where a key stands. -/
def sealMsg (k : Nat) (n : Option Nat) (msg : List Nat) (s : State) : List Nat × State :=
  if sealGate s k n ≠ 1 then (msg, s)
  else
    let spp := sppOf s k n
    match saOf s spp with
    | none => (msg, s)
    | some sa => match saTxKey s sa with
      | none => (msg, s)
      | some key =>
        let m := putBytes msg 2 (beBytes 2 (msg.length + 26)) ++ [0x80, 0x09, 0, 22, spp, 0] ++ beBytes 4 (s.get (R.KEY_SA_TX_KEY_ID_TX_KEY_ID sa))
        let icv := (hmacOf (s.slot key).key (icvView s sa m)).take 16
        (m ++ icv, keyCnt 1 (keyTake key 1 s))

/-- A received message's verification (13 R354, 14 R381, R382): 0 passes, 1 fails, 2 a floor commit is due. -/
def ptpVerify (k : Nat) (n : Option Nat) (msg : List Nat) (s : State) : Nat × State :=
  let a := s.get (R.TSV_PORT_CFG_AUTH k)
  if a = 0 then (0, s)
  else match (msgTlvs msg).getLast? with
    | some (0x8009, v) =>
      let spp := sppOf s k n
      match saOf s spp with
      | none => (1, s)
      | some sa =>
        let key := keyByRole s.key.slots 7 (ofBe (sub v 2 4)) (some spp)
        match key with
        | none => (1, s)
        | some key =>
          if v.length ≠ 22 ∨ v.getD 1 0 ≠ 0 ∨ v.getD 0 0 ≠ spp ∨ keyGate s key 3 1 = 1 then (1, s)
          else if keyGate s key 3 1 = 2 then (2, floorAsk key s)
          else
            let icv := (hmacOf (s.slot key).key (icvView s sa (msg.take (msg.length - 16)))).take 16
            (if icv = v.drop 6 then 0 else 1, keyCnt 1 (keyTake key 1 s))
    | _ => (if a = 2 then 1 else 0, s)

/-! ## Frames of PTP -/

/-- The bytes of a session's VLAN tag (13 R351). -/
def sessTags (v : Sess) : List Nat :=
  if tbit v.vlan 12 then [0x81, 0x00] ++ beBytes 2 (v.vlan / 2 ^ 13 * 2 ^ 13 + v.vlan % 2 ^ 12) else []

/-- The served address that a multicast frame of port k leaves from. -/
def mcEntry (s : State) (k : Nat) (v6 : Bool) : Option Nat :=
  (List.range 32).find? (fun a => s.flag (R.TSV_ADDR_SVC_VALID a) && tbit (s.get (R.TSV_ADDR_PORTS_PORTS a)) k && decide (16 ≤ a) == v6)

/-- The frame of a message that the device originates (13 R328): to a session's peer, or to the multicast address of port k. event: UDP port 319, else 320;
trail: two bytes follow for the checksum compensation (12 R309). -/
def ptpFrame (s : State) (k : Nat) (n : Option Nat) (event trail : Bool) (msg : List Nat) : List Nat :=
  let tr := s.get (R.TSV_PORT_CFG_TRANSPORT k)
  let uni := n.elim false (fun n => (s.sess n).role != 2)
  let v := n.elim {} s.sess
  let v6 := if uni then v.v6 else tr == 2
  let tags := if uni then sessTags v else []
  if tr = 0 then
    let dst := if uni then v.mac else if s.flag (R.TSV_PORT_CFG_MC_ADDR k) then [0x01, 0x80, 0xC2, 0, 0, 0x0E] else [0x01, 0x1B, 0x19, 0, 0, 0]
    ethFrame dst (portAddr s k) tags 0x88F7 msg
  else
    let e := if uni then some v.laddr else mcEntry s k v6
    let src := e.elim (List.replicate (if v6 then 16 else 4) 0) (servedIp s)
    let dscp := e.elim 0 (fun a => s.get (R.TSV_ADDR_SVC_DSCP a))
    let dst := if uni then (if v6 then v.ip else v.ip.drop 12)
      else if v6 then [0xFF, 0x0E] ++ List.replicate 12 0 ++ [0x01, 0x81] else [224, 0, 1, 129]
    let mac := if uni then v.mac else if v6 then [0x33, 0x33, 0, 0, 0x01, 0x81] else [0x01, 0, 0x5E, 0, 0x01, 0x81]
    let p := if event then 319 else 320
    let tags := if uni then tags else e.elim [] (entryTags s)
    ethFrame mac (portAddr s k) tags (ipType v6) (ipPacket s v6 dscp src dst 17 (udpGram p p (msg ++ (if trail then [0, 0] else []))))

/-- Is the UDP checksum of a one-step event message sent as 0 (12 R309)? -/
def zeroSum (s : State) (k : Nat) (frame : List Nat) : Bool := (ipView frame).elim false (fun v => !v.v6) && s.flag (R.MAC_PORT_CFG_V4_ZERO k)

/-- A PTP message sent on port k counts. event: 18 R462's event messages. -/
def ptpSent (k : Nat) (event : Bool) (s : State) : State :=
  let s := s.addSat (R.TSV_PORT_TX_MSG_TX_MSG k) 1
  if event then pmcAdd 196 1 { port := some k } s else s

/-- The Mallet that sends a session's or a port's messages. -/
def ptpMal (k : Nat) (n : Option Nat) : Nat := (n.getD k) % 8

/-- A general message sealed and handed to its port. -/
def ptpOriginate (k : Nat) (n : Option Nat) (msg : List Nat) (s : State) : State :=
  let r := sealMsg k n msg s
  originFrame (ptpMal k n) k { src := 1, bytes := ptpFrame r.2 k n false false r.1, ip := true, udp := true } (ptpSent k false r.2)

/-- A general message originated; not sent where R382 says so. -/
def ptpGeneral (k : Nat) (n : Option Nat) (msg : List Nat) (s : State) : State :=
  let s := sealNote k n s
  if 2 ≤ sealGate s k n then s else ptpOriginate k n msg s

/-- Does PTP run on port k? -/
def ptpOn (s : State) (k : Nat) : Bool := s.flag R.TSV_CTL_PTP_EN && s.flag (R.TSV_PORT_CFG_PTP_EN k)

/-- Is a port a master? -/
def isMaster (s : State) (k : Nat) : Bool := s.get (R.TSV_PORT_STAT_PORT_STATE k) == 6

/-- flagField's unicast bit. -/
def uniFlag (s : State) (n : Option Nat) : Nat := n.elim 0 (fun n => if (s.sess n).role = 2 then 0 else 0x0400)

/-- The next sequenceId of a port's messages of a kind, 0 Announce, 1 Sync, 2 Signaling. -/
def portSeq (k kind : Nat) (s : State) : Nat × State :=
  let q := tget 0 s.tsv.seqs (4 * k + kind)
  (q, s.setTsv { s.tsv with seqs := tset 0 s.tsv.seqs (4 * k + kind) ((q + 1) % 65536) })

/-! ## Unicast negotiation (13 R350, R352) -/

/-- A session's grant of a message type: 11 Announce, 0 Sync, 9 Delay_Resp. -/
def grantOf (v : Sess) (ty : Nat) : Option Grant := if ty = 11 then v.ann else if ty = 0 then v.sync else v.dresp

/-- A session with the grant of a type set, and its logInterMessagePeriod. -/
def setGrant (v : Sess) (ty : Nat) (g : Option Grant) : Sess :=
  let l := fun (i : Nat) => match g with | some g => v.logs.set i (ofInt 8 g.log) | none => v.logs
  if ty = 11 then { v with ann := g, logs := l 0 } else if ty = 0 then { v with sync := g, logs := l 1 } else { v with dresp := g, logs := l 2 }

/-- The seconds of a grant left. -/
def grantLeft (s : State) (g : Option Grant) : Nat := g.elim 0 (fun g => (g.until' - s.now + secCounts - 1) / secCounts)

/-- The types of R350. -/
def grantTypes : List Nat := [11, 0, 9]

/-- Does a session hold a live grant of a type? -/
def granted (s : State) (n ty : Nat) : Bool := decide (0 < grantLeft s (grantOf (s.sess n) ty))

/-- A Signaling message of port k with TLVs. -/
def signaling (k : Nat) (target : List Nat) (l : List Nat) (s : State) : List Nat × State :=
  let q := portSeq k 2 s
  (ptpMsg q.2 k 12 (0x0400) 0 q.1 5 127 (target ++ l), q.2)

/-- A Signaling message to a session's peer, originated. -/
def sendSignal (n : Nat) (l : List Nat) (s : State) : State :=
  let v := s.sess n
  let r := signaling v.port v.pid l s
  ptpGeneral v.port (some n) r.1 r.2

/-- The log interval that a client asks for: the entry's, as the host wrote it. -/
def askLog (v : Sess) (ty : Nat) : Nat := v.logs.getD (if ty = 11 then 0 else if ty = 0 then 1 else 2) 0

/-- Requests of a client for message types (13 R352), of GRANT_MAX seconds. -/
def sendRequests (n : Nat) (types : List Nat) (s : State) : State :=
  let v := s.sess n
  sendSignal n (types.flatMap (fun ty => tlv 4 ([ty * 16, askLog v ty] ++ beBytes 4 (s.get R.TSV_UNI_CFG_GRANT_MAX)))) s

/-- CANCEL for each granted type. -/
def sendCancels (n : Nat) (s : State) : State :=
  let l := grantTypes.filter (granted s n)
  if l.isEmpty then s else sendSignal n (l.flatMap (fun ty => tlv 6 [ty * 16, 0])) s

/-- A session enters a state. -/
def sessGo (n st : Nat) (s : State) : State := s.setSess n { s.sess n with st := st, since := s.now }

/-- May a request of a type and interval be granted on port k, to a session or a new one (13 R350)? -/
def grantOk (s : State) (k ty : Nat) (log : Int) (n : Option Nat) : Bool :=
  let lim : Int := -((if ty = 11 then s.get R.TSV_UNI_CFG_ANN_RATE else s.get R.TSV_UNI_CFG_SYNC_RATE : Nat) : Int)
  ptpOn s k && grantTypes.contains ty && decide (lim ≤ log) && n.isSome

/-- The lowest FREE index of SESS_BASE or above. -/
def sessFreeIdx (s : State) : Option Nat :=
  ((List.range 4096).drop (s.get R.TSV_UNI_CFG_SESS_BASE)).find? (fun i => (s.tsv.sess.find? (fun e => e.1 == i)).isNone)

/-- A new server session for the sender of a frame. -/
def sessNew (k : Nat) (f : RxFrame) (s : State) : Sess :=
  let b := f.bytes
  let v := ipView b
  let dst := v.elim [] (·.dst)
  let vlan := if frameTags b = 0 then 0 else
    let t := be16 b (etAt b - 2)
    t % 4096 + 4096 + t / 8192 * 8192
  { st := 2, role := 0, v6 := v.elim false (·.v6), auth := s.get (R.TSV_PORT_CFG_AUTH k) != 0, twoStep := s.flag (R.TSV_PORT_CFG_TWO_STEP k), port := k, vlan := vlan,
    ip := v.elim (List.replicate 16 0) (fun v => ip16 v.src), mac := sub b 6 6, pid := msgPid (ptpOf b), spp := s.get (R.TSV_PORT_CFG_SPP k),
    laddr := (servedBy s k dst b [3]).getD 0, lastRx := s.strokes, since := s.now, nextRaw := s.now, nextAnn := s.now }

/-- One TLV of a Signaling message taken (13 R350, R352): the TLV that answers it, and the state. -/
def sigTlv (k : Nat) (f : RxFrame) (t : Nat × List Nat) (s : State) : List Nat × State :=
  let n := sessOf s k f.bytes
  let ty := t.2.headD 0 / 16
  let log := sbyte (t.2.getD 1 0)
  if t.1 = 4 then
    let idx := match n with | some n => some n | none => sessFreeIdx s
    if grantOk s k ty log idx then
      let i := idx.getD 0
      let dur := min (ofBe (sub t.2 2 4)) (s.get R.TSV_UNI_CFG_GRANT_MAX)
      let v := if n.isSome then s.sess i else sessNew k f s
      let v := setGrant { v with lastRx := s.strokes } ty (some { log := log, until' := s.now + dur * secCounts, dur := dur })
      (tlv 5 ([ty * 16, t.2.getD 1 0] ++ beBytes 4 dur ++ [0, 1]), pmcAdd 199 1 { port := some k } (s.setSess i v))
    else
      (tlv 5 ([ty * 16, t.2.getD 1 0] ++ beBytes 4 0 ++ [0, 0]), raiseEvt R.TSV_EVT_DENY 187 (s.addSat (R.TSV_PORT_DENY_DENY k) 1))
  else match n with
    | none => ([], s)
    | some n =>
      let v := { s.sess n with lastRx := s.strokes }
      if t.1 = 6 then
        let v := setGrant { v with sflags := withBit v.sflags 3 true } ty none
        let s := s.setSess n v
        let none' := grantTypes.all (fun ty => !granted s n ty)
        (tlv 7 [ty * 16, 0], if none' then sessFree n s else s)
      else if t.1 = 7 then
        let v := setGrant v ty none
        let s := s.setSess n v
        ([], if v.st = 4 ∧ grantTypes.all (fun ty => (grantOf v ty).isNone) then sessFree n s else s)
      else if t.1 = 5 ∧ v.role = 1 ∧ (v.st = 1 ∨ v.st = 3 ∨ v.st = 2) ∧ grantTypes.contains ty then
        let dur := ofBe (sub t.2 2 4)
        if dur = 0 then ([], s.setSess n { v with sflags := withBit v.sflags 1 true })
        else
          let v := setGrant v ty (some { log := log, until' := s.now + dur * secCounts, dur := dur })
          let s := s.setSess n v
          let all := grantTypes.all (fun ty => granted s n ty)
          let s := if v.st = 1 ∧ all then
              let s := sessGo n 2 s
              s.setSess n { s.sess n with sflags := withBit (withBit v.sflags 0 false) 1 false, nextRaw := s.now, annAt := s.now, syncAt := s.now }
            else if v.st = 3 then sessGo n 2 s else s
          ([], s)
      else ([], s)

/-- The unicast TLVs of a Signaling message. -/
def sigTlvs (msg : List Nat) : List (Nat × List Nat) := (msgTlvs msg).filter (fun t => decide (4 ≤ t.1) && decide (t.1 ≤ 7))

/-- The bytes that answer the TLVs: 12 for a request, 6 for a cancel. -/
def sigAnsLen (msg : List Nat) : Nat := (sigTlvs msg).foldl (fun n t => n + (if t.1 = 4 then 12 else if t.1 = 6 then 6 else 0)) 0

/-! ## Set 0 in Announce (13 R348, R355) -/

/-- Is set 0 in TRACK, FASSIST or HOLDOVER, and does it exceed its target? -/
def setBasis (s : State) : Nat × Bool := (s.getE (R.BND_SET_STAT_BASIS 0), s.flagE (R.BND_SET_STAT_TGT_EXC 0))

/-- The session that set 0's trace names, where its kind is 3. -/
def traceSess (s : State) : Option Dataset :=
  if s.getE (R.BND_SET_TRACE_KIND 0) = 3 then (s.sess (s.getE (R.BND_SET_TRACE_ID 0))).data else none

/-- clockClass (13 R348). -/
def clockClass (s : State) : Nat :=
  let b := setBasis s
  let up := s.getE (R.BND_SET_TRACE_KIND 0) == 3
  if unsyncWhy s ≠ 0 then s.get R.TSV_CLASS_FREE_CLASS
  else if b.1 = 1 then (if up then ((s.sess (s.getE (R.BND_SET_TRACE_ID 0))).data).elim (s.get R.TSV_CLASS_FREE_CLASS) (·.cls) else s.get R.TSV_CLASS_LOCK_CLASS)
  else if b.2 then (if up then s.get R.TSV_CLASS2_BC_HO_OUT else s.get R.TSV_CLASS_HO_OUT_CLASS)
  else if up then s.get R.TSV_CLASS2_BC_HO_IN else s.get R.TSV_CLASS_HO_IN_CLASS

/-- timeSource (13 R348). -/
def timeSource (s : State) : Nat :=
  if unsyncWhy s ≠ 0 then 0xA0
  else match s.getE (R.BND_SET_TRACE_KIND 0) with
    | 1 => 0x20
    | 3 => 0x40
    | 2 | 4 => 0x90
    | _ => 0xA0

/-- flagField of an Announce (13 R348, R337): the leap, UTC offset valid, the PTP timescale and traceability. -/
def annFlags (s : State) : Nat :=
  let l := leapAt s s.etimeNow
  let b := setBasis s
  let tr := bit (unsyncWhy s == 0 && (b.1 == 1 || !b.2))
  bit (l == 1) + 2 * bit (l == 2) + 4 * bit s.etm.utcCur.valid + 8 + 16 * tr + 32 * tr

/-- The dataset that the device announces (13 R348). -/
def ownDataset (s : State) : Dataset :=
  let b := bndOfE s 0
  let acc := accCode (max b.1 b.2.1) b.2.2
  let off := utcOffsetAt s.etm (etSec s.etimeNow)
  match traceSess s with
  | some d => { d with cls := clockClass s, acc := acc, steps := d.steps + 1, flags := annFlags s, utc := off }
  | none =>
    { cls := clockClass s, acc := acc, var := Config.ptpVariance.toNat, prio1 := s.get R.TSV_PTP_CFG_PRIORITY1, prio2 := s.get R.TSV_PTP_CFG_PRIORITY2,
      gm := clockId s, steps := 0, flags := annFlags s, utc := off }

/-- The time-bound TLV (13 R355). -/
def boundTlv (s : State) : List Nat :=
  let b := bndOfE s 0
  tlv 3 ([0x8A, 0xF5, 0x0C, 0, 0, 1, 1, bit b.2.2 + 2 * bit (setBasis s).2, (setBasis s).1, s.getE (R.BND_SET_TRACE_KIND 0)]
    ++ beBytes 2 (s.getE (R.BND_SET_TRACE_ID 0)) ++ beBytes 2 (s.getE (R.BND_SET_SEQ_TRACE_SEQ 0)) ++ beBytes 6 b.1 ++ beBytes 6 b.2.1)

/-- An Announce (13 R348, R355). The originTimestamp is not stated: a free value. -/
def announceMsg (k : Nat) (n : Option Nat) (seq : Nat) (log : Int) (s : State) : List Nat × State :=
  let d := ownDataset s
  let r := freshBytes 10 s
  let body := r.1 ++ beBytes 2 (ofInt 16 d.utc) ++ [0, d.prio1, d.cls, d.acc] ++ beBytes 2 d.var ++ [d.prio2] ++ d.gm ++ beBytes 2 d.steps ++ [timeSource s]
  let tb := if s.flag (R.TSV_PORT_CFG_TB_EN k) then boundTlv s else []
  (ptpMsg s k 11 (uniFlag s n + d.flags) 0 seq 5 (if uniFlag s n = 0 then log else 127) (body ++ tb), r.2)

/-- ANNOUNCE_TX (13 R348): of session n, or of port k's multicast, where it is due. -/
def announceTx (k : Nat) (n : Option Nat) (s : State) : State :=
  if !ptpOn s k ∨ !isMaster s k then s
  else match n with
    | some n =>
      let v := s.sess n
      if v.st = 2 ∧ v.role = 0 ∧ v.port = k ∧ granted s n 11 ∧ v.nextAnn ≤ s.now then
        let log := sbyte (v.logs.getD 0 0)
        let r := announceMsg k (some n) v.annSeq log s
        let s := r.2.setSess n { v with annSeq := (v.annSeq + 1) % 65536, nextAnn := max (v.nextAnn + logCounts log) s.now }
        ptpGeneral k (some n) r.1 s
      else s
    | none =>
      let at' := tget 0 s.tsv.next (4 * k)
      if s.flag (R.TSV_PORT_CFG_MC_EN k) ∧ at' ≤ s.now then
        let log := s.getI (R.TSV_PORT_LOG_ANN_LOG k)
        let q := portSeq k 0 s
        let r := announceMsg k none q.1 log q.2
        let s := r.2.setTsv { r.2.tsv with next := tset 0 r.2.tsv.next (4 * k) (max (at' + logCounts log) s.now) }
        ptpGeneral k none r.1 s
      else s

/-! ## Sync, Follow_Up and Delay_Req (13 R349, R353, R357) -/

/-- A message's schedule moved on. -/
def nextDue (at' : Nat) (log : Int) (now : Nat) : Nat := max (at' + logCounts log) now

/-- An event message originated (13 R332): reserved, or left to wait for the edge. mk: the message from its transmit ETIME. -/
def originWait (m : Nat) (o : Origin) (s : State) : State :=
  let d := (s.mal m).due.filter (fun x => !(x.kind == o.kind && x.who == o.who))
  s.setMal m { s.mal m with due := d ++ [o] }

/-- Is the Sync of session n, or of port k's multicast, two-step? -/
def syncTwo (s : State) (k : Nat) (n : Option Nat) : Bool := n.elim (s.flag (R.TSV_PORT_CFG_TWO_STEP k)) (fun n => (s.sess n).twoStep)

/-- Bytes on the line of a Sync, which its reservation is for. -/
def syncLen (s : State) (k : Nat) (n : Option Nat) : Nat :=
  lineLen (ptpFrame s k n true (!syncTwo s k n) (List.replicate (44 + (if sealGate s k n = 1 then 26 else 0)) 0)).length

/-- A Sync emitted at its reservation r: the next sequenceId; its schedule moved on; two-step: a tag whose stamp makes the Follow_Up. -/
def syncEmit (k : Nat) (n : Option Nat) (r : (Nat × Bool) × Nat) (s : State) : State :=
  let two := syncTwo s k n
  let log := n.elim (s.getI (R.TSV_PORT_LOG_SYNC_LOG k)) (fun n => sbyte ((s.sess n).logs.getD 1 0))
  let t3 := stampTime s r.1.1
  let q := match n with
    | some n =>
      let v := s.sess n
      (v.syncSeq, s.setSess n { v with syncSeq := (v.syncSeq + 1) % 65536, nextRaw := nextDue v.nextRaw log s.now })
    | none =>
      let p := portSeq k 1 s
      (p.1, p.2.setTsv { p.2.tsv with next := tset 0 p.2.tsv.next (4 * k + 1) (nextDue (tget 0 s.tsv.next (4 * k + 1)) log s.now) })
  let ts := if two then freshBytes 10 q.2 else (ptp80 t3, q.2)
  let msg := ptpMsg s k 0 ((if two then 0x0200 else 0) + uniFlag s n) (if two then 0 else etFrac t3) q.1 0 (if uniFlag s n = 0 then log else 127) ts.1
  let sl := sealMsg k n msg ts.2
  let s := ptpSent k true sl.2
  let frame := ptpFrame s k n true (!two) sl.1
  let tg := if two then
      let r := tagNext k s
      (some r.1, r.2.setTsv { r.2.tsv with fus := r.2.tsv.fus ++ [{ tag := r.1, port := k, sess := n, frame := sl.1 }] })
    else (none, s)
  malEmit (ptpMal k n) k r { src := 1, bytes := frame, ip := true, udp := two || !zeroSum s k frame, tsTag := tg.1 } tg.2

/-- A Sync of session n, or of port k's multicast, that is due: not sent where R382 says so, left to wait for the edge where no reservation fits. -/
def syncSend (k : Nat) (n : Option Nat) (bf : Nat) (s : State) : State :=
  let s := sealNote k n s
  if 2 ≤ sealGate s k n then s
  else match reserve s k bf (syncLen s k n) with
    | none => originWait (ptpMal k n) { kind := 0, who := n.getD (4096 + k), wait := s.strokes } s
    | some r => syncEmit k n r s

/-- SYNC_TX (13 R349, R357): where one is due. -/
def syncTx (k : Nat) (n : Option Nat) (bf : Nat) (s : State) : State :=
  if !ptpOn s k ∨ !isMaster s k ∨ reEpochs s then s
  else match n with
    | some i =>
      let v := s.sess i
      if v.st = 2 ∧ v.role = 0 ∧ v.port = k ∧ granted s i 0 ∧ v.nextRaw ≤ s.now then syncSend k n bf s else s
    | none => if s.flag (R.TSV_PORT_CFG_MC_EN k) ∧ tget 0 s.tsv.next (4 * k + 1) ≤ s.now then syncSend k none bf s else s

/-- The Follow_Up of a two-step Sync (13 R349): preciseOriginTimestamp from the queue entry's stamp. -/
def followUpMsg (s : State) (d : FuDue) (stamp : Nat) : List Nat :=
  let t := stampTime s stamp
  ptpMsg s d.port 8 (be16 d.frame 6 - 0x0200) (etFrac t) (msgSeq d.frame) 2 (sbyte (d.frame.getD 33 0)) (ptp80 t)

/-- It is originated. -/
def followUp (d : FuDue) (stamp : Nat) (s : State) : State := ptpGeneral d.port d.sess (followUpMsg s d stamp) s

/-- FOLLOW_UP_TX (13 R349, 12 R316): the Mallets take the head of port k's queue where it is theirs: a stamp makes its Follow_Up, a gap marker suppresses those of the
tags it names. -/
def followUpTx (k : Nat) (s : State) : State :=
  match (s.port k).tsq.head? with
  | none => s
  | some e =>
    let tag := e % 65536
    let l := s.tsv.fus
    if tbit e 16 then
      let g := (tag, e / 2 ^ 32 % 65536)
      let hit := l.filter (fun d => d.port == k && inRun g d.tag)
      if hit.isEmpty then s
      else
        let s := s.setTsv { s.tsv with fus := l.filter (fun d => !(d.port == k && inRun g d.tag)) }
        (tsqPop k s).addSat (R.MAC_PORT_FU_SUPP_FU_SUPP k) hit.length
    else if !tbit e 20 then s
    else
      let s := (tsqPop k s).setTsv { s.tsv with fus := l.filter (fun d => !(d.port == k && d.tag == tag)) }
      match l.find? (fun d => d.port == k && d.tag == tag) with
      | none => s
      | some d =>
        let stamp := e / 2 ^ 32 % 2 ^ 60
        if tbit e 18 ∨ reEpochs s then s else followUp d stamp s

/-- The interval of a client's Delay_Req. -/
def dreqLog (s : State) (v : Sess) : Int := if v.role = 2 then s.getI (R.TSV_PORT_LOG_DREQ_LOG v.port) else sbyte (v.logs.getD 2 0)

/-- Bytes on the line of a Delay_Req of session n on port k. -/
def dreqLen (s : State) (k n : Nat) : Nat :=
  lineLen (ptpFrame s k (some n) true false (List.replicate (44 + (if sealGate s k (some n) = 1 then 26 else 0)) 0)).length

/-- A Delay_Req of client session n emitted on port k at its reservation r (13 R353): t3 is the stamp of its reserved word. -/
def dreqEmit (k n : Nat) (r : (Nat × Bool) × Nat) (s : State) : State :=
  let v := s.sess n
  let v' := { v with dreqSeq := (v.dreqSeq + 1) % 65536, dreqId := v.dreqSeq, t3 := some r.1, t4 := none, nextRaw := nextDue v.nextRaw (dreqLog s v) s.now }
  let msg := ptpMsg s k 1 (uniFlag s (some n)) 0 v.dreqSeq 1 127 (List.replicate 10 0)
  let sl := sealMsg k (some n) msg (s.setSess n v')
  let s := ptpSent k true sl.2
  malEmit (ptpMal k (some n)) k r { src := 1, bytes := ptpFrame s k (some n) true false sl.1, ip := true, udp := true, sess := some n } s

/-- A Delay_Req of client session n that is due: not sent where R382 says so, left to wait for the edge where no reservation fits. -/
def dreqSend (n bf : Nat) (s : State) : State :=
  let k := (s.sess n).port
  let s := sealNote k (some n) s
  if 2 ≤ sealGate s k (some n) then s
  else match reserve s k bf (dreqLen s k n) with
    | none => originWait (ptpMal k (some n)) { kind := 1, who := n, wait := s.strokes } s
    | some r => dreqEmit k n r s

/-- DELAY_REQ_TX (13 R353): where a client session's is due. -/
def dreqTx (n bf : Nat) (s : State) : State :=
  let v := s.sess n
  if ptpOn s v.port ∧ v.role ≠ 0 ∧ (v.st = 2 ∨ v.st = 3) ∧ v.nextRaw ≤ s.now ∧ (v.role = 2 ∨ granted s n 9) then dreqSend n bf s else s

/-! ## Received messages -/

/-- The client session that a message belongs to (13 R352, R353): the unicast session of its sender, or the port's multicast client from its master. -/
def clientOf (s : State) (k : Nat) (b : List Nat) : Option Nat :=
  match sessOf s k b with
  | some n => if (s.sess n).role = 1 then some n else none
  | none =>
    let n := s.get (R.TSV_PORT_MC_SESS_MC_IDX k)
    if s.flag (R.TSV_PORT_MC_SESS_MC_SESS_EN k) && (s.sess n).role == 2 && (s.sess n).st == 2 && (s.sess n).pid == msgPid (ptpOf b) then some n else none

/-- The asymmetry that TSV publishes for sessions of port k (13 R353). -/
def sessAsym (s : State) (k : Nat) : Nat := s.get (R.MAC_PORT_DLY_UNC_DLY_UNC k) + s.get R.TSV_PTP_ASYM_UNC_ASYM_UNC

/-- Has a session gone three Announce intervals without one (13 R353)? -/
def annOut (s : State) (v : Sess) : Bool :=
  decide (v.annAt + 3 * logCounts (if v.role = 2 then s.getI (R.TSV_PORT_LOG_ANN_LOG v.port) else sbyte (v.logs.getD 0 0)) ≤ s.now)

/-- A completed exchange delivers the sample (13 R353), to the monitor of the session, from a port in SLAVE state (R347). -/
def exchange (n : Nat) (s : State) : State :=
  let v := s.sess n
  match v.t1, v.t2, v.t3, v.t4 with
  | some t1, some t2, some t3, some t4 =>
    let a := stampTime s t2.1
    let b := stampTime s t3.1
    let x := ((t1 - a) + (t4 - b)) / 128
    let s := s.setSess n { v with t1 := none, t2 := none, t3 := none, t4 := none, los := v.los && annOut s v }
    let log := if v.role = 2 then s.getI (R.TSV_PORT_LOG_SYNC_LOG v.port) else sbyte (v.logs.getD 1 0)
    let u := tget {} s.bnd.ups n
    let u : UpInfo := { u with asym := sessAsym s v.port, lane := v.port, syncNs := logCounts log * 4 }
    let s := { s with bnd := { s.bnd with ups := tset {} s.bnd.ups n u } }
    if s.get (R.TSV_PORT_STAT_PORT_STATE v.port) ≠ 9 then s
    else match vMon s 4 n with
      | none => s
      | some mo => vPush mo { x := satI 48 x, t := etTotal s.etm t2.1 / 2 ^ 22, raw := t2.1, has := true, inv := t2.2 || t3.2 } s
  | _, _, _, _ => s

/-- A message from a session's peer has arrived. -/
def heard (n : Nat) (s : State) : State := s.setSess n { s.sess n with lastRx := s.strokes }

/-- SYNC_RX (13 R353). -/
def syncRx (n : Nat) (f : RxFrame) (msg : List Nat) (s : State) : State :=
  let v := s.sess n
  let two := tbit (msg.getD 6 0) 1
  let v := { v with t2 := some (f.stamp, f.inv), syncAt := s.now, rxSync := some (msgSeq msg), cfSync := msgCf msg }
  exchange n (s.setSess n { v with t1 := if two then none else some (msgTime msg 34 + msgCf msg) })

/-- FOLLOW_UP_RX (13 R353). -/
def followUpRx (n : Nat) (msg : List Nat) (s : State) : State :=
  let v := s.sess n
  if v.rxSync = some (msgSeq msg) ∧ v.t2.isSome ∧ v.t1.isNone then
    exchange n (s.setSess n { v with t1 := some (msgTime msg 34 + msgCf msg + v.cfSync) })
  else s

/-- DELAY_RESP_RX (13 R353). -/
def delayRespRx (n : Nat) (msg : List Nat) (s : State) : State :=
  let v := s.sess n
  if sub msg 44 10 = portId s v.port ∧ msgSeq msg = v.dreqId ∧ v.t3.isSome then
    exchange n (s.setSess n { v with t4 := some (msgTime msg 34 + msgCf msg) })
  else s

/-- The dataset of an Announce. -/
def msgDataset (msg : List Nat) : Dataset :=
  { cls := msg.getD 48 0, acc := msg.getD 49 0, var := be16 msg 50, prio1 := msg.getD 47 0, prio2 := msg.getD 52 0, gm := sub msg 53 8, steps := be16 msg 61,
    flags := msg.getD 7 0, utc := toInt 16 (be16 msg 44) }

/-- The UTC data of an Announce (02 R69); the leap falls at the end of the UTC day (log entry 50). -/
def annUtc (s : State) (d : Dataset) : UtcData :=
  let leap := if tbit d.flags 0 then 1 else if tbit d.flags 1 then 2 else 0
  let utc : Int := (etSec s.etimeNow : Int) - d.utc
  let day := (utc / 86400 + 1) * 86400 + d.utc + (if leap = 1 then 1 else if leap = 2 then -1 else 0)
  { valid := tbit d.flags 2, offset := d.utc, leap := leap, leapTai := if leap = 0 then 0 else day.toNat }

/-- The time-bound TLV of an Announce (13 R356): none, or of another VERSION, or the BOUND (LOWER, UPPER, UNBOUNDED). -/
def annBound (msg : List Nat) : Option (Option (Nat × Nat × Bool)) :=
  ((msgTlvs msg).find? (fun t => t.1 == 3 && t.2.take 6 == [0x8A, 0xF5, 0x0C, 0, 0, 1])).map (fun t =>
    if t.2.length = 26 ∧ t.2.getD 6 0 = 1 then
      some (ofBe (sub t.2 14 6), ofBe (sub t.2 20 6), tbit (t.2.getD 7 0) 0)
    else none)

/-- ANNOUNCE_RX (13 R347, R348, R356): for a client session n. -/
def announceRx (n : Nat) (f : RxFrame) (msg : List Nat) (s : State) : State :=
  let v := s.sess n
  let k := v.port
  let d := msgDataset msg
  let s := s.setSess n { v with annAt := s.now, data := some d }
  let s := qualityRx 4 n d.cls d.acc s
  let s := match vMon s 4 n with
    | some m => { s with etm := { s.etm with utcUp := tset {} s.etm.utcUp m (annUtc s d) } }
    | none => s
  let log := if v.role = 2 then s.getI (R.TSV_PORT_LOG_ANN_LOG k) else sbyte (v.logs.getD 0 0)
  let u := tget {} s.bnd.ups n
  let u : UpInfo := { u with acc := d.acc, annStrokes := logCounts log / 31250, asym := sessAsym s k, lane := k }
  let age := (rawDiff s.raw (f.stamp / 4096 % 2 ^ 48)).toNat
  let r : UpInfo × State := match annBound msg with
    | some (some b) => ({ u with bound := some b, taken := s.now - age }, s.addSat (R.TSV_PORT_TB_RX_TB_RX k) 1)
    | some none => ({ u with bound := none }, s)
    | none => (u, s)
  { r.2 with bnd := { r.2.bnd with ups := tset {} r.2.bnd.ups n r.1 } }

/-- Does a message hold an AUTHENTICATION failure's consequences (13 R354)? -/
def authFail (m k : Nat) (n : Option Nat) (f : RxFrame) (s : State) : State :=
  let s := pmcAdd 198 1 { port := some k } (raiseEvt R.TSV_EVT_AUTH_FAIL 187 (s.addSat (R.TSV_PORT_AUTH_FAIL_AUTH_FAIL k) 1))
  let s := match n with
    | some n => s.setSess n { s.sess n with sflags := withBit (s.sess n).sflags 2 true }
    | none => s
  malReject m none f s

/-- A message consumed by Mallet m. -/
def ptpTaken (m : Nat) (f : RxFrame) (s : State) : State := tagEnd f.tag 7 (malCnt m 9 (malPop m s))

/-- Bytes on the line of a Delay_Resp. -/
def drespLen (s : State) (k : Nat) (n : Option Nat) : Nat :=
  lineLen (ptpFrame s k n false false (List.replicate (54 + (if sealGate s k n = 1 then 26 else 0)) 0)).length

/-- The Delay_Resp to message msg of frame f, from session n or port k's multicast, emitted at its reservation r: it carries T2. -/
def drespEmit (m k : Nat) (n : Option Nat) (f : RxFrame) (msg : List Nat) (r : (Nat × Bool) × Nat) (s : State) : State :=
  let t2 := stampTime s f.stamp
  let log := n.elim (s.getI (R.TSV_PORT_LOG_DREQ_LOG k)) (fun n => sbyte ((s.sess n).logs.getD 2 0))
  let ans := ptpMsg s k 9 (uniFlag s n) (msgCf msg + etFrac t2) (msgSeq msg) 3 (if tbit (msg.getD 6 0) 2 then 127 else log) (ptp80 t2 ++ msgPid msg)
  let sl := sealMsg k n ans s
  let s := ptpSent k false (malCnt m 9 (malPop m sl.2))
  let s := n.elim s (fun n => heard n s)
  malEmit m k r { src := 1, bytes := ptpFrame s k n false false sl.1, ip := true, udp := true, tag := f.tag } s

/-- DELAY_REQ_RX (13 R349, R357): answered with a Delay_Resp. -/
def delayReqRx (m bf : Nat) (mf : MalFrame) (msg : List Nat) (s : State) : State :=
  let f := mf.f
  let k := f.port
  let n := (sessOf s k f.bytes).filter (fun n => (s.sess n).role == 0)
  let uni := tbit (msg.getD 6 0) 2
  if reEpochs s then malReject m none f s
  else if uni ∧ !(n.elim false (fun n => granted s n 9)) then malReject m none f (s.addSat (R.TSV_PORT_NOGRANT_NOGRANT k) 1)
  else if !uni ∧ !(s.flag (R.TSV_PORT_CFG_MC_EN k) && isMaster s k) then malReject m none f s
  else
    let n := if uni then n else none
    let s := sealNote k n s
    if sealGate s k n = 2 then malReject m none f s
    else if sealGate s k n = 3 then s
    else match reserve s k bf (drespLen s k n) with
      | none => malWait m mf s
      | some r => drespEmit m k n f msg r s

/-- The frame of the answer to a Signaling frame f of port k: it goes to the sender, whether or not a session stands after it. -/
def sigFrame (k : Nat) (f : RxFrame) (s0 s : State) (msg : List Nat) : List Nat := ptpFrame (s.setSess 4096 (sessNew k f s0)) k (some 4096) false false msg

/-- Bytes on the line of an answer with len bytes of TLVs. -/
def sigLineLen (s : State) (k : Nat) (f : RxFrame) (len : Nat) : Nat :=
  lineLen (sigFrame k f s s (List.replicate (len + 44 + (if sealGate s k (sessOf s k f.bytes) = 1 then 26 else 0)) 0)).length

/-- The answer emitted at its reservation r: ans are its TLVs, s the state after them, s0 before. -/
def sigEmit (m : Nat) (f : RxFrame) (msg : List Nat) (r : (Nat × Bool) × Nat) (s0 : State) (ans : List Nat) (s : State) : State :=
  let k := f.port
  let sg := signaling k (msgPid msg) ans s
  let s := sealNote k (sessOf sg.2 k f.bytes) sg.2
  let sl := sealMsg k (sessOf s k f.bytes) sg.1 s
  let s := ptpSent k false (malCnt m 9 (malPop m sl.2))
  malEmit m k r { src := 1, bytes := sigFrame k f s0 s sl.1, ip := true, udp := true, tag := f.tag } s

/-- The unicast TLVs of a message taken in order: the TLVs that answer them, and the state. -/
def sigAll (k : Nat) (f : RxFrame) (msg : List Nat) (s : State) : List Nat × State :=
  (sigTlvs msg).foldl (fun (a : List Nat × State) t =>
    let r := sigTlv k f t a.2
    (a.1 ++ r.1, r.2)) ([], s)

/-- A Signaling message with unicast TLVs (13 R350): all in order, answered in one message. -/
def signalRx (m bf : Nat) (mf : MalFrame) (msg : List Nat) (s : State) : State :=
  let f := mf.f
  let k := f.port
  let len := sigAnsLen msg
  let go := sigAll k f msg s
  if len = 0 then ptpTaken m f go.2
  else
    let gate := sealGate s k (sessOf s k f.bytes)
    if gate = 3 then sealNote k (sessOf s k f.bytes) s
    else match reserve s k bf (sigLineLen s k f len) with
    | none => malWait m mf s
    | some r =>
      if 2 ≤ gate then
        let sg := signaling k (msgPid msg) go.1 go.2
        ptpTaken m f (sealNote k (sessOf sg.2 k f.bytes) sg.2)
      else sigEmit m f msg r s go.1 go.2

/-- Is a PTP message one that the instance takes (13 R346)? 0 taken, 1 for the host path, 2 malformed. -/
def ptpParse (s : State) (k : Nat) (b : List Nat) : Nat :=
  let m := b.drop (ptpAt b)
  let ty := ptpType m
  let known := ty = 0 ∨ ty = 1 ∨ ty = 8 ∨ ty = 9 ∨ ty = 11 ∨ (ty = 12 ∧ !(sigTlvs (ptpOf b)).isEmpty)
  if m.length < 34 ∨ m.length < be16 m 2 ∨ be16 m 2 < (if ty = 9 then 54 else if ty = 11 then 64 else 44) then 2
  else if !ptpOn s k ∨ m.getD 1 0 % 16 ≠ 2 ∨ m.getD 4 0 ≠ s.get R.TSV_PTP_CFG_DOMAIN ∨ !known then 1
  else 0

/-- The session that a frame of port k concerns: the unicast session of its sender, else the port's multicast client. -/
def ptpWho (s : State) (k : Nat) (b : List Nat) : Option Nat := match sessOf s k b with | some n => some n | none => clientOf s k b

/-- A message of type ty received on port k counts, once. -/
def ptpHeard (k ty : Nat) (s : State) : State :=
  let s := s.addSat (R.TSV_PORT_RX_MSG_RX_MSG k) 1
  if ty = 0 ∨ ty = 1 then pmcAdd 197 1 { port := some k } s else s

/-- An Announce of a sender without a unicast session is kept for the port (13 R347). -/
def annKeep (k : Nat) (b : List Nat) (s : State) : State :=
  if (sessOf s k b).isNone then s.setTsv { s.tsv with anns := tset none s.tsv.anns k (some (msgDataset (ptpOf b))) } else s

/-- A verified message of each type acts. -/
def ptpAct (m bf : Nat) (mf : MalFrame) (s : State) : State :=
  let f := mf.f
  let k := f.port
  let msg := ptpOf f.bytes
  let ty := ptpType msg
  if ty = 1 then delayReqRx m bf mf msg s
  else if ty = 12 then signalRx m bf mf msg s
  else
    let u := if ty = 11 then annKeep k f.bytes s else s
    ptpTaken m f (match clientOf s k f.bytes with
      | none => u
      | some n =>
        match ty with
        | 0 => syncRx n f msg (heard n u)
        | 8 => followUpRx n msg (heard n u)
        | 9 => delayRespRx n msg (heard n u)
        | _ => announceRx n f msg (heard n u))

/-- The stages of a PTP frame at the head of Mallet m. -/
def ptpFrameRx (m bf : Nat) (mf : MalFrame) (s : State) : State :=
  let f := mf.f
  let k := f.port
  let b := f.bytes
  let p := ptpParse s k b
  if p = 2 then malReject m (some 4) f s
  else if p = 1 then malToHost m f s
  else if mf.wait.isSome then ptpAct m bf mf s
  else
    let n := ptpWho s k b
    let vr := ptpVerify k n (ptpOf b) s
    if vr.1 = 2 then vr.2
    else if vr.1 = 1 then authFail m k n f vr.2
    else ptpAct m bf mf (ptpHeard k (ptpType (ptpOf b)) vr.2)

/-- The head of Mallet m's queue, where it is of the kinds named and does not wait for the edge. -/
def malHead (s : State) (m : Nat) (ok : List Nat → Bool) : Option MalFrame :=
  match (s.mal m).q.head? with
  | none => none
  | some mf => if ok mf.f.bytes && mf.wait.isNone && !unitDown s (.mallet m) && domOn s 2 then some mf else none

/-- A queued frame that is a PTP message of the type named. -/
def isPtp (ty : Nat) (b : List Nat) : Bool := (frameKind b == 1 || frameKind b == 2) && ptpType (ptpOf b) == ty

/-- A Signaling message whose first unicast TLV is of the types named. -/
def isSig (tys : List Nat) (b : List Nat) : Bool := isPtp 12 b && ((sigTlvs (ptpOf b)).head?).elim false (fun t => tys.contains t.1)

/-- After the edge, the head that waited is built (13 R332). -/
def retryHead (m bf : Nat) (s : State) : State :=
  match (s.mal m).q.head? with
  | none => s
  | some mf =>
    if mf.wait.elim true (fun w => decide (s.strokes ≤ w)) then s
    else match frameKind mf.f.bytes with
      | 3 => ntpRequest m bf mf s
      | 6 => ntsRequest m bf mf s
      | 4 => arpRequest m bf mf s
      | 5 => nsRequest m bf mf s
      | _ => ptpFrameRx m bf mf s

/-- And the originated messages that waited are sent. -/
def retryDue (m bf : Nat) (s : State) : State :=
  let l := (s.mal m).due.filter (fun o => decide (o.wait < s.strokes))
  let s := s.setMal m { s.mal m with due := (s.mal m).due.filter (fun o => decide (s.strokes ≤ o.wait)) }
  l.foldl (fun s o =>
    if o.kind = 1 then dreqTx o.who bf s
    else if o.who < 4096 then syncTx (s.sess o.who).port (some o.who) bf s else syncTx (o.who - 4096) none bf s) s

/-- RESERVE_RETRY (13 R332). -/
def reserveRetry (m bf : Nat) (s : State) : State := retryDue m bf (retryHead m bf s)

/-! ## The session table (13 R351, R352) -/

/-- The bytes of an entry (13 R351). -/
def sessBytes (s : State) (n : Nat) : List Nat :=
  let v := s.sess n
  let fill := fun (k : Nat) (l : List Nat) => (l ++ List.replicate k 0).take k
  [v.st + 8 * v.role + 32 * bit v.v6 + 64 * bit v.auth + 128 * bit v.twoStep, v.port] ++ leBytes 2 v.vlan ++ fill 16 v.ip ++ fill 6 v.mac ++ fill 10 v.pid
    ++ [v.spp] ++ fill 3 v.logs ++ leBytes 2 (satW 16 (grantLeft s v.ann)) ++ leBytes 2 (satW 16 (grantLeft s v.sync)) ++ leBytes 2 (satW 16 (grantLeft s v.dresp))
    ++ leBytes 2 v.annSeq ++ leBytes 2 v.syncSeq ++ leBytes 2 v.dreqSeq ++ leBytes 6 (v.nextRaw % 2 ^ 48) ++ [v.laddr, 0]
    ++ leBytes 2 (if v.st = 0 then 0 else satW 16 (s.strokes - v.lastRx)) ++ leBytes 2 v.sflags

/-- The entry in SESS_W0…W15. -/
def sessWords (s : State) : List Nat := (List.range 16).flatMap (fun w => leBytes 4 (s.get (R.TSV_SESS_W_ENTRY w)))

/-- The session that an entry's bytes describe. -/
def sessFrom (s : State) (b : List Nat) : Sess :=
  let c := b.getD 0 0
  { role := c / 8 % 4, v6 := tbit c 5, auth := tbit c 6, twoStep := tbit c 7, port := b.getD 1 0 % 16, vlan := ofLe (sub b 2 2), ip := sub b 4 16, mac := sub b 20 6,
    pid := sub b 26 10, spp := b.getD 36 0, logs := sub b 37 3, annSeq := ofLe (sub b 46 2), syncSeq := ofLe (sub b 48 2), dreqSeq := ofLe (sub b 50 2),
    nextRaw := s.now, nextAnn := s.now, laddr := b.getD 58 0 % 32, lastRx := s.strokes, since := s.now, annAt := s.now, syncAt := s.now }

/-- SESS_CMD.READ (13 R351). -/
def sessRead (s : State) : State :=
  let b := sessBytes s (s.get R.TSV_SESS_IDX_IDX)
  (List.range 16).foldl (fun s w => s.put (R.TSV_SESS_W_ENTRY w) (ofLe (sub b (4 * w) 4))) (s.put R.TSV_SESS_CMD_BUSY 1)

/-- SESS_CMD.WRITE (13 R351, R352): a client entry to a FREE index. -/
def sessWrite (s : State) : State :=
  let n := s.get R.TSV_SESS_IDX_IDX
  let v := sessFrom s (sessWords s)
  let s := s.put R.TSV_SESS_CMD_BUSY 1
  if (v.role = 1 ∨ v.role = 2) ∧ (s.sess n).st = 0 then
    if v.role = 2 then s.setSess n { v with st := 2 } else sendRequests n grantTypes (s.setSess n { v with st := 1 })
  else s.put R.TSV_SESS_CMD_ERR 1

/-- SESS_CMD.FREE (13 R352). -/
def sessCancel (s : State) : State :=
  let n := s.get R.TSV_SESS_IDX_IDX
  let v := s.sess n
  let s := s.put R.TSV_SESS_CMD_BUSY 1
  if v.st = 0 then s
  else
    let s := sendCancels n s
    if v.role = 0 then sessFree n s else sessGo n 4 s

/-- GRANT_RENEW (13 R352): where a type of an ACTIVE client has a quarter of its duration or less left. -/
def grantRenew (n : Nat) (s : State) : State :=
  let v := s.sess n
  let l := grantTypes.filter (fun ty => (grantOf v ty).elim false (fun g => decide (4 * (g.until' - s.now) ≤ g.dur * secCounts)))
  if v.st = 2 ∧ v.role = 1 ∧ !l.isEmpty then sendRequests n l (sessGo n 3 s) else s

/-- GRANT_EXPIRE (13 R352). -/
def grantExpire (n : Nat) (s : State) : State :=
  let v := s.sess n
  if v.st ≠ 2 ∧ v.st ≠ 3 then s
  else if v.role = 0 then (if grantTypes.all (fun ty => !granted s n ty) then sessFree n s else s)
  else if v.role = 1 ∧ grantTypes.any (fun ty => !granted s n ty) then
    let s := sessGo n 1 s
    raiseEvt R.TSV_EVT_SESS_TIMEOUT 187 (s.setSess n { s.sess n with sflags := withBit v.sflags 0 true })
  else s

/-- REQUEST_RETRY (13 R352): 3 s in REQUESTING without all grants. -/
def requestRetry (n : Nat) (s : State) : State :=
  let v := s.sess n
  if v.st = 1 ∧ v.since + 3 * secCounts ≤ s.now then
    sendRequests n grantTypes (s.setSess n { v with sflags := withBit v.sflags 1 true, since := s.now })
  else s

/-- PTP_SESSION_LOS (13 R353): 3 Announce or Sync intervals without one. -/
def sessLos (n : Nat) (s : State) : State :=
  let v := s.sess n
  let logS := if v.role = 2 then s.getI (R.TSV_PORT_LOG_SYNC_LOG v.port) else sbyte (v.logs.getD 1 0)
  if v.role ≠ 0 ∧ 1 ≤ v.st ∧ v.st ≤ 3 ∧ !v.los ∧ (annOut s v ∨ v.syncAt + 3 * logCounts logS ≤ s.now) then
    let s := s.setSess n { v with los := true }
    match vMon s 4 n with
    | some m => vPush m { los := true, raw := s.raw * 4096 } s
    | none => s
  else s

/-- Is the sample of a PTP reference LOS (04 R105)? For the snapshot at an edge. -/
def ptpLos (s : State) (n : Nat) : Bool := (s.sess n).los || (s.sess n).st == 0

/-- One port's state as the BMCA task publishes it, and the portIdentity of the master it chose. -/
def bmcaPort (k st : Nat) (parent : List Nat) (s : State) : State :=
  let alt := s.get R.TSV_PTP_CFG_PROFILE != 0
  let st := if alt && s.flag (R.TSV_PORT_CFG_NOT_SLAVE k) && st == 9 then 7 else st
  let s := (s.put (R.TSV_PORT_STAT_PORT_STATE k) st).put (R.TSV_PORT_STAT_STALE k) 0
  let n := s.get (R.TSV_PORT_MC_SESS_MC_IDX k)
  if parent.length = 10 ∧ s.flag (R.TSV_PORT_MC_SESS_MC_SESS_EN k) ∧ (s.sess n).role = 2 ∧ (s.sess n).st = 2 then
    s.setSess n { s.sess n with pid := parent }
  else s

end Sys2Proof.Machine
end

