-- ==== Sys2Proof/Machine/TsvCmd.lean ====
section
/-! DEFINITION. The commands of the time services (13). A row of a received message acts on the head of Mallet m's queue where that is the row's message
(log entry 51). -/

namespace Sys2Proof.Machine

/-- The head of a Mallet's queue run through a handler, where it is of the row's kind. -/
def onHead (m : Nat) (ok : List Nat → Bool) (h : MalFrame → State → State) (s : State) : State :=
  match malHead s m ok with
  | some mf => h mf s
  | none => s

/-- NTP_REQUEST (13 R338). -/
def execNtpRequest (m : Fin 8) (bf : Nat) (dt : Nat) (s : State) : Host.Outcome State Fault Refusal :=
  live s (onHead m (fun b => frameKind b == 3) (ntpRequest m bf) (s.tick dt))

/-- RESERVE_RETRY (13 R332). -/
def execReserveRetry (m : Fin 8) (bf : Nat) (dt : Nat) (s : State) : Host.Outcome State Fault Refusal := live s (reserveRetry m bf (s.tick dt))

/-- NTS_REQUEST (13 R341 to R345). -/
def execNtsRequest (m : Fin 8) (bf : Nat) (dt : Nat) (s : State) : Host.Outcome State Fault Refusal :=
  live s (onHead m (fun b => frameKind b == 6) (ntsRequest m bf) (s.tick dt))

/-- ARP_REQUEST (13 R327). -/
def execArpRequest (m : Fin 8) (bf : Nat) (dt : Nat) (s : State) : Host.Outcome State Fault Refusal :=
  live s (onHead m (fun b => frameKind b == 4) (arpRequest m bf) (s.tick dt))

/-- NEIGHBOUR_SOLICITATION (13 R327). -/
def execNeighbourSolicitation (m : Fin 8) (bf : Nat) (dt : Nat) (s : State) : Host.Outcome State Fault Refusal :=
  live s (onHead m (fun b => frameKind b == 5) (nsRequest m bf) (s.tick dt))

/-- NTS_KEY_EXPIRE (13 R340). -/
def execNtsKeyExpire (j : Fin 8) (dt : Nat) (s : State) : Host.Outcome State Fault Refusal := live s (ntsExpire j (s.tick dt))

/-- SYNC_TX (13 R349). -/
def execSyncTx (k : Fin 16) (n : Option (Fin 4096)) (bf : Nat) (dt : Nat) (s : State) : Host.Outcome State Fault Refusal :=
  live s (syncTx k (n.map Fin.val) bf (s.tick dt))

/-- FOLLOW_UP_TX (13 R349). -/
def execFollowUpTx (k : Fin 16) (dt : Nat) (s : State) : Host.Outcome State Fault Refusal := live s (followUpTx k (s.tick dt))

/-- ANNOUNCE_TX (13 R348). -/
def execAnnounceTx (k : Fin 16) (n : Option (Fin 4096)) (dt : Nat) (s : State) : Host.Outcome State Fault Refusal :=
  live s (announceTx k (n.map Fin.val) (s.tick dt))

/-- DELAY_REQ_TX (13 R353). -/
def execDelayReqTx (n : Fin 4096) (bf : Nat) (dt : Nat) (s : State) : Host.Outcome State Fault Refusal := live s (dreqTx n bf (s.tick dt))

/-- SYNC_RX (13 R353). -/
def execSyncRx (m : Fin 8) (bf : Nat) (dt : Nat) (s : State) : Host.Outcome State Fault Refusal :=
  live s (onHead m (isPtp 0) (ptpFrameRx m bf) (s.tick dt))

/-- FOLLOW_UP_RX (13 R353). -/
def execFollowUpRx (m : Fin 8) (bf : Nat) (dt : Nat) (s : State) : Host.Outcome State Fault Refusal :=
  live s (onHead m (isPtp 8) (ptpFrameRx m bf) (s.tick dt))

/-- DELAY_REQ_RX (13 R349). -/
def execDelayReqRx (m : Fin 8) (bf : Nat) (dt : Nat) (s : State) : Host.Outcome State Fault Refusal :=
  live s (onHead m (isPtp 1) (ptpFrameRx m bf) (s.tick dt))

/-- DELAY_RESP_RX (13 R353). -/
def execDelayRespRx (m : Fin 8) (bf : Nat) (dt : Nat) (s : State) : Host.Outcome State Fault Refusal :=
  live s (onHead m (isPtp 9) (ptpFrameRx m bf) (s.tick dt))

/-- ANNOUNCE_RX (13 R347). A PTP frame that the instance does not take goes to the host path with this row. -/
def execAnnounceRx (m : Fin 8) (bf : Nat) (dt : Nat) (s : State) : Host.Outcome State Fault Refusal :=
  live s (onHead m (fun b => (frameKind b == 1 || frameKind b == 2 || frameKind b == 0)
      && !(isPtp 0 b || isPtp 8 b || isPtp 1 b || isPtp 9 b || isSig [4, 5, 6, 7] b)) (ptpFrameRx m bf) (s.tick dt))

/-- REQUEST_UNICAST_TRANSMISSION (13 R350). -/
def execRequestUnicastTransmission (m : Fin 8) (bf : Nat) (dt : Nat) (s : State) : Host.Outcome State Fault Refusal :=
  live s (onHead m (isSig [4]) (ptpFrameRx m bf) (s.tick dt))

/-- CANCEL_UNICAST_TRANSMISSION (13 R350), and the acknowledgement of one (R352). -/
def execCancelUnicastTransmission (m : Fin 8) (bf : Nat) (dt : Nat) (s : State) : Host.Outcome State Fault Refusal :=
  live s (onHead m (isSig [6, 7]) (ptpFrameRx m bf) (s.tick dt))

/-- GRANT_RX (13 R352). -/
def execGrantRx (m : Fin 8) (bf : Nat) (dt : Nat) (s : State) : Host.Outcome State Fault Refusal :=
  live s (onHead m (isSig [5]) (ptpFrameRx m bf) (s.tick dt))

/-- GRANT_RENEW (13 R352). -/
def execGrantRenew (n : Fin 4096) (dt : Nat) (s : State) : Host.Outcome State Fault Refusal := live s (grantRenew n (s.tick dt))

/-- GRANT_EXPIRE (13 R352). -/
def execGrantExpire (n : Fin 4096) (dt : Nat) (s : State) : Host.Outcome State Fault Refusal := live s (grantExpire n (s.tick dt))

/-- REQUEST_RETRY (13 R352). -/
def execRequestRetry (n : Fin 4096) (dt : Nat) (s : State) : Host.Outcome State Fault Refusal := live s (requestRetry n (s.tick dt))

/-- CANCEL_TIMEOUT (13 R352). -/
def execCancelTimeout (n : Fin 4096) (dt : Nat) (s : State) : Host.Outcome State Fault Refusal :=
  live s (
    let s := s.tick dt
    if (s.sess n).st = 4 ∧ (s.sess n).since + secCounts ≤ s.now then sessFree n s else s)

/-- PTP_SESSION_LOS (13 R353). -/
def execPtpSessionLos (n : Fin 4096) (dt : Nat) (s : State) : Host.Outcome State Fault Refusal := live s (sessLos n (s.tick dt))

/-- SESS_READ (13 R351). -/
def execSessRead (s : State) : Host.Outcome State Fault Refusal := live s (sessRead s)

/-- SESS_WRITE (13 R351). -/
def execSessWrite (dt : Nat) (s : State) : Host.Outcome State Fault Refusal := live s (sessWrite (s.tick dt))

/-- SESS_FREE (13 R352). -/
def execSessFree (dt : Nat) (s : State) : Host.Outcome State Fault Refusal := live s (sessCancel (s.tick dt))

/-- The port states that BMCA publishes (13 R347), with the master that each port chose. -/
def bmcaRun (l : List BmcaIn) (s : State) : State :=
  l.foldl (fun s e => if e.port < 16 then bmcaPort e.port (e.state % 10) e.parent s else s) s

/-- BMCA (13 R347): the task has run; bmcaRun is published where its period ends. -/
def execBmca (l : List BmcaIn) (s : State) : Host.Outcome State Fault Refusal :=
  live s (taskHand (.bmca l) s)

/-- SESS_CMD_DONE (13 R351). -/
def execSessCmdDone (s : State) : Host.Outcome State Fault Refusal := live s (s.put R.TSV_SESS_CMD_BUSY 0)

end Sys2Proof.Machine
end

