-- ==== Sys2Proof/Machine/Prl.lean ====
section
/-! DEFINITION. PRL (15): the paths' states, the choice of the ACTIVE path, corrections and calibration, and what the pairs publish at the Stroke edges.
Cells and commands are in PrlCmd.lean. -/

namespace Sys2Proof.Machine

/-- The lane of a path (15 R386). -/
def pathLane (p : Nat) : Nat := p / 2 + 8 * (p % 2)

/-- The path of a lane. -/
def lanePath (l : Nat) : Nat := 2 * (l % 8) + l / 8

/-- The other path of the pair. -/
def otherPath (p : Nat) : Nat := if p % 2 = 0 then p + 1 else p - 1

/-- CFG_ERR (15 R386). -/
def pairErr (s : State) (k : Nat) : Bool :=
  s.flag (R.PRL_PP_CTL_EN k) &&
    !(if s.flag (R.PRL_PP_CTL_SINGLE k) then lanePrl s k
      else lanePrl s k && lanePrl s (k + 8) && laneRate s k == laneRate s (k + 8))

/-- Is a path one of its pair's (15 R386)? -/
def isPath (s : State) (p : Nat) : Bool :=
  lanePrl s (pathLane p) && (p % 2 == 0 || !s.flag (R.PRL_PP_CTL_SINGLE (p / 2)))

/-- WHERE of a path (15 R392). -/
def pathWhere (p : Nat) : Nat := p / 2 + 8 * (p % 2)

/-- TOLL_MISS × TOLL_PER in raw counts. -/
def tollSpan (s : State) : Nat := s.get R.PRL_CFG_TOLL_MISS * s.get R.PRL_CFG_TOLL_PER * 250

/-- RXOK of a path (15 R400). -/
def pathRxok (s : State) (p : Nat) : Bool :=
  match (s.path p).tollAt with
  | some t => laneActive s (pathLane p) && decide (s.now ≤ t + tollSpan s)
  | none => false

/-- Is a path's correction declared? -/
def declValid (s : State) (p : Nat) : Bool :=
  if p % 2 = 0 then s.flag (R.PRL_PP_CTL_DECL_VALID_0 (p / 2)) else s.flag (R.PRL_PP_CTL_DECL_VALID_1 (p / 2))

/-- ASYM_DECL of a path. -/
def asymDecl (s : State) (p : Nat) : Int := s.getI (R.PRL_PP_PATH_ASYM_DECL_ASYM_DECL (p / 2) (p % 2))

/-- ASYM_UNC of a path. -/
def asymUnc (s : State) (p : Nat) : Nat := s.get (R.PRL_PP_PATH_ASYM_UNC_ASYM_UNC (p / 2) (p % 2))

/-- PAIR_STATE (15 R403). -/
def pairState (s : State) (k : Nat) : Nat :=
  match actHalf s k with
  | none => 0
  | some h => if (s.path (2 * k + 1 - h)).st = 3 then 2 else 1

/-! ## What is published -/

/-- An event of a pair. -/
def prlEvt (f : Fld) (k : Nat) (s : State) : State := raiseEvt (f.bitAt k) 189 s

/-- Ends a pair's stay in LOST, or begins one (15 R403, R405): a pair that leaves LOST begins its record anew; one that enters it has no route. -/
def pairTurn (k old : Nat) (s : State) : State :=
  let n := pairState s k
  if old = n then s
  else
    let s := if n = 0 then
        let s := (prlEvt R.PRL_EVT_LOST k s).addSat (R.PRL_PP_COUNTS_LOST_CNT k) 1
        { s with dom := { s.dom with routes := tset none s.dom.routes k none } }
      else s
    let s := if old = 0 then s.setPair k { s.pair k with high := [], seen := [] } else s
    if n = 2 then prlEvt R.PRL_EVT_DUPLEX k s else s

/-- The states of a pair and its paths in their registers. -/
def pairShow (k : Nat) (s : State) : State :=
  let s := (s.put (R.PRL_PP_STAT_PAIR_STATE k) (pairState s k)).putB (R.PRL_PP_STAT_CFG_ERR k) (pairErr s k)
  let s := match actHalf s k with
    | some h => s.put (R.PRL_PP_STAT_ACT_HALF k) h
    | none => s
  let s := (s.put (R.PRL_PP_STAT_STATE_0 k) (s.path (2 * k)).st).put (R.PRL_PP_STAT_STATE_1 k) (s.path (2 * k + 1)).st
  (List.range 2).foldl (fun s h =>
    (s.put (R.PRL_PP_PATH_PSTAT_STATE k h) (s.path (2 * k + h)).st).put (R.PRL_PP_PATH_PSTAT_DOWN_WHY k h) (s.path (2 * k + h)).why) s

/-- A change of ACTIVE path (15 R401, R402): old and new half (0xFF: none) and the cause. was: PAIR_STATE before. -/
def pathChange (k was old new cause : Nat) (s : State) : State :=
  let s := s.setPair k { s.pair k with psw := 2, switch := false }
  let s := (s.addSat (R.PRL_PP_COUNTS_SW_CNT k) 1).put (R.PRL_PP_STAT_SW_CAUSE k) cause
  let s := logRec 0x180 [k, old, new, cause] (prlEvt R.PRL_EVT_SWITCH k s)
  pairShow k (pairTurn k was s)

/-! ## Corrections (15 R398) -/

/-- The least t with t² ≥ a / b. -/
def ceilSqrt (a b : Nat) : Nat :=
  let c := (a + b - 1) / b
  let r := isqrt c
  if r * r < c then r + 1 else r

/-- n × Σd² − (Σd)² of a block. -/
def blockVar (o : PrlPath) : Nat := (o.bn * o.bq - o.bs * o.bs).toNat

/-- The block's COR and COR_UNC put into effect (15 R398), and the block begun anew. unc: COR_UNC of the ACTIVE path. With fewer than two exchanges s is not
stated: a free value. -/
def learnCor (p unc : Nat) (s : State) : State :=
  let o := s.path p
  let n := o.bn
  let cor := roundDiv o.bs n
  let kc := s.get R.PRL_CAL_CFG_KCAL
  let f := s.fresh 32
  let sd := if n < 2 then f.1 else isqrt (4096 * blockVar o / (n * (n - 1)))
  let term := if n < 2 then kc * f.1 else ceilSqrt (kc * kc * 4096 * blockVar o) (n * n * (n - 1))
  let v := unc + term + 32
  let v := if declValid s p then min v (asymUnc s p + 64 * (cor - asymDecl s p).natAbs) else v
  let s := if n < 2 then f.2 else s
  s.setPath p { o with cor := cor, corUnc := v, learned := true, sdev := sd, bn := 0, bs := 0, bq := 0 }

/-- The declared correction put into effect. -/
def declCor (p : Nat) (s : State) : State :=
  s.setPath p { s.path p with cor := asymDecl s p, corUnc := asymUnc s p, learned := false }

/-- A path made ACTIVE. -/
def pathActive (p : Nat) (s : State) : State := s.setPath p { s.path p with st := 4, bn := 0, bs := 0, bq := 0, devs := 0 }

/-! ## The choice of the ACTIVE path (15 R401) -/

/-- SW_CAUSE of a DOWN_WHY. -/
def swCause (why : Nat) : Nat := if why = 5 then 6 else why

/-- The ACTIVE path p of a pair has gone DOWN (15 R401). -/
def activeLost (p was why : Nat) (s : State) : State :=
  let k := p / 2
  let q := otherPath p
  let o := s.path q
  let unc := (s.path p).corUnc
  let turn := fun (s : State) => pathChange k was (p % 2) (q % 2) (swCause why) (pathActive q s)
  if o.st = 3 then turn s
  else if o.st = 2 ∧ s.get R.PRL_CAL_CFG2_CAL_MIN ≤ o.bn ∧ 0 < o.bn then turn (learnCor q unc (prlEvt R.PRL_EVT_UNCAL k s))
  else if o.st = 2 ∧ declValid s q then turn (declCor q (prlEvt R.PRL_EVT_UNCAL k s))
  else pathChange k was (p % 2) 0xFF (swCause why) s

/-- A path goes DOWN (15 R399). -/
def pathDown (p why : Nat) (s : State) : State :=
  let o := s.path p
  let was := pairState s (p / 2)
  let s := s.setPath p { o with st := 0, why := why, far := 0, n := 0, bn := 0, bs := 0, bq := 0, devs := 0, barred := o.barred || why == 3 }
  let s := if why = 2 then s.addSat (R.PRL_PP_PATH_CNT_TOLL_DOWN (p / 2) (p % 2)) 1 else s
  let s := if o.st = 4 then activeLost p was why s else s
  if (why = 2 ∨ why = 4) ∧ o.st ≠ 0 then faultRaiseRep (225 + p) { subject := (o.part.getD (0, 0, 0)).1, wh := pathWhere p } s else s

/-- What a path holds since its lane last entered ACTIVE, begun anew where it has entered again, or dropped where it has left (15 R392, R393). A message that was
being sent starts over. -/
def pathRenew (p : Nat) (s : State) : State :=
  let o := s.path p
  let l := pathLane p
  let again := fun (m : PrlMsg) => if m.sent.getD (p % 2) 0 < msgCells m.bytes.length then { m with sent := m.sent.set (p % 2) 0 } else m
  let fresh : PrlPath := { o with barred := false, tollAt := none, far := 0, tollSlot := 0, timeAt := none, sent := [], rx := none, asm := [], ex := none }
  if laneActive s l && isPath s p then
    if o.upAt = some (s.lane l).timer then s
    else
      let s := s.setPath p { fresh with upAt := some (s.lane l).timer, exch := none }
      let r := s.pair (p / 2)
      s.setPair (p / 2) { r with qs := r.qs.map (fun e => (e.1, e.2.map again)) }
  else if laneStage s l = 4 then s
  else if o.upAt = none ∧ o.part = none ∧ o.exch = none then s
  else s.setPath p { fresh with upAt := none, part := none, exch := none, data := none }

/-- The first row of 15 R399 for a path. -/
def pathLevel (p : Nat) (s : State) : State :=
  let s := pathRenew p s
  let k := p / 2
  let why := if !s.flag (R.PRL_PP_CTL_EN k) || pairErr s k || (p % 2 == 1 && s.flag (R.PRL_PP_CTL_SINGLE k)) then 5
    else if laneActive s (pathLane p) then 0 else 1
  if why = 0 then s
  else if (s.path p).st ≠ 0 then pathDown p why s
  else if (s.path p).why = why then s
  else s.setPath p { s.path p with why := why }

/-- A pair's level rows, half 0 first. -/
def pairLevel (k : Nat) (s : State) : State := pathLevel (2 * k + 1) (pathLevel (2 * k) s)

/-- Every pair's level rows: lane loss and enables act at once (15 R399, R401; 11 R289). -/
def prlSync (s : State) : State := (List.range 8).foldl (fun s k => pairLevel k s) s

/-! ## At the Stroke edge -/

/-- x of an exchange on a path (15 R395), 2^-10 ns. -/
def pathX (s : State) (p : Nat) (e : PrlEx) : Int := e.theta - (s.path p).cor

/-- The exchange that a path completed in the Stroke that ends. -/
def strokeEx (s : State) (p : Nat) : Option PrlEx :=
  match (s.path p).ex with
  | some e => if e.stroke + 1 = s.strokes then some e else none
  | none => none

/-- HOP of a pair's ACTIVE path (15 R397), 2^-16 ns. -/
def pairHop (s : State) (k h : Nat) (e : PrlEx) : Nat :=
  let f := (vMon s 5 k).elim 0 (fun m => (s.getEI (R.RMON_MON_FREQ_EST_FREQ_EST m)).natAbs)
  s.get (R.PRL_PP_PATH_HOP_FAC_OWN k h) + s.get (R.PRL_PP_PATH_HOP_FAC_PARTNER k h) + (f * e.span.toNat + (2 ^ 45 - 1)) / 2 ^ 45

/-- The link's sample of the Stroke that ends (15 R396, R402). -/
def pairSample (k : Nat) (s : State) : State :=
  let psw := decide (0 < (s.pair k).psw)
  let s := if psw then s.setPair k { s.pair k with psw := (s.pair k).psw - 1 } else s
  match actHalf s k with
  | none => s
  | some h =>
    match strokeEx s (2 * k + h) with
    | none => s
    | some e =>
      let x := pathX s (2 * k + h) e
      let s := put48 (R.PRL_PP_X_LO_X k) (R.PRL_PP_X_HI_X k) x s
      let hop := pairHop s k h e
      let u : UpInfo := tget {} s.bnd.ups (4096 + k)
      let u : UpInfo := { u with hop := hop, lane := k + 8 * h }
      let s := { s.put (R.PRL_PP_HOP_HOP k) (satW 32 hop) with bnd := { s.bnd with ups := tset {} s.bnd.ups (4096 + k) u } }
      match vMon s 5 k with
      | some m => vPush m { x := satI 48 x, t := e.t4 * 2 ^ 10, raw := e.raw, has := true, psw := psw } s
      | none => s

/-- A paired exchange on path p (15 R398, R399): d into the block, a completed block into effect, and the drift check of STANDBY. -/
def pairPath (p : Nat) (e : PrlEx) (xa : Int) (unc : Nat) (s : State) : State :=
  let o := s.path p
  let d := e.theta - xa
  let dev := decide (s.get R.PRL_CAL_CFG_CAL_DEV < (d - o.cor).natAbs)
  let devs := if o.st = 3 ∧ dev then o.devs + 1 else 0
  let s := s.setPath p { o with bn := o.bn + 1, bs := o.bs + d, bq := o.bq + d * d, devs := devs }
  let full := decide (2 ^ s.get R.PRL_CAL_CFG_CAL_EXP ≤ o.bn + 1)
  if o.st = 2 then
    if full then
      let s := learnCor p unc s
      s.setPath p { s.path p with st := 3, devs := 0 }
    else s
  else if s.get R.PRL_CAL_CFG2_DEV_CNT ≤ devs then
    let s := s.setPath p { s.path p with st := 2, devs := 0, bn := 0, bs := 0, bq := 0 }
    raiseEvt (R.PRL_EVT2_CAL_DRIFT.bitAt (p / 2)) 190 s
  else if full then learnCor p unc s
  else s

/-- The path that is not ACTIVE, with the ACTIVE one's exchange (15 R398). -/
def pairLearn (k : Nat) (s : State) : State :=
  match actHalf s k with
  | none => s
  | some h =>
    let a := 2 * k + h
    let q := otherPath a
    match strokeEx s a, strokeEx s q with
    | some ea, some eq => if (s.path q).st = 2 ∨ (s.path q).st = 3 then pairPath q eq (pathX s a ea) (s.path a).corUnc s else s
    | _, _ => s

/-- The rows of SYNC (15 R399), half 0 first. -/
def syncRow (p : Nat) (s : State) : State :=
  let o := s.path p
  if o.st ≠ 1 ∨ o.n < s.get R.PRL_CFG_SYNC_N then s
  else if (s.path (otherPath p)).st = 4 then s.setPath p { o with st := 2, bn := 0, bs := 0, bq := 0 }
  else if declValid s p then pathActive p (declCor p s)
  else s

/-- SWITCH at an edge (15 R399, R407): the STANDBY path becomes ACTIVE, the other goes to STANDBY. -/
def pairSwitch (k : Nat) (s : State) : State :=
  if !(s.pair k).switch then s
  else
    let s := s.setPair k { s.pair k with switch := false }
    match actHalf s k with
    | none => s
    | some h =>
      let q := 2 * k + 1 - h
      if (s.path q).st = 3 then
        let s := s.setPath (2 * k + h) { s.path (2 * k + h) with st := 3, bn := 0, bs := 0, bq := 0, devs := 0 }
        pathChange k (s.get (R.PRL_PP_STAT_PAIR_STATE k)) h (1 - h) 5 (pathActive q s)
      else s

/-- A received UTC setting with the instant at which its leap applies (15 R406; log entry 50). -/
def utcAnnounced (s : State) (valid : Bool) (off : Int) (leap : Nat) : UtcData :=
  let d := annUtc s { cls := 0, acc := 0, var := 0, prio1 := 0, prio2 := 0, gm := [], steps := 0, flags := bit (leap == 1) + 2 * bit (leap == 2) + 4 * bit valid, utc := off }
  { d with leap := leap }

/-- The upstream data of a pair (15 R406): from the last good TIME cell of its ACTIVE path. -/
def pairUps (k : Nat) (s : State) : State :=
  match (actHalf s k).bind (fun h => (s.path (2 * k + h)).data) with
  | none => s
  | some d =>
    let b := fun (i : Nat) => d.bytes.getD (i - 7) 0
    let w := fun (i n : Nat) => ofBe (sub d.bytes (i - 7) n)
    let lo := w 34 6
    let up := w 40 6
    let unb := tbit (b 46) 0
    let s := ((s.put (R.PRL_PP_UPS_W0_BOUND k) (lo % 2 ^ 32)).put (R.PRL_PP_UPS_W1_BOUND k) (lo / 2 ^ 32 + up % 2 ^ 16 * 2 ^ 16))
    let s := (s.put (R.PRL_PP_UPS_W2_BOUND k) (up / 2 ^ 16)).put (R.PRL_PP_UPS_W3_BOUND k) (bit unb)
    let s := ((s.put (R.PRL_PP_UPS_TRACE_KIND k) (bits (b 46) 6 4)).put (R.PRL_PP_UPS_TRACE_BASIS k) (bits (b 46) 3 2)).put (R.PRL_PP_UPS_TRACE_TGT_EXC k) (bits (b 46) 1 1)
    let s := (s.put (R.PRL_PP_UPS_TRACE_ID k) (w 47 2)).put (R.PRL_PP_UPS_TRACE_HOPS k) (b 7)
    let s := ((s.put (R.PRL_PP_UPS_INFO_TRACE_SEQ k) (w 49 2)).put (R.PRL_PP_UPS_INFO_CLASS k) (b 51)).put (R.PRL_PP_UPS_INFO_ACC k) (b 52)
    let s := ((s.put (R.PRL_PP_UPS_UTC_UTC_OFS k) (w 53 2)).put (R.PRL_PP_UPS_UTC_LEAP k) (b 55 % 4)).put (R.PRL_PP_UPS_UTC_UTC_VALID k) (bits (b 55) 2 2)
    let s := s.put (R.PRL_PP_UPS_AGE_AGE k) (satW 32 ((s.now - d.at') / 31250))
    let u : UpInfo := tget {} s.bnd.ups (4096 + k)
    let u : UpInfo := { u with bound := some (lo, up, unb), taken := d.at', acc := b 52 }
    let s := { s with bnd := { s.bnd with ups := tset {} s.bnd.ups (4096 + k) u } }
    match vMon s 5 k with
    | some m =>
      let v := { s.etm with utcUp := tset {} s.etm.utcUp m (utcAnnounced s (tbit (b 55) 2) (toInt 16 (w 53 2)) (b 55 % 4)) }
      { s with etm := v }
    | none => s

/-- A path's figures in its registers. -/
def pathShow (p : Nat) (s : State) : State :=
  let k := p / 2
  let h := p % 2
  let o := s.path p
  let s := (s.putB (R.PRL_PP_PATH_PSTAT_COR_SRC k h) o.learned).put (R.PRL_PP_PATH_PSTAT_BLOCK_N k h) (satW 16 o.bn)
  let s := match o.part with
    | some r => s.put (R.PRL_PP_PATH_PSTAT_P_HALF k h) r.2.2
    | none => s
  let s := ((s.put (R.PRL_PP_PATH_COR_COR k h) (sat32 o.cor)).put (R.PRL_PP_PATH_COR_UNC_COR_UNC k h) (satW 32 o.corUnc)).put (R.PRL_PP_PATH_SDEV_SDEV k h) (satW 32 o.sdev)
  let s := s.put (R.PRL_PP_PATH_DELAY_DELAY k h) (satW 32 o.delay.toNat)
  match o.ex with
  | some e => s.put (R.PRL_PP_PATH_THETA_THETA k h) (sat32 e.theta)
  | none => s

/-- A pair's registers published (01 R33). -/
def pairPublish (k : Nat) (s : State) : State :=
  let s := pairTurn k (s.get (R.PRL_PP_STAT_PAIR_STATE k)) s
  let s := pathShow (2 * k + 1) (pathShow (2 * k) (pairShow k s))
  let part := match actHalf s k with
    | some h => (s.path (2 * k + h)).part
    | none => ((s.path (2 * k)).part).orElse (fun _ => (s.path (2 * k + 1)).part)
  let s := match part with
    | some r => (s.put (R.PRL_PP_PARTNER_NODE_ID k) r.1).put (R.PRL_PP_PARTNER_PAIR k) r.2.1
    | none => s
  match actHalf s k with
  | some h =>
    let a := (s.path (2 * k + h)).corUnc
    let u : UpInfo := { (tget {} s.bnd.ups (4096 + k) : UpInfo) with asym := a }
    { s.put (R.PRL_PP_ASYM_ASYM k) (satW 32 a) with bnd := { s.bnd with ups := tset {} s.bnd.ups (4096 + k) u } }
  | none => s

/-- A pair at a Stroke edge, before the virtual snapshots: the sample, the blocks, the rows that wait for an edge, and what is published. -/
def pairEdge (k : Nat) (s : State) : State :=
  let s := pairLearn k (pairSample k (pairLevel k s))
  let s := pairSwitch k (syncRow (2 * k + 1) (syncRow (2 * k) s))
  pairPublish k (pairUps k s)

/-- PRL at a Stroke edge. -/
def prlEdge (s : State) : State := (List.range 8).foldl (fun s k => pairEdge k s) s

/-- The correction of a declared ACTIVE path follows its declaration from the edge of the write on (15 R407). -/
def declApplied (p : Nat) (s : State) : State :=
  if (s.path p).st = 4 ∧ (s.path p).learned = false then declCor p s else s

/-- An accepted step (15 R395): no exchange across it gives a sample, and the partners are told (STEPPED). -/
def prlStepped (s : State) : State :=
  { s with prl := { s.prl with paths := s.prl.paths.map (fun e =>
      (e.1, { e.2 with sent := [], rx := e.2.rx.map (fun r => (r.1, r.2.1, r.2.2.1, true)) })) } }

end Sys2Proof.Machine
end

