-- ==== Sys2Proof/Machine/Dom.lean ====
section
/-! DEFINITION. DOM (16): routes, the election, hops and roles, the partition epoch with PART and MERGE, and the relay of fault reports. -/

namespace Sys2Proof.Machine

/-- A field of an ANN (16 R410), big-endian. -/
def annFld (r : DomRoute) (o n : Nat) : Nat := ofBe (sub r.ann o n)

/-- A pair's route. -/
def routeOf (s : State) (k : Nat) : Option DomRoute := tget none s.dom.routes k

/-- This node's NODE_ID. -/
def nodeId (s : State) : Nat := s.get R.DOM_ID_NODE_ID

/-- The tests of 16 R413 but that of STEPS; lost: the pair is LOST, and its route has stopped arriving. -/
def routeOk (s : State) (lost : Bool) (r : DomRoute) : Bool :=
  !lost && annFld r 2 2 == s.get R.DOM_ID_DOMAIN && decide (s.now ≤ r.seqAt + s.get R.DOM_CFG2_LEAD_TMO * msCounts)
    && annFld r 6 2 != nodeId s && annFld r 10 2 != nodeId s && annFld r 4 2 != nodeId s

/-- The STEPS test. -/
def stepsOk (s : State) (r : DomRoute) : Bool := decide (annFld r 9 1 + 1 ≤ s.get R.DOM_CFG2_HOPS_MAX)

/-- A pair's usable route (16 R413). -/
def usableRoute (s : State) (k : Nat) : Option DomRoute :=
  match routeOf s k with
  | some r => if routeOk s (pairLost s k) r && stepsOk s r then some r else none
  | none => none

/-- A dataset as one number, in the order of its comparison (16 R412). -/
def dataKey (prio1 cls acc var prio2 node : Nat) : Nat :=
  ((((prio1 * 256 + cls) * 256 + acc) * 65536 + var) * 256 + prio2) * 65536 + node

/-- The dataset of a route's leader. -/
def routeKey (r : DomRoute) : Nat := dataKey (annFld r 18 1) (annFld r 19 1) (annFld r 20 1) (annFld r 22 2) (annFld r 21 1) (annFld r 10 2)

/-- The node's own dataset (16 R411): PRIO1, CLASS, ACC, PRIO2, VAR. -/
def ownData (s : State) : Nat × Nat × Nat × Nat × Nat :=
  let kind := s.getE (R.BND_SET_TRACE_KIND 0)
  let b := bndOfE s 0
  let ca := if 1 ≤ kind ∧ kind ≤ 3 then (clockClass s, accCode (max b.1 b.2.1) b.2.2) else (s.get R.DOM_CFG_CAND_FREE, 0xFE)
  (s.get R.DOM_CFG_PRIO1, ca.1, ca.2, s.get R.DOM_CFG_PRIO2, s.get R.DOM_CFG2_OSC_VAR)

/-- Its key. -/
def ownKey (s : State) : Nat :=
  let d := ownData s
  dataKey d.1 d.2.1 d.2.2.1 d.2.2.2.2 d.2.2.2.1 (nodeId s)

/-- The usable routes with their pairs. -/
def usableRoutes (s : State) : List (Nat × DomRoute) := (List.range 8).filterMap (fun k => (usableRoute s k).map (fun r => (k, r)))

/-- The entry of a list with the least key, the first of equals. -/
def leastBy (f : Nat × DomRoute → Nat) : List (Nat × DomRoute) → Option (Nat × DomRoute)
  | [] => none
  | a :: t =>
    match leastBy f t with
    | none => some a
    | some b => if f a ≤ f b then some a else some b

/-- DOM's own state set. -/
def State.setDom (s : State) (d : DomSt) : State := { s with dom := d }

/-- A domain event. -/
def domEvt (f : Fld) (s : State) : State := raiseEvt f 191 s

/-- The route by which a MEMBER reaches its leader. -/
def parentRoute (s : State) : Option DomRoute := if s.dom.st = 3 then routeOf s s.dom.parent else none

/-- The loss of the leader (16 R419): the epoch is published at the next edge. -/
def leaderLost (s : State) : State :=
  let d := s.dom
  let d : DomSt := { d with pepoch := (d.pepoch + 1) % 65536, pRoot := if d.held || d.fresh then d.pRoot else d.root, fresh := true }
  domEvt R.DOM_EVT_LEADER_LOST (s.setDom d)

/-- ROOT and NOEXT of a LEADER (16 R417). -/
def leaderRoot (s : State) : Nat × Bool :=
  let kind := s.getE (R.BND_SET_TRACE_KIND 0)
  (if kind = 4 then s.getE (R.BND_SET_TRACE_ID 0) else nodeId s, kind == 0 || kind == 4)

/-- What the election reads, as it stands at the start edge of its period. -/
def domInputs (s : State) : DomIn :=
  { en := s.flag R.DOM_CFG_EN, lead := s.flag R.DOM_CFG_LEAD_EN, us := usableRoutes s, own := ownKey s, root := leaderRoot s,
    far := (List.range 8).any (fun k => match routeOf s k with | some r => routeOk s (pairLost s k) r && !stepsOk s r | none => false) }

/-- The state that follows (16 R414). -/
def electTo (st : Nat) (par : Nat × DomRoute) (s : State) : State :=
  let d := s.dom
  let l := if st = 2 then nodeId s else if st = 3 then annFld par.2 10 2 else d.leader
  let s := if d.leader = l then s else domEvt R.DOM_EVT_LEADER_CHG s
  let s := if st = 2 ∧ d.st ≠ 2 then domEvt R.DOM_EVT_BECAME_LEADER s else s
  let d : DomSt := { s.dom with st := st, leader := l }
  if st = 2 then
    let r := s.dom.inp.root
    let n := (d.lseqOwn + 1) % 2 ^ 32
    s.setDom { d with steps := 0, root := r.1, noext := r.2, lseqOwn := n, lseq := n }
  else if st = 3 then
    s.setDom { d with steps := annFld par.2 9 1 + 1, parent := par.1, root := annFld par.2 12 2, noext := tbit (annFld par.2 8 1) 1, lseq := annFld par.2 14 4 }
  else s.setDom { d with steps := 255 }

/-- The U_L that this node sends (16 R420). -/
def sentRate (s : State) : Nat :=
  let b := s.bset 0
  if s.dom.st = 2 then
    (if b.basis = 2 ∨ b.basis = 3 then satW 32 ((b.u + (2 ^ 32 - 1)) / 2 ^ 32) else if b.basis = 1 then 0 else 2 ^ 32 - 1)
  else (parentRoute s).elim (2 ^ 32 - 1) (fun r => annFld r 24 4)

/-- M_OFS (16 R421), 2^-10 ns, with the X that PRL published at the last edge. -/
def domMofs (s : State) : Int :=
  match parentRoute s with
  | some r => toInt 48 (annFld r 28 6) + toInt 48 (s.getE2 (R.PRL_PP_X_LO_X s.dom.parent) (R.PRL_PP_X_HI_X s.dom.parent))
  | none => 0

/-- This node's ANN (16 R410). In SEEK the fields that the rule does not give are as last held. -/
def annMsg (s : State) : List Nat :=
  let d := s.dom
  let own := ownData s
  let ds := if d.st = 2 then [own.1, own.2.1, own.2.2.1, own.2.2.2.1] ++ beBytes 2 own.2.2.2.2
    else (routeOf s d.parent).elim (List.replicate 6 0) (fun r => sub r.ann 18 6)
  let parent := if d.st = 2 then nodeId s else s.get (R.PRL_PP_PARTNER_NODE_ID d.parent)
  let lseq := if d.st = 3 then (routeOf s d.parent).elim d.lseq (fun r => annFld r 14 4) else d.lseq
  [1, 1] ++ beBytes 2 (s.get R.DOM_ID_DOMAIN) ++ beBytes 2 (nodeId s) ++ beBytes 2 parent
    ++ [bit (d.st == 2) + 2 * bit d.noext + 4 * bit d.held, d.steps] ++ beBytes 2 d.leader ++ beBytes 2 d.root ++ beBytes 4 lseq ++ ds
    ++ beBytes 4 (sentRate s) ++ beBytes 6 (ofInt 48 (satI 48 (domMofs s))) ++ beBytes 2 d.pepoch ++ [0, 0]

/-- The election's output in its registers. -/
def domShow (s : State) : State :=
  let d := s.dom
  let s := ((s.put R.DOM_STAT_STATE d.st).put R.DOM_STAT_STEPS d.steps).put R.DOM_STAT_PARENT d.parent
  let s := ((s.putB R.DOM_STAT_PARENT_VALID (d.st == 3)).putB R.DOM_STAT_NOEXT d.noext).put R.DOM_STAT_STALE 0
  let s := ((s.put R.DOM_LEADER_LEADER d.leader).put R.DOM_LEADER_ROOT d.root).put R.DOM_LSEQ_LSEQ d.lseq
  (s.put R.DOM_EPOCH_PEPOCH d.pepoch).put R.DOM_EPOCH_P_ROOT d.pRoot

/-- EN = 0 (16 R414): OFF, the epoch cleared, PART and MERGE 0. -/
def domOff (s : State) : State :=
  let s := s.setDom { s.dom with st := 0, held := false, fresh := false }
  domShow { s.put R.DOM_STAT_EPOCH_HELD 0 with bnd := { s.bnd with part := {} } }

/-- The election's output (16 R410 to R419), from what it read at its start edge. -/
def election (s : State) : State :=
  let i := s.dom.inp
  if !i.en then domOff s
  else
    let us := i.us
    let s := if i.far then domEvt R.DOM_EVT_HOPS_OVER s else s
    let s := if s.dom.st = 3 ∧ us.all (fun e => annFld e.2 10 2 != s.dom.leader) then leaderLost s else s
    let best := leastBy (fun e => routeKey e.2) us
    let lead := i.lead && (match best with | some b => decide (i.own < routeKey b.2) | none => true)
    let s := if lead then electTo 2 (0, { ann := [], at' := 0, seqAt := 0 }) s
      else match best with
        | some b =>
          match leastBy (fun e => annFld e.2 9 1) (us.filter (fun e => annFld e.2 10 2 == annFld b.2 10 2)) with
          | some p => electTo 3 p s
          | none => electTo 3 b s
        | none => electTo 1 (0, { ann := [], at' := 0, seqAt := 0 }) s
    domShow (msgAll 0 none (annMsg s) s)

/-! ## What is received -/

/-- A DOMAIN message delivered from pair k (16 R410, R413). -/
def annRx (k : Nat) (b : List Nat) (s : State) : State :=
  if !s.flag R.DOM_CFG_EN || b.getD 0 0 != 1 || decide (b.length < 38) then s
  else
    let r : DomRoute := { ann := b, at' := s.now, seqAt := s.now }
    let r : DomRoute := match routeOf s k with
      | some o => if annFld o 14 4 = annFld r 14 4 then { r with seqAt := o.seqAt } else r
      | none => r
    let s := s.setDom { s.dom with routes := tset none s.dom.routes k (some r) }
    let s := if annFld r 2 2 ≠ s.get R.DOM_ID_DOMAIN then domEvt R.DOM_EVT_FOREIGN s else s
    if (annFld r 10 2 = nodeId s ∧ s.dom.st ≠ 2) ∨ annFld r 4 2 = nodeId s then
      faultRaiseRep 249 { subject := nodeId s, wh := k } (domEvt R.DOM_EVT_DUP_ID s)
    else s

/-- A new relay hold, in raw counts (16 R424). -/
def holdEnd (s : State) : Nat := s.now + s.get R.DOM_CFG3_RELAY_HOLD * 10 * msCounts

/-- A report relayed on every other pair that is not LOST (16 R424). -/
def relay (k : Nat) (b : List Nat) (s : State) : State :=
  (msgAll 1 (some k) (putBytes b 1 [b.getD 1 0 - 1]) s).addSat R.DOM_RELAY_CNT_RELAYED 1

/-- The end of a hold (16 R424 step 4). -/
def holdDone (e : DomHold) (s : State) : State :=
  let rest := s.dom.table.filter (fun x => x != e)
  if e.pending = 0 then s.setDom { s.dom with table := rest }
  else
    let s := s.setDom { s.dom with table := rest ++ [{ e with pending := 0, until' := holdEnd s }] }
    reportSend e.subject e.code 1 e.wh e.pending s

/-- The holds that have ended. -/
def relayHolds (s : State) : State :=
  (s.dom.table.filter (fun e => decide (e.until' ≤ s.now))).foldl (fun s e => holdDone e s) s

/-- The relay table's work on a report with TTL above 0 (16 R424 step 4). -/
def relayTable (k : Nat) (b : List Nat) (s : State) : State :=
  let sub2 := be16 b 6
  let code := be16 b 8
  let mine := fun (e : DomHold) => e.subject == sub2 && e.code == code
  if s.dom.table.any mine then
    let t := s.dom.table.map (fun e => if mine e then { e with pending := satW 16 (e.pending + be16 b 26) } else e)
    (s.setDom { s.dom with table := t }).addSat R.DOM_RELAY_CNT_SUPPRESSED 1
  else if 256 ≤ s.dom.table.length then domEvt R.DOM_EVT_RELAY_FULL (relay k b s)
  else
    relay k b (s.setDom { s.dom with table := s.dom.table ++ [{ subject := sub2, code := code, until' := holdEnd s, pending := 0, wh := k }] })

/-- A FAULT message delivered from pair k (16 R424). -/
def faultRx (k : Nat) (b : List Nat) (s : State) : State :=
  if !s.flag R.DOM_CFG_EN || decide (b.length < 28) || be16 b 2 != s.get R.DOM_ID_DOMAIN then s
  else
    let key := (be16 b 4, be16 b 10)
    if s.dom.cache.contains key then s.addSat R.DOM_RELAY_CNT_DUP 1
    else
      let s := s.setDom { s.dom with cache := key :: s.dom.cache.take 1023 }
      let s := faultRaiseRep 250 { subject := be16 b 6, wit := be16 b 26, code := be16 b 8 % 512, wh := k } s
      if b.getD 1 0 = 0 then s.addSat R.DOM_RELAY_CNT_TTL_END 1
      else if s.flag R.DOM_CFG_RELAY_EN then relayTable k b (relayHolds s)
      else s

/-! ## At the Stroke edge -/

/-- A route's content in the pair's registers. -/
def routeShow (k : Nat) (s : State) : State :=
  match routeOf s k with
  | none =>
    let s := ((s.put (R.DOM_PP_ROLE_SPLIT k) 0).put (R.DOM_PP_ROLE_P_STEPS k) 255).put (R.DOM_PP_P_AGE_AGE k) 0
    ((((s.put (R.DOM_PP_P_LEADER_LEADER k) 0).put (R.DOM_PP_P_LEADER_ROOT k) 0).put (R.DOM_PP_P_LSEQ_LSEQ k) 0).put (R.DOM_PP_P_FLAGS_FLAGS k) 0).put (R.DOM_PP_P_U_L_U_L k) (2 ^ 32 - 1)
  | some r =>
    let s := (s.putB (R.DOM_PP_ROLE_SPLIT k) (annFld r 6 2 == nodeId s)).put (R.DOM_PP_ROLE_P_STEPS k) (annFld r 9 1)
    let s := ((s.put (R.DOM_PP_P_LEADER_LEADER k) (annFld r 10 2)).put (R.DOM_PP_P_LEADER_ROOT k) (annFld r 12 2)).put (R.DOM_PP_P_LSEQ_LSEQ k) (annFld r 14 4)
    let s := (s.put (R.DOM_PP_P_FLAGS_FLAGS k) (annFld r 8 1)).put (R.DOM_PP_P_U_L_U_L k) (annFld r 24 4)
    let s := put48 (R.DOM_PP_P_MOFS_LO_MOFS k) (R.DOM_PP_P_MOFS_HI_MOFS k) (toInt 48 (annFld r 28 6)) s
    let u : UpInfo := { (tget {} s.bnd.ups (4096 + k) : UpInfo) with leader := annFld r 12 2 }
    { s.put (R.DOM_PP_P_AGE_AGE k) (satW 32 ((s.now - r.seqAt) / 31250)) with bnd := { s.bnd with ups := tset {} s.bnd.ups (4096 + k) u } }

/-- A pair's usable route as DOM's stage reads it: with PAIR_STATE as PRL published it at the last edge. -/
def stageRoute (s : State) (k : Nat) : Option DomRoute :=
  match routeOf s k with
  | some r => if routeOk s (s.getE (R.PRL_PP_STAT_PAIR_STATE k) == 0) r && stepsOk s r then some r else none
  | none => none

/-- A pair's ROLE (16 R416): 0 NONE, 1 UP, 2 OTHER. -/
def roleOf (s : State) (k : Nat) : Nat :=
  match stageRoute s k with
  | some r => if s.dom.st ≠ 0 ∧ annFld r 10 2 = s.dom.leader then (if annFld r 9 1 < s.dom.steps then 1 else 2) else 0
  | none => 0

/-- ROLE, and the class that it presents to the monitor (16 R416). -/
def roleEdge (k : Nat) (s : State) : State :=
  let r := roleOf s k
  let s := if s.get (R.DOM_PP_ROLE_ROLE k) = r then s else domEvt R.DOM_EVT_ROLE_CHG s
  (s.put (R.DOM_PP_ROLE_ROLE k) r).putB (R.DOM_PP_ROLE_USABLE k) (stageRoute s k).isSome

/-- The class and accuracy presented for a pair. -/
def roleClass (k : Nat) (s : State) : State :=
  let c := if s.get (R.DOM_PP_ROLE_ROLE k) = 1 then s.getE (R.PRL_PP_UPS_INFO_CLASS k) else 255
  qualityRx 5 k c (s.getE (R.PRL_PP_UPS_INFO_ACC k)) (s.put (R.DOM_PP_ROLE_CLASS_MON k) c)

/-- The pair that set 0 tracks, where its ROLE is UP. -/
def trackUp (s : State) : Option Nat :=
  let m := s.getE (R.SEL_TCH_STAT_SELECTED 0)
  if s.getE (R.BND_SET_STAT_BASIS 0) = 1 ∧ 16 ≤ m ∧ m < 32 ∧ s.getE (R.RMON_MON_SRC_VTYPE m) = 5 ∧ s.get (R.DOM_PP_ROLE_ROLE (s.getE (R.RMON_MON_SRC_VIDX m))) = 1
  then some (s.getE (R.RMON_MON_SRC_VIDX m)) else none

/-- Does the epoch end at this edge (16 R422)? -/
def mergeDone (s : State) : Bool :=
  if s.dom.st = 2 then s.getE (R.BND_SET_STAT_BASIS 0) == 1 && s.getE (R.BND_SET_TRACE_KIND 0) != 4
  else if s.dom.st = 3 then
    match (trackUp s).bind (routeOf s) with
    | some r => !tbit (annFld r 8 1) 1 && !tbit (annFld r 8 1) 2
    | none => false
  else false

/-- The offset that MERGE carries (16 R421), 2^-16 ns, signed. -/
def mergeOfs (s : State) : Option Int :=
  match parentRoute s with
  | none => none
  | some r =>
    if s.dom.held && (trackUp s).isNone then
      let m := domMofs s
      let g := (s.get R.DOM_MGROW_MGROW * 125000 * ((s.now - r.at') / 31250) + (2 ^ 24 - 1)) / 2 ^ 24
      let v : Int := (m.natAbs * 64 + g : Nat)
      some (if m < 0 then -v else v)
    else none

/-- What the election's output gives at an edge: the epoch, u_L, M_OFS, and BND's conditions (16 R419 to R422). -/
def domTerms (s : State) : State :=
  let s := if s.dom.fresh then
      let s := s.setDom { s.dom with fresh := false, held := true }
      (s.put R.DOM_EPOCH_RAW_LO_RAW (s.raw % 2 ^ 32)).put R.DOM_EPOCH_RAW_HI_RAW (s.raw / 2 ^ 32)
    else s
  let u := (parentRoute s).elim (2 ^ 32 - 1) (fun r => annFld r 24 4)
  let s := put48 R.DOM_MOFS_LO_M_OFS R.DOM_MOFS_HI_M_OFS (domMofs s) (s.put R.DOM_U_L_U_L u)
  let s := if s.dom.held && mergeDone s then
      let s := domEvt R.DOM_EVT_MERGE_DONE (s.setDom { s.dom with held := false })
      { s with bnd := { s.bnd with part := {} } }
    else s
  let act := s.dom.held && s.getE (R.BND_SET_TRACE_KIND 0) == 4 && s.dom.noext
  let p : PartSt := { s.bnd.part with on := act, was := s.bnd.part.on, own := s.dom.st == 2, rate := if u = 2 ^ 32 - 1 then none else some u, merge := mergeOfs s }
  ({ s with bnd := { s.bnd with part := p } }.putB R.DOM_STAT_EPOCH_HELD s.dom.held).putB R.DOM_STAT_PART_ACT act

/-- DOM at a Stroke edge, on the routes and on what PRL published as of the last edge. While the election's output is stale, what it gives stays (16 R414). -/
def domStage (s : State) : State :=
  let s := (List.range 8).foldl (fun s k => routeShow k s) s
  let stale := (taskSt s .election).stale
  let s := s.putB R.DOM_STAT_STALE stale
  let s := if stale then s else domTerms ((List.range 8).foldl (fun s k => roleEdge k s) s)
  (List.range 8).foldl (fun s k => roleClass k s) s

/-- DOM's stage, with the routes that have arrived since kept for the next edge. -/
def domEdge (s : State) : State :=
  let live := s.dom.routes
  let t := domStage (s.setDom { s.dom with routes := s.dom.routesE })
  t.setDom { t.dom with routes := live, routesE := live }

end Sys2Proof.Machine
end

