-- ==== Sys2Proof/Machine/PrlCmd.lean ====
section
/-! DEFINITION. The cells of the Porarir lines, sent and received (15 R387 to R405), and the commands of PRL and DOM. -/

namespace Sys2Proof.Machine

/-- A cell with its CRC (15 R388). -/
def mkCell (kind flags seq : Nat) (body : List Nat) : List Nat :=
  let b := [kind, flags] ++ beBytes 2 seq ++ (body ++ List.replicate 56 0).take 56
  b ++ leBytes 4 (crc32 b)

/-- Is a received cell whole: 64 bytes, a good CRC and a KIND that is not reserved (15 R388)? -/
def cellOk (b : List Nat) : Bool :=
  b.length == 64 && b.drop 60 == leBytes 4 (crc32 (b.take 60)) && [0, 1, 2, 3, 4, 8, 9, 10].contains (b.getD 0 0)

/-- A received cell's bytes. -/
def cellBytes (b : List Byte) : List Nat := b.map BitVec.toNat

/-- A dropped cell (15 R388). -/
def cellBad (p : Nat) (s : State) : State :=
  let s := s.setPath p { s.path p with crc := (s.path p).crc + 1 }
  pmcCount (272 + p) (s.addSat (R.PRL_PP_PATH_CNT_CRC_ERR (p / 2) (p % 2)) 1)

/-! ## Sending (15 R389) -/

/-- The IDLE cell. -/
def idleCell : List Nat := mkCell 0 0x10 0 []

/-- A path whose training counts belong to the stay in TRAIN that runs. -/
def trnPath (s : State) (p : Nat) : PrlPath :=
  let o := s.path p
  let t := (s.lane (pathLane p)).timer
  if o.trnAt = some t then o else { o with trnAt := some t, ready := 0, trained := false, sts := 0 }

/-- A TRN cell (15 R390); at RATE 0 no equaliser is adapted and nothing is requested. -/
def trnCell (p req : Nat) (ready : Bool) (s : State) : List Nat × State :=
  let o := trnPath s p
  let req := if laneRate s (pathLane p) = 0 then 0 else req
  (mkCell 3 0x10 0 [req, o.sts, bit ready], s.setPath p { o with sts := 0, trained := ready })

/-- An EXCH cell (15 R392). -/
def exchCell (p : Nat) (s : State) : List Nat × State :=
  let k := p / 2
  let refused := ((s.path p).exch).any (fun e => e.2 == 0)
  let ready := s.flag (R.PRL_PP_CTL_EN k) && !pairErr s k && !refused
  let body := [1, laneRate s (pathLane p)] ++ beBytes 2 (nodeId s) ++ beBytes 2 (s.get R.DOM_ID_DOMAIN) ++ [pathWhere p, bit ready]
    ++ beBytes 2 (s.get (R.PRL_PP_PATH_HOP_FAC_OWN k (p % 2)))
  (mkCell 4 0x10 0 body, s.setPath p { s.path p with timeAt := some s.strokes })

/-- A TIME cell (15 R393, R394). wf: the index of its word 0. -/
def timeCell (p wf : Nat) (s : State) : List Nat × State :=
  let l := pathLane p
  let o := s.path p
  let st := wordStamp (s.lane l).tx (laneRate s l) wf 0
  let ttx := etOf (etTotal s.etm st.1)
  let b := bndOfE s 0
  let u := s.etm.utcCur
  let bf := bit b.2.2 + 2 * s.getE (R.BND_SET_STAT_TGT_EXC 0) + 4 * s.getE (R.BND_SET_STAT_BASIS 0) + 16 * s.getE (R.BND_SET_TRACE_KIND 0)
  let rx := o.rx.getD (0, 0, true, false)
  let trx := if o.rx.isSome then beBytes 12 (etPack rx.2.1) else List.replicate 12 0
  let body := beBytes 2 (nodeId s) ++ [pathWhere p, s.dom.steps] ++ beBytes 12 (etPack ttx) ++ beBytes 2 rx.1 ++ trx ++ beBytes 6 b.1 ++ beBytes 6 b.2.1
    ++ [bf] ++ beBytes 2 (s.getE (R.BND_SET_TRACE_ID 0)) ++ beBytes 2 (s.getE (R.BND_SET_SEQ_TRACE_SEQ 0)) ++ [clockClass s, accCode (max b.1 b.2.1) b.2.2]
    ++ beBytes 2 (ofInt 16 u.offset) ++ [u.leap + 4 * bit u.valid]
  let flags := 0x10 + 0x20 * bit rx.2.2.2 + 0x40 * bit st.2 + 0x80 * bit rx.2.2.1
  (mkCell 1 flags o.timeSeq body,
    s.setPath p { o with timeSeq := (o.timeSeq + 1) % 65536, timeAt := some s.strokes, sent := (o.timeSeq, ttx, st.2) :: o.sent.take 15 })

/-- The toll period that runs since the lane's entry to ACTIVE. -/
def tollSlotNow (s : State) (p : Nat) : Nat := (s.now - (s.lane (pathLane p)).timer) / (max 1 (s.get R.PRL_CFG_TOLL_PER) * 250)

/-- A TOLL cell (15 R400). -/
def tollCell (p : Nat) (s : State) : List Nat × State :=
  let o := s.path p
  let view := bit (pathRxok s p) + 2 * bit (pathRxok s (otherPath p)) + 4 * bit (o.st == 4)
  (mkCell 2 0x10 o.tollSeq (beBytes 2 (nodeId s) ++ [pathWhere p, view] ++ beBytes 2 (o.crc % 65536)),
    s.setPath p { o with tollSeq := (o.tollSeq + 1) % 65536, tollSlot := tollSlotNow s p })

/-- The first message of a kind that a half has still to send. -/
def msgHead (s : State) (p kind : Nat) : Option PrlMsg :=
  (tget [] (s.pair (p / 2)).qs kind).find? (fun m => decide (m.sent.getD (p % 2) 0 < msgCells m.bytes.length))

/-- The kind whose cell leaves next (15 R389): the message in progress, else FAULT, DOMAIN, MGMT. -/
def msgKind (s : State) (p : Nat) : Option Nat :=
  match [1, 0, 2].find? (fun c => (msgHead s p c).any (fun m => decide (0 < m.sent.getD (p % 2) 0))) with
  | some c => some c
  | none => [1, 0, 2].find? (fun c => (msgHead s p c).isSome)

/-- A message's cell (15 R404). -/
def msgCell (kind : Nat) (m : PrlMsg) (frag : Nat) : List Nat :=
  let n := m.bytes.length
  let body := if frag = 0 then beBytes 2 n ++ m.bytes.take 54 else sub m.bytes (54 + 56 * (frag - 1)) 56
  mkCell (8 + kind) (frag + 16 * bit (frag + 1 == msgCells n)) m.seq body

/-- The messages that every ACTIVE lane of the pair has sent leave the queues. -/
def msgClean (k : Nat) (s : State) : State :=
  let on := fun (h : Nat) => isPath s (2 * k + h) && laneActive s (k + 8 * h)
  let done := fun (m : PrlMsg) => (on 0 || on 1) && (List.range 2).all (fun h => !on h || decide (msgCells m.bytes.length ≤ m.sent.getD h 0))
  let r := s.pair k
  if r.qs.any (fun e => e.2.any done) then
    s.setPair k { r with qs := r.qs.foldl (fun t e => tset [] t e.1 (e.2.filter (fun m => !done m))) [] }
  else s

/-- The next cell of a message, where one is queued. -/
def sendMsg (p : Nat) (s : State) : Option (List Nat × State) :=
  match msgKind s p with
  | none => none
  | some c =>
    match msgHead s p c with
    | none => none
    | some m =>
      let f := m.sent.getD (p % 2) 0
      let r := s.pair (p / 2)
      let q := (tget [] r.qs c).map (fun x => if x = m then { x with sent := x.sent.set (p % 2) (f + 1) } else x)
      some (msgCell c m f, s.setPair (p / 2) { r with qs := tset [] r.qs c q })

/-- The cell that leaves at a cell boundary of a lane (15 R389). -/
def nextCell (l wf req : Nat) (ready : Bool) (s : State) : List Nat × State :=
  let p := lanePath l
  let st := laneStage s l
  if st = 2 then trnCell p req ready s
  else if st = 4 then (if (s.path p).timeAt = some s.strokes then (idleCell, s) else exchCell p s)
  else if st ≠ 5 ∨ !isPath s p then (idleCell, s)
  else if s.gen.edgeNow + 500 ≤ s.now ∧ (s.path p).timeAt ≠ some s.strokes then timeCell p wf s
  else if 1 ≤ tollSlotNow s p ∧ (s.path p).tollSlot ≠ tollSlotNow s p then tollCell p s
  else (sendMsg p (msgClean (p / 2) s)).getD (idleCell, s)

/-- A cell boundary of a lane in Porarir mode. -/
def cellBoundary (l wf req : Nat) (ready : Bool) (s : State) : State :=
  let s := prlSync s
  if !lanePrl s l || decide (laneStage s l < 2) || decide (5 < laneStage s l) then s
  else
    let r := nextCell l wf req ready s
    let s := msgClean (lanePath l / 2) r.2
    { s with prl := { s.prl with cells := tset [] s.prl.cells l r.1 } }

/-! ## Receiving -/

/-- A cell taken in by a lane: none where it is dropped. -/
def cellIn (l kind : Nat) (b : List Nat) (s : State) : Bool × State :=
  let s := prlSync s
  if !lanePrl s l || decide (laneStage s l < 2) || decide (5 < laneStage s l) then (false, s)
  else if !cellOk b then (false, cellBad (lanePath l) s)
  else (b.getD 0 0 == kind, s)

/-- One coefficient's request (15 R390): its new code, and what STS reports. -/
def coefStep (req top code : Nat) : Nat × Nat :=
  if req = 1 then (if top ≤ code then (code, 3) else (code + 1, 1))
  else if req = 2 then (if code = 0 then (code, 2) else (code - 1, 1))
  else (code, 0)

/-- The equaliser requests of a TRN cell (15 R390). INIT starts from the preset, the lane's TXEQ. -/
def trnRx (l : Nat) (b : List Nat) (s : State) : State :=
  let p := lanePath l
  if laneStage s l ≠ 2 then s
  else
    let req := b.getD 4 0
    let t := if tbit req 6 then rdWord s (0x0C1008 + 0x100 * l) else (s.lane l).taps
    let pre := coefStep (req % 4) 31 (bits t 4 0)
    let main := coefStep (bits req 3 2) 63 (bits t 13 8)
    let post := coefStep (bits req 5 4) 31 (bits t 20 16)
    let s := s.setLane l { s.lane l with taps := withBits (withBits (withBits t 4 0 pre.1) 13 8 main.1) 20 16 post.1 }
    let o := trnPath s p
    s.setPath p { o with sts := pre.2 + 4 * main.2 + 16 * post.2, ready := if tbit (b.getD 6 0) 0 then o.ready + 1 else 0 }

/-- Why an EXCH cell is refused (15 R392): 0 it is not, 1 a condition, 2 the last condition. -/
def exchBad (s : State) (p : Nat) (b : List Nat) : Nat :=
  let n := be16 b 6
  let wh := b.getD 10 0
  let far := (s.path (otherPath p)).part
  if far.any (fun r => decide (n ≠ r.1 ∨ wh % 8 ≠ r.2.1 ∨ wh / 8 % 2 = r.2.2)) then 2
  else if b.getD 4 0 ≠ 1 ∨ b.getD 5 0 ≠ laneRate s (pathLane p) ∨ n = nodeId s ∨ be16 b 8 ≠ s.get R.DOM_ID_DOMAIN then 1
  else if !tbit (b.getD 11 0) 0 then 1
  else 0

/-- An EXCH cell (15 R392): the count of identical cells (0: refused), MISWIRE, the partner recorded on acceptance. -/
def exchRx (l : Nat) (b : List Nat) (s : State) : State :=
  let p := lanePath l
  let o := s.path p
  if laneStage s l ≠ 4 ∨ !isPath s p ∨ o.part.isSome ∨ o.exch.any (fun e => e.2 == 0) then s
  else
    let bad := exchBad s p b
    if bad ≠ 0 then
      let s := s.setPath p { o with exch := some (b, 0) }
      if bad = 2 then
        faultRaiseRep (241 + p / 2) { subject := be16 b 6, wh := pathWhere p } (raiseEvt (R.PRL_EVT2_MISWIRE.bitAt (p / 2)) 190 s)
      else s
    else
      let n := match o.exch with
        | some e => if e.1 = b then e.2 + 1 else 1
        | none => 1
      let s := s.setPath p { o with exch := some (b, n) }
      if 16 ≤ n then
        let s := s.setPath p { s.path p with part := some (be16 b 6, b.getD 10 0 % 8, b.getD 10 0 / 8 % 2) }
        s.put (R.PRL_PP_PATH_HOP_FAC_PARTNER (p / 2) (p % 2)) (be16 b 12)
      else s

/-- The exchange that a partner TIME cell completes (15 R395), and d. -/
def pathExchange (s : State) (p : Nat) (b : List Nat) (st : Nat × Bool) : Option (PrlEx × Int) :=
  let fl := b.getD 1 0
  if tbit fl 5 || tbit fl 6 || tbit fl 7 || st.2 then none
  else
    match (s.path p).sent.find? (fun e => e.1 == be16 b 20) with
    | none => none
    | some e =>
      if e.2.2 then none
      else
        let t1 := e.2.1
        let t2 := etUnpack (ofBe (sub b 22 12))
        let t3 := etUnpack (ofBe (sub b 8 12))
        let t4 := etOf (etTotal s.etm st.1)
        some ({ stroke := s.strokes, theta := ((t2 - t1) - (t4 - t3)) / 2 / 64, t4 := t4, raw := st.1, span := t4 - t1 },
          ((t2 - t1) + (t4 - t3)) / 2)

/-- A partner TIME cell (15 R393 to R396). wf: the index of its word 0. -/
def timeRx (l wf : Nat) (b : List Nat) (s : State) : State :=
  let p := lanePath l
  if !laneActive s l || !isPath s p then s
  else
    let st := wordStamp (s.lane l).rx (laneRate s l) wf 0
    let e := pathExchange s p b st
    let at' := ((s.now : Int) - rawDiff s.raw (st.1 / 4096)).toNat
    let o := s.path p
    let o : PrlPath := { o with rx := some (be16 b 2, etOf (etTotal s.etm st.1), st.2, false), data := some { bytes := sub b 7 49, at' := at' } }
    let o : PrlPath := match e with
      | some r => { o with ex := some r.1, delay := r.2 / 64, n := if o.st = 1 then o.n + 1 else o.n }
      | none => o
    pmcCount (256 + p) (s.setPath p o)

/-- A TOLL cell (15 R399). -/
def tollRx (l : Nat) (b : List Nat) (s : State) : State :=
  let p := lanePath l
  let o := s.path p
  if !laneActive s l || !isPath s p then s
  else
    let good := o.part.any (fun r => decide (be16 b 4 = r.1 ∧ b.getD 6 0 = r.2.1 + 8 * r.2.2))
    let rxok := tbit (b.getD 7 0) 0
    if !good then (if o.st = 0 then s else pathDown p 3 s)
    else
      let far := if rxok then 0 else o.far + 1
      let s := s.setPath p { o with tollAt := some s.now, far := far }
      if o.st ≠ 0 then (if s.get R.PRL_CFG_TOLL_MISS ≤ far then pathDown p 4 s else s)
      else if rxok && !o.barred && s.flag (R.PRL_PP_CTL_EN (p / 2)) && !pairErr s (p / 2) then
        s.setPath p { s.path p with st := 1, n := 0, far := 0 }
      else s

/-- The message that a cell completes on a path (15 R405), with a count of abandoned copies. -/
def asmStep (a : Option (Nat × Nat × Nat × List Nat)) (seq frag : Nat) (last : Bool) (body : List Nat) :
    Option (Nat × Nat × Nat × List Nat) × Nat × Option (List Nat) :=
  let lost := match a with
    | some x => if x.2.1 < 16 ∧ (frag = 0 ∨ x.1 ≠ seq ∨ x.2.1 ≠ frag) then 1 else 0
    | none => 0
  let cont : Option (Nat × List Nat) := if frag = 0 then some (ofBe (body.take 2), body.drop 2)
    else match a with
      | some x => if x.1 = seq ∧ x.2.1 = frag then some (x.2.2.1, x.2.2.2 ++ body) else none
      | none => none
  match cont with
  | none =>
    let again := a.any (fun x => decide (16 ≤ x.2.1 ∧ x.1 = seq))
    (some (seq, 99, 0, []), if again then 0 else max lost 1, none)
  | some c =>
    if last then
      if 1 ≤ c.1 ∧ c.1 ≤ c.2.length then (none, lost, some (c.2.take c.1)) else (none, lost + 1, none)
    else (some (seq, frag + 1, c.1, c.2), lost, none)

/-- An accepted message delivered (15 R405; 20 R520). -/
def msgDeliver (p kind : Nat) (b : List Nat) (s : State) : State :=
  let k := p / 2
  if kind = 0 then annRx k b s
  else if kind = 1 then faultRx k b s
  else if s.flag R.HST_MGMT_CFG_EN && tbit (s.get R.HST_MGMT_CFG_PAIRS) k then
    mgmtPush { msg := b, port := none, pair := k, node := ((s.path p).part.getD (0, 0, 0)).1 } s
  else s

/-- A copy complete on a path meets the pair's deduplication (15 R405). -/
def msgDedup (p kind seq : Nat) (b : List Nat) (s : State) : State :=
  let k := p / 2
  let r := s.pair k
  let take := fun (h : Nat) (seen : List Nat) => s.setPair k { r with high := tset none r.high kind (some h), seen := tset [] r.seen kind seen }
  let seen := tget [] r.seen kind
  let near := fun (h : Nat) (x : Nat) => decide ((h + 65536 - x) % 65536 ≤ 63)
  match tget none r.high kind with
  | none => msgDeliver p kind b (take seq [seq])
  | some h =>
    let d := (seq + 65536 - h) % 65536
    if 1 ≤ d ∧ d ≤ 32767 then msgDeliver p kind b (take seq (seq :: seen.filter (near seq)))
    else if near h seq then
      if seen.contains seq then s.addSat (R.PRL_PP_MSGCNT_DUP_CNT k) 1 else msgDeliver p kind b (take h (seq :: seen))
    else s.addSat (R.PRL_PP_MSGCNT_STALE_CNT k) 1

/-- A message cell (15 R404, R405). -/
def msgRx (l : Nat) (b : List Nat) (s : State) : State :=
  let p := lanePath l
  if !laneActive s l || !isPath s p then s
  else
    let kind := b.getD 0 0 - 8
    let o := s.path p
    let r := asmStep (tget none o.asm kind) (be16 b 2) (b.getD 1 0 % 16) (tbit (b.getD 1 0) 4) (sub b 4 56)
    let s := s.setPath p { o with asm := tset none o.asm kind r.1 }
    let s := if r.2.1 = 0 then s else s.addSat (R.PRL_PP_MSGCNT2_FRAG_ERR (p / 2)) r.2.1
    match r.2.2 with
    | some m => msgDedup p kind (be16 b 2) m s
    | none => s

/-! ## The commands -/

/-- CELL_BOUNDARY (15 R389): the cell that lane l sends. wf: the index of its word 0; req, ready: the requests and the readiness of this end's receiver in TRAIN. -/
def execCellBoundary (l : Fin 16) (wf : BitVec 48) (req : BitVec 8) (ready : Bool) (dt : Nat) (s : State) : Host.Outcome State Fault Refusal :=
  live s (cellBoundary l wf.toNat req.toNat ready (s.tick dt))

/-- TIME_CELL_RX (15 R395). -/
def execTimeCellRx (l : Fin 16) (b : List Byte) (wf : BitVec 48) (dt : Nat) (s : State) : Host.Outcome State Fault Refusal :=
  live s (
    let r := cellIn l 1 (cellBytes b) (s.tick dt)
    if r.1 then timeRx l wf.toNat (cellBytes b) r.2 else r.2)

/-- TOLL_RX (15 R399). -/
def execTollRx (l : Fin 16) (b : List Byte) (dt : Nat) (s : State) : Host.Outcome State Fault Refusal :=
  live s (
    let r := cellIn l 2 (cellBytes b) (s.tick dt)
    if r.1 then tollRx l (cellBytes b) r.2 else r.2)

/-- TRN_CELL_RX (15 R390). -/
def execTrnCellRx (l : Fin 16) (b : List Byte) (dt : Nat) (s : State) : Host.Outcome State Fault Refusal :=
  live s (
    let r := cellIn l 3 (cellBytes b) (s.tick dt)
    if r.1 then trnRx l (cellBytes b) r.2 else r.2)

/-- EXCH_CELL_RX (15 R392). -/
def execExchCellRx (l : Fin 16) (b : List Byte) (dt : Nat) (s : State) : Host.Outcome State Fault Refusal :=
  live s (
    let r := cellIn l 4 (cellBytes b) (s.tick dt)
    if r.1 then exchRx l (cellBytes b) r.2 else r.2)

/-- MSG_CELL_RX (15 R405). -/
def execMsgCellRx (l : Fin 16) (b : List Byte) (dt : Nat) (s : State) : Host.Outcome State Fault Refusal :=
  live s (
    let kind := ((cellBytes b).getD 0 0)
    let r := cellIn l (if 8 ≤ kind then kind else 8) (cellBytes b) (s.tick dt)
    if r.1 then msgRx l (cellBytes b) r.2 else r.2)

/-- TOLL_TIMEOUT (15 R399): no valid toll for TOLL_MISS × TOLL_PER µs. -/
def execTollTimeout (k : Fin 8) (h : Fin 2) (dt : Nat) (s : State) : Host.Outcome State Fault Refusal :=
  live s (
    let s := prlSync (s.tick dt)
    let o := s.path (2 * k + h)
    if o.st ≠ 0 ∧ o.tollAt.any (fun t => decide (t + tollSpan s ≤ s.now)) then pathDown (2 * k + h) 2 s else s)

/-- SWITCH (15 R399): the STANDBY path of pair k becomes ACTIVE at the next edge; ignored without one. -/
def execPathSwitch (k : Fin 8) (s : State) : Host.Outcome State Fault Refusal :=
  live s (if pairState s k = 2 then s.setPair k { s.pair k with switch := true } else s)

/-- MSG_SEND (15 R404): a producer queues a message of a kind (0 DOMAIN, 1 FAULT, 2 MGMT) on pair k, or is refused. -/
def execMsgSend (kind : Fin 3) (k : Fin 8) (b : List Byte) (s : State) : Host.Outcome State Fault Refusal :=
  live s (msgSend kind k (cellBytes b) s)

/-- ELECTION (16 R414). -/
def execElection (s : State) : Host.Outcome State Fault Refusal :=
  live s (taskHand .election s)

/-- RELAY_HOLD_END (16 R424). -/
def execRelayHoldEnd (dt : Nat) (s : State) : Host.Outcome State Fault Refusal := live s (relayHolds (s.tick dt))

end Sys2Proof.Machine
end

