-- ==== Sys2Proof/Machine/LanCmd.lean ====
section
/-! DEFINITION. The commands of the serial lanes (11). The links that run on a lane follow its stage at once (11 R289). -/

namespace Sys2Proof.Machine

/-- After a lane's command: its level rows, and the path pairs. -/
def laneSettle (k : Nat) (s : State) : State := prlSync (laneRows k s)

/-- A lane enters ACTIVE, which it does not reach without its quad's calibration resistor (21 R527): a port announces its addresses (13 R335). -/
def laneUp (k : Nat) (s : State) : State := if laneRcal s k then arpAnnounce k (stageGo k 5 s) else s

/-- What follows LOCK. -/
def laneLocked (k : Nat) (s : State) : State := if laneExch s k then stageGo k 4 s else laneUp k s

/-- Has a lane's stage lasted as long as it may? -/
def laneExpired (s : State) (k : Nat) : Bool := decide ((s.lane k).timer + (s.lane k).limit ≤ s.now)

/-- Does an ability resolved by Clause 73 correspond to the lane's RATE (11 R287)? The numbers of the abilities are Clause 73's: A2 10GBASE-KR, A9
25GBASE-KR-S or CR-S, A10 25GBASE-KR or CR (log entry 52). -/
def hcdOk (s : State) (k a : Nat) : Bool :=
  tbit (s.get (R.LAN_LANE_AN_ADV_TECH k)) a && ((laneRate s k == 1 && a == 2) || (laneRate s k == 2 && (a == 9 || a == 10)))

/-- A probe (11 R285, R286). -/
def laneProbe (k : Nat) (found : Bool) (s : State) : State :=
  let o := s.lane k
  if laneStage s k ≠ 1 ∨ !s.flag (R.LAN_LANE_CFG_DET_EN k) ∨ o.probeAt.any (fun t => decide (s.now < t)) then s
  else
    let n := if found then o.probes + 1 else 0
    let s := (s.setLane k { o with probes := n, probeAt := some (s.now + s.get (R.LAN_LANE_TMR0_DET_PER k) * msCounts) }).putB (R.LAN_LANE_STAT_PARTNER k) found
    if 2 ≤ n then stageGo k (laneStartStage s k) s else s

/-- Has training completed at both ends of a Porarir line (15 R390)? -/
def prlTrained (s : State) (k : Nat) : Bool :=
  let o := trnPath s (lanePath k)
  o.trained && decide (8 ≤ o.ready)

/-- What a port with AN_EN = 1 advertises (11 R287): the technology ability bits, and whether it requests RS-FEC. -/
def anAdv (s : State) (k : Nat) : Nat × Bool := (s.get (R.LAN_LANE_AN_ADV_TECH k), s.flag (R.LAN_LANE_AN_ADV_F2 k))

/-- Training complete (11 R285); fec: the partner requests RS-FEC, which runs where either end does (log entry 52). -/
def laneTrained (k ctle dfe : Nat) (fec : Bool) (s : State) : State :=
  if laneStage s k ≠ 2 ∨ (lanePrl s k && !prlTrained s k) then s
  else
    let s := (s.put (R.LAN_LANE_RXEQ_CTLE k) ctle).put (R.LAN_LANE_RXEQ_DFE1 k) dfe
    stageGo k 3 (if laneAn s k then s.setLane k { s.lane k with fec := fec || (anAdv s k).2 } else s)

/-- Lock complete for the mode (11 R285, R288, R290). -/
def laneLockDone (k align : Nat) (s : State) : State :=
  if laneStage s k ≠ 3 then s
  else
    let s := (s.put (R.LAN_LANE_ALIGN_RX_ALIGN k) (align % wordUi (laneRate s k))).put (R.LAN_LANE_STAT_LOL k) 0
    laneLocked k ((s.setLane k { s.lane k with cdr := true }).put (R.LAN_LANE_STAT_HI_BER k) 0)

/-- An exchange that is accepted (11 R287; 15 R392). a: the ability that Clause 73 resolved, on an Ethernet port. -/
def laneAccept (k a : Nat) (s : State) : State :=
  let p := s.path (lanePath k)
  let ok := if lanePrl s k then p.part.isSome && p.exch.any (fun e => decide (16 ≤ e.2)) else hcdOk s k a
  if laneStage s k = 4 ∧ ok then laneUp k s else s

/-- An exchange that is refused. -/
def laneRefuse (k a : Nat) (s : State) : State :=
  if laneStage s k ≠ 4 then s
  else if lanePrl s k then (if ((s.path (lanePath k)).exch).any (fun e => e.2 == 0) then laneFail k 7 s else s)
  else if hcdOk s k a then s
  else laneFail k 5 s

/-- An injection starts (11 R293), unless one is in progress. -/
def laneInject (k n : Nat) (s : State) : State :=
  if (laneStage s k = 5 ∨ laneStage s k = 6) ∧ (s.lane k).inj = 0 then s.setLane k { s.lane k with inj := n } else s

/-- LANE_CFG_WRITE (11 R296). -/
def execLaneCfgWrite (k : Fin 16) (v : BitVec 32) (dt : Nat) (s : State) : Host.Outcome State Fault Refusal :=
  live s (
    let s := s.tick dt
    let a := 0x0C1000 + 0x100 * k.val
    prlSync (laneCfgApplied k (rdWord s a) (regWrite a v.toNat s)))

/-- LANE_TEST_ENABLE (11 R285). -/
def execLaneTestEnable (k : Fin 16) (en : Bool) (dt : Nat) (s : State) : Host.Outcome State Fault Refusal :=
  live s (laneSettle k ((s.tick dt).putB (R.LAN_LANE_CFG_TEST_EN k) en))

/-- QUAD_CFG_WRITE (11 R296). -/
def execQuadCfgWrite (q : Fin 4) (v : BitVec 32) (dt : Nat) (s : State) : Host.Outcome State Fault Refusal :=
  live s (
    let s := s.tick dt
    let a := 0x0C0100 + 0x10 * q.val
    prlSync (quadCfgApplied q (rdWord s a) (regWrite a v.toNat s)))

/-- DETECT_PROBE (11 R286): a probe that is due found a partner's termination, or none. -/
def execDetectProbe (k : Fin 16) (found : Bool) (dt : Nat) (s : State) : Host.Outcome State Fault Refusal :=
  live s (laneSettle k (laneProbe k found (s.tick dt)))

/-- TRAIN_COMPLETE (11 R285): the codes that the receiver adapted to, and RS-FEC as Clause 73 resolved it. -/
def execTrainComplete (k : Fin 16) (ctle : BitVec 4) (dfe : BitVec 8) (fec : Bool) (dt : Nat) (s : State) : Host.Outcome State Fault Refusal :=
  live s (prlSync (laneTrained k ctle.toNat dfe.toNat fec (laneSettle k (s.tick dt))))

/-- TRAIN_TIMEOUT (11 R285). -/
def execTrainTimeout (k : Fin 16) (dt : Nat) (s : State) : Host.Outcome State Fault Refusal :=
  live s (
    let s := laneSettle k (s.tick dt)
    if laneStage s k = 2 ∧ laneExpired s k then laneFail k 3 s else s)

/-- AN_FAIL (11 R285). -/
def execAnFail (k : Fin 16) (dt : Nat) (s : State) : Host.Outcome State Fault Refusal :=
  live s (
    let s := laneSettle k (s.tick dt)
    if laneStage s k = 2 ∧ laneAn s k then laneFail k 4 s else s)

/-- LOCK_COMPLETE (11 R285): align: where the word aligner found the word boundary. -/
def execLockComplete (k : Fin 16) (align : BitVec 7) (dt : Nat) (s : State) : Host.Outcome State Fault Refusal :=
  live s (prlSync (laneLockDone k align.toNat (laneSettle k (s.tick dt))))

/-- LOCK_TIMEOUT (11 R285). -/
def execLockTimeout (k : Fin 16) (dt : Nat) (s : State) : Host.Outcome State Fault Refusal :=
  live s (
    let s := laneSettle k (s.tick dt)
    if laneStage s k = 3 ∧ laneExpired s k then laneFail k 6 s else s)

/-- EXCHANGE_ACCEPT (11 R287). -/
def execExchangeAccept (k : Fin 16) (a : Fin 23) (dt : Nat) (s : State) : Host.Outcome State Fault Refusal :=
  live s (prlSync (laneAccept k a (laneSettle k (s.tick dt))))

/-- EXCHANGE_REFUSE (11 R287). -/
def execExchangeRefuse (k : Fin 16) (a : Fin 23) (dt : Nat) (s : State) : Host.Outcome State Fault Refusal :=
  live s (prlSync (laneRefuse k a (laneSettle k (s.tick dt))))

/-- EXCH_TIMEOUT (11 R285). -/
def execExchTimeout (k : Fin 16) (dt : Nat) (s : State) : Host.Outcome State Fault Refusal :=
  live s (
    let s := laneSettle k (s.tick dt)
    if laneStage s k = 4 ∧ laneExpired s k then prlSync (laneFail k 8 s) else s)

/-- LOS_ASSERT (11 R288). -/
def execLosAssert (k : Fin 16) (dt : Nat) (s : State) : Host.Outcome State Fault Refusal := live s (prlSync (laneLos k (s.tick dt)))

/-- LOS_DEASSERT (11 R288). -/
def execLosDeassert (k : Fin 16) (dt : Nat) (s : State) : Host.Outcome State Fault Refusal :=
  live s (laneSettle k ((s.tick dt).put (R.LAN_LANE_STAT_LOS k) 0))

/-- LOL (11 R285, R288): the CDR loses lock, once bit lock has been reached. -/
def execLol (k : Fin 16) (dt : Nat) (s : State) : Host.Outcome State Fault Refusal := live s (prlSync (laneLol k (s.tick dt)))

/-- BLOCK_LOSS (11 R285): block lock lost, or hi_ber. -/
def execBlockLoss (k : Fin 16) (hiBer : Bool) (dt : Nat) (s : State) : Host.Outcome State Fault Refusal :=
  live s (
    let s := laneSettle k (s.tick dt)
    if laneActive s k then
      prlSync (stageGo k 3 ((s.put (R.LAN_LANE_STAT_FAIL_WHY k) (if hiBer then 9 else 10)).putB (R.LAN_LANE_STAT_HI_BER k) hiBer))
    else s)

/-- QREF_FALLBACK (11 R284): a quad whose APLL may no longer serve changes to the system PLL tap. -/
def execQrefFallback (q : Fin 4) (dt : Nat) (s : State) : Host.Outcome State Fault Refusal := live s (quadCheck q (s.tick dt))

/-- PRBS_LOCK (11 R292): the last received bits, with those that seeded the checker. -/
def execPrbsLock (k : Fin 16) (l : List Bool) (dt : Nat) (s : State) : Host.Outcome State Fault Refusal :=
  live s (
    let s := s.tick dt
    if laneStage s k = 6 ∧ patLocks s k l ∧ !s.flag (R.LAN_LANE_PRBS_STAT_LOCK k) then
      laneEvt (R.LAN_LANE_EVT_PRBS_LOCK k) k (s.put (R.LAN_LANE_PRBS_STAT_LOCK k) 1)
    else s)

/-- PRBS_LOST (11 R292): bad of the last 1 024 bits were in error. -/
def execPrbsLost (k : Fin 16) (bad : Fin 1025) (dt : Nat) (s : State) : Host.Outcome State Fault Refusal :=
  live s (
    let s := s.tick dt
    if s.flag (R.LAN_LANE_PRBS_STAT_LOCK k) ∧ 128 < bad.val then laneEvt (R.LAN_LANE_EVT_PRBS_LOST k) k (s.put (R.LAN_LANE_PRBS_STAT_LOCK k) 0) else s)

/-- INJ_1 (11 R293). -/
def execInj1 (k : Fin 16) (s : State) : Host.Outcome State Fault Refusal := live s (laneInject k 1 s)

/-- INJ_BURST (11 R293). -/
def execInjBurst (k : Fin 16) (s : State) : Host.Outcome State Fault Refusal :=
  live s (laneInject k (s.get (R.LAN_LANE_PRBS_CTL_BURST_LEN k)) s)

/-- INJECTION_COMPLETE (11 R293). -/
def execInjectionComplete (k : Fin 16) (s : State) : Host.Outcome State Fault Refusal := live s (s.setLane k { s.lane k with inj := 0 })

/-- CHK_CLR (11 R292). -/
def execChkClr (k : Fin 16) (s : State) : Host.Outcome State Fault Refusal :=
  live s (
    let s := (s.put2 (R.LAN_LANE_BITS_LO_BITS k) (R.LAN_LANE_BITS_HI_BITS k) 0).put2 (R.LAN_LANE_ERR_LO_ERR k) (R.LAN_LANE_ERR_HI_ERR k) 0
    s.put (R.LAN_LANE_PRBS_STAT_SAT k) 0)

end Sys2Proof.Machine
end

