-- ==== Sys2Proof/Machine/Nvm.lean ====
section
/-! DEFINITION. The stores of the on-chip NVM (20 R509 to R514): SETTINGS 0, LEARNED 1 and GNSS 2, each in two copy areas; the overlay staging, MIN_SEQ, the
configuration lock and the image-key entries. -/

namespace Sys2Proof.Machine

/-- CFG's event group bit set (20 R522: interrupt source 195). -/
def cfgEvt (f : Fld) (s : State) : State := raiseEvt f 195 s

/-- CFG set. -/
def State.setCfg (s : State) (c : CfgSt) : State := { s with cfg := c }

/-! ## Copies (20 R511) -/

/-- The area that holds the valid copy of a store: the valid one with the later SEQ. -/
def validArea (n : NvmSt) (st : Nat) : Option Nat :=
  match tget none n.copies (2 * st), tget none n.copies (2 * st + 1) with
  | some a, some b => if seqLater b.seq a.seq then some 1 else some 0
  | some _, none => some 0
  | none, some _ => some 1
  | none, none => none

/-- The valid copy of a store. -/
def validCopy (n : NvmSt) (st : Nat) : Option NvmCopy := (validArea n st).bind (fun a => tget none n.copies (2 * st + a))

/-- The area a store writes into: the one that does not hold the valid copy (20 R512). -/
def storeArea (n : NvmSt) (st : Nat) : Nat := 2 * st + (validArea n st).elim 0 (fun a => 1 - a)

/-- The sequence number of the next copy. -/
def storeNext (n : NvmSt) (st : Nat) : Nat := ((validCopy n st).elim 0 (·.seq) + 1) % 2 ^ 32

/-- CFG_STORE_SEQ. -/
def storeSeqs (s : State) : State :=
  (List.range 3).foldl (fun s st => s.put (R.CFG_STORE_SEQ_SEQ st) ((validCopy s.nvm st).elim 0 (·.seq))) s

/-! ## What a store holds -/

/-- The registers of the learned model, of its count and settings, and of the steering port (06 R175, 20 R499). -/
def learnKeys : List Nat :=
  [0x060004] ++ (List.range 17).map (fun k => 0x060100 + 4 * k) ++ [0x060208, 0x06020C, 0x070010, 0x070020]

/-- The registers that the GNSS store keeps (10 R275): the position and its uncertainty. -/
def gnssKeys : List Nat := (List.range 7).map (fun k => 0x0B0040 + 4 * k)

/-- Registers' words by address. -/
def keepWords (s : State) (l : List Nat) : List (Nat × Nat) := l.map (fun a => (a, rdWord s a))

/-- The bands found, by APLL × 16 + plan, each with the words W0 to W2 it was found for, and W3 (08 R207). -/
def keepBands (s : State) : List (Nat × List Nat) :=
  (List.range 64).filterMap (fun n =>
    if s.flag (R.APL_APLL_PLAN_W3_BAND_VALID (n / 16) (n % 16)) then
      some (n, (List.range 4).map (fun w => rdWord s (0x081100 + 0x400 * (n / 16) + 0x10 * (n % 16) + 4 * w)))
    else none)

/-- What a store captures (20 R509, R512). The model is re-centred on the instant of storage (06 R175). -/
def storeContent (s : State) (st : Nat) : NvmCopy :=
  let seq := storeNext s.nvm st
  match st with
  | 0 => { seq := seq, minSeq := s.get R.CFG_MIN_SEQ_MIN_SEQ, ovl := s.cfg.ovl }
  | 1 =>
    let r := recentreNow s
    { seq := seq, learn := r.bnd.learn, words := keepWords r learnKeys, sec := etSec (etOf (etmOffset s.etm)), bands := keepBands s, clapper := s.clp.slices }
  | _ => { seq := seq, nEph := s.get R.GNT_SLEEP_STAT_N_EPH, gnss := keepWords s gnssKeys }

/-! ## The store's table (20 R512) -/

/-- Stores added to the pending mask. -/
def storeAsk (mask : Nat) (s : State) : State := s.put R.CFG_NVM_STAT_PEND (s.get R.CFG_NVM_STAT_PEND ||| mask)

/-- NVM_STATE. -/
def nvmState (s : State) : Nat := s.get R.CFG_NVM_STAT_NVM_STATE

/-- Does start-up read RUN or FAILSAFE? -/
def cfgRuns (s : State) : Bool := s.get R.CFG_STAT_STATE == 4 || s.get R.CFG_STAT_STATE == 5

/-- The lowest store of a mask. -/
def lowStore (m : Nat) : Nat := if tbit m 0 then 0 else if tbit m 1 then 1 else 2

/-- The GNSS service hears how its store ended (10 R274). -/
def gnssTold (ok : Bool) (s : State) : State :=
  if s.get R.CFG_NVM_STAT_CUR = 2 then { s with gnt := { s.gnt with storeRes := some ok } } else s

/-- IDLE with stores pending: the lowest is taken; its content is captured at the next edge. -/
def storeStart (s : State) : State :=
  let m := s.get R.CFG_NVM_STAT_PEND
  if nvmState s = 0 ∧ m ≠ 0 ∧ cfgRuns s then
    let s := s.setCfg { s.cfg with timer := s.up, cap := none, capDue := true }
    (s.put R.CFG_NVM_STAT_CUR (lowStore m)).put R.CFG_NVM_STAT_NVM_STATE 1
  else s

/-- A content captured at an edge (20 R512, 01 R33). -/
def storeCapture (s : State) : State :=
  if s.cfg.capDue then s.setCfg { s.cfg with capDue := false, cap := some (storeContent s (s.get R.CFG_NVM_STAT_CUR)) } else s

/-- A store that fails: FAIL_WHY 1 PFAIL, 2 TMO; the mask is cleared. -/
def storeFail (why : Nat) (s : State) : State :=
  let s := gnssTold false s
  let s := (s.put R.CFG_NVM_STAT_FAIL_WHY why).put R.CFG_NVM_STAT_PEND 0
  let s := s.setCfg { s.cfg with capDue := false, cap := none }
  logRec 0x1A4 [s.get R.CFG_NVM_STAT_CUR, why] (cfgEvt R.CFG_EVT_STORE_FAIL (s.put R.CFG_NVM_STAT_NVM_STATE 0))

/-- PFAIL_N asserted in ERASE or WRITE (20 R512). -/
def storePfail (s : State) : State := if nvmState s = 1 ∨ nvmState s = 2 then storeFail 1 s else s

/-- The area erased: what it held is gone, and programming begins with the header, whose SEQ is the later. -/
def storeErased (s : State) : State :=
  if nvmState s = 1 ∧ !s.cfg.capDue then
    let a := storeArea s.nvm (s.get R.CFG_NVM_STAT_CUR)
    let q := storeNext s.nvm (s.get R.CFG_NVM_STAT_CUR)
    (s.setNvm { s.nvm with copies := tset none s.nvm.copies a none, torn := tset none s.nvm.torn a (some q) }).put R.CFG_NVM_STAT_NVM_STATE 2
  else s

/-- Header and payload programmed and read back: the seal follows, or a mismatch ends it in IDLE. -/
def storeWritten (ok : Bool) (s : State) : State :=
  if nvmState s = 2 then
    if ok then s.put R.CFG_NVM_STAT_NVM_STATE 3
    else gnssTold false ((s.put R.CFG_NVM_STAT_FAIL_WHY 3).put R.CFG_NVM_STAT_NVM_STATE 0)
  else s

/-- The seal programmed: the copy is valid and the store leaves the mask. -/
def storeSealed (s : State) : State :=
  match s.cfg.cap with
  | some c =>
    if nvmState s = 3 then
      let st := s.get R.CFG_NVM_STAT_CUR
      let a := storeArea s.nvm st
      let s := gnssTold true s
      let s := s.setNvm { s.nvm with copies := tset none s.nvm.copies a (some c), torn := tset none s.nvm.torn a none }
      let s := storeSeqs (s.setCfg { s.cfg with cap := none })
      let s := (s.put R.CFG_NVM_STAT_PEND (withBit (s.get R.CFG_NVM_STAT_PEND) st false)).put R.CFG_NVM_STAT_NVM_STATE 0
      logRec 0x1A3 ([st] ++ leBytes 4 c.seq) (cfgEvt R.CFG_EVT_STORE_DONE (s.addSat R.CFG_NVM_STAT_STORE_CNT 1))
    else s
  | none => s

/-- The timer has reached NVM_TMO, yielded raw counts not counted (20 R512, R513): source 21 as well. -/
def storeTmo (yielded : Nat) (s : State) : State :=
  if (nvmState s = 1 ∨ nvmState s = 2) ∧ s.cfg.timer + yielded + s.get R.CFG_NVM_CFG_NVM_TMO * msCounts ≤ s.up then
    storeFail 2 (faultRaise 21 s)
  else s

/-- The policy's stores of LEARNED (20 R512): every LEARN_HRS hours counted from Stroke 0, or at the entry of MODEL_STATE to FULL. -/
def learnTimer (s : State) : State :=
  let h := s.get R.CFG_NVM_CFG_LEARN_HRS * 3600 * 8000
  let n := s.strokes - 1
  let s := if h ≠ 0 ∧ s.cfg.learnAt + h ≤ n then storeAsk 2 (s.setCfg { s.cfg with learnAt := n / h * h }) else s
  if s.cfg.fullDue ∧ s.flag R.CFG_NVM_CFG_ON_FULL then storeAsk 2 (s.setCfg { s.cfg with fullDue := false }) else s

/-- MODEL_STATE looked at at an edge, for the policy's second half; and the GNSS service's request (10 R274). -/
def storeEdge (s : State) : State :=
  let m := s.get R.BND_STAT_MODEL_STATE
  let s := s.setCfg { s.cfg with mWas := m, fullDue := s.cfg.fullDue || (m == 2 && s.cfg.mWas != 2) }
  let s := if s.gnt.storeReq then storeAsk 4 { s with gnt := { s.gnt with storeReq := false } } else s
  storeCapture s

/-! ## What is restored -/

/-- Learned state restored before Stroke edge 1 (06 R175, 20 R499): words as stored; with a valid RTC re-centred on Stroke edge 0, else p0 and d_f0 discarded. -/
def learnRestore (c : NvmCopy) (s : State) : State :=
  let l : LearnSt := { mstate := c.learn.mstate, since := c.learn.since, fitA := c.learn.fitA, fitB := c.learn.fitB }
  let s := (c.words.foldl (fun s w => wrWord s w.1 w.2) s).setLearn l
  let s := s.put R.BND_STAT_RESTORED 1
  let s := if s.flag R.PWR_RTC_STAT_RTC_VALID then
      let r := rtcNow s
      let d : Rat := (((r.1 + (if r.2 = 0 then 0 else 1) : Nat) : Int) - (c.sec : Int) : Int) / 86400
      let w := ratCeil ((s.get R.BND_DEF_AGE_DEF_AGE : Rat) * d)
      setEpoch 0 (recentre d (s.put R.BND_D_F0_D_F0 (satW 32 (s.get R.BND_D_F0_D_F0 + w.toNat))))
    else
      setEpoch 0 (setP0 0 ((s.put R.BND_D_F0_D_F0 0).setLearn { s.bnd.learn with mstate := 0, wasFull := c.learn.mstate == 2 }))
  s.put R.BND_STAT_MODEL_STATE (modelState s)

/-- A start's work on the stores (20 R499, R510, R511): copies cut short are discarded; MIN_SEQ, the overlay, the model, the steering port and the Clapper's
profiles are restored. The port sends its code once (07 R203). -/
def storesStart (s : State) : State :=
  let s : State := s.nvm.torn.foldl (fun (s : State) (e : Nat × Option Nat) =>
    match e.2 with
    | none => s
    | some q => logRec 0x1A5 ([e.1 / 2] ++ leBytes 4 q) (cfgEvt R.CFG_EVT_COPY_DISCARD s)) s
  let s := storeSeqs (s.setNvm { s.nvm with torn := [] })
  let s := match validCopy s.nvm 0 with
    | none => s
    | some c => ((s.put R.CFG_MIN_SEQ_MIN_SEQ c.minSeq).put R.CFG_OVL_CTL_N c.ovl.length).setCfg { s.cfg with ovl := c.ovl }
  match validCopy s.nvm 1 with
  | none => steerSend s
  | some c => steerSend (learnRestore c { s with clp := { s.clp with slices := slicesStart c.clapper } })

/-- The rest of the LEARNED and GNSS stores, loaded in RESTORE (20 R505). -/
def storesRest (s : State) : State :=
  let s := match validCopy s.nvm 1 with
    | none => s
    | some c => c.bands.foldl (fun s b =>
        let a := 0x081100 + 0x400 * (b.1 / 16) + 0x10 * (b.1 % 16)
        if (List.range 3).all (fun w => rdWord s (a + 4 * w) == b.2.getD w 0) then wrWord s (a + 12) (b.2.getD 3 0) else s) s
  match validCopy s.nvm 2 with
  | none => s
  | some c =>
    let s := if s.get R.GNT_POS_UNC_POS_UNC = 0 then c.gnss.foldl (fun s w => wrWord s w.1 w.2) s else s
    s.put R.GNT_SLEEP_STAT_N_EPH c.nEph

/-! ## Overlay, MIN_SEQ, lock, image keys -/

/-- OVL_CTL.APPEND (20 R510): ignored at 8 000. -/
def ovlAppend (s : State) : State :=
  if s.cfg.ovl.length < 8000 then
    let l := s.cfg.ovl ++ [(s.get R.CFG_OVL_ADDR_ADDR, s.get R.CFG_OVL_DATA_VALUE)]
    (s.setCfg { s.cfg with ovl := l }).put R.CFG_OVL_CTL_N l.length
  else s

/-- OVL_CTL.CLEAR (20 R510). -/
def ovlClear (s : State) : State := (s.setCfg { s.cfg with ovl := [] }).put R.CFG_OVL_CTL_N 0

/-- MIN_SEQ can only be raised (20 R510). -/
def minSeqWrite (v : Nat) (s : State) : State := if s.get R.CFG_MIN_SEQ_MIN_SEQ < v then s.put R.CFG_MIN_SEQ_MIN_SEQ v else s

/-- Configuration lock takes effect (20 R506). -/
def cfgLock (s : State) : State :=
  if s.flag R.CFG_STAT_LOCKED then s else logRec 0x1A8 [] (cfgEvt R.CFG_EVT_LOCK (s.put R.CFG_STAT_LOCKED 1))

/-- An image-key command refused (CFG_IK_STAT.IK_ERR). -/
def ikErr (s : State) : State := s.put R.CFG_IK_STAT_IK_ERR 1

/-- The hash written to CFG_IK_W0 … W7, byte 0 in W0 [7:0]. -/
def ikHash (s : State) : Nat := ofLe ((List.range 8).flatMap (fun w => leBytes 4 (rdWord s (0x160080 + 4 * w))))

/-- IK_CMD.ENROLL (20 R503): in FACTORY or PROVISIONED, an entry not yet enrolled. -/
def ikEnroll (k : Nat) (s : State) : State :=
  let lc := s.get R.GEN_LC_STATE
  if (lc = 1 ∨ lc = 2) ∧ !tbit (s.get R.CFG_IK_STAT_ENROLLED) k then
    (s.setCfg { s.cfg with ik := tset 0 s.cfg.ik k (ikHash s) }).put (R.CFG_IK_STAT_ENROLLED.bitAt k) 1
  else ikErr s

/-- IK_CMD.REVOKE (20 R503): an enrolled entry, in any state except RETIRED. -/
def ikRevoke (k : Nat) (s : State) : State :=
  if s.get R.GEN_LC_STATE ≠ 4 ∧ tbit (s.get R.CFG_IK_STAT_ENROLLED) k then s.put (R.CFG_IK_STAT_REVOKED.bitAt k) 1 else ikErr s

/-! ## The commands -/

/-- LOCK (20 R506). -/
def execCfgLock (s : State) : Host.Outcome State Fault Refusal := live s (cfgLock s)

/-- STORE (20 R512): SET is written, and its stores join the mask. -/
def execNvmStore (m : BitVec 3) (s : State) : Host.Outcome State Fault Refusal := live s (storeAsk m.toNat (s.put R.CFG_CMD_SET m.toNat))

/-- LEARN_STORE_TIMER (20 R512). -/
def execLearnStoreTimer (s : State) : Host.Outcome State Fault Refusal := live s (learnTimer s)

/-- NVM_STORE_START (20 R512). -/
def execNvmStoreStart (s : State) : Host.Outcome State Fault Refusal := live s (storeStart s)

/-- NVM_ERASE_DONE (20 R512). -/
def execNvmEraseDone (s : State) : Host.Outcome State Fault Refusal := live s (storeErased s)

/-- NVM_WRITE_DONE (20 R512): ok, the readback matches. -/
def execNvmWriteDone (ok : Bool) (s : State) : Host.Outcome State Fault Refusal := live s (storeWritten ok s)

/-- NVM_SEAL_DONE (20 R512, R513): a seal once begun is never interrupted, so it completes beside a reset that keeps the supplies. -/
def execNvmSealDone (s : State) : Host.Outcome State Fault Refusal :=
  done s (if s.pwr.rst.any (fun r => r.kind == .por) then s else storeSealed s)

/-- NVM_TMO (20 R512): yielded, the raw counts that the store yielded to the flush or the key journal. -/
def execNvmTmo (yielded dt : Nat) (s : State) : Host.Outcome State Fault Refusal := live s (storeTmo yielded (s.tick dt))

/-- APPEND (20 R510): the record is in CFG_OVL_ADDR and CFG_OVL_DATA. -/
def execOvlAppend (s : State) : Host.Outcome State Fault Refusal := live s (ovlAppend s)

/-- CLEAR (20 R510). -/
def execOvlClear (s : State) : Host.Outcome State Fault Refusal := live s (ovlClear s)

/-- MIN_SEQ_WRITE (20 R510). -/
def execMinSeqWrite (v : BitVec 32) (s : State) : Host.Outcome State Fault Refusal := live s (minSeqWrite v.toNat s)

/-- ENROLL (20 R503): IDX is written, the hash is in CFG_IK_W0 … W7. -/
def execIkEnroll (k : Fin 4) (s : State) : Host.Outcome State Fault Refusal := live s (ikEnroll k (s.put R.CFG_IK_CMD_IDX k))

/-- REVOKE (20 R503). -/
def execIkRevoke (k : Fin 4) (s : State) : Host.Outcome State Fault Refusal := live s (ikRevoke k (s.put R.CFG_IK_CMD_IDX k))

end Sys2Proof.Machine
end

