-- ==== Sys2Proof/Machine/Pwr.lean ====
section
/-! DEFINITION. PWR (19): power domains, the RTC, the system PLL and the backup oscillator, power fail, and the bank rails (21 R530, R531). -/

namespace Sys2Proof.Machine

/-- PWR set. -/
def State.setPwr (s : State) (p : PwrSt) : State := { s with pwr := p }

/-- PWR's event group bit set (19 R495: interrupt source 194). -/
def pwrEvt (f : Fld) (s : State) : State := raiseEvt f 194 s

/-! ## Domains (19 R471 to R476) -/

/-- The LTOL register of a domain (19 R472). -/
def domLtol (s : State) (d : Nat) : Nat :=
  s.getE (R.PWR_LTOL_LTOL (if d = 2 then 0 else if d = 3 then 1 else if d = 10 then 2 else if d < 8 then d - 1 else d - 1))

/-- The states a domain may be lowered to, deepest first, with the wake latency in µs (19 R471, R473): 1 IDLE, 2 RET, 3 OFF. -/
def domLow (d : Nat) : List (Nat × Nat) :=
  if d = 2 then [(2, 40), (1, 2)]
  else if d = 3 then [(3, 250), (1, 2)]
  else if 4 ≤ d ∧ d ≤ 7 then [(3, 150), (1, 2)]
  else if d = 8 ∨ d = 9 then [(3, 100), (1, 2)]
  else if d = 10 then [(3, 20)]
  else []

/-- Is a key transaction, operation or attestation in progress? -/
def keyBusy (s : State) : Bool := s.get R.KEY_STAT_TXN_STATE != 0 || s.key.att.any (fun e => e.2.isSome)

/-- Is a domain in use, by the values published at the last edge (19 R471)? -/
def domUse (s : State) (d : Nat) : Bool :=
  if d = 2 then
    keyBusy s ||
    ((s.flagE R.TSV_CTL_NTP_EN || s.flagE R.TSV_CTL_NTS_EN || s.flagE R.TSV_CTL_PTP_EN || s.flagE R.TSV_CTL_ARP_EN || s.flagE R.TSV_CTL_ND_EN) &&
      ((List.range 32).any (fun a => s.flagE (R.TSV_ADDR_SVC_VALID a)) || (List.range 16).any (fun k => s.flagE (R.TSV_PORT_CFG_PTP_EN k))))
  else if d = 3 then s.getE R.GNT_SLEEP_STAT_SLP_STATE != 2
  else if 4 ≤ d ∧ d ≤ 7 then (List.range 4).any (fun i => s.flagE (R.LAN_LANE_CFG_EN (4 * (d - 4) + i)))
  else if d = 8 ∨ d = 9 then (List.range 2).any (fun i => s.flagE (R.APL_APLL_CTL_EN (2 * (d - 8) + i)))
  else if d = 10 then
    (List.range 24).any (fun n => s.getE (R.CLP_CH_CFG_MODE n) != 0) || [3, 4, 5, 6, 7].any (fun x => s.getE (R.PWR_DOM_STATE x) == 0)
  else true

/-- The state PWR chooses for a domain (19 R472; 19 R481 for one that is shed). -/
def domTarget (s : State) (d : Nat) : Nat :=
  if tbit s.pwr.shed d then (if d = 2 then (if keyBusy s then s.get (R.PWR_DOM_STATE 2) else 2) else 3)
  else if domUse s d then 0
  else
    let l := domLtol s d
    if l = 0 then 0 else ((domLow d).find? (fun x => decide (x.2 ≤ l) || l == 0xFFFF)).elim 0 (·.1)

/-- A domain's change starts; a shed APLL's outputs stop through their Muffle first (19 R481, 08 R223). -/
def domStart (d t : Nat) (s : State) : State :=
  let s := (s.setPwr { s.pwr with changing := tset 0 s.pwr.changing d (t + 1) }).put (R.PWR_DOM_CHANGING d) 1
  if t ≠ 0 ∧ (d = 8 ∨ d = 9) then apllMuffle (2 * (d - 8) + 1) (apllMuffle (2 * (d - 8)) s) else s

/-- One domain evaluated (19 R472). A change under way is completed first (19 R496). -/
def domEval (d : Nat) (s : State) : State :=
  let s := s.putB (R.PWR_DOM_IN_USE d) (domUse s d)
  let t := domTarget s d
  if tget 0 s.pwr.changing d ≠ 0 ∨ t = s.get (R.PWR_DOM_STATE d) then s else domStart d t s

/-- Every domain evaluated at an edge. -/
def domsEdge (s : State) : State := (List.range 12).foldl (fun s d => domEval d s) s

/-- A domain's SRAM wiped and its blocks back at their start, as it leaves OFF (19 R476). -/
def domWipe (d : Nat) (s : State) : State :=
  if d = 3 then wipeUnit .gnss s
  else if 4 ≤ d ∧ d ≤ 7 then
    (List.range 4).foldl (fun s i => (wipeUnit (.mac (4 * (d - 4) + i)) s).setLane (4 * (d - 4) + i) {}) s
  else if d = 8 ∨ d = 9 then wipeUnit (.apll (2 * (d - 8) + 1)) (wipeUnit (.apll (2 * (d - 8))) s)
  else if d = 10 then
    let slices := (validCopy s.nvm 1).elim [] (fun c => slicesStart c.clapper)
    { s with clp := { s.clp with chs := [], slices := slices, warm := true, warmFrom := s.now } }
  else s

/-- The functions of a domain start as it is ON (19 R473), or stop as it is not. -/
def domFuncs (d : Nat) (s : State) : State :=
  if 4 ≤ d ∧ d ≤ 7 then
    let s := quadCheck (d - 4) s
    prlSync ((List.range 4).foldl (fun s i => laneRows (4 * (d - 4) + i) s) s)
  else if d = 8 ∨ d = 9 then
    if domOn s d then apllRows (2 * (d - 8) + 1) (apllRows (2 * (d - 8)) s)
    else (List.range 2).foldl (fun s i => apllOff (2 * (d - 8) + i) (s.setApll (2 * (d - 8) + i) { s.apll (2 * (d - 8) + i) with stop := true })) s
  else s

/-- PD_GNSS powers up: the front end's table runs under AUTO_RUN (09 R233). -/
def gnssUp (s : State) : State := if s.flag R.GNS_FE_CFG_AUTO_RUN then feRun (s.setGnt { s.gnt with feDue := false }) else s

/-- A domain's change ends in state t. -/
def domDone (d t : Nat) (s : State) : State :=
  let was := s.get (R.PWR_DOM_STATE d)
  let s := s.setPwr { s.pwr with changing := tset 0 s.pwr.changing d 0 }
  let s := (s.put (R.PWR_DOM_CHANGING d) 0).put (R.PWR_DOM_STATE d) t
  let s := if was = 3 then domWipe d s else s
  let s := if t = 0 then s.addSat (R.PWR_DOM_WAKE_CNT d) 1 else s
  let s := s.flt.resetting.foldl (fun s r => if unitDom s r.1 = some d then blockEnd r.1 s else s) s
  let s := domFuncs d s
  if d = 3 ∧ was = 3 ∧ t = 0 then gnssUp s else s

/-- A domain finishes waking. -/
def domWake (d : Nat) (s : State) : State := if tget 0 s.pwr.changing d = 1 then domDone d 0 s else s

/-- May a domain enter its lower state: the outputs of its APLLs stand still (19 R481)? -/
def domQuiet (s : State) (d : Nat) : Bool :=
  if d = 8 ∨ d = 9 then apllQuiet s (2 * (d - 8)) && apllQuiet s (2 * (d - 8) + 1) else true

/-- A domain finishes entering a lower state; one that is in use by then wakes (19 R496). -/
def domEntry (d : Nat) (s : State) : State :=
  let t := tget 0 s.pwr.changing d
  if 2 ≤ t ∧ domQuiet s d then
    let s := domDone d (t - 1) s
    if s.flag (R.PWR_DOM_IN_USE d) ∧ !tbit s.pwr.shed d then domStart d 0 s else s
  else s

/-- PD_MSG in RET woken for another block's key operation, and returned to RET after it (19 R475). -/
def msgWake (s : State) : State := if s.get (R.PWR_DOM_STATE 2) = 2 then s.addSat (R.PWR_DOM_WAKE_CNT 2) 1 else s

/-! ## The RTC (19 R477 to R479) -/

/-- The RTC set to seconds and 1/32 768 s. -/
def rtcSet (sec sub : Nat) (s : State) : State :=
  (s.setPwr { s.pwr with rtcSec := sec, rtcSub := sub, rtcUp := s.up }).put R.PWR_RTC_STAT_RTC_VALID 1

/-- RTC_VALID clears. -/
def rtcInvalid (s : State) : State :=
  if s.flag R.PWR_RTC_STAT_RTC_VALID then pwrEvt R.PWR_EVT_RTC_INVALID (s.put R.PWR_RTC_STAT_RTC_VALID 0) else s

/-- A Custodian's LOAD, ignored while ETM loads the RTC (19 R479). -/
def rtcLoad (s : State) : State :=
  if s.flag R.ETM_CTL_RTC_SYNC_EN then s
  else rtcSet (s.get R.PWR_RTC_SET_LO_SET + s.get R.PWR_RTC_SET_HI_SET * 2 ^ 32) (s.get R.PWR_RTC_SET_SUB_SET) s

/-- The crystal stops: the count stands (19 R478). -/
def xtalStop (s : State) : State :=
  let t := rtcNow s
  rtcInvalid ((s.setPwr { s.pwr with rtcSec := t.1, rtcSub := t.2, rtcUp := s.up, rtcRun := false }).put R.PWR_RTC_STAT_XTAL_OK 0)

/-- The crystal gives edges again. -/
def xtalGo (s : State) : State :=
  if s.pwr.rtcRun then s.put R.PWR_RTC_STAT_XTAL_OK 1
  else (s.setPwr { s.pwr with rtcUp := s.up, rtcRun := true }).put R.PWR_RTC_STAT_XTAL_OK 1

/-- ETM's load of the RTC at an edge (19 R479), after engine time and the bound have been published. -/
def rtcEdge (s : State) : State :=
  let t := etOf (etmOffset s.etm)
  let sec := etSec t
  let p := s.pwr
  let s := s.setPwr { p with secSeen := sec, rtcPend := p.rtcPend || sec != p.secSeen }
  if s.pwr.rtcPend && s.flag R.ETM_CTL_RTC_SYNC_EN && !s.flag (R.BND_SET_BOUND_W3_UNBOUNDED 0) && s.flag (R.TCH_CH_STAT_STEP_ERA 0)
      && s.get R.ETM_STAT_RE_STATE == 0 && !s.flag R.ETM_STAT_BACKUP_CLK && !s.flagE R.ETM_STAT_BACKUP_CLK then
    rtcSet sec ((etNs t * 65536 + etFrac t) * 32768 / secFrac) (s.setPwr { s.pwr with rtcPend := false })
  else s

/-- PD_AO lost: its next power-up finds RTC_VALID 0 and the retention SRAM zero (19 R477). -/
def aoLost (s : State) : State :=
  { s.setPwr { s.pwr with rtcSec := 0, rtcSub := 0, rtcUp := s.up, rtcRun := false } with ret := [] }.put R.PWR_RTC_STAT_RTC_VALID 0 |>.put R.PWR_RTC_STAT_XTAL_OK 0

/-! ## The system PLL and the backup oscillator (19 R488 to R490) -/

/-- The plan that the registers hold. -/
def spllPlan (s : State) : List Nat :=
  [s.get R.PWR_SPLL_CFG_SPRE, s.get R.PWR_SPLL_CFG_SFB_INT, s.get R.PWR_SPLL_NUM_SFB_NUM, s.get R.PWR_SPLL_DEN_SFB_DEN, s.get R.PWR_SPLL_OSC_HZ_OSC_HZ]

/-- Is a plan valid (19 R488)? -/
def spllOk (p : List Nat) : Bool :=
  let g := fun k => p.getD k 0
  g 4 * (g 1 * g 3 + g 2) == 2500000000 * g 0 * g 3 && decide (g 2 < g 3) && decide (1000000 * g 0 ≤ g 4) && decide (g 4 ≤ 125000000 * g 0)

/-- PWR_SPLL_STAT's word as a record's payload. -/
def spllStatBytes (s : State) : List Nat := leBytes 4 (rdWord s 0x010020)

/-- LOCK, in both registers that show it. -/
def spllLock (b : Bool) (s : State) : State := (s.putB R.PWR_STAT_SPLL_LOCK b).putB R.PWR_SPLL_STAT_LOCK b

/-- Every lane and path looked at after a change of clock (19 R489, R490). -/
def lanesClock (s : State) : State :=
  let s := (List.range 4).foldl (fun s q => quadCheck q s) s
  prlSync ((List.range 16).foldl (fun s k => laneRows k s) s)

/-- The reflex of R489: the core on the backup oscillator, bounds UNBOUNDED, services unsynchronised, lanes dropped, TIME outputs Muffled. -/
def coreBackup (s : State) : State :=
  let cyc := s.gen.edgeNow + 31250 - s.now
  let s := { s.setPwr { s.pwr with strokesB := 0 } with
    etm := { s.etm with backupFrom := some s.raw, backupTo := none }, gen := { s.gen with bkFrom := s.now, bkCyc := cyc } }
  let s := ((s.put R.PWR_STAT_BACKUP 1).put R.ETM_STAT_BACKUP_CLK 1).put R.PWR_STAT_RET_PEND 0
  let s := lanesClock (tsvUnsync (bndBackup s))
  (List.range 16).foldl (fun s k => if s.get (R.TCH_CH_CTL_MODE (s.get (R.OUT_CFG_TCH k))) = 1 then outMuffle k s else s) s

/-- Loss of lock counted and shown. -/
def spllUnlock (s : State) : State :=
  let s := (spllLock false s).put R.PWR_SPLL_CNT_STABLE_CNT 0
  pwrEvt R.PWR_EVT_SPLL_LOSS (s.addSat R.PWR_SPLL_CNT_LOSS_CNT 1)

/-- The core leaves the system PLL: source 22 only where lock was lost (19 R488, R489). -/
def spllLeave (lost : Bool) (s : State) : State :=
  let s := coreBackup (spllUnlock s)
  let s := if lost then faultRaise 22 s else s
  logRec 0x191 (spllStatBytes s) s

/-- The system PLL declares loss of lock. On the backup oscillator only its lock and its count are lost; in a reset, only the clock changes. -/
def spllLoss (s : State) : State :=
  if s.flag R.PWR_STAT_BACKUP then
    if s.flag R.PWR_SPLL_STAT_LOCK then spllUnlock s else s.put R.PWR_SPLL_CNT_STABLE_CNT 0
  else if s.pwr.rst.isSome then spllUnlock ((s.setPwr { s.pwr with strokesB := 0 }).put R.PWR_STAT_BACKUP 1)
  else spllLeave true s

/-- A plan that the registers hold is looked at, at an edge after the writes (19 R488). -/
def spllPlanEdge (s : State) : State :=
  let p := spllPlan s
  if p = s.pwr.plan then s.put R.PWR_SPLL_STAT_CFG_ERR 0
  else if spllOk p then
    let s := (s.setPwr { s.pwr with plan := p }).put R.PWR_SPLL_STAT_CFG_ERR 0
    if s.flag R.PWR_STAT_BACKUP then (spllLock false s).put R.PWR_SPLL_CNT_STABLE_CNT 0 else spllLeave false s
  else s.put R.PWR_SPLL_STAT_CFG_ERR 1

/-- The system PLL at an edge (19 R490): lock, whether it was held through the Stroke. -/
def spllEdge (lock : Bool) (s : State) : State :=
  let s := if s.flag R.PWR_STAT_BACKUP then
      let s := s.setPwr { s.pwr with strokesB := s.pwr.strokesB + 1 }
      if lock then (spllLock true s).addSat R.PWR_SPLL_CNT_STABLE_CNT 1 else (spllLock false s).put R.PWR_SPLL_CNT_STABLE_CNT 0
    else spllLock true s
  spllPlanEdge s

/-- May the core return (19 R490)? -/
def spllReady (s : State) : Bool :=
  s.flag R.PWR_STAT_BACKUP && decide (s.get R.PWR_SPLL_STAT_SPLL_STABLE ≤ s.get R.PWR_SPLL_CNT_STABLE_CNT) &&
    (s.flag R.PWR_SPLL_CFG_AUTO_RET || s.flag R.PWR_STAT_RET_PEND)

/-- The core returns to the system PLL (19 R490). -/
def spllReturn (s : State) : State :=
  if spllReady s then
    let s := { s with etm := { s.etm with backupTo := some s.raw } }
    let s := bndReturn (((s.put R.PWR_STAT_BACKUP 0).put R.ETM_STAT_BACKUP_CLK 0).put R.PWR_STAT_RET_PEND 0)
    let s := lanesClock (pwrEvt R.PWR_EVT_SPLL_RETURN s)
    logRec 0x192 (spllStatBytes s ++ leBytes 4 s.pwr.strokesB) s
  else s

/-- RETURN written (19 R490): ignored while the core runs from the system PLL. -/
def spllAsk (s : State) : State := if s.flag R.PWR_STAT_BACKUP then s.put R.PWR_STAT_RET_PEND 1 else s

/-! ## Power fail (19 R481 to R483) -/

/-- The domains that PWR_PFAIL_CFG sheds. -/
def shedMask (s : State) : Nat :=
  (if s.flag R.PWR_PFAIL_CFG_SHED_LANES then 0xF0 else 0) + (if s.flag R.PWR_PFAIL_CFG_SHED_GNSS then 8 else 0)
    + (if s.flag R.PWR_PFAIL_CFG_SHED_APLL then 0x300 else 0) + (if s.flag R.PWR_PFAIL_CFG_SHED_MSG then 4 else 0)

/-- PFAIL_N asserted: the flush, the NVM, the shedding (19 R481, 14 R375, 20 R512). A new assertion during REARM continues the episode. -/
def pfail (s : State) : State :=
  let new := !s.flag R.PWR_STAT_PFAIL
  let s := s.put R.PWR_STAT_PFAIL 1
  let s := if new then logRec 0x189 [] (pwrEvt R.PWR_EVT_PFAIL s) else s
  let s := storePfail (keyCommitFail false (flushStart true s))
  let m := s.pwr.shed ||| shedMask s
  let s := s.setPwr { s.pwr with rearm := none, shed := m, shedAny := s.pwr.shedAny || m != 0 }
  let s := s.putB R.PWR_STAT_SHED (m != 0)
  if s.pwr.rst.isSome then s else (List.range 12).foldl (fun s d => if tbit m d then domEval d s else s) s

/-- PFAIL_N returns high during an episode: the REARM wait runs from here. -/
def pfailRise (s : State) : State := if s.flag R.PWR_STAT_PFAIL then s.setPwr { s.pwr with rearm := some s.up } else s

/-- The episode ends once PFAIL_N has stayed high for REARM ms (19 R483). -/
def pfailEnd (s : State) : State :=
  match s.pwr.rearm with
  | some t =>
    if s.flag R.PWR_STAT_PFAIL ∧ t + s.get R.PWR_PFAIL_CFG_REARM * msCounts ≤ s.up then
      let any := s.pwr.shedAny
      let s := s.setPwr { s.pwr with rearm := none, shed := 0, shedAny := false }
      let s := pwrEvt R.PWR_EVT_PFAIL_CLR ((s.put R.PWR_STAT_PFAIL 0).put R.PWR_STAT_SHED 0)
      if any then logRec 0x195 (leBytes 4 (rdWord s 0x010028)) s else s
    else s
  | none => s

/-! ## VBAT and the banks (19 R477, 21 R530, R531) -/

/-- VBAT falls below 1.7 V: with the main supplies absent PD_AO is lost. -/
def vbatFall (s : State) : State :=
  let s := s.put R.PWR_STAT_VBAT_LOW 1
  if s.pwr.vddioH then s else aoLost s

/-- VBAT rises above 1.7 V: with the main supplies absent PD_AO powers up, RTC_VALID 0. -/
def vbatRise (s : State) : State :=
  let low := s.flag R.PWR_STAT_VBAT_LOW
  let s := s.put R.PWR_STAT_VBAT_LOW 0
  if s.pwr.vddioH ∨ !low then s else aoLost s

/-- A bank's rail falls or rises: 0 VDDO_A, 1 VDDO_B, 2 VDDIO_REF, 3 VDDIO_G. -/
def bankRail (b : Nat) (low : Bool) (s : State) : State := s.setPwr { s.pwr with banks := withBit s.pwr.banks b low }

/-! ## The commands -/

/-- DOMAIN_WAKE_DONE (19 R473). -/
def execDomainWakeDone (d : Fin 12) (dt : Nat) (s : State) : Host.Outcome State Fault Refusal := live s (domWake d (s.tick dt))

/-- DOMAIN_ENTRY_DONE (19 R471). -/
def execDomainEntryDone (d : Fin 12) (dt : Nat) (s : State) : Host.Outcome State Fault Refusal := live s (domEntry d (s.tick dt))

/-- XTAL_STOP (19 R478): PD_AO runs beside every reset. -/
def execXtalStop (s : State) : Host.Outcome State Fault Refusal := done s (xtalStop s)

/-- XTAL_RESTART (19 R478). -/
def execXtalRestart (s : State) : Host.Outcome State Fault Refusal := done s (xtalGo s)

/-- RTC_LOAD (19 R479). -/
def execRtcLoad (s : State) : Host.Outcome State Fault Refusal := live s (rtcLoad s)

/-- RTC_INVALIDATE (19 R478). -/
def execRtcInvalidate (s : State) : Host.Outcome State Fault Refusal := live s (rtcInvalid s)

/-- PFAIL (19 R481). -/
def execPfail (dt : Nat) (s : State) : Host.Outcome State Fault Refusal := done s (pfail (s.tick dt))

/-- PFAIL_N_RISE (19 R483). -/
def execPfailNRise (dt : Nat) (s : State) : Host.Outcome State Fault Refusal := done s (pfailRise (s.tick dt))

/-- PFAIL_CLR (19 R483). -/
def execPfailClr (dt : Nat) (s : State) : Host.Outcome State Fault Refusal := done s (pfailEnd (s.tick dt))

/-- The loop loses lock: stopped, because its reference stopped, and not of a slip (19 R489, 04 R105). -/
def spllRefLoss (stopped : Bool) (s : State) : State :=
  spllLoss (s.setPwr { s.pwr with oscStop := s.pwr.oscStop || stopped })

/-- SYSPLL_LOSS (19 R489). -/
def execSyspllLoss (stopped : Bool) (dt : Nat) (s : State) : Host.Outcome State Fault Refusal :=
  done s (spllRefLoss stopped (s.tick dt))

/-- SPLL_RETURN (19 R490), on the cycle of a Stroke edge. -/
def execSpllReturn (s : State) : Host.Outcome State Fault Refusal := live s (if s.now = s.gen.edgeNow then spllReturn s else s)

/-- RETURN (19 R490). -/
def execSpllReturnWrite (s : State) : Host.Outcome State Fault Refusal := live s (spllAsk s)

/-- VBAT_FALL (21 R530). -/
def execVbatFall (s : State) : Host.Outcome State Fault Refusal := done s (vbatFall s)

/-- VBAT_RISE (19 R477). -/
def execVbatRise (s : State) : Host.Outcome State Fault Refusal := done s (vbatRise s)

/-- BANK_RAIL_LOW (21 R531). -/
def execBankRailLow (b : Fin 4) (s : State) : Host.Outcome State Fault Refusal := done s (bankRail b true s)

/-- BANK_RAIL_RESTORED (21 R531). -/
def execBankRailRestored (b : Fin 4) (s : State) : Host.Outcome State Fault Refusal := done s (bankRail b false s)

end Sys2Proof.Machine
end

