-- ==== Sys2Proof/Machine/Vref.lean ====
section
/-! DEFINITION. The virtual references' samples and LOS for the snapshot at an edge (04 R104, R105). -/

namespace Sys2Proof.Machine

/-- The external oscillator's sample (04 R105): raw elapsed time less engine elapsed time since Stroke edge 0, INV on the backup oscillator. -/
def oscSample (s : State) : Samp :=
  let x : Int := ((s.now * 4 * 2 ^ 10 : Nat) : Int) - (etTotal s.etm (s.raw * 4096) - s.etm.start) / 2 ^ 38
  { x := x, t := etTotal s.etm (s.raw * 4096) / 2 ^ 22, raw := s.raw * 4096, has := true, inv := s.flag R.ETM_STAT_BACKUP_CLK }

/-- Is the oscillator's clock lost at the system PLL's input? -/
def oscLos (s : State) : Bool := s.pwr.oscStop

/-- LOS of a virtual reference for the snapshot at this edge. -/
def vrefLos (s : State) (m : Nat) : Bool :=
  let x := s.get (R.RMON_MON_SRC_VIDX m)
  match s.get (R.RMON_MON_SRC_VTYPE m) with
  | 1 => s.get R.GNT_STAT_SOL_STATE != 2 || outputStale s .gnss
  | 2 => oscLos s
  | 3 => laneSnapLos s x
  | 4 => ptpLos s x
  | 5 => pairLost s x
  | _ => false

/-- The Clapper's and the virtual references' snapshots of an edge (01 R22, 04 R105). -/
def snapsEdge (s : State) : State :=
  let s := vPush 17 (oscSample s) s
  let s := (List.range 24).foldl (fun s n => clpSnap n s) s
  (List.range 16).foldl (fun s k => virtSnap (16 + k) (vrefLos s (16 + k)) s) s

end Sys2Proof.Machine
end

