-- ==== Sys2Proof/Machine/Edge.lean ====
section
/-! DEFINITION. The Stroke edge (01 R17 to R33): every stage's outputs replace the old ones in one step, the writes that wait take effect, and the
snapshot of the next Stroke is taken. -/

namespace Sys2Proof.Machine

/-! ## Writes that take effect at the edge (01 R32) -/

/-- What a write to a Stroke-read register does beyond storing its fields. key: the register; old: its word before. -/
def edgeHook (key old : Nat) (s : State) : State :=
  let new := rdWord s key
  if 0x031000 ≤ key ∧ key < 0x031C00 then
    let n := (key - 0x031000) / 0x80
    let o := (key - 0x031000) % 0x80
    if o = 0 ∨ o = 4 ∨ o = 0x18 then clpRestart n s else if (o = 0x1C ∨ o = 0x20) ∧ new ≠ old then clpNominal n s else s
  else if 0x041000 ≤ key ∧ key < 0x042000 ∧ key % 0x80 = 4 then srcWrite ((key - 0x041000) / 0x80) new (wrWord s key old)
  else if 0x052000 ≤ key ∧ key < 0x052800 ∧ 0x80 ≤ key % 0x100 then wtrRestart ((key - 0x052000) / 0x100) (key % 0x100 / 4 - 0x20) s
  else if 0x071000 ≤ key ∧ key < 0x071800 ∧ key % 0x100 = 0 then tchCtlApplied ((key - 0x071000) / 0x100) old s
  else if 0x081000 ≤ key ∧ key < 0x082000 ∧ 0x100 ≤ key % 0x400 ∧ key % 0x400 < 0x200 ∧ key % 0x10 < 0xC then
    planWordApplied ((key - 0x081000) / 0x400) (key % 0x400 / 0x10 - 0x10) (key % 0x10 / 4) old s
  else if 0x091000 ≤ key ∧ key < 0x091800 ∧ key % 0x80 = 0 then outCfgApplied ((key - 0x091000) / 0x80) old s
  else if key = 0x020084 ∨ key = 0x020088 ∨ key = 0x02008C then utcWritten key s
  else if 0x0A0100 ≤ key ∧ key < 0x0A0180 ∧ key % 0x10 = 0 then notchCtl ((key - 0x0A0100) / 0x40) (key % 0x40 / 0x10) (old % 4) s
  else if 0x0A0100 ≤ key ∧ key < 0x0A0180 ∧ key % 0x10 = 4 then notchFreq ((key - 0x0A0100) / 0x40) (key % 0x40 / 0x10) old s
  else if key = 0x0B0060 ∨ key = 0x0B0064 then delayApplied old new s
  else if 0x101000 ≤ key ∧ key < 0x101800 ∧ 0x80 ≤ key % 0x100 ∧ (key % 0x40 = 4 ∨ key % 0x40 = 8) then
    declApplied (2 * ((key - 0x101000) / 0x100) + key % 0x80 / 0x40) s
  else if 0x121000 ≤ key ∧ key < 0x121500 then
    let n := (key - 0x121000) / 4
    errnUpdate (if reactOk n (s.get (R.FLT_SRC_REACT n)) then s else s.put (R.FLT_SRC_REACT n) (old % 8))
  else s

/-- A waiting write takes effect with what follows from it. -/
def waitApply (w : WaitWrite) (s : State) : State := edgeHook w.key (rdWord s w.key) (applyWait w s)

/-- Every waiting write takes effect, in order of arrival. -/
def waitsApply (s : State) : State :=
  s.gen.waiting.foldl (fun s w => waitApply w s) { s with gen := { s.gen with waiting := [] } }

/-- STAT_RESTART takes effect: the partial block is discarded, and statistics run (03 R97). -/
def statRestarts (s : State) : State :=
  s.clp.chs.foldl (fun s e =>
    let c := s.ch e.1
    if c.stat.restart then s.setCh e.1 { c with stat := {} } else s) s

/-! ## The stages -/

/-- The Stroke counter and its latch of RAW48 (01 R18), and PMC's counts of Strokes, core cycles ÷ 1 024 and Solver cycles (18 R462). -/
def edgeCount (e : EdgeIn) (s : State) : State :=
  let n := s.nextEdge
  let at' := if s.strokes = 0 then s.now else n
  let g := { s.gen with edgeNow := at', bkFrom := if s.strokes = 0 then at' else s.gen.bkFrom,
                        bkCyc := if s.flag R.ETM_STAT_BACKUP_CLK then (if s.strokes = 0 then 31250 else s.gen.bkCyc + 31250) else 0,
                        holdStrokes := s.gen.holdStrokes + 1 }
  let s := { s with up := s.up + (at' - s.now), now := at', strokes := s.strokes + 1, gen := g }
  let s := s.put R.GEN_STROKE_NUM_NUM s.strokeNum
  let s := s.put2 R.GEN_STROKE_RAW_LO_RAW_LO R.GEN_STROKE_RAW_HI_RAW_HI s.raw
  let cyc := s.strokes * 31250 / 1024 - (s.strokes - 1) * 31250 / 1024
  pmcAdd 3 e.busyB {} (pmcAdd 2 e.busyA {} (pmcAdd 1 cyc {} (pmcCount 0 (loadEdge e.busyA e.busyB s))))

/-- Is Tj outside the limits of source 20 (17 R427)? -/
def tjOut (s : State) (tj : Int) : Bool := decide (tj < s.getI R.FLT_TEMP_TJ_LO) || decide (s.getI R.FLT_TEMP_TJ_HI < tj)

/-- What the sensors show: Tj, with source 20 where it leaves its limits; the system PLL's reference, there where the Stroke held lock; the
phase-detector errors. -/
def edgeSensors (e : EdgeIn) (s : State) : State :=
  let was := tjOut s (s.getI R.BND_TEMP_TJ)
  let s := s.put R.BND_TEMP_TJ (ofInt 16 e.tj)
  let s := if e.spll then s.setPwr { s.pwr with oscStop := false } else s
  let s := (List.range 4).foldl (fun s k => s.put (R.APL_APLL_PD_ERR_PD_ERR k) (ofInt 32 (satI 32 (e.pd.getD k 0)))) s
  if tjOut s e.tj && !was then faultRaise 20 s else s

/-- Was a step accepted at the edge just evaluated, or at the one before it? raw: that edge's RAW48. -/
def steppedAt (s : State) (raw : Nat) : Bool :=
  s.flag R.ETM_STAT_STEP_USED && s.get2 R.ETM_LAST_STEP_RAW_LO_RAW R.ETM_LAST_STEP_RAW_HI_RAW == raw

/-- The stages that measure, judge and select (01 R26): CLP, RMON and SEL, on the snapshot of the last edge. -/
def edgeMeasure (e : EdgeIn) (s : State) : State :=
  let old := s.clp.snaps
  selEdge old (rmonEdge old (snapsEdge (clpCalEdge e.cal s)))

/-- The stages that follow SEL, TCH and BND, on what SEL and CLP held at the last edge: old is the state before this edge's stages,
from' the last edge. -/
def edgeServo (from' : Nat) (old : State) (s : State) : State :=
  let t := { s with clp := { s.clp with snaps := old.clp.snaps }, sel := old.sel,
                    bnd := { s.bnd with ups := old.bnd.ups, accepted := old.bnd.accepted } }
  let t := tchEdge (bndEdge (learnEdge (steppedAt old (from' % 2 ^ 48)) t))
  { t with clp := { t.clp with snaps := s.clp.snaps }, sel := s.sel,
           bnd := { t.bnd with ups := s.bnd.ups, accepted := t.bnd.accepted ||| (s.bnd.accepted ^^^ old.bnd.accepted) } }

/-- The stages that work on the snapshot of the last edge, before engine time is re-anchored; from': the last edge. The records
that they make stand in the order of log entry 10. -/
def edgeStages (e : EdgeIn) (from' : Nat) (s : State) : State :=
  let s := e.lanes.foldl (fun s l => laneStroke from' l s) s
  let m := edgeMeasure e (domEdge (prlEdge (outsAdvance (s.now - from') (gntPre s))))
  edgeServo from' s m

/-- A Solver task's output published (01 R28), from the inputs of its start edge. -/
def taskRun (o : SolverOut) (s : State) : State :=
  taskPublished o.task (match o with
    | .gnss x => withInputs .gnss 0x0B0000 0x80 (gntRun x) s
    | .aiding l => s.setGns { s.gns with aid := l }
    | .carillon => withInputs .carillon 0x050000 0x20 carTask s
    | .learning t0 => withInputs .learning 0x060000 0x40 (learnRun t0.toInt) s
    | .bmca l => bmcaRun l s
    | .election => election s)

/-- The Solver tasks' outputs that are due at this edge. -/
def tasksEdge (s : State) : State :=
  let l := s.gen.jobs.filter (fun o => taskDue s o.task)
  let s := { s with gen := { s.gen with jobs := s.gen.jobs.filter (fun o => !taskDue s o.task) } }
  selStat (l.foldl (fun s o => taskRun o s) s)

/-- The Solver tasks' periods that begin at this edge, with the inputs that the registers' snapshot does not hold. -/
def tasksBegin (s : State) : State :=
  let go := s.gns.epochGo
  [SolverTask.gnss, .aiding, .carillon, .learning, .bmca, .election].foldl (fun s t =>
    if taskStarts s t go then
      let s := taskBegin t s
      match t with
      | .gnss => (s.setGns { s.gns with epochGo := false }).setGnt { s.gnt with recIn := s.gns.newest }
      | .learning => s.setLearn { s.bnd.learn with work := s.bnd.learn.ready, ready := none }
      | .election => s.setDom { s.dom with inp := domInputs s }
      | .carillon => { s with sel := { s.sel with carIn := s.sel.refs } }
      | .aiding | .bmca => s
    else s) s

/-- What follows from an accepted step of d (02 R57): every block that holds phases of engine time moves them. -/
def edgeStepped (d : Int) (s : State) : State :=
  let s := bndStep d (selStepShift d (rmonStepShift d s))
  prlStepped (laneStepped d (gnsStepped (tchStepped d s)))

/-- What follows from a new era (02 R51). -/
def edgeNewEra (s : State) : State := tsvNewEra (tchNewEra (rmonReepoch (selNewEra s)))

/-- Engine time at the edge, and what a step or a new era entails. -/
def edgeTime (s : State) : State :=
  let s := etmEdge (utcSelect { s with etm := { s.etm with eraNew := false } })
  let s := if steppedAt s s.raw then edgeStepped s.etm.lastDelta s else s
  if s.etm.eraNew then edgeNewEra s else s

/-- Start-up ends: RUN or FAILSAFE is published (20 R498); the recorder's phase follows, ERR_N is looked at with the reactions that the image set (17 R437), and
GNSS starts (10 R274). -/
def edgeRun (s : State) : State :=
  if s.cfg.runDue then
    let s := s.setCfg { s.cfg with runDue := false }
    let s := s.put R.CFG_STAT_STATE (if s.cfg.failsafe then 5 else 4)
    let s := if s.rcd.lastFaultReset then { s with rcd := { s.rcd with recovEnd := some (s.now + s.get R.REC_CTL_RECOV * 1000 * msCounts) } } else s
    let s := updPhase s
    let s := if s.cfg.failsafe then cfgEvt R.CFG_EVT_FAILSAFE s
      else logRec 0x1A0 ([s.cfg.slot] ++ leBytes 4 s.cfg.seq ++ leBytes 4 (rdWord s 0x160040)) (cfgEvt R.CFG_EVT_APPLIED s)
    gntStart (errnUpdate s)
  else s

/-- The request to clear a source, and the lane whose fence it lifts (17 R431). -/
def edgeClear (s : State) : State :=
  match s.flt.clrReq with
  | none => s
  | some k =>
    let s := fltClrEdge s
    if k < 16 ∧ s.get R.FLT_CLR_STAT_RESULT = 0 then laneUnfence k s else s

/-- The stages that read the published values and the writes of this edge. -/
def edgeAfter (e : EdgeIn) (s : State) : State :=
  let sclk := if bankLow s 3 then none else e.sclk
  let s := edgeClear (statRestarts (waitsApply s))
  let s := gnsEdge sclk (gntPost (gntEdge s))
  let s := outsEdge (spllEdge e.spll s)
  let s := predEdge (prlSync (lanEdge s))
  storeEdge (tsvEdge (rtcEdge (edgeRun s)))

/-- The snapshot of the Stroke that begins (01 R20), the domains chosen by it (19 R472), and the Solver tasks' periods that begin (01 R28). -/
def edgeSnap (s : State) : State := tasksBegin (domsEdge { s with edge := s.regs })

/-- A Stroke edge. At edge 0 engine time and the key engine start (02 R61, 14 R373), and the restored model's prediction is there for edge 1 (07 R190); every later
edge publishes. -/
def strokeEdge (e : EdgeIn) (s : State) : State :=
  let from' := s.gen.edgeNow
  let first := s.strokes = 0
  let s := edgeSensors e (edgeCount e s)
  if first then
    let s := keyStart (etmStart s)
    edgeSnap (waitsApply (predEdge <| s.setPwr { s.pwr with secSeen := etSec (etOf (etmOffset s.etm)) }))
  else edgeSnap (edgeAfter e (edgeTime (tasksEdge (edgeStages e from' s))))

end Sys2Proof.Machine
end

