-- ==== Sys2Proof/Machine/Reset.lean ====
section
/-! DEFINITION. The resets (19 R484 to R487, 17 R436, 21 R529) and the life-cycle changes (19 R491 to R493). A reset holds the blocks at its start (the gate of
`live`); at its release every block stands at its reset state, but for what the reset keeps. -/

namespace Sys2Proof.Machine

/-! ## The start of a reset -/

/-- A reset other than a POR begins (19 R485): the first in progress stays. The flush runs where none has served it (17 R436); ERR_N releases (17 R437);
an open key transaction is discarded (14 R370). -/
def resetBegin (kind : ResetKind) (src : Nat) (s : State) : State :=
  if s.pwr.rst.isSome then s
  else
    let s := s.setPwr { s.pwr with rst := some { kind := kind, src := src, from' := s.up } }
    let s := { s with flt := { s.flt with errnUntil := none, chipReq := none } }.put R.FLT_STAT_ERR_N_ACT 0
    let s := if s.get R.KEY_STAT_TXN_STATE = 1 then logRec 0x178 [] (keyIdle s) else s
    if kind = .fault then s else flushStart false s

/-- A rail below its threshold (21 R529): a brown-out POR, which ends any other reset; h: VDDIO_H is among the rails, and PD_AO is lost where VBAT is
absent too (19 R477, 21 R530). -/
def brownout (h : Bool) (s : State) : State :=
  let was := s.pwr.rst.elim false (·.bor)
  let por := s.pwr.rst.elim false (·.kind == .por)
  let s := s.setPwr { s.pwr with rst := some { kind := .por, bor := if por then was else true, from' := s.up }, lcReq := none,
                                 vddioH := s.pwr.vddioH && !h }
  if h && s.flag R.PWR_STAT_VBAT_LOW then aoLost s else s

/-- The last rail rises (19 R484, 21 R529). -/
def porRise (s : State) : State :=
  let bor := s.pwr.rst.elim false (·.bor)
  s.setPwr { s.pwr with rst := some { kind := .por, bor := bor, from' := s.up, rails := some s.up }, lcReq := none, vddioH := true }

/-! ## What a reset leaves -/

/-- The code of a reset's kind (19 R484). -/
def resetCode : ResetKind → Nat
  | .por => 0
  | .pin => 1
  | .host => 2
  | .fault => 3
  | .lc => 4

/-- Does a register keep its word through a reset: the life cycle from OTP; PWR's own state through all but a POR (19 R484)? -/
def regKept (por : Bool) (key : Nat) : Bool := key == 0x000010 || (!por && decide (0x010000 ≤ key) && decide (key < 0x020000))

/-- The first plan that the straps give, in the order of PwrSt.plan; with both high there is none (19 R487). -/
def strapPlan (straps : Nat) : List Nat :=
  match straps % 4 with
  | 0 => [1, 250, 0, 1, 10000000]
  | 1 => [1, 25, 0, 1, 100000000]
  | 2 => [1, 100, 0, 1, 25000000]
  | _ => [0, 0, 0, 1, 0]

/-- The straps sampled (19 R487). -/
def strapsTaken (s : State) : State :=
  let p := strapPlan s.pwr.straps
  let s := (s.put R.PWR_SPLL_CFG_SPRE (p.getD 0 0)).put R.PWR_SPLL_CFG_SFB_INT (p.getD 1 0)
  (s.setPwr { s.pwr with plan := p }).put R.PWR_SPLL_OSC_HZ_OSC_HZ (p.getD 4 0)

/-- The state with every block back at its reset state. Kept: the queue, PD_AO, the NVM and the OTP, the TAP, and PWR where it is no POR. -/
def resetBase (por : Bool) (s : State) : State :=
  let p := s.pwr
  let pwr : PwrSt :=
    if por then { rtcSec := p.rtcSec, rtcSub := p.rtcSub, rtcUp := p.rtcUp, rtcRun := p.rtcRun, straps := p.straps, vddioH := p.vddioH, banks := p.banks }
    else { p with rst := none, lcReq := none }
  let t : State := { State.reset with pending := s.pending, up := s.up, freeCount := s.freeCount }
  let t : State := { t with ret := s.ret, nvm := s.nvm, pwr := pwr, jtag := if por then {} else s.jtag }
  let t : State := { t with regs := s.regs.filter (fun e => regKept por e.1), rcd := { fixed := s.rcd.fixed, roll := s.rcd.roll } }
  let t : State := { t with clp := { fact := s.clp.fact }, cfg := { ik := s.cfg.ik } }
  let t := (t.put R.CFG_IK_STAT_ENROLLED (s.get R.CFG_IK_STAT_ENROLLED)).put R.CFG_IK_STAT_REVOKED (s.get R.CFG_IK_STAT_REVOKED)
  if por then
    let t := strapsTaken t
    ((t.put R.PWR_RTC_STAT_RTC_VALID (s.get R.PWR_RTC_STAT_RTC_VALID)).put R.PWR_RTC_STAT_XTAL_OK (s.get R.PWR_RTC_STAT_XTAL_OK)).put
      R.PWR_STAT_VBAT_LOW (s.get R.PWR_STAT_VBAT_LOW)
  else t

/-- The sources whose latch a reset other than a POR keeps: sealed and escalated ones (17 R430, R435), and those that asked for a chip reset (17 R436). -/
def latchesKept (s : State) : List Nat :=
  (List.range 320).filter (fun n => latched s n && (fltKind n == 0 || escalated s n || s.flt.chipHold.contains n))

/-- The latches kept, with their fences re-established (17 R434: LINK all ones). -/
def latchesBack (old s : State) : State :=
  let l := latchesKept old
  let s := { s with flt := { s.flt with chipHold := old.flt.chipHold.filter (fun n => l.contains n) } }
  l.foldl (fun s n =>
    let s := setLatch n true s
    let s := if escalated old n then s.put ((R.FLT_ESC_ESC (n / 32)).bitAt (n % 32)) 1 else s
    if fltKind n = 0 ∨ escalated old n then
      match homeUnit n with
      | some u => if unitHeld s u then s else unitReset u (some n) 0xFFFFFFFF true s
      | none => s
    else s) s

/-! ## The release -/

/-- A word of the retention SRAM, least significant byte first. -/
def retWord (s : State) (o : Nat) : Nat := ofLe ((List.range 4).map (fun k => (tget 0 s.ret (o + k)).toNat))

/-- A word of the retention SRAM set. -/
def setRetWord (o v : Nat) (s : State) : State :=
  { s with ret := (List.range 4).foldl (fun r k => tset 0 r (o + k) (BitVec.ofNat 8 (v / 256 ^ k))) s.ret }

/-- The later of two sequence numbers (20 R511). -/
def laterOf (a b : Nat) : Nat := if seqLater b a then b else a

/-- The recorder's start (17 R448): the next SEQ from the log and from retention SRAM; the power-on marker. -/
def recStart (s : State) : State :=
  let l := s.rcd.fixed ++ s.rcd.roll.flatten
  let log := match l with
    | [] => none
    | r :: t => some ((t.foldl (fun n x => laterOf n x.seq) r.seq + 1) % 2 ^ 32)
  let n := retWord s 0x310
  let kept := if n + retWord s 0x314 = 2 ^ 32 - 1 then some n else none
  let nxt := match log, kept with
    | some a, some b => laterOf a b
    | some a, none => a
    | none, some b => b
    | none, none => 0
  let s := { s with rcd := { s.rcd with nextSeq := nxt } }
  let s := (s.put R.REC_USE_FIXED_USED (satW 16 (2 * ringUnits s.rcd.fixed))).put R.REC_USE_ROLL_USED s.rcd.roll.length
  logRec 0x18A [] (s.put R.REC_STAT_RESTORED 1)

/-- The reset's cause shown, kept in the reset history newest first, and recorded (19 R480, R484, R495). -/
def resetNote (r : RstSt) (cut : Bool) (s : State) : State :=
  let s := (s.put R.PWR_RST_CAUSE_KIND (resetCode r.kind)).putB R.PWR_RST_CAUSE_BOR r.bor
  let s := (s.putB R.PWR_RST_CAUSE_FLUSH_CUT cut).put R.PWR_RST_CAUSE_SRC (if r.kind = .fault then r.src else 0)
  let w := rdWord s 0x010008
  let h := w :: (List.range 15).map (fun k => retWord s (0x200 + 4 * k))
  let s := (List.range 16).foldl (fun s k => setRetWord (0x200 + 4 * k) (h.getD k 0) s) s
  logRec 0x190 (leBytes 4 w) s

/-- CFG_PREV from retention SRAM, as it stood at release, and the start counted (20 R508). -/
def startCount (s : State) : State :=
  let n := retWord s 0x308
  setRetWord 0x308 ((n + 1) % 2 ^ 32) ((s.put R.CFG_PREV_P_SLOT (retWord s 0x300 % 2)).put R.CFG_PREV_P_STARTS (n % 2 ^ 16))

/-- The core's clock from release (19 R487, R496): on the backup oscillator where the core has it already, or where the system PLL has no lock after a POR. -/
def startClock (locked : Bool) (s : State) : State :=
  if s.flag R.PWR_STAT_BACKUP || !locked || s.pwr.straps % 4 == 3 then
    let s := s.put R.PWR_STAT_BACKUP 1
    { s.put R.ETM_STAT_BACKUP_CLK 1 with gen := { s.gen with bkCyc := 31250 }, etm := { s.etm with backupFrom := some 0 } }
  else spllLock true s

/-- Start-up begins (20 R498, R499, R520); in RETIRED it stops before anything is read (19 R491). -/
def startUp (s : State) : State :=
  let b := s.fresh 32
  let s := startCount (b.2.put R.HST_BOOT_ID_BOOT_ID b.1)
  if s.get R.GEN_LC_STATE = 4 then s.put R.CFG_STAT_STATE 6 else storesStart s

/-- PD_CORE is released (19 R485, R487). cut: the flush had not completed. A seal write that had begun has completed by now (20 R513). -/
def resetRelease (r : RstSt) (cut locked : Bool) (s : State) : State :=
  let por := r.kind == .por
  let s := if por then s else storeSealed s
  let t := resetBase por s
  let t := startClock locked (if por then t else latchesBack s t)
  let t := recStart { t with rcd := { t.rcd with lastFaultReset := r.kind == .fault } }
  let t := resetNote r cut t
  startUp (if t.flag R.PWR_RTC_STAT_RTC_VALID then t else logRec 0x194 (leBytes 4 (rdWord t 0x01003C)) t)

/-- A reset other than a POR is released t raw counts after it began, once its flush has completed or FLUSH_MAX (12 ms) has passed (19 R485). -/
def resetEnd (t : Nat) (s : State) : State :=
  match s.pwr.rst with
  | none => s
  | some r =>
    let fl := s.flag R.REC_STAT_FLUSHING
    if r.kind = .por ∨ (r.kind ≠ .fault ∧ fl ∧ t < 12 * msCounts) then s
    else resetRelease r fl true { s with up := max s.up (r.from' + t) }

/-- The four straps as they stand at the end of a POR's hold (21 R533): OSC_SEL_A, OSC_SEL_B, I2C_A0, I2C_A1, from bit 0 up. -/
def strapsSampled (v : Nat) (s : State) : State :=
  match s.pwr.rst with
  | none => s
  | some r => if r.kind = .por then s.setPwr { s.pwr with straps := v } else s

/-- A POR is released t raw counts after the last rail rose: 1 ms later once the system PLL locks, or after a further 20 ms on the backup oscillator
(19 R487, 21 R529). -/
def porEnd (t : Nat) (locked : Bool) (s : State) : State :=
  match s.pwr.rst with
  | none => s
  | some r =>
    match r.rails with
    | none => s
    | some f =>
      if r.kind = .por ∧ msCounts ≤ t ∧ (locked ∨ 21 * msCounts ≤ t) then
        let s := { s with up := max s.up (f + t) }
        resetRelease r false locked s
      else s

/-! ## Chip resets asked for -/

/-- A Custodian's write of PWR_RST_CMD.CHIP (19 R484). -/
def hostReset (confirm : Nat) (s : State) : State := if confirm = 0x5A then resetBegin .host 0 s else s

/-- The chip reset of a CHIP_RESET reaction: at the flush's end or FLUSH_MAX after the raise (17 R436). -/
def chipStart (s : State) : State :=
  match s.flt.chipReq with
  | none => s
  | some q => if !s.flag R.REC_STAT_FLUSHING || decide (q.2 ≤ s.now) then resetBegin .fault q.1 s else s

/-! ## The life cycle (19 R491 to R493) -/

/-- Is the transition one that a Custodian may ask for (19 R492)? -/
def lcAllowed (from' tgt : Nat) : Bool :=
  (from' == 1 && tgt == 2) || (from' == 2 && tgt == 3) || (from' == 3 && tgt == 2) || (tgt == 4 && decide (1 ≤ from') && decide (from' ≤ 3))

/-- RESULT of a request (19 R493): 4 busy, 2 CONFIRM, 1 transition, 3 returns exhausted, 0 accepted. -/
def lcResult (s : State) (tgt confirm : Nat) : Nat :=
  let st := s.get R.GEN_LC_STATE
  if s.pwr.lcReq.isSome then 4
  else if confirm ≠ 0xC5 then 2
  else if !lcAllowed st tgt then 1
  else if st = 3 ∧ tgt = 2 ∧ 8 ≤ s.get R.GEN_LC_RETURNS then 3
  else 0

/-- GEN_LC_REQ.GO (19 R493). -/
def lcRequest (tgt confirm : Nat) (s : State) : State :=
  let r := lcResult s tgt confirm
  let s := (s.put R.GEN_LC_REQ_TARGET tgt).put R.GEN_LC_REQ_CONFIRM confirm
  let s := s.put R.GEN_LC_REQ_RESULT r
  if r = 0 then s.setPwr { s.pwr with lcReq := some tgt } else s

/-- The regions of the NVM and the retention SRAM that a change erases (19 R492). -/
def lcErase (from' tgt : Nat) (s : State) : State :=
  let wipe := tgt == 4 || from' == 1
  let n := if wipe || from' == 3 then { s.nvm with jnl0 := [], jnl1 := [], part := none } else s.nvm
  let n := if wipe then { n with copies := [], torn := [] } else n
  { s.setNvm n with ret := if wipe then [] else s.ret }

/-- May the OTP write be over: a key commit and a flush have ended (19 R493 step 1)? In a reset the write that had begun completes (19 R496). -/
def lcReady (s : State) : Bool := s.pwr.rst.isSome || (s.get R.KEY_STAT_TXN_STATE != 2 && !s.flag R.REC_STAT_FLUSHING)

/-- The OTP write is over (19 R493 steps 2 to 5). -/
def lcWritten (s : State) : State :=
  match s.pwr.lcReq with
  | none => s
  | some tgt =>
    if lcReady s then
      let from' := s.get R.GEN_LC_STATE
      let s := (s.setPwr { s.pwr with lcReq := none }).put R.GEN_LC_STATE tgt
      let s := if from' = 3 ∧ tgt = 2 then s.addSat R.GEN_LC_RETURNS 1 else s
      resetBegin .lc 0 (lcErase from' tgt (logRec 0x193 [from', tgt] s))
    else s

/-! ## The commands -/

/-- POR (19 R484). -/
def execPorRise (s : State) : Host.Outcome State Fault Refusal := done s (porRise s)

/-- BROWNOUT (21 R529). -/
def execBrownout (h : Bool) (s : State) : Host.Outcome State Fault Refusal := done s (brownout h s)

/-- PIN_RESET (19 R484). -/
def execPinReset (dt : Nat) (s : State) : Host.Outcome State Fault Refusal := done s (resetBegin .pin 0 (s.tick dt))

/-- CHIP (19 R484). -/
def execHostReset (confirm : BitVec 8) (dt : Nat) (s : State) : Host.Outcome State Fault Refusal := live s (hostReset confirm.toNat (s.tick dt))

/-- CHIP_RESET_START (17 R436). -/
def execChipResetStart (dt : Nat) (s : State) : Host.Outcome State Fault Refusal := live s (chipStart (s.tick dt))

/-- RESET_RELEASE (19 R485): t raw counts after the reset began. -/
def execResetRelease (t : Nat) (s : State) : Host.Outcome State Fault Refusal := done s (resetEnd t s)

/-- POR_RELEASE (19 R487): t raw counts after the last rail rose; locked: the system PLL has lock. -/
def execPorRelease (t : Nat) (locked : Bool) (straps : BitVec 4) (s : State) : Host.Outcome State Fault Refusal :=
  done s (porEnd t locked (strapsSampled straps.toNat s))

/-- LC_REQUEST (19 R493). -/
def execLcRequest (target : BitVec 3) (confirm : BitVec 8) (s : State) : Host.Outcome State Fault Refusal :=
  live s (lcRequest target.toNat confirm.toNat s)

/-- LC_OTP_WRITTEN (19 R493). -/
def execLcOtpWritten (s : State) : Host.Outcome State Fault Refusal := done s (lcWritten s)

end Sys2Proof.Machine
end

