-- ==== Sys2Proof/Machine/Priv.lean ====
section
/-! DEFINITION. Custodian privilege (20 R515, R518, R519), held per interface, and for in-band management by one requester. -/

namespace Sys2Proof.Machine

/-- HST set. -/
def State.setHst (s : State) (h : HstSt) : State := { s with hst := h }

/-- HST's event group bit set (20 R522: interrupt source 195). -/
def hstEvt (f : Fld) (s : State) : State := raiseEvt f 195 s

/-- Is KS_2 usable (14 R363)? -/
def ks2Usable (s : State) : Bool := keyUsable s.key.slots 2 3

/-- An interface's privilege ends (20 R518); a hold that it owns is discarded (01 R36). -/
def custEnd (j : Iface) (s : State) : State :=
  if isCust s j then
    let s := (s.put (R.HST_STAT_CUST.ifc j) 0).put (R.HST_STAT_OPEN.ifc j) 0
    let s := if j = .inband then s.setHst { s.hst with who := none } else s
    if ownsHold s j then holdExpire s else s
  else s

/-- Privilege gained under KS_2 ends as KS_2 fails R363 (20 R518). -/
def custSettle (s : State) : State :=
  if ks2Usable s then s
  else [Iface.spi, .i2c, .inband].foldl (fun s j => if s.flag (R.HST_STAT_OPEN.ifc j) then s else custEnd j s) s

/-- Has interface j been idle for CUST_TMO × 600 s (20 R518)? -/
def custIdle (s : State) (j : Iface) : Bool :=
  let n := s.get R.HST_MGMT_CFG_CUST_TMO
  n != 0 && decide (tget 0 s.hst.last j.num + n * 600 * secCounts ≤ s.now)

/-- The challenge of interface j shown (20 R518). -/
def chalPut (j : Iface) (b : List Nat) (s : State) : State :=
  let s := (List.range 8).foldl (fun s w => s.put ((R.HST_CHAL_W0_CHAL.word w).ifc j) (ofLe ((b.drop (4 * w)).take 4))) s
  s.setHst { s.hst with chal := tset [] s.hst.chal j.num b }

/-- Is NEW served on interface j: no second runs since a mismatch (20 R518)? -/
def newServed (s : State) (j : Iface) : Bool :=
  match tget none s.hst.failAt j.num with
  | none => true
  | some t => decide (t ≤ s.now)

/-- NEW (20 R518): 32 bytes from the random generator. -/
def custNew (j : Iface) (s : State) : State :=
  if newServed s j then
    let r := rngDraw 256 s
    chalPut j (leBytes 32 r.1) r.2
  else s

/-- Privilege granted (20 R518, R519). who: the requester of an in-band write. -/
def custGain (j : Iface) (who : Option MgmtWho) (opened : Bool) (s : State) : State :=
  let s := (s.put (R.HST_STAT_CUST.ifc j) 1).putB (R.HST_STAT_OPEN.ifc j) opened
  let s := if j = .inband then s.setHst { s.hst with who := who } else s
  logRec 0x1A6 [j.num] (hstEvt R.HST_EVT_CUST_GAIN s)

/-- Privilege refused. -/
def custFail (j : Iface) (s : State) : State := logRec 0x1A7 [j.num] (hstEvt R.HST_EVT_CUST_FAIL s)

/-- The message whose HMAC under KS_2 answers a challenge (20 R518 step 2). -/
def custMsg (s : State) (j : Iface) (key : Nat) : List Nat :=
  ascii "CWG-8816 CUST" ++ tget [] s.hst.chal j.num ++ [j.num] ++ beBytes 4 key ++ (List.range 4).flatMap (fun w => leBytes 4 (rdWord s (4 * w)))

/-- A use of a key for an operation, a floor commit that is due made first (14 R366, R367). -/
def keyUseNow (k : Nat) (s : State) : State :=
  let s := if (s.slot k).life = 1 ∧ (s.slot k).useMax ≠ 0 ∧ (s.slot k).uses < (s.slot k).floor + 1 then floorCommit k (floorAsk k s) else s
  keyCnt 1 (keyTake k 1 s)

/-- VERIFY (20 R518): the challenge is erased in either case. -/
def custVerify (j : Iface) (who : Option MgmtWho) (s : State) : State :=
  let resp := (List.range 8).flatMap (fun w => leBytes 4 (s.get ((R.HST_RESP_W0_RESP.word w).ifc j)))
  let has := !(tget [] s.hst.chal j.num).isEmpty
  let can := has && keyGate s 2 3 1 != 1
  let good := can && hmacOf (s.slot 2).key (custMsg s j (who.elim 0 (·.key))) == resp
  let s := if can then keyUseNow 2 (msgWake s) else s
  let s := chalPut j [] s
  if good then custSettle (custGain j who false s)
  else custFail j (s.setHst { s.hst with failAt := tset none s.hst.failAt j.num (some (s.now + secCounts)) })

/-- CLAIM (20 R519). -/
def custClaim (j : Iface) (who : Option MgmtWho) (s : State) : State :=
  let lc := s.get R.GEN_LC_STATE
  if !ks2Usable s ∧ (lc = 1 ∨ lc = 2) ∧ j ≠ .inband then custGain j who true s else custFail j s

/-- HST_CUST_CMD: what a write of it asks for, bit by bit. -/
def custCmd (j : Iface) (who : Option MgmtWho) (v : Nat) (s : State) : State :=
  let s := if tbit v 0 then custNew j s else s
  let s := if tbit v 1 then custVerify j who s else s
  let s := if tbit v 2 then custClaim j who s else s
  if tbit v 3 then custEnd j s else s

/-- An access through interface j reaches the device: its idle time runs from here (20 R518). -/
def hstTouch (j : Iface) (s : State) : State := s.setHst { s.hst with last := tset 0 s.hst.last j.num s.now }

/-- An access error (20 R517). -/
def accErr (j : Iface) (code a : Nat) (s : State) : State :=
  hstEvt R.HST_EVT_ACC_ERR ((s.put (R.HST_STAT_ERR_CODE.ifc j) code).put (R.HST_ERR_ADDR_ADDR.ifc j) (a % 2 ^ 24))

/-! ## The commands -/

/-- STROKE_EDGE (01 R17); privilege under a KS_2 that has failed R363 ends by the edge (20 R518). -/
def execStrokeEdge (e : EdgeIn) (s : State) : Host.Outcome State Fault Refusal := live s (custSettle (strokeEdge e s))

/-- NEW (20 R518). -/
def execCustNew (j : Iface) (dt : Nat) (s : State) : Host.Outcome State Fault Refusal := live s (custNew j (hstTouch j (custSettle (s.tick dt))))

/-- VERIFY (20 R518). -/
def execCustVerify (j : Iface) (dt : Nat) (s : State) : Host.Outcome State Fault Refusal :=
  live s (custVerify j none (hstTouch j (custSettle (s.tick dt))))

/-- CUSTODIAN_CLAIM (20 R519). -/
def execCustodianClaim (j : Iface) (dt : Nat) (s : State) : Host.Outcome State Fault Refusal :=
  live s (custClaim j none (hstTouch j (custSettle (s.tick dt))))

/-- DROP (20 R518). -/
def execCustDrop (j : Iface) (dt : Nat) (s : State) : Host.Outcome State Fault Refusal := live s (custEnd j (hstTouch j (custSettle (s.tick dt))))

/-- CUST_TIMEOUT (20 R518): CUST_TMO × 600 s without an access through the interface. -/
def execCustTimeout (j : Iface) (dt : Nat) (s : State) : Host.Outcome State Fault Refusal :=
  live s (let s := s.tick dt; if custIdle s j then custEnd j s else s)

/-- CUST_FAIL_WAIT_END (20 R518): the second since a mismatch has passed. -/
def execCustFailWaitEnd (j : Iface) (dt : Nat) (s : State) : Host.Outcome State Fault Refusal :=
  live s (
    let s := s.tick dt
    if newServed s j then s.setHst { s.hst with failAt := tset none s.hst.failAt j.num none } else s)

/-- COMMIT_DONE (14 R372): the seal decides, beside a reset too; privilege under a KS_2 that it ends, ends with it (20 R518). -/
def execCommitDone (s : State) : Host.Outcome State Fault Refusal := done s (custSettle (keyCommitDone s))

end Sys2Proof.Machine
end

