-- ==== Sys2Proof/Machine/Write.lean ====
section
/-! DEFINITION. What a write of a register word does once it is let through: the fields it changes (00 R8 to R10), the actions it starts, and whether it
waits for the next Stroke edge (01 R32), is held (01 R34) or takes effect at once (01 R27). -/

namespace Sys2Proof.Machine

/-- Who makes a register access: a host interface, with its requester where it is in-band (20 R521), or the image apply master (20 R505). -/
inductive Req where
  | host (j : Iface) (who : Option MgmtWho)
  | image
  deriving DecidableEq, Repr

/-- The requester's interface; the image apply master has none of its own. -/
def Req.iface : Req → Iface
  | .host j _ => j
  | .image => .spi

/-- The in-band requester. -/
def Req.who : Req → Option MgmtWho
  | .host _ w => w
  | .image => none

/-- Has the requester Custodian privilege (20 R505, R515)? -/
def reqCust (s : State) : Req → Bool
  | .host j _ => isCust s j
  | .image => true

/-- The key of a register: one that exists once per interface has a word for each (02 R48). -/
def regKey (r : Req) (d : RegDesc) (a : Nat) : Nat := if d.perIf then a + r.iface.num * 2 ^ 24 else a

/-! ## Stroke-read registers (01 R32) -/

/-- Does a Stroke stage read the writable registers of this address? -/
def strokeAddr (a : Nat) : Bool :=
  let w := a / 0x10000
  if w = 1 then decide (0x010010 ≤ a) && decide (a < 0x01002C) || decide (0x010100 ≤ a) && decide (a < 0x010124)
  else if w = 2 then decide (a < 0x020090) || a == 0x0200B0
  else if w = 10 then a != 0x0A0028
  else if w = 18 then a != 0x120200
  else decide (3 ≤ w) && decide (w ≤ 11) || w == 16 || w == 17

/-- Is this a register that waits for the edge: one of those, with a field that a write sets or an action that it starts? -/
def strokeReg (a : Nat) (d : RegDesc) : Bool :=
  strokeAddr a && d.fields.any (fun f => match f.acc with
    | .rw | .rwl | .wo | .w1p => true
    | .ro | .w1c | .roc => false)

/-- Is this one of the step's arguments, which count when GO is written (02 R53)? -/
def stepArg (a : Nat) : Bool := decide (0x020050 ≤ a) && decide (a ≤ 0x020060)

/-- A word as it reads: the word in effect under the writes that wait and those that are held (01 R32, R36). -/
def lastWord (s : State) (key : Nat) : Nat :=
  (s.gen.waiting ++ s.gen.held).foldl (fun w x => if x.key = key then w - (w &&& x.mask) + (x.val &&& x.mask) else w)
    (if key < 2 ^ 24 then liveWord s key else rdWord s key)

/-! ## The fields of a written word -/

/-- Does a KEY_ID written to NTS slot j equal that of another slot that is not EMPTY (13 R340)? -/
def ntsDup (s : State) (j v : Nat) : Bool :=
  (List.range 8).any (fun i => i != j && ntsState s i != 0 && s.get (R.TSV_NTS_KEY_KEY_ID_KEY_ID i) == v)

/-- The NTS slot whose KEY_ID an address is. -/
def ntsSlotOf (a : Nat) : Option Nat := if 0x0E0100 ≤ a ∧ a < 0x0E0180 ∧ a % 0x10 = 0 then some ((a - 0x0E0100) / 0x10) else none

/-- Does a field take the value x: it is listed (00 R10), or the field's own rule permits it? -/
def fieldTakes (s : State) (a : Nat) (f : FieldDesc) (x : Nat) : Bool :=
  (f.legal.isEmpty || f.legal.any (fun r => decide (r.1 ≤ x) && decide (x ≤ r.2))) &&
  (if 0x121000 ≤ a ∧ a < 0x121500 ∧ f.lo = 0 then reactOk ((a - 0x121000) / 4) x
   else if 0x031000 ≤ a ∧ a < 0x031800 ∧ a % 0x80 = 4 ∧ f.lo = 0 then false
   else if 0x140100 ≤ a ∧ a < 0x1401C0 ∧ a % 0x20 = 8 ∧ (f.lo = 8 ∨ f.lo = 9) then decide (a < 0x140180)
   else if a = 0x160010 then decide (s.get R.CFG_MIN_SEQ_MIN_SEQ < x)
   else match ntsSlotOf a with
     | some j => !ntsDup s j x
     | none => true)

/-- The value that a field stores (04 R110: a PSTEP_THR of 1 to 63 stores 64). -/
def fieldStores (a x : Nat) : Nat := if 0x041000 ≤ a ∧ a < 0x042000 ∧ a % 0x80 = 0x38 ∧ 1 ≤ x ∧ x ≤ 63 then 64 else x

/-- What a written word comes to: the bits it sets with their mask, the W1C bits it clears, the actions it starts (and write-only data), whether it gave write-only data, and whether it would have
changed a /C field that the writer may not (00 R9). -/
structure WriteParts where
  val : Nat := 0
  mask : Nat := 0
  clr : Nat := 0
  act : Nat := 0
  took : Bool := false
  priv : Bool := false
  deriving DecidableEq, Repr

/-- All ones in a field's place. -/
def fieldMask (f : FieldDesc) : Nat := (2 ^ (f.hi - f.lo + 1) - 1) * 2 ^ f.lo

/-- Does a write-only field keep no word of its own, its data being taken at once (12 R319, 18 R458, 19 R484)? -/
def woTaken (a : Nat) : Bool := a == 0x0D0040 || a == 0x01000C || (decide (0x140100 ≤ a) && decide (a < 0x1401C0))

/-- One field's part. cust: the writer is a Custodian; cur: the word as it reads. -/
def fieldPart (s : State) (cust : Bool) (key cur v : Nat) (p : WriteParts) (f : FieldDesc) : WriteParts :=
  let a := key % 2 ^ 24
  let x := bits v f.hi f.lo
  let may := cust || !f.cust
  let locked := s.flag R.CFG_STAT_LOCKED
  let set := fun (p : WriteParts) => { p with val := p.val + fieldStores a x % 2 ^ (f.hi - f.lo + 1) * 2 ^ f.lo, mask := p.mask + fieldMask f }
  match f.acc with
  | .rw | .rwl =>
    if (f.acc == .rwl && locked) || !fieldTakes s a f x then p
    else if may then set p
    else { p with priv := p.priv || x != bits cur f.hi f.lo }
  | .wo =>
    if may then (if woTaken a then { p with act := p.act + x * 2 ^ f.lo, took := true } else set p)
    else { p with priv := p.priv || a == 0x0D0040 || x != bits (rdWord s key) f.hi f.lo }
  | .w1c => if may then { p with clr := p.clr + x * 2 ^ f.lo } else { p with priv := p.priv || x != 0 }
  | .w1p => if may then { p with act := p.act + x * 2 ^ f.lo } else { p with priv := p.priv || x != 0 }
  | .ro | .roc => p

/-- A written word's parts. -/
def writeParts (s : State) (cust : Bool) (key v : Nat) (d : RegDesc) : WriteParts :=
  d.fields.foldl (fieldPart s cust key (lastWord s key) v) {}

/-! ## The actions a write starts -/

/-- The outcome's state, or the state before where there is none. -/
def after (o : Host.Outcome State Fault Refusal) (s : State) : State :=
  match o with
  | .next t => t
  | .fault _ | .refused _ => s

/-- Each bit of a word that is 1, lowest first, runs its action. -/
def onBits (v : Nat) (l : List (State → State)) (s : State) : State :=
  (l.zipIdx).foldl (fun s e => if tbit v e.2 then e.1 s else s) s

/-- The actions of the windows GEN to CLP. v: the action bits and the write-only data of the word. -/
def actLow (r : Req) (a v : Nat) (s : State) : State :=
  if a = 0x000014 then lcRequest (s.get R.GEN_LC_REQ_TARGET) (s.get R.GEN_LC_REQ_CONFIRM) s
  else if a = 0x01000C then (if tbit v 0 then hostReset (bits v 15 8) s else s)
  else if a = 0x010010 then spllAsk s
  else if a = 0x01004C then onBits v [rtcLoad, rtcInvalid] s
  else if a = 0x020000 then onBits v [reepochGo, reepochAbort] s
  else if a = 0x020060 then stepGo (s.flag R.ETM_STEP_CMD_ABS) s
  else if a = 0x02009C then convGo r.iface (s.flag (R.ETM_CONV_CMD_DIR.ifc r.iface)) s
  else if a = 0x030000 then (List.range 24).foldl (fun s n => prescSync n s) s
  else
    let n := (a - 0x031000) / 0x80
    onBits v [if tbit v 1 then id else ssArm n, ssDisarm n, prescSync n, statRestartReq n, clpFlush n] s

/-- The actions of the windows SEL to PRL. -/
def actMid (r : Req) (a v : Nat) (s : State) : State :=
  if a = 0x050038 then acceptReq v s
  else if a = 0x060000 then after (execModelClr s) s
  else if a = 0x0A0028 then onBits v [fun s => after (execMeasHold r.iface s) s, fun s => after (execMeasUnhold r.iface s) s] s
  else if a = 0x0A0204 then onBits v [feRun, feAbort] s
  else if a / 0x10000 = 0x0A then s.setGns { s.gns with rel := (a - 0x0A1000) / 0x20 :: s.gns.rel }
  else if a = 0x0B0000 then after (execSurveyRst s) s
  else if a = 0x0B0180 then onBits v [fun s => after (execGnssSleep s) s, fun s => after (execGnssWake s) s] s
  else if a / 0x10000 = 0x0C then
    let k := (a - 0x0C1000) / 0x100
    onBits (v / 2 ^ 8) [laneInject k 1, laneInject k (s.get (R.LAN_LANE_PRBS_CTL_BURST_LEN k)), fun s => after (execChkClr (Fin.ofNat 16 k) s) s] s
  else if a = 0x0D0024 then hrxPop s
  else if a = 0x0D0040 then after (execHtxDataWrite (BitVec.ofNat 32 v) s) s
  else if a = 0x0D0044 then onBits v [htxSubmit, fun s => after (execHtxAbandon s) s] s
  else if a = 0x0E0224 then onBits v [sessRead, sessWrite, sessCancel] s
  else if a = 0x0F000C then
    onBits v [keyBegin r.iface, keyStage r.iface (s.get R.KEY_STG_OP_OP), keyCommit r.iface, fun s => after (execKeyAbort r.iface s) s] s
  else if a = 0x0F0320 then attGo r.iface s
  else after (execPathSwitch (Fin.ofNat 8 ((a - 0x101000) / 0x100)) s) s

/-- The actions of the windows FLT to HST. -/
def actHigh (r : Req) (a v : Nat) (s : State) : State :=
  if a = 0x130000 then onBits (v / 2) [flushStart false, eraseFixed, eraseRoll, recHostTrig] s
  else if a = 0x130040 then recRdGo r.iface s
  else if a / 0x1000 = 0x140 then irqCompleteOp ((a - 0x140100) / 0x20) v s
  else if a = 0x150000 then pmcSnapOp s
  else if a = 0x160014 then onBits v [cfgLock, fun s => storeAsk (s.get R.CFG_CMD_SET) s] s
  else if a = 0x160060 then onBits (v / 2 ^ 16) [ovlAppend, ovlClear] s
  else if a = 0x1600A0 then onBits (v / 4) [ikEnroll (s.get R.CFG_IK_CMD_IDX), ikRevoke (s.get R.CFG_IK_CMD_IDX)] s
  else custCmd r.iface r.who v s

/-- The actions that a word starts; ETM, CLP and the rest read their arguments from the registers as the same word leaves them. -/
def runAct (r : Req) (key v : Nat) (s : State) : State :=
  let a := key % 2 ^ 24
  if v = 0 ∧ a / 0x1000 ≠ 0x140 ∧ a ≠ 0x0D0040 then s
  else if a < 0x040000 then actLow r a v s
  else if a < 0x120000 then actMid r a v s
  else actHigh r a v s

/-! ## What a write that takes effect at once entails -/

/-- RET_USER: the retention SRAM's user area (19 R480). -/
def retUserPut (a v : Nat) (s : State) : State := setRetWord (a - 0x018000 + 0x800) v s

/-- What follows from the fields of a register written at once. old: its word before. -/
def nowHook (r : Req) (key old : Nat) (s : State) : State :=
  let a := key % 2 ^ 24
  if 0x0C1000 ≤ a ∧ a < 0x0C2000 ∧ a % 0x100 = 0 then prlSync (laneCfgApplied ((a - 0x0C1000) / 0x100) old s)
  else if 0x0C0100 ≤ a ∧ a < 0x0C0140 ∧ a % 0x10 = 0 then prlSync (quadCfgApplied ((a - 0x0C0100) / 0x10) old s)
  else if 0x0C1000 ≤ a ∧ a < 0x0C2000 ∧ a % 0x100 = 8 then txeqApplied ((a - 0x0C1000) / 0x100) s
  else if 0x0D1000 ≤ a ∧ a < 0x0D3000 ∧ (a - 0x0D1000) % 0x200 = 0 then macCfgApplied ((a - 0x0D1000) / 0x200) old s
  else if a = 0x0E0018 then tsvUnsync s
  else if a = 0x130000 then updPhase s
  else if a = 0x170100 then
    [Iface.spi, .i2c, .inband].foldl (fun s j => if r.iface != j && custIdle s j then custEnd j s else s) s
  else if 0x141000 ≤ a ∧ a < 0x141400 then
    let n := (a - 0x141000) / 4
    let new := rdWord s a
    let s := wrWord s a (withBits new 3 0 (bits old 3 0))
    let s := if bits new 3 1 = bits old 3 1 then s else irqTargetOp n (bits new 3 1) s
    irqWithdrawAll (if tbit new 0 == tbit old 0 then s else irqEnOp n (tbit new 0) s)
  else if 0x140100 ≤ a ∧ a < 0x1401C0 ∧ a % 0x20 = 8 then
    let t := (a - 0x140100) / 0x20
    let new := rdWord s a
    if tbit new 8 == tbit old 8 then pmcSettle (tgtGather t s) else irqSleepOp t (tbit new 8) (wrWord s a (withBit new 8 (tbit old 8)))
  else s

/-- Fields that take effect at once are stored where the register lives. -/
def storeNow (r : Req) (key : Nat) (p : WriteParts) (s : State) : State :=
  let a := key % 2 ^ 24
  if p.mask = 0 then s
  else if 0x018000 ≤ a ∧ a < 0x018800 then retUserPut a p.val s
  else if a = 0x130024 then
    let c := s.get R.REC_CODE_IDX_CODE
    let d : Word := if c < 0x140 then 0x402 else 0x801
    let w := (tget d s.rcd.codeCfg c).toNat
    { s with rcd := { s.rcd with codeCfg := tset d s.rcd.codeCfg c (BitVec.ofNat 32 (w - (w &&& p.mask) + (p.val &&& p.mask))) } }
  else
    let old := rdWord s key
    nowHook r key old (wrWord s key (old - (old &&& p.mask) + (p.val &&& p.mask)))

/-! ## A write that takes its course -/

/-- W1C bits cleared; requests that they upheld are withdrawn (18 R454). -/
def clearNow (key clr : Nat) (s : State) : State :=
  if clr = 0 then s
  else
    let w := rdWord s key
    irqWithdrawAll (wrWord s key (w - (w &&& clr)))

/-- A write to a Stroke-read register that is not held, or whose hold ends: its fields wait for the next edge, and its actions start. -/
def writeWaits (r : Req) (w : WaitWrite) (act : Nat) (s : State) : State :=
  let s := if w.mask = 0 then s
    else if stepArg w.key then applyWait w s
    else { s with gen := { s.gen with waiting := s.gen.waiting ++ [{ w with act := none }] } }
  let s := if w.key = 0x070020 ∧ w.mask ≠ 0 then { s with tch := { s.tch with codeReq := some w.val } } else s
  if w.key = 0x120010 then (if act = 0 then s else fltClrReq (bits (lastWord s 0x120010) 8 0) s) else runAct r w.key act s

/-- A held write's actions, with the interface (01 R34). -/
def heldGo (w : WaitWrite) (s : State) : State :=
  match w.act with
  | none => writeWaits (.host .spi none) w 0 s
  | some e => writeWaits (.host e.1 none) w e.2 s

/-- HOLD_APPLY written 0 (01 R34): every held write takes its course, in order of arrival. -/
def holdApply (s : State) : State :=
  let l := s.gen.held
  l.foldl (fun s w => heldGo w s) (holdDrop s)

/-- A write that is let through. -/
def writeGo (r : Req) (key a : Nat) (d : RegDesc) (p : WriteParts) (s : State) : State :=
  let s := if 0x020100 ≤ a ∧ a < 0x020180 then s else clearNow key p.clr s
  if 0x020100 ≤ a ∧ a < 0x020180 then
    if p.mask = 0 ∧ p.clr = 0 then s
    else
      let w := rdWord s key - (rdWord s key &&& p.mask) + (p.val &&& p.mask)
      let k := a % 0x10 / 4
      almWrite ((a - 0x020100) / 0x10) k (if k = 3 then withBits w 9 8 (bits p.clr 9 8) else w) s
  else if strokeReg a d then
    let w : WaitWrite := { key := key, val := p.val, mask := p.mask }
    if s.flag R.GEN_STROKE_CTL_HOLD_APPLY ∧ r ≠ .image then
      if p.mask = 0 ∧ p.act = 0 then s
      else pmcAdd 6 1 {} { s with gen := { s.gen with held := s.gen.held ++ [{ w with act := some (r.iface, p.act) }] } }
    else writeWaits r w p.act s
  else
    let s := storeNow r key p s
    if p.act = 0 && !p.took then s else runAct r key p.act s

end Sys2Proof.Machine
end

