-- ==== Sys2Proof/Machine/Access.lean ====
section
/-! DEFINITION. Register accesses by the hosts and by the image apply master: their checks (20 R507, R515 to R517, 00 R9, 01 R36, 18 R465, 22 R555 to
R557), what a read returns and does, and the host transactions (20 R516). -/

namespace Sys2Proof.Machine

/-! ## Writes -/

/-- The windows that take writes before RUN or FAILSAFE (20 R507): GEN, CFG, HST and KEY. -/
def openEarly (a : Nat) : Bool := a / 0x10000 == 0 || a / 0x10000 == 22 || a / 0x10000 == 23 || a / 0x10000 == 15

/-- Is there a hold that another interface owns? -/
def holdOther (s : State) (r : Req) : Bool :=
  match r with
  | .host j _ => s.flag R.GEN_STROKE_CTL_HOLD_APPLY && !ownsHold s j
  | .image => false

/-- GEN_STROKE_CTL written (01 R34 to R36): the code, and the state after. -/
def holdWrite (r : Req) (v : Nat) (s : State) : Nat × State :=
  if tbit v 0 && !cfgRuns s then (4, s)
  else if holdOther s r then (5, s)
  else if !reqCust s r then (if tbit v 1 || tbit v 0 != s.flag R.GEN_STROKE_CTL_HOLD_APPLY then 3 else 0, s)
  else if tbit v 1 then (0, holdDrop s)
  else if tbit v 0 then (0, holdSet r.iface s)
  else (0, if s.flag R.GEN_STROKE_CTL_HOLD_APPLY then holdApply s else s)

/-- A write of a register that has a map: the code (20 R517), and the state after. -/
def writeReg (r : Req) (a v : Nat) (d : RegDesc) (s : State) : Nat × State :=
  let key := regKey r d a
  let held := strokeReg a d && s.flag R.GEN_STROKE_CTL_HOLD_APPLY && r != .image
  if a = 0x00010C then holdWrite r v s
  else if strokeReg a d && holdOther s r then (5, s)
  else
    let p := writeParts s (reqCust s r) key v d
    if held && decide (256 ≤ s.gen.held.length) && (p.mask != 0 || p.act != 0) then (5, raiseEvt R.GEN_STROKE_STAT_HOLD_OVERFLOW 21 s)
    else
      let dup := (ntsSlotOf a).any (fun j => reqCust s r && ntsDup s j (v % 2 ^ 32))
      let s := if dup then s.put R.TSV_NTS_CFG_ERR 1 else s
      (if p.priv then 3 else 0, writeGo r key a d p s)

/-- A word written at an aligned address: the code, and the state after. Unmapped first (22 R556), then START, HOLD and PRIV. -/
def writeCode (r : Req) (a v : Nat) (s : State) : Nat × State :=
  if !mapped a then (6, s)
  else if r ≠ .image ∧ !openEarly a ∧ !cfgRuns s then (4, s)
  else match findReg a with
    | none => (0, s)
    | some d => writeReg r a v d s

/-- The master of an interface. -/
def masterOf : Iface → Master
  | .spi => .spi
  | .i2c => .i2c
  | .inband => .inband

/-- An access's error shown, where there is one (20 R517). -/
def accDone (j : Iface) (a : Nat) (o : Nat × State) : State := if o.1 = 0 then o.2 else accErr j o.1 a o.2

/-- A host's write of one word, counted (18 R462): the code, and the state after. -/
def hostWord (j : Iface) (who : Option MgmtWho) (a v : Nat) (s : State) : Nat × State :=
  let s := hstTouch j (custSettle s)
  let s := if mapped a then pmcAdd (7 + j.num) 1 (accCtx s (masterOf j) a) s else s
  let o := writeCode (.host j who) a v s
  (o.1, accDone j a o)

/-! ## Reads -/

/-- Is a PMC register withheld from an Observer (18 R465)? -/
def withheld (s : State) (j : Iface) (a : Nat) : Bool :=
  !isCust s j && (((a / 0x1000 == 0x151 || a / 0x1000 == 0x152) && !tbit (s.get R.PMC_PERM_GROUP) (a % 0x800 / 128))
    || (a / 0x20 == 0x150300 / 0x20 && !s.flag R.PMC_PERM_TAG))

/-- The fields that read as 0 (00 R8). -/
def readMask (d : RegDesc) (w : Nat) : Nat :=
  d.fields.foldl (fun w f => if f.acc == .wo || f.acc == .w1p then withBits w f.hi f.lo 0 else w) w

/-- The ROC fields of a register back at their reset values (00 R8). -/
def rocClear (key : Nat) (d : RegDesc) (s : State) : State :=
  let w := rdWord s key
  let z := (resetWord key).toNat
  wrWord s key (d.fields.foldl (fun w f => if f.acc == .roc then withBits w f.hi f.lo (bits z f.hi f.lo) else w) w)

/-- A read that removes, claims or selects: the word, and the state after. None where the register has no such rule. -/
def readSpecial (j : Iface) (a : Nat) (s : State) : Option (Nat × State) :=
  if 0x031000 ≤ a ∧ a < 0x031C00 ∧ a % 0x80 = 0x24 then some (clpQRead j.num ((a - 0x031000) / 0x80) s)
  else if 0x0D1000 ≤ a ∧ a < 0x0D3000 ∧ (a - 0x0D1000) % 0x200 = 0xA4 then some (tsqRead j.num ((a - 0x0D1000) / 0x200) s)
  else if a = 0x0D0020 then some (hrxRead s)
  else if a = 0x150300 then some (tagRead j.num s)
  else if 0x140100 ≤ a ∧ a < 0x1401C0 ∧ a % 0x20 = 0 then some (claimBy (masterOf j) ((a - 0x140100) / 0x20) s)
  else if 0x0A8000 ≤ a ∧ a < 0x0A9830 then some (measWord s (bankFor s j) (a - 0x0A8000), s)
  else if a = 0x0A0004 then some (withBit (liveWord s a) 15 (tget none s.gns.pins j.num).isSome, s)
  else none

/-- A read of a register that has a map. -/
def readReg (j : Iface) (a : Nat) (d : RegDesc) (s : State) : Nat × State :=
  let key := regKey (.host j none) d a
  let o := match readSpecial j a s with
    | some o => o
    | none =>
      if (s.gen.waiting ++ s.gen.held).any (fun w => w.key == key) then (lastWord s key, s)
      else if d.perIf && (capTrigger a).isNone && !isCompanion a then (rdWord s key, s)
      else readAs j.num a s
  let v := readMask d o.1
  if isCust s j ∧ d.fields.any (fun f => f.acc == .roc) then (v, rocClear key d o.2) else (v, o.2)

/-- A word read at an aligned address: the code, the word, and the state after. -/
def readCode (j : Iface) (a : Nat) (s : State) : Nat × Nat × State :=
  if !mapped a then (6, 0, s)
  else if withheld s j a then (3, 0, s)
  else match findReg a with
    | none => (0, 0, s)
    | some d =>
      let o := readReg j a d s
      (0, o.1, o.2)

/-- A host's read of one word, counted: the code, the word, and the state after. -/
def hostFetch (j : Iface) (a : Nat) (s : State) : Nat × Nat × State :=
  let s := hstTouch j (custSettle s)
  let s := if mapped a then pmcAdd (10 + j.num) 1 (accCtx s (masterOf j) a) s else s
  let o := readCode j a s
  (o.1, o.2.1, accDone j a (o.1, o.2.2))

/-! ## Transactions (20 R516, 22 R557) -/

/-- Words written from an address on, each with its own checks. The address never wraps. -/
def writeWords (j : Iface) : Nat → List Nat → State → State
  | _, [], s => s
  | a, v :: l, s => writeWords j (a + 4) l (if 2 ^ 24 ≤ a then accErr j 6 a (hstTouch j s) else (hostWord j none a v s).2)

/-- n words read from an address on, appended to what the transaction has read. -/
def readWords (j : Iface) : Nat → Nat → State → State
  | 0, _, s => s
  | n + 1, a, s =>
    let o := if 2 ^ 24 ≤ a then (6, 0, accErr j 6 a (hstTouch j s)) else hostFetch j a s
    readWords j n (a + 4) (o.2.2.setHst { o.2.2.hst with out := o.2.2.hst.out ++ [o.2.1] })

/-- A write transaction; part: it ends inside a further word. -/
def hostWrite (j : Iface) (a : Nat) (l : List Nat) (part : Bool) (s : State) : State :=
  if a % 4 ≠ 0 then accErr j 1 a (hstTouch j s)
  else
    let s := writeWords j a l s
    if part then accErr j 2 (a + 4 * l.length) (hstTouch j s) else s

/-- A read transaction; part: it ends inside a further word. -/
def hostRead (j : Iface) (a n : Nat) (part : Bool) (s : State) : State :=
  let s := s.setHst { s.hst with out := [] }
  if a % 4 ≠ 0 then accErr j 1 a (hstTouch j s)
  else
    let s := readWords j n a s
    if part then accErr j 2 (a + 4 * n) (hstTouch j s) else s

/-- SPI STATUS (20 R516): the last error code, and Custodian. -/
def hostStatus (s : State) : State :=
  let s := hstTouch .spi (custSettle s)
  s.setHst { s.hst with out := [s.get (R.HST_STAT_ERR_CODE.ifc .spi) + 16 * bit (isCust s .spi)] }

/-- An unknown SPI opcode (20 R516, R517): FRAME. The address that HST_ERR_ADDR then shows is not stated. -/
def spiFrame (op : Nat) (s : State) : State :=
  if op = 0x02 ∨ op = 0x0B ∨ op = 0x32 ∨ op = 0x6B ∨ op = 0x05 then s
  else
    let r := (hstTouch .spi s).fresh 24
    accErr .spi 7 r.1 r.2

/-! ## The commands -/

/-- REGISTER_WRITE (01 R32): a word written through an interface. -/
def execRegisterWrite (j : Iface) (a : BitVec 24) (v : BitVec 32) (dt : Nat) (s : State) : Host.Outcome State Fault Refusal :=
  live s (hostWrite j a.toNat [v.toNat] false (s.tick dt))

/-- HOLD_APPLY_SET (01 R34, R36): GEN_STROKE_CTL written with HOLD_APPLY = 1. -/
def execHoldApplySet (j : Iface) (s : State) : Host.Outcome State Fault Refusal := live s (hostWrite j 0x00010C [1] false s)

/-- HOLD_APPLY_CLEAR (01 R34): GEN_STROKE_CTL written with HOLD_APPLY = 0. -/
def execHoldApplyClear (j : Iface) (s : State) : Host.Outcome State Fault Refusal := live s (hostWrite j 0x00010C [0] false s)

/-- DISCARD (01 R34). -/
def execHoldDiscard (j : Iface) (s : State) : Host.Outcome State Fault Refusal := live s (hostWrite j 0x00010C [2] false s)

/-- SPLL_PLAN_WRITE (19 R488): SPLL_CFG, NUM, DEN or OSC_HZ written by a Custodian; the plan counts at the next edge. -/
def execSpllPlanWrite (w : Fin 4) (v : BitVec 32) (s : State) : Host.Outcome State Fault Refusal :=
  live s (writeCode .image (0x010010 + 4 * w.val) v.toNat s).2

/-- WRITE (20 R516): SPI 0x02. -/
def execSpiWrite (a : BitVec 24) (l : List Word) (part : Bool) (dt : Nat) (s : State) : Host.Outcome State Fault Refusal :=
  live s (hostWrite .spi a.toNat (l.map (·.toNat)) part (s.tick dt))

/-- READ (20 R516): SPI 0x0B. -/
def execSpiRead (a : BitVec 24) (n : Nat) (part : Bool) (dt : Nat) (s : State) : Host.Outcome State Fault Refusal :=
  live s (hostRead .spi a.toNat n part (s.tick dt))

/-- QWRITE (20 R516): SPI 0x32, the same accesses on four data lines. -/
def execSpiQwrite (a : BitVec 24) (l : List Word) (part : Bool) (dt : Nat) (s : State) : Host.Outcome State Fault Refusal :=
  live s (hostWrite .spi a.toNat (l.map (·.toNat)) part (s.tick dt))

/-- QREAD (20 R516): SPI 0x6B, the same accesses on four data lines. -/
def execSpiQread (a : BitVec 24) (n : Nat) (part : Bool) (dt : Nat) (s : State) : Host.Outcome State Fault Refusal :=
  live s (hostRead .spi a.toNat n part (s.tick dt))

/-- STATUS (20 R516): SPI 0x05. -/
def execSpiStatus (dt : Nat) (s : State) : Host.Outcome State Fault Refusal := live s (hostStatus (s.tick dt))

/-- SPI_UNKNOWN_OPCODE (20 R516). -/
def execSpiUnknownOpcode (op : Byte) (dt : Nat) (s : State) : Host.Outcome State Fault Refusal := live s (spiFrame op.toNat (s.tick dt))

/-- I2C_WRITE (20 R516); dev: the 7-bit address that the master sends. A transaction for another address only takes its time. -/
def execI2cWrite (dev : BitVec 7) (a : BitVec 24) (l : List Word) (part : Bool) (dt : Nat) (s : State) : Host.Outcome State Fault Refusal :=
  live s (if dev.toNat = i2cAddr s then hostWrite .i2c a.toNat (l.map (·.toNat)) part (s.tick dt) else s.tick dt)

/-- I2C_READ (20 R516); dev: the 7-bit address that the master sends. A transaction for another address only takes its time. -/
def execI2cRead (dev : BitVec 7) (a : BitVec 24) (n : Nat) (part : Bool) (dt : Nat) (s : State) : Host.Outcome State Fault Refusal :=
  live s (if dev.toNat = i2cAddr s then hostRead .i2c a.toNat n part (s.tick dt) else s.tick dt)

end Sys2Proof.Machine
end

