-- ==== Sys2Proof/Machine/Cfg.lean ====
section
/-! DEFINITION. Start-up from the Nyger image (20 R498 to R506): headers, checks, the apply of its records and of the overlay, and the restore. -/

namespace Sys2Proof.Machine

/-! ## The image (20 R501, R502) -/

/-- n bytes of an image from offset o on, as a little-endian number. -/
def imgLe (b : List Nat) (o n : Nat) : Nat := ofLe ((b.drop o).take n)

/-- Are a header's MAGIC and HDR_CRC good (20 R500)? -/
def hdrGood (b : List Nat) : Bool := b.take 4 == ascii "NYGR" && imgLe b 60 4 == crc32 (b.take 60)

/-- A section: its TYPE, OFFSET and SLEN. -/
structure Sect where
  type : Nat
  off : Nat
  len : Nat
  deriving DecidableEq, Repr

/-- The sections that the table names. -/
def imgSects (b : List Nat) : List Sect :=
  (List.range (imgLe b 16 2)).map (fun k => { type := imgLe b (64 + 16 * k) 2, off := imgLe b (68 + 16 * k) 4, len := imgLe b (72 + 16 * k) 4 })

/-- Do no two sections of a list overlap? -/
def sectsApart : List Sect → Bool
  | [] => true
  | x :: t => t.all (fun y => decide (x.off + x.len ≤ y.off) || decide (y.off + y.len ≤ x.off)) && sectsApart t

/-- Are the header's fields and the section bounds in range (20 R501, R504 reason 1)? -/
def imgForm (b : List Nat) : Bool :=
  let fl := imgLe b 5 1
  let n := imgLe b 16 2
  let len := imgLe b 12 4
  imgLe b 4 1 == 1 && bits fl 1 0 != 3 && bits fl 3 2 != 3 && bits fl 7 5 == 0 && decide (1 ≤ n) && decide (n ≤ 16) && decide (96 ≤ len)
    && (imgSects b).all (fun x => x.off % 8 == 0 && decide (x.off + x.len ≤ len) && (x.type != 1 || x.len % 8 == 0))
    && sectsApart (imgSects b) && decide (((imgSects b).filter (fun x => x.type == 2)).length ≤ 1)

/-- The REGS records of an image in order: ADDR, OP and VALUE. -/
def imgRecs (b : List Nat) : List (Nat × Nat × Nat) :=
  ((imgSects b).filter (fun x => x.type == 1)).flatMap (fun x =>
    (List.range (x.len / 8)).map (fun k => (imgLe b (x.off + 8 * k) 3, imgLe b (x.off + 8 * k + 3) 1, imgLe b (x.off + 8 * k + 4) 4)))

/-- A register that an image may not write (20 R502). -/
def imgForbids (a : Nat) (d : RegDesc) : Bool :=
  d.perIf || a == 0x000014 || a == 0x01000C || a == 0x0F000C || (decide (0x0F0100 ≤ a) && decide (a < 0x0F0150))
    || (decide (0x160080 ≤ a) && decide (a < 0x1600A8))

/-- Does a record pass (20 R502)? -/
def recGood (x : Nat × Nat × Nat) : Bool :=
  x.1 % 4 == 0 && (match x.2.1 with
    | 0 => match findReg x.1 with
      | some d => d.fields.any (fun f => f.acc != .ro && f.acc != .roc) && !imgForbids x.1 d
      | none => false
    | 1 => decide (1 ≤ x.2.2) && decide (x.2.2 ≤ 8000)
    | _ => false)

/-- Is the signature left unchecked: no entry enrolled, and FACTORY (20 R503)? -/
def sigWaived (s : State) : Bool := s.get R.CFG_IK_STAT_ENROLLED == 0 && s.get R.GEN_LC_STATE == 1

/-- The OTP entry whose hash an image's PUBKEY has, enrolled and not revoked (20 R503). -/
def imgEntry (s : State) (b : List Nat) : Option Nat :=
  let h := ofLe (resBytes (Config.sha256 (toBytes ((b.drop (imgLe b 12 4 + 4)).take 32))))
  (List.range 4).find? (fun k => tbit (s.get R.CFG_IK_STAT_ENROLLED) k && !tbit (s.get R.CFG_IK_STAT_REVOKED) k && tget 0 s.cfg.ik k == h)

/-- Does SIG verify over the signed part? -/
def sigGood (b : List Nat) : Bool :=
  let n := imgLe b 12 4
  Config.ed25519 (toBytes ((b.drop (n + 4)).take 32)) (toBytes (b.take n)) (toBytes ((b.drop (n + 36)).take 64))

/-- The reason to reject a candidate, the first that applies; 0 for none (20 R504). -/
def imgReason (s : State) (b : List Nat) : Nat :=
  let n := imgLe b 12 4
  if !imgForm b then 1
  else if imgLe b 6 2 ≠ 0x8816 then 2
  else if 2 ^ 21 < n + 100 then 3
  else if imgLe b n 4 ≠ crc32 (b.take n) then 4
  else if !sigWaived s ∧ (imgEntry s b).isNone then 5
  else if !sigWaived s ∧ !sigGood b then 6
  else if imgLe b 8 4 < s.get R.CFG_MIN_SEQ_MIN_SEQ then 7
  else if (imgSects b).any (fun x => x.type == 2 && !Config.patchSigned (toBytes ((b.drop x.off).take x.len))) then 8
  else if (imgRecs b).any (fun x => !recGood x) then 9
  else 0

/-! ## The table of 20 R498 -/

/-- CFG_STAT.STATE. -/
def cfgState (s : State) : Nat := s.get R.CFG_STAT_STATE

/-- CHECK with no candidate left: RESTORE, nothing applied. -/
def checkNext (s : State) : State :=
  if s.cfg.cands.isEmpty then logRec 0x1A2 [] ((s.setCfg { s.cfg with failsafe := true }).put R.CFG_STAT_STATE 3) else s

/-- FETCH: both headers are read; the candidates in order of higher IMG_SEQ, slot A first of equals (20 R500). -/
def headersRead (ha hb : List Nat) (s : State) : State :=
  if cfgState s ≠ 0 then s
  else
    let a := if hdrGood ha then [0] else []
    let b := if hdrGood hb then [1] else []
    let l := if imgLe ha 8 4 < imgLe hb 8 4 then b ++ a else a ++ b
    checkNext ((s.setCfg { s.cfg with cands := l }).put R.CFG_STAT_STATE 1)

/-- The records are written in order, up to a WAIT or the end (20 R505). -/
def applyRecs : List (Nat × Nat × Nat) → State → State
  | [], s => s.setCfg { s.cfg with recs := [], waitTo := 0 }
  | (a, op, v) :: t, s =>
    if op = 1 then s.setCfg { s.cfg with recs := t, waitTo := s.strokes + v }
    else applyRecs t (writeCode .image a v s).2

/-- CHECK rejects a candidate (20 R504). -/
def imgReject (slot why : Nat) (s : State) : State :=
  let s := s.put (if slot = 0 then R.CFG_STAT_REJ_A else R.CFG_STAT_REJ_B) why
  checkNext (logRec 0x1A1 [slot, why] (cfgEvt R.CFG_EVT_SLOT_REJ (s.setCfg { s.cfg with cands := s.cfg.cands.tail })))

/-- A candidate that passes: its digest is latched, and APPLY begins (20 R498, R501). -/
def imgPass (slot : Nat) (b : List Nat) (s : State) : State :=
  let d := resBytes (Config.sha256 (toBytes (b.take (imgLe b 12 4))))
  let s := (List.range 8).foldl (fun s w => s.put (R.CFG_DIGEST_W_DIGEST w) (ofLe ((d.drop (4 * w)).take 4))) s
  let s := s.putB R.CFG_STAT_UNSIGNED (sigWaived s)
  let s := s.put R.CFG_IK_STAT_USED (if sigWaived s then 0 else (imgEntry s b).getD 0)
  let s := s.setCfg { s.cfg with cands := [], slot := slot, seq := imgLe b 8 4, imgLock := tbit (imgLe b 5 1) 4 }
  applyRecs (imgRecs b) (s.put R.CFG_STAT_STATE 2)

/-- CHECK: the image of the candidate in turn is read. -/
def candChecked (b : List Nat) (s : State) : State :=
  if cfgState s ≠ 1 then s
  else match s.cfg.cands with
    | [] => s
    | slot :: _ =>
      let why := imgReason s b
      if why = 0 then imgPass slot b s else imgReject slot why s

/-- A WAIT ends, and the apply continues (20 R502). -/
def applyWaited (s : State) : State :=
  if cfgState s = 2 ∧ s.cfg.waitTo ≠ 0 ∧ s.cfg.waitTo ≤ s.strokes then applyRecs s.cfg.recs s else s

/-- The overlay's records, applied in the same way; one that fails R502 is skipped and counted (20 R505). -/
def applyOvl (s : State) : State :=
  s.cfg.ovl.foldl (fun s x =>
    if recGood (x.1, 0, x.2) then (writeCode .image x.1 x.2 s).2.addSat R.CFG_OVL_RES_APPLIED 1 else s.addSat R.CFG_OVL_RES_OVL_ERR 1) s

/-- The image and the overlay are applied: lock, RESTORE, and the image remembered (20 R498, R505, R506, R508). -/
def imgApplied (s : State) : State :=
  if cfgState s = 2 ∧ s.cfg.recs.isEmpty ∧ s.cfg.waitTo = 0 then
    let s := applyOvl s
    let s := (s.put R.CFG_IMG_SEQ_IMG_SEQ s.cfg.seq).put R.CFG_STAT_SLOT s.cfg.slot
    let s := if s.cfg.imgLock || s.get R.GEN_LC_STATE == 3 then cfgLock s else s
    setRetWord 0x300 s.cfg.slot (setRetWord 0x304 s.cfg.seq (s.put R.CFG_STAT_STATE 3))
  else s

/-- RESTORE: the rest of the learned stores is loaded, once the image's writes have taken effect; RUN or FAILSAFE is due at the next edge (20 R498,
R505). -/
def restoreDone (s : State) : State :=
  if cfgState s = 3 ∧ !s.cfg.runDue ∧ s.gen.waiting.isEmpty then
    let s := storesRest s
    s.setCfg { s.cfg with runDue := true }
  else s

/-! ## The commands -/

/-- HEADERS_READ (20 R500): the 64-byte headers of slots A and B. -/
def execHeadersRead (ha hb : List Byte) (s : State) : Host.Outcome State Fault Refusal :=
  live s (headersRead (ha.map (·.toNat)) (hb.map (·.toNat)) s)

/-- CANDIDATE_CHECKED (20 R504): the bytes of the candidate in turn, with its trailer. -/
def execCandidateChecked (img : List Byte) (s : State) : Host.Outcome State Fault Refusal := live s (candChecked (img.map (·.toNat)) s)

/-- APPLY_WAIT_EXPIRE (20 R502). -/
def execApplyWaitExpire (s : State) : Host.Outcome State Fault Refusal := live s (applyWaited s)

/-- IMAGE_APPLIED (20 R505, R506). -/
def execImageApplied (s : State) : Host.Outcome State Fault Refusal := live s (imgApplied s)

/-- RESTORE_DONE (20 R498). -/
def execRestoreDone (s : State) : Host.Outcome State Fault Refusal := live s (restoreDone s)

end Sys2Proof.Machine
end

