-- ==== Sys2Proof/Machine/Hst.lean ====
section
/-! DEFINITION. In-band management (20 R520, R521): a request authenticated, checked for replay, performed and answered. -/

namespace Sys2Proof.Machine

/-- n words of a byte string. -/
def bytesWords (n : Nat) (b : List Nat) : List Nat := (List.range n).map (fun k => ofLe ((b.drop (4 * k)).take 4))

/-- The requester of a request (20 R521 step 5). -/
def mgmtWho (key : Nat) (r : MgmtReq) : MgmtWho := { key := key, port := r.port, mac := r.mac, pair := r.pair, node := r.node }

/-- The words of a WRITE operation: the first error among them, and the state after (22 R557). -/
def opWrite (w : MgmtWho) : Nat → List Nat → Nat → State → Nat × State
  | _, [], e, s => (e, s)
  | a, v :: l, e, s =>
    let o := if 2 ^ 24 ≤ a then (6, accErr .inband 6 a (hstTouch .inband s)) else hostWord .inband (some w) a v s
    opWrite w (a + 4) l (if e = 0 then o.1 else e) o.2

/-- The words of a READ operation: the first error, the words, and the state after. -/
def opRead : Nat → Nat → Nat → List Nat → State → Nat × List Nat × State
  | 0, _, e, l, s => (e, l, s)
  | n + 1, a, e, l, s =>
    let o := if 2 ^ 24 ≤ a then (6, 0, accErr .inband 6 a (hstTouch .inband s)) else hostFetch .inband a s
    opRead n (a + 4) (if e = 0 then o.1 else e) (l ++ [o.2.1]) o.2.2

/-- One operation of a request (20 R520): the bytes of its part of the response, what is left of the operations, and the state after. A malformed operation
answers FRAME and ends the rest. -/
def mgmtOp (w : MgmtWho) (b : List Nat) (s : State) : List Nat × List Nat × State :=
  let opc := b.getD 0 0
  let n := b.getD 1 0
  let a := ofBe ((b.drop 2).take 3)
  let head := fun (st : Nat) => [opc, n] ++ beBytes 3 a ++ [st, 0, 0]
  let need := if opc = 2 then 8 + 4 * n else 8
  if b.length < need ∨ (opc ≠ 1 ∧ opc ≠ 2) ∨ n = 0 ∨ 64 < n then (head 7, [], accErr .inband 7 a (hstTouch .inband s))
  else if a % 4 ≠ 0 then
    (head 1 ++ (if opc = 1 then List.replicate (4 * n) 0 else []), b.drop need, accErr .inband 1 a (hstTouch .inband s))
  else if opc = 2 then
    let o := opWrite w a (bytesWords n (b.drop 8)) 0 s
    (head o.1, b.drop need, o.2)
  else
    let o := opRead n a 0 [] s
    (head o.1 ++ o.2.1.flatMap (leBytes 4), b.drop need, o.2.2)

/-- The operations of a request in order: the response's operations, and the state after. fuel: the bytes left. -/
def mgmtOps (w : MgmtWho) : Nat → List Nat → List Nat → State → List Nat × State
  | 0, _, out, s => (out, s)
  | fuel + 1, b, out, s =>
    if b.isEmpty then (out, s)
    else
      let o := mgmtOp w b s
      mgmtOps w fuel o.2.1 (out ++ o.1) o.2.2

/-- The key slot of a KEY_ID: the LIVE MGMT key of that role (14 R361, R369). -/
def mgmtKey (s : State) (id : Nat) : Option Nat := keyByRole s.key.slots 8 id none

/-- An answer sent the way the request came, under the request's key with HMAC_GEN; none where that key is no longer usable (20 R520, R521 step 6). -/
def mgmtAnswer (r : MgmtReq) (slot type : Nat) (key boot seq : Nat) (ops : List Nat) (s : State) : State :=
  if keyGate s slot 2 1 = 1 then s
  else
    let b := [1, type] ++ beBytes 2 ops.length ++ beBytes 4 key ++ beBytes 4 boot ++ beBytes 4 seq ++ ops
    let m := b ++ (hmacOf (s.slot slot).key b).take 16
    let s := keyUseNow slot (msgWake s)
    let s := s.setHst { s.hst with answer := m }
    match r.port with
    | none => msgSend 2 r.pair m s
    | some k =>
      let f := ethFrame r.mac (portAddr s k) r.tags (s.get R.HST_MGMT_ETYPE_MGMT_ETYPE) m
      if laneActive s k && !lanePrl s k then s.setPort k { s.port k with tx := (s.port k).tx ++ [{ src := 3, bytes := f, at' := s.now }] } else s

/-- The privilege under which interface 2 acts: the Custodian requester's, during that requester's request (20 R521). -/
def mgmtEnter (w : MgmtWho) (s : State) : State := s.putB (R.HST_STAT_CUST.ifc .inband) (s.hst.who == some w)

/-- After a request HST_STAT of interface 2 shows whether any requester is Custodian. -/
def mgmtLeave (s : State) : State := s.putB (R.HST_STAT_CUST.ifc .inband) s.hst.who.isSome

/-- A request that has passed its authentication (20 R521 steps 3 to 6). -/
def mgmtServe (r : MgmtReq) (slot : Nat) (s : State) : State :=
  let b := r.msg
  let n := ofBe ((b.drop 2).take 2)
  let key := ofBe ((b.drop 4).take 4)
  let boot := s.get R.HST_BOOT_ID_BOOT_ID
  let seq := ofBe ((b.drop 12).take 4)
  if ofBe ((b.drop 8).take 4) ≠ boot then mgmtAnswer r slot 3 key boot seq [] s
  else if (tget none s.hst.seqs key).any (fun q => !seqLater seq q) then s.addSat R.HST_MGMT_CNT_REPLAY 1
  else
    let w := mgmtWho key r
    let s := s.setHst { s.hst with seqs := tset none s.hst.seqs key (some seq) }
    let o := mgmtOps w n ((b.drop 16).take n) [] (mgmtEnter w (custSettle s))
    mgmtAnswer r slot 2 key boot seq o.1 (mgmtLeave o.2)

/-- The request at the head of the queue (20 R521). -/
def mgmtRequest (s : State) : State :=
  match s.hst.reqs with
  | [] => s
  | r :: rest =>
    let s := s.setHst { s.hst with reqs := rest }
    let b := r.msg
    let n := ofBe ((b.drop 2).take 2)
    if b.getD 0 0 ≠ 1 ∨ b.getD 1 0 ≠ 1 ∨ b.length < 32 + n then s.addSat R.HST_MGMT_CNT_FRAME 1
    else
      let bad := fun (s : State) => hstEvt R.HST_EVT_MGMT_AUTH (s.addSat R.HST_MGMT_CNT_AUTH_FAIL 1)
      match mgmtKey s (ofBe ((b.drop 4).take 4)) with
      | none => bad s
      | some slot =>
        if keyGate s slot 3 1 = 1 then bad s
        else
          let good := (hmacOf (s.slot slot).key (b.take (16 + n))).take 16 == (b.drop (16 + n)).take 16
          let s := keyUseNow slot (msgWake s)
          if good then mgmtServe r slot s else bad s

/-- MGMT_REQUEST (20 R521): the request that has waited longest. -/
def execMgmtRequest (dt : Nat) (s : State) : Host.Outcome State Fault Refusal := live s (mgmtRequest (s.tick dt))

end Sys2Proof.Machine
end

