-- ==== Sys2Proof/Machine/Pin.lean ====
section
/-! DEFINITION. JTAG (21 R545, 19 R491): the TAP of IEEE 1149.1 with IDCODE, BYPASS, SAMPLE and, in BLANK, FACTORY and PROVISIONED, EXTEST. -/

namespace Sys2Proof.Machine

/-- The TAP's next state (IEEE 1149.1): 0 Test-Logic-Reset, 1 Run-Test/Idle, 2 to 8 the DR column, 9 to 15 the IR column. -/
def tapNext (st : Nat) (tms : Bool) : Nat :=
  match st with
  | 0 => if tms then 0 else 1
  | 1 | 8 | 15 => if tms then 2 else 1
  | 2 => if tms then 9 else 3
  | 9 => if tms then 0 else 10
  | 3 | 4 => if tms then 5 else 4
  | 10 | 11 => if tms then 12 else 11
  | 5 => if tms then 8 else 6
  | 6 => if tms then 7 else 6
  | 7 => if tms then 8 else 4
  | 12 => if tms then 15 else 13
  | 13 => if tms then 14 else 13
  | _ => if tms then 15 else 11

/-- n bits, least significant first. -/
def bitList (n v : Nat) : List Bool := (List.range n).map (tbit v)

/-- IDCODE: STEPPING, 0x8816, 0x001 (21 R545). -/
def jtagId (s : State) : Nat := bits (rdWord s 0x000004) 15 8 % 16 * 2 ^ 28 + 0x8816 * 2 ^ 12 + 1

/-- Does the life cycle permit EXTEST (19 R491)? -/
def extestOk (s : State) : Bool := decide (s.get R.GEN_LC_STATE ≤ 2)

/-- The instruction in force: 1 IDCODE, 2 SAMPLE, 3 EXTEST, 0 BYPASS. -/
def jtagInstr (s : State) : Nat :=
  match s.jtag.op with
  | 1 => 1
  | 2 => 2
  | 3 => if extestOk s then 3 else 0
  | _ => 0

/-- The data register that Capture-DR loads; pins: the levels at the boundary register's balls. -/
def jtagCapture (s : State) (pins : List Bool) : List Bool :=
  match jtagInstr s with
  | 1 => bitList 32 (jtagId s)
  | 2 | 3 => pins
  | _ => [false]

/-- A shift register moved on by one bit. -/
def shiftIn (l : List Bool) (tdi : Bool) : List Bool := l.tail ++ [tdi]

/-- A rising edge of TCK: the state's action, then the next state. -/
def tckRise (tms tdi : Bool) (pins : List Bool) (s : State) : State :=
  let j := s.jtag
  let j := match j.tap with
    | 3 => { j with drSh := jtagCapture s pins }
    | 4 => { j with drSh := shiftIn j.drSh tdi }
    | 10 => { j with irSh := bitList (Config.jtagIrLen + 2) 1 }
    | 11 => { j with irSh := shiftIn j.irSh tdi }
    | _ => j
  let t := tapNext j.tap tms
  { s with jtag := { j with tap := t, op := if t = 0 then 1 else j.op } }

/-- A falling edge of TCK: TDO changes in a Shift state, and Update takes effect. -/
def tckFall (s : State) : State :=
  let j := s.jtag
  let j := match j.tap with
    | 4 => { j with tdo := j.drSh.headD false }
    | 11 => { j with tdo := j.irSh.headD false }
    | 15 => { j with op := Config.jtagOp (bitsOf j.irSh) }
    | 8 => if jtagInstr s = 2 ∨ jtagInstr s = 3 then { j with drive := j.drSh } else j
    | _ => j
  { s with jtag := j }

/-- TCK_EDGE (21 R545): an edge of TCK, or TRST_N low, which holds the TAP in Test-Logic-Reset. The TAP stands beside every reset. -/
def execTckEdge (rise tms tdi trst : Bool) (pins : List Bool) (s : State) : Host.Outcome State Fault Refusal :=
  done s (if trst then { s with jtag := { s.jtag with tap := 0, op := 1 } } else if rise then tckRise tms tdi pins s else tckFall s)

/-! ## What the other balls do (21 R532)

The outputs, the lanes, LOCKA and the front-end port stand with their blocks: outPins, lanePins, lockaPin, fePins. -/

/-- A reference receiver: its INPUT_MODE, and whether the termination and the bias are on (04 R102, 21 R531, R532); mode 0 is high-impedance. -/
structure RefPin where
  mode : Nat
  term : Bool
  bias : Bool
  deriving DecidableEq, Repr

/-- REF_k: off in reset and while its bank is unpowered; TERM and AC apply to the differential modes. -/
def refPin (s : State) (k : Nat) : RefPin :=
  let m := s.get (R.RMON_MON_CFG_INPUT_MODE k)
  if s.pwr.rst.isSome || bankLow s 2 || m == 0 || decide (4 < m) then ⟨0, false, false⟩
  else ⟨m, m != 1 && s.flag (R.RMON_MON_CFG_TERM k), m != 1 && s.flag (R.RMON_MON_CFG_AC k)⟩

/-- INT_N_k: none is released; low while the target is ASSERTED, high else where DRIVE makes it push-pull. -/
def intPin (s : State) (k : Nat) : Option Bool :=
  if s.pwr.rst.isSome then none
  else if s.get (R.IRQ_TGT_STAT_STATE k) = 2 then some false
  else if s.flag (R.IRQ_TGT_CFG_DRIVE k) then some true else none

/-- ERR_N: none is released (17 R437). -/
def errnPin (s : State) : Option Bool := if s.pwr.rst.isNone && s.flag R.FLT_STAT_ERR_N_ACT then some false else none

/-- Does the device drive the steering port's balls? -/
def strDriven (s : State) : Bool := s.pwr.rst.isNone && !bankLow s 3 && s.get R.TCH_STEER_CFG_PORT != 0

/-- TDO: driven in Shift-DR and Shift-IR only. -/
def tdoPin (s : State) : Option Bool :=
  if s.pwr.rst.isNone && (s.jtag.tap == 4 || s.jtag.tap == 11) then some s.jtag.tdo else none

end Sys2Proof.Machine
end

