-- ==== Sys2Proof/Machine/RowWrite.lean ====
section
/-! DEFINITION. The rows that are writes of one Stroke-read register (07 R182, 08 R207 to R224, 09 R249, 10 R268): each takes its course as a Custodian's write
of that register does (00 R8 to R10, 01 R32 to R36). -/

namespace Sys2Proof.Machine

/-- A field (or a whole word) of a Stroke-read register written by a row that names no interface. DESIGN CHOICE (log entry 17): the write is a Custodian's, through
the interface that owns the hold while there is one. It stores what the register's map lets it store; while HOLD_APPLY = 1 it enters the hold buffer, and
on a full buffer it is rejected (01 R34); else it waits for the edge. -/
def rowWrite (f : Fld) (v : Nat) (s : State) : State :=
  match findReg f.addr with
  | none => s
  | some d =>
    let p := writeParts s true f.addr (withBits (lastWord s f.addr) f.hi f.lo v) d
    let m := (2 ^ (f.hi - f.lo + 1) - 1) * 2 ^ f.lo
    let p : WriteParts := { val := p.val &&& m, mask := p.mask &&& m }
    if s.flag R.GEN_STROKE_CTL_HOLD_APPLY ∧ 256 ≤ s.gen.held.length ∧ p.mask ≠ 0 then raiseEvt R.GEN_STROKE_STAT_HOLD_OVERFLOW 21 s
    else
      let j : Iface := match s.get R.GEN_STROKE_STAT_HOLD_OWNER with
        | 2 => .i2c
        | 3 => .inband
        | _ => .spi
      writeGo (.host j none) f.addr f.addr d p s

/-- MODE_WRITE (07 R182): MODE of channel c, at the next edge; TCH_0's is ignored. -/
def execModeWrite (c : Fin 8) (mode : BitVec 2) (s : State) : Host.Outcome State Fault Refusal :=
  live s (if c.val = 0 then s else rowWrite (R.TCH_CH_CTL_MODE c) mode.toNat s)

/-- APLL_ENABLE (08 R208): EN written 1; the transition is at the edge. -/
def execApllEnable (k : Fin 4) (s : State) : Host.Outcome State Fault Refusal := live s (rowWrite (R.APL_APLL_CTL_EN k) 1 s)

/-- APLL_DISABLE (08 R208): EN written 0. -/
def execApllDisable (k : Fin 4) (s : State) : Host.Outcome State Fault Refusal := live s (rowWrite (R.APL_APLL_CTL_EN k) 0 s)

/-- PLAN_SEL_WRITE (08 R208): HOP at the edge. -/
def execPlanSelWrite (k : Fin 4) (j : Fin 16) (s : State) : Host.Outcome State Fault Refusal :=
  live s (rowWrite (R.APL_APLL_CTL_PLAN_SEL k) j s)

/-- PLAN_WORD_WRITE (08 R207): W0, W1 or W2 of plan j. -/
def execPlanWordWrite (k : Fin 4) (j : Fin 16) (w : Fin 3) (v : BitVec 32) (s : State) : Host.Outcome State Fault Refusal :=
  live s (rowWrite ⟨0x081100 + 0x400 * k.val + 0x10 * j.val + 4 * w.val, 31, 0⟩ v.toNat s)

/-- FINE_TCH_WRITE (08 R211). -/
def execFineTchWrite (k : Fin 4) (v : BitVec 4) (s : State) : Host.Outcome State Fault Refusal :=
  live s (rowWrite (R.APL_APLL_CTL_FINE_TCH k) v.toNat s)

/-- OUT_ENABLE (08 R222): EN written 1. -/
def execOutEnable (k : Fin 16) (s : State) : Host.Outcome State Fault Refusal := live s (rowWrite (R.OUT_CFG_EN k) 1 s)

/-- OUT_DISABLE (08 R222): EN written 0. -/
def execOutDisable (k : Fin 16) (s : State) : Host.Outcome State Fault Refusal := live s (rowWrite (R.OUT_CFG_EN k) 0 s)

/-- OUT_CFG_WRITE (08 R224): word w of OUT_k's configuration (CFG to ROLL_RATE). -/
def execOutCfgWrite (k : Fin 16) (w : Fin 10) (v : BitVec 32) (s : State) : Host.Outcome State Fault Refusal :=
  live s (rowWrite ⟨0x091000 + 0x80 * k.val + 4 * w.val, 31, 0⟩ v.toNat s)

/-- EXCLUSION_WRITE (09 R249): word w of the exclusion masks, at the next edge. -/
def execExclusionWrite (w : Fin 6) (v : BitVec 32) (s : State) : Host.Outcome State Fault Refusal :=
  live s (rowWrite ⟨0x0A0030 + 4 * w.val, 31, 0⟩ v.toNat s)

/-- ANT_DELAY_WRITE (10 R268): ANT_DELAY, or ANT_DIFF_B5, at the next edge. -/
def execAntDelayWrite (b5 : Bool) (v : BitVec 32) (s : State) : Host.Outcome State Fault Refusal :=
  live s (rowWrite (if b5 then R.GNT_ANT_DIFF_B5_ANT_DIFF_B5 else R.GNT_ANT_DELAY_ANT_DELAY) v.toNat s)

end Sys2Proof.Machine
end

