-- ==== Sys2Proof/Machine/Dispatch.lean ====
section
/-! DEFINITION. The dispatch: one arm per command, each one direct call of the command's meaning. -/

namespace Sys2Proof.Machine

-- The effect of a command on everything but the queue.
def exec (i : Instr) (s : State) : Host.Outcome State Fault Refusal :=
  match i with
  | .strokeEdge e => Sys2Proof.Machine.execStrokeEdge e s
  | .registerWrite j a v dt => Sys2Proof.Machine.execRegisterWrite j a v dt s
  | .holdApplySet j => Sys2Proof.Machine.execHoldApplySet j s
  | .holdApplyClear j => Sys2Proof.Machine.execHoldApplyClear j s
  | .holdDiscard j => Sys2Proof.Machine.execHoldDiscard j s
  | .holdExpired => Sys2Proof.Machine.execHoldExpired s
  | .strokeNumRead j => Sys2Proof.Machine.execStrokeNumRead j s
  | .solverTaskOverrun t => Sys2Proof.Machine.execSolverTaskOverrun t s
  | .solverOutputStale t => Sys2Proof.Machine.execSolverOutputStale t s
  | .solverLoadUpdate => Sys2Proof.Machine.execSolverLoadUpdate s
  | .remaskPass => Sys2Proof.Machine.execRemaskPass s
  | .etmNowRead j dt => Sys2Proof.Machine.execEtmNowRead j dt s
  | .etmOffsetRead j dt => Sys2Proof.Machine.execEtmOffsetRead j dt s
  | .stepCmdGo abs => Sys2Proof.Machine.execStepCmdGo abs s
  | .reepoch => Sys2Proof.Machine.execReepoch s
  | .reepochAbort => Sys2Proof.Machine.execReepochAbort s
  | .stepWaitExpire => Sys2Proof.Machine.execStepWaitExpire s
  | .settleExpire => Sys2Proof.Machine.execSettleExpire s
  | .alarmWrite n k v dt => Sys2Proof.Machine.execAlarmWrite n k v dt s
  | .alarmFire n dt => Sys2Proof.Machine.execAlarmFire n dt s
  | .convertRawf j dt => Sys2Proof.Machine.execConvertRawf j dt s
  | .convertEtime j dt => Sys2Proof.Machine.execConvertEtime j dt s
  | .conversionDone j => Sys2Proof.Machine.execConversionDone j s
  | .leapApply => Sys2Proof.Machine.execLeapApply s
  | .edgeArrival n src fall code dt => Sys2Proof.Machine.execEdgeArrival n src fall code dt s
  | .stampDeliver n dt => Sys2Proof.Machine.execStampDeliver n dt s
  | .stopTimeout n dt => Sys2Proof.Machine.execStopTimeout n dt s
  | .calHoldExpire conv => Sys2Proof.Machine.execCalHoldExpire conv s
  | .calWarmupEnd dt => Sys2Proof.Machine.execCalWarmupEnd dt s
  | .clpQRead j n dt => Sys2Proof.Machine.execClpQRead j n dt s
  | .clpArm n => Sys2Proof.Machine.execClpArm n s
  | .clpDisarm n => Sys2Proof.Machine.execClpDisarm n s
  | .prescSync n => Sys2Proof.Machine.execPrescSync n s
  | .statRestart n => Sys2Proof.Machine.execStatRestart n s
  | .clpFlush n => Sys2Proof.Machine.execClpFlush n s
  | .syncAll => Sys2Proof.Machine.execSyncAll s
  | .meanRead j n => Sys2Proof.Machine.execMeanRead j n s
  | .invHoldTimeout m => Sys2Proof.Machine.execInvHoldTimeout m s
  | .validationComplete m => Sys2Proof.Machine.execValidationComplete m s
  | .clearTimeComplete m => Sys2Proof.Machine.execClearTimeComplete m s
  | .esmcTimeout m => Sys2Proof.Machine.execEsmcTimeout m s
  | .wtrExpire c k => Sys2Proof.Machine.execWtrExpire c k s
  | .carillonEstimate => Sys2Proof.Machine.execCarillonEstimate s
  | .carJoinExpire m => Sys2Proof.Machine.execCarJoinExpire m s
  | .corroborated m => Sys2Proof.Machine.execCorroborated m s
  | .selAccept m => Sys2Proof.Machine.execSelAccept m s
  | .holdmaxExpire k => Sys2Proof.Machine.execHoldmaxExpire k s
  | .oscModelLearn t0 => Sys2Proof.Machine.execOscModelLearn t0 s
  | .modelClr => Sys2Proof.Machine.execModelClr s
  | .freezeToHoldover c => Sys2Proof.Machine.execFreezeToHoldover c s
  | .tchLocked c => Sys2Proof.Machine.execTchLocked c s
  | .histValid c => Sys2Proof.Machine.execHistValid c s
  | .modeWrite c mode => Sys2Proof.Machine.execModeWrite c mode s
  | .steerUpdate => Sys2Proof.Machine.execSteerUpdate s
  | .steerCodeWrite v => Sys2Proof.Machine.execSteerCodeWrite v s
  | .apllEnable k => Sys2Proof.Machine.execApllEnable k s
  | .apllDisable k => Sys2Proof.Machine.execApllDisable k s
  | .planSelWrite k p => Sys2Proof.Machine.execPlanSelWrite k p s
  | .planWordWrite k p w v => Sys2Proof.Machine.execPlanWordWrite k p w v s
  | .planLoaded k => Sys2Proof.Machine.execPlanLoaded k s
  | .bandFound k band => Sys2Proof.Machine.execBandFound k band s
  | .searchFail k => Sys2Proof.Machine.execSearchFail k s
  | .tuningAtRail k up => Sys2Proof.Machine.execTuningAtRail k up s
  | .lockCriterionMet k n err dt => Sys2Proof.Machine.execLockCriterionMet k n err dt s
  | .lockLost k why dt => Sys2Proof.Machine.execLockLost k why dt s
  | .apllStable k => Sys2Proof.Machine.execApllStable k s
  | .fineTchWrite k v => Sys2Proof.Machine.execFineTchWrite k v s
  | .outEnable k => Sys2Proof.Machine.execOutEnable k s
  | .outDisable k => Sys2Proof.Machine.execOutDisable k s
  | .outCfgWrite k w v => Sys2Proof.Machine.execOutCfgWrite k w v s
  | .outReachesIdle k dt => Sys2Proof.Machine.execOutReachesIdle k dt s
  | .sclkLos dt => Sys2Proof.Machine.execSclkLos dt s
  | .sclkOk => Sys2Proof.Machine.execSclkOk s
  | .feRun => Sys2Proof.Machine.execFeRun s
  | .feAbort => Sys2Proof.Machine.execFeAbort s
  | .feEntryDone rx dt => Sys2Proof.Machine.execFeEntryDone rx dt s
  | .agcRead b => Sys2Proof.Machine.execAgcRead b s
  | .spectrumUpdate b x => Sys2Proof.Machine.execSpectrumUpdate b x s
  | .notchRelease b n => Sys2Proof.Machine.execNotchRelease b n s
  | .acqAiding l => Sys2Proof.Machine.execAcqAiding l s
  | .searchPlan => Sys2Proof.Machine.execSearchPlan s
  | .dwellComplete l noise => Sys2Proof.Machine.execDwellComplete l noise s
  | .handoverQueue n => Sys2Proof.Machine.execHandoverQueue n s
  | .searchRetry => Sys2Proof.Machine.execSearchRetry s
  | .trackTick l => Sys2Proof.Machine.execTrackTick l s
  | .bandPllLock n b => Sys2Proof.Machine.execBandPllLock n b s
  | .bandLoss n b => Sys2Proof.Machine.execBandLoss n b s
  | .pullinTimeout n b => Sys2Proof.Machine.execPullinTimeout n b s
  | .coastTimeout n b => Sys2Proof.Machine.execCoastTimeout n b s
  | .sidepeak n b => Sys2Proof.Machine.execSidepeak n b s
  | .chRelease n => Sys2Proof.Machine.execChRelease n s
  | .exclusionWrite w v => Sys2Proof.Machine.execExclusionWrite w v s
  | .epochLatch idx code l dt => Sys2Proof.Machine.execEpochLatch idx code l dt s
  | .measHold j => Sys2Proof.Machine.execMeasHold j s
  | .measUnhold j => Sys2Proof.Machine.execMeasUnhold j s
  | .measPinExpire j => Sys2Proof.Machine.execMeasPinExpire j s
  | .gnssSolution o => Sys2Proof.Machine.execGnssSolution o s
  | .surveyRst => Sys2Proof.Machine.execSurveyRst s
  | .antDelayWrite b5 v => Sys2Proof.Machine.execAntDelayWrite b5 v s
  | .gnssSleep => Sys2Proof.Machine.execGnssSleep s
  | .gnssWake => Sys2Proof.Machine.execGnssWake s
  | .sleepMaxExpire => Sys2Proof.Machine.execSleepMaxExpire s
  | .wakeSlow => Sys2Proof.Machine.execWakeSlow s
  | .laneCfgWrite k v dt => Sys2Proof.Machine.execLaneCfgWrite k v dt s
  | .laneTestEnable k en dt => Sys2Proof.Machine.execLaneTestEnable k en dt s
  | .quadCfgWrite q v dt => Sys2Proof.Machine.execQuadCfgWrite q v dt s
  | .detectProbe k found dt => Sys2Proof.Machine.execDetectProbe k found dt s
  | .trainComplete k ctle dfe fec dt => Sys2Proof.Machine.execTrainComplete k ctle dfe fec dt s
  | .trainTimeout k dt => Sys2Proof.Machine.execTrainTimeout k dt s
  | .anFail k dt => Sys2Proof.Machine.execAnFail k dt s
  | .lockComplete k align dt => Sys2Proof.Machine.execLockComplete k align dt s
  | .lockTimeout k dt => Sys2Proof.Machine.execLockTimeout k dt s
  | .exchangeAccept k a dt => Sys2Proof.Machine.execExchangeAccept k a dt s
  | .exchangeRefuse k a dt => Sys2Proof.Machine.execExchangeRefuse k a dt s
  | .exchTimeout k dt => Sys2Proof.Machine.execExchTimeout k dt s
  | .losAssert k dt => Sys2Proof.Machine.execLosAssert k dt s
  | .losDeassert k dt => Sys2Proof.Machine.execLosDeassert k dt s
  | .lol k dt => Sys2Proof.Machine.execLol k dt s
  | .blockLoss k hiBer dt => Sys2Proof.Machine.execBlockLoss k hiBer dt s
  | .qrefFallback q dt => Sys2Proof.Machine.execQrefFallback q dt s
  | .prbsLock k l dt => Sys2Proof.Machine.execPrbsLock k l dt s
  | .prbsLost k bad dt => Sys2Proof.Machine.execPrbsLost k bad dt s
  | .inj1 k => Sys2Proof.Machine.execInj1 k s
  | .injBurst k => Sys2Proof.Machine.execInjBurst k s
  | .chkClr k => Sys2Proof.Machine.execChkClr k s
  | .frameRx k b wf bf cut dt => Sys2Proof.Machine.execFrameRx k b wf bf cut dt s
  | .htxDataWrite v => Sys2Proof.Machine.execHtxDataWrite v s
  | .htxSubmit => Sys2Proof.Machine.execHtxSubmit s
  | .htxAbandon => Sys2Proof.Machine.execHtxAbandon s
  | .frameCommit k wf bf cut dt => Sys2Proof.Machine.execFrameCommit k wf bf cut dt s
  | .tsqRead j k => Sys2Proof.Machine.execTsqRead j k s
  | .hrxDataRead => Sys2Proof.Machine.execHrxDataRead s
  | .hrxPop => Sys2Proof.Machine.execHrxPop s
  | .esmcInfoTx k dt => Sys2Proof.Machine.execEsmcInfoTx k dt s
  | .esmcEventTx k dt => Sys2Proof.Machine.execEsmcEventTx k dt s
  | .ntpRequest m bf dt => Sys2Proof.Machine.execNtpRequest m bf dt s
  | .reserveRetry m bf dt => Sys2Proof.Machine.execReserveRetry m bf dt s
  | .ntsRequest m bf dt => Sys2Proof.Machine.execNtsRequest m bf dt s
  | .arpRequest m bf dt => Sys2Proof.Machine.execArpRequest m bf dt s
  | .neighbourSolicitation m bf dt => Sys2Proof.Machine.execNeighbourSolicitation m bf dt s
  | .ntsKeyExpire j dt => Sys2Proof.Machine.execNtsKeyExpire j dt s
  | .syncTx k n bf dt => Sys2Proof.Machine.execSyncTx k n bf dt s
  | .followUpTx k dt => Sys2Proof.Machine.execFollowUpTx k dt s
  | .announceTx k n dt => Sys2Proof.Machine.execAnnounceTx k n dt s
  | .delayReqTx n bf dt => Sys2Proof.Machine.execDelayReqTx n bf dt s
  | .syncRx m bf dt => Sys2Proof.Machine.execSyncRx m bf dt s
  | .followUpRx m bf dt => Sys2Proof.Machine.execFollowUpRx m bf dt s
  | .delayReqRx m bf dt => Sys2Proof.Machine.execDelayReqRx m bf dt s
  | .delayRespRx m bf dt => Sys2Proof.Machine.execDelayRespRx m bf dt s
  | .announceRx m bf dt => Sys2Proof.Machine.execAnnounceRx m bf dt s
  | .requestUnicastTransmission m bf dt => Sys2Proof.Machine.execRequestUnicastTransmission m bf dt s
  | .cancelUnicastTransmission m bf dt => Sys2Proof.Machine.execCancelUnicastTransmission m bf dt s
  | .grantRx m bf dt => Sys2Proof.Machine.execGrantRx m bf dt s
  | .grantRenew n dt => Sys2Proof.Machine.execGrantRenew n dt s
  | .grantExpire n dt => Sys2Proof.Machine.execGrantExpire n dt s
  | .requestRetry n dt => Sys2Proof.Machine.execRequestRetry n dt s
  | .cancelTimeout n dt => Sys2Proof.Machine.execCancelTimeout n dt s
  | .ptpSessionLos n dt => Sys2Proof.Machine.execPtpSessionLos n dt s
  | .sessRead => Sys2Proof.Machine.execSessRead s
  | .sessWrite dt => Sys2Proof.Machine.execSessWrite dt s
  | .sessFree dt => Sys2Proof.Machine.execSessFree dt s
  | .bmca l => Sys2Proof.Machine.execBmca l s
  | .keyBegin j dt => Sys2Proof.Machine.execKeyBegin j dt s
  | .stageImportPlain j => Sys2Proof.Machine.execStageImportPlain j s
  | .stageImportWrapped j => Sys2Proof.Machine.execStageImportWrapped j s
  | .stageGenerate j => Sys2Proof.Machine.execStageGenerate j s
  | .stageInvalidate j => Sys2Proof.Machine.execStageInvalidate j s
  | .stageSetUses j => Sys2Proof.Machine.execStageSetUses j s
  | .stageReclaim j => Sys2Proof.Machine.execStageReclaim j s
  | .keyCommit j => Sys2Proof.Machine.execKeyCommit j s
  | .keyAbort j => Sys2Proof.Machine.execKeyAbort j s
  | .txnDiscard dt => Sys2Proof.Machine.execTxnDiscard dt s
  | .commitDone => Sys2Proof.Machine.execCommitDone s
  | .commitFail tmo => Sys2Proof.Machine.execCommitFail tmo s
  | .compactionDone => Sys2Proof.Machine.execCompactionDone s
  | .floorCommit k => Sys2Proof.Machine.execFloorCommit k s
  | .rngDegraded => Sys2Proof.Machine.execRngDegraded s
  | .rngReseed pass => Sys2Proof.Machine.execRngReseed pass s
  | .attGo j => Sys2Proof.Machine.execAttGo j s
  | .attDone j => Sys2Proof.Machine.execAttDone j s
  | .cellBoundary l wf req ready dt => Sys2Proof.Machine.execCellBoundary l wf req ready dt s
  | .timeCellRx l b wf dt => Sys2Proof.Machine.execTimeCellRx l b wf dt s
  | .tollRx l b dt => Sys2Proof.Machine.execTollRx l b dt s
  | .trnCellRx l b dt => Sys2Proof.Machine.execTrnCellRx l b dt s
  | .exchCellRx l b dt => Sys2Proof.Machine.execExchCellRx l b dt s
  | .msgCellRx l b dt => Sys2Proof.Machine.execMsgCellRx l b dt s
  | .tollTimeout k h dt => Sys2Proof.Machine.execTollTimeout k h dt s
  | .pathSwitch k => Sys2Proof.Machine.execPathSwitch k s
  | .msgSend kind k b => Sys2Proof.Machine.execMsgSend kind k b s
  | .election => Sys2Proof.Machine.execElection s
  | .relayHoldEnd dt => Sys2Proof.Machine.execRelayHoldEnd dt s
  | .faultRaise src subject wit code dt => Sys2Proof.Machine.execFaultRaise src subject wit code dt s
  | .blockResetRelease u dt => Sys2Proof.Machine.execBlockResetRelease u dt s
  | .shadowEnd dt => Sys2Proof.Machine.execShadowEnd dt s
  | .fltClr src => Sys2Proof.Machine.execFltClr src s
  | .dedupExpire => Sys2Proof.Machine.execDedupExpire s
  | .chipResetStart dt => Sys2Proof.Machine.execChipResetStart dt s
  | .errnMinExpire dt => Sys2Proof.Machine.execErrnMinExpire dt s
  | .flushDone => Sys2Proof.Machine.execFlushDone s
  | .recFlush => Sys2Proof.Machine.execRecFlush s
  | .eraseFixed => Sys2Proof.Machine.execEraseFixed s
  | .eraseRoll => Sys2Proof.Machine.execEraseRoll s
  | .recTrig => Sys2Proof.Machine.execRecTrig s
  | .recRdGo j area seq => Sys2Proof.Machine.execRecRdGo j area seq s
  | .recRdDone j => Sys2Proof.Machine.execRecRdDone j s
  | .recoveryEnd dt => Sys2Proof.Machine.execRecoveryEnd dt s
  | .irqRequestEdge src dt => Sys2Proof.Machine.execIrqRequestEdge src dt s
  | .irqClaim m t => Sys2Proof.Machine.execIrqClaim m t s
  | .irqComplete t id => Sys2Proof.Machine.execIrqComplete t id s
  | .targetWrite src t dt => Sys2Proof.Machine.execTargetWrite src t dt s
  | .irqEnWrite src en dt => Sys2Proof.Machine.execIrqEnWrite src en dt s
  | .coalTimeout t dt => Sys2Proof.Machine.execCoalTimeout t dt s
  | .sleepWrite t sleep dt => Sys2Proof.Machine.execSleepWrite t sleep dt s
  | .sleepFallback src dt => Sys2Proof.Machine.execSleepFallback src dt s
  | .pmcSnap => Sys2Proof.Machine.execPmcSnap s
  | .pmcTagRead j => Sys2Proof.Machine.execPmcTagRead j s
  | .domainWakeDone d dt => Sys2Proof.Machine.execDomainWakeDone d dt s
  | .domainEntryDone d dt => Sys2Proof.Machine.execDomainEntryDone d dt s
  | .xtalStop => Sys2Proof.Machine.execXtalStop s
  | .rtcLoad => Sys2Proof.Machine.execRtcLoad s
  | .rtcInvalidate => Sys2Proof.Machine.execRtcInvalidate s
  | .pfail dt => Sys2Proof.Machine.execPfail dt s
  | .pfailClr dt => Sys2Proof.Machine.execPfailClr dt s
  | .porRise => Sys2Proof.Machine.execPorRise s
  | .brownout h => Sys2Proof.Machine.execBrownout h s
  | .pinReset dt => Sys2Proof.Machine.execPinReset dt s
  | .hostReset confirm dt => Sys2Proof.Machine.execHostReset confirm dt s
  | .resetRelease t => Sys2Proof.Machine.execResetRelease t s
  | .porRelease t locked straps => Sys2Proof.Machine.execPorRelease t locked straps s
  | .syspllLoss stopped dt => Sys2Proof.Machine.execSyspllLoss stopped dt s
  | .spllReturn => Sys2Proof.Machine.execSpllReturn s
  | .spllReturnWrite => Sys2Proof.Machine.execSpllReturnWrite s
  | .spllPlanWrite w v => Sys2Proof.Machine.execSpllPlanWrite w v s
  | .lcRequest target confirm => Sys2Proof.Machine.execLcRequest target confirm s
  | .lcOtpWritten => Sys2Proof.Machine.execLcOtpWritten s
  | .headersRead ha hb => Sys2Proof.Machine.execHeadersRead ha hb s
  | .candidateChecked img => Sys2Proof.Machine.execCandidateChecked img s
  | .applyWaitExpire => Sys2Proof.Machine.execApplyWaitExpire s
  | .imageApplied => Sys2Proof.Machine.execImageApplied s
  | .restoreDone => Sys2Proof.Machine.execRestoreDone s
  | .cfgLock => Sys2Proof.Machine.execCfgLock s
  | .nvmStore m => Sys2Proof.Machine.execNvmStore m s
  | .learnStoreTimer => Sys2Proof.Machine.execLearnStoreTimer s
  | .nvmStoreStart => Sys2Proof.Machine.execNvmStoreStart s
  | .nvmEraseDone => Sys2Proof.Machine.execNvmEraseDone s
  | .nvmWriteDone ok => Sys2Proof.Machine.execNvmWriteDone ok s
  | .nvmSealDone => Sys2Proof.Machine.execNvmSealDone s
  | .nvmTmo yielded dt => Sys2Proof.Machine.execNvmTmo yielded dt s
  | .ovlAppend => Sys2Proof.Machine.execOvlAppend s
  | .ovlClear => Sys2Proof.Machine.execOvlClear s
  | .ikEnroll k => Sys2Proof.Machine.execIkEnroll k s
  | .ikRevoke k => Sys2Proof.Machine.execIkRevoke k s
  | .minSeqWrite v => Sys2Proof.Machine.execMinSeqWrite v s
  | .spiWrite a l part dt => Sys2Proof.Machine.execSpiWrite a l part dt s
  | .spiRead a n part dt => Sys2Proof.Machine.execSpiRead a n part dt s
  | .spiQwrite a l part dt => Sys2Proof.Machine.execSpiQwrite a l part dt s
  | .spiQread a n part dt => Sys2Proof.Machine.execSpiQread a n part dt s
  | .spiStatus dt => Sys2Proof.Machine.execSpiStatus dt s
  | .spiUnknownOpcode op dt => Sys2Proof.Machine.execSpiUnknownOpcode op dt s
  | .i2cWrite dev a l part dt => Sys2Proof.Machine.execI2cWrite dev a l part dt s
  | .i2cRead dev a n part dt => Sys2Proof.Machine.execI2cRead dev a n part dt s
  | .custNew j dt => Sys2Proof.Machine.execCustNew j dt s
  | .custVerify j dt => Sys2Proof.Machine.execCustVerify j dt s
  | .custodianClaim j dt => Sys2Proof.Machine.execCustodianClaim j dt s
  | .custDrop j dt => Sys2Proof.Machine.execCustDrop j dt s
  | .custTimeout j dt => Sys2Proof.Machine.execCustTimeout j dt s
  | .custFailWaitEnd j dt => Sys2Proof.Machine.execCustFailWaitEnd j dt s
  | .mgmtRequest dt => Sys2Proof.Machine.execMgmtRequest dt s
  | .xtalRestart => Sys2Proof.Machine.execXtalRestart s
  | .vbatFall => Sys2Proof.Machine.execVbatFall s
  | .vbatRise => Sys2Proof.Machine.execVbatRise s
  | .bankRailLow b => Sys2Proof.Machine.execBankRailLow b s
  | .bankRailRestored b => Sys2Proof.Machine.execBankRailRestored b s
  | .pfailNRise dt => Sys2Proof.Machine.execPfailNRise dt s
  | .tckEdge rise tms tdi trst pins => Sys2Proof.Machine.execTckEdge rise tms tdi trst pins s
  | .injectionComplete k => Sys2Proof.Machine.execInjectionComplete k s
  | .sessCmdDone => Sys2Proof.Machine.execSessCmdDone s

end Sys2Proof.Machine
end

