-- ==== Sys2Proof/Machine/Step.lean ====
section
/-! DEFINITION. One step of the block: the command at the front of the queue, and the idle step on an empty queue. -/

namespace Sys2Proof.Machine

/-- Take the command at the front of the queue and give its effect on the rest; with none waiting the block idles
(log entry 1). -/
def step (s : State) : Host.Outcome State Fault Refusal :=
  match s.pending with
  | [] => .next s
  | c :: rest => exec c { s with pending := rest }

/-- A word spells no command, so nothing is put in front of the queue (log entry 2). -/
def State.withFetchWord (s : State) (_nbits _w : Nat) : State := s

end Sys2Proof.Machine
end

