-- ==== Sys2Proof/Safety.lean ====
section
/-! DEFINITION. What counts as a safe run: no step of the block ends in a fault or a refusal; and what it says that a command completes. -/

namespace Sys2Proof.Machine

/-- The step from s gives a next state. -/
def State.runs (s : State) : Prop := ∃ t, step s = .next t

/-- Command c completes at s with effect t on everything but the queue: exec answers that next state. -/
def gives (c : Instr) (s t : State) : Prop := exec c s = .next { t with pending := s.pending }

/-- The state after n steps, where none of them stops. -/
def State.afterSteps : Nat → State → Option State
  | 0, s => some s
  | n + 1, s =>
    match step s with
    | .next t => State.afterSteps n t
    | .fault _ => none
    | .refused _ => none

/-- The window of a register's key: bits 23..16 of its address (00 R7). -/
def winOf (k : Nat) : Nat := k % 2 ^ 24 / 0x10000

/-- A Solver task's period runs, without an output yet (01 R28). -/
def taskRuns (s : State) (t : SolverTask) : Prop :=
  (taskSt s t).idle = false ∧ (taskSt s t).out = false ∧ ∀ o ∈ s.gen.jobs, o.task ≠ t

/-- Frame f stands at the head of Mallet m's queue, waits for no edge, and is a PTP message that the instance takes (13 R346) and whose verification passes (13 R354);
w is the block then, with the message counted. -/
def ptpReady (m : Nat) (f : MalFrame) (s w : State) : Prop :=
  let k := f.f.port
  let msg := ptpOf f.f.bytes
  (s.mal m).q.head? = some f ∧ f.wait = none ∧ unitDown s (.mallet m) = false ∧ domOn s 2 = true ∧ ptpParse s k f.f.bytes = 0 ∧
  ∃ v, ptpVerify k (ptpWho s k f.f.bytes) msg s = (0, v) ∧ w = ptpHeard k (ptpType msg) v

/-- A row that writes v to field f of a Stroke-read register (01 R32, R34, 00 R10): with HOLD_APPLY = 0 what of it the register's map d lets be stored waits for the edge,
behind what waits already, and a value that the map does not list changes nothing; with HOLD_APPLY = 1 it is held, and on a full buffer it is rejected. -/
def writeIsQueued (c : Instr) (f : Fld) (v : Nat) (s : State) : Prop :=
  ∀ d, findReg f.addr = some d → strokeReg f.addr d = true →
    let m := (2 ^ (f.hi - f.lo + 1) - 1) * 2 ^ f.lo
    let p := writeParts s true f.addr (withBits (lastWord s f.addr) f.hi f.lo v) d
    let w : WaitWrite := { key := f.addr, val := p.val &&& m, mask := p.mask &&& m }
    (w.mask = 0 → gives c s s)
    ∧ (w.mask ≠ 0 → s.flag R.GEN_STROKE_CTL_HOLD_APPLY = false →
      gives c s { s with gen := { s.gen with waiting := s.gen.waiting ++ [w] } })
    ∧ (w.mask ≠ 0 → s.flag R.GEN_STROKE_CTL_HOLD_APPLY = true → s.gen.held.length < 256 →
      ∃ j, gives c s (pmcAdd 6 1 {} { s with gen := { s.gen with held := s.gen.held ++ [{ w with act := some (j, 0) }] } }))
    ∧ (w.mask ≠ 0 → s.flag R.GEN_STROKE_CTL_HOLD_APPLY = true → 256 ≤ s.gen.held.length →
      gives c s (raiseEvt R.GEN_STROKE_STAT_HOLD_OVERFLOW 21 s))

end Sys2Proof.Machine
end

