-- ==== Sys2Proof/WellFormed.lean ====
section
/-! DEFINITION. Which commands the environment can send: operands within the ranges that the spec gives them (a Stroke's length 01 R17 and 02 R43, the
units of 17 R427, the sensors' and converters' codes 03 R76, bytes and lengths of what is received). -/

namespace Sys2Proof

/-- An instant within a Stroke: at most 39 063 raw counts after its edge, the length on the backup oscillator (02 R43). -/
def dtOk (dt : Nat) : Bool := decide (dt ≤ 39063)

/-- A fraction of a core cycle in 2^-12 (02 R75's RAWF). -/
def fracOk (bf : Nat) : Bool := decide (bf < 4096)

/-- A hardware unit that exists (17 R433). -/
def HwUnit.wf : HwUnit → Bool
  | .lane k | .mac k | .out k => decide (k < 16)
  | .apll k => decide (k < 4)
  | .mallet m => decide (m < 8)
  | .gnssCh n => decide (n < 96)
  | .rmon m => decide (m < 32)
  | .key | .gnss | .solverA | .solverB | .hostPath | .recorder => true

/-- A converter's calibration: one of 41 converters, 64 probes with codes of 11 bits, 8 192 hits within the line (03 R76). -/
def CalIn.wf (c : CalIn) : Bool :=
  decide (c.conv < 41) && decide (c.probes.length = 64) && c.probes.all (fun p => decide (p.1 < 2048) && decide (p.2 < 2048))
    && c.hits.all (fun h => decide (h.1 < 1536)) && decide (c.hits.foldl (fun n h => n + h.2) 0 = 8192)

/-- What a lane saw in a Stroke: one of 16 lanes, its stamps within the Stroke. -/
def LaneIn.wf (l : LaneIn) : Bool :=
  decide (l.lane < 16) && l.rx.all (fun t => dtOk t.dt && decide (t.code < 2048)) && l.tx.all (fun t => dtOk t.dt && decide (t.code < 2048))
    && decide (l.bad ≤ l.bits)

/-- What the environment shows at an edge: four APLLs, Tj in 16 bits. -/
def EdgeIn.wf (e : EdgeIn) : Bool :=
  e.cal.all CalIn.wf && decide (e.pd.length = 4) && decide (-2 ^ 15 ≤ e.tj) && decide (e.tj < 2 ^ 15)
    && e.sclk.all (fun x => dtOk x.dt && decide (x.code < 2048)) && e.lanes.all LaneIn.wf

/-- A spectrum has 256 bins and the views of four notches (09 R235, R236). -/
def SpecIn.wf (x : SpecIn) : Bool := decide (x.bins.length = 256) && decide (x.notches.length = 4)

/-- Is a command one that the environment can send? -/
def Instr.wf : Instr → Bool
  | .strokeEdge e => e.wf
  | .registerWrite _ _ _ dt | .etmNowRead _ dt | .etmOffsetRead _ dt | .alarmWrite _ _ _ dt | .alarmFire _ dt | .convertRawf _ dt
  | .convertEtime _ dt | .edgeArrival _ _ _ _ dt | .stampDeliver _ dt | .stopTimeout _ dt | .calWarmupEnd dt | .lockCriterionMet _ _ _ dt
  | .lockLost _ _ dt | .outReachesIdle _ dt | .sclkLos dt | .feEntryDone _ dt | .epochLatch _ _ _ dt | .pfail dt | .pfailClr dt | .pfailNRise dt
  | .pinReset dt | .hostReset _ dt | .syspllLoss _ dt | .clpQRead _ _ dt | .mgmtRequest dt | .faultRaise _ _ _ _ dt | .shadowEnd dt
  | .timeCellRx _ _ _ dt => dtOk dt
  | .frameRx _ _ _ bf _ dt => dtOk dt && fracOk bf
  | .frameCommit _ _ bf _ dt => dtOk dt && fracOk bf
  | .spectrumUpdate _ x => x.wf
  | .dwellComplete _ noise => decide (noise.length = 64)
  | .blockResetRelease u dt => u.wf && dtOk dt
  | _ => true

end Sys2Proof
end

