-- ==== Sys2Proof/Certificates/Slice0/Obligations.lean ====
section
/-! DEFINITION. The statements: what each command of the block does and leaves alone, and what every step keeps. "gives c s t" says that command c completes at
s, exec answering the next state t with the queue of s. -/

open Sys2Proof Sys2Proof.Machine

/-! ## The Stroke (01) -/

/-- 01 R17, R20, R26, R32 to R36, R30, R31, R39: the commands of the Stroke complete, each with the whole effect given. -/
def Obligations.StrokeCommandsComplete : Prop :=
  (∀ (e : EdgeIn) (s : State), s.pwr.rst = none → s.strokes = 0 →
    let u := keyStart (etmStart (edgeSensors e (edgeCount e s)))
    gives (.strokeEdge e) s (custSettle (edgeSnap (waitsApply (predEdge (u.setPwr { u.pwr with secSeen := etSec (etOf (etmOffset u.etm)) }))))))
  ∧ (∀ (e : EdgeIn) (s : State), s.pwr.rst = none → s.strokes ≠ 0 →
    gives (.strokeEdge e) s
      (custSettle (edgeSnap (edgeAfter e (edgeTime (tasksEdge (edgeStages e s.gen.edgeNow (edgeSensors e (edgeCount e s)))))))))
  ∧ (∀ (j : Iface) (a : BitVec 24) (v : BitVec 32) (dt : Nat) (s : State), s.pwr.rst = none → a.toNat % 4 ≠ 0 →
    gives (.registerWrite j a v dt) s (accErr j 1 a.toNat (hstTouch j (s.tick dt))))
  ∧ (∀ (j : Iface) (a : BitVec 24) (v : BitVec 32) (dt : Nat) (s : State), s.pwr.rst = none → a.toNat % 4 = 0 →
    gives (.registerWrite j a v dt) s (hostWord j none a.toNat v.toNat (s.tick dt)).2)
  ∧ (∀ s : State, s.pwr.rst = none → s.flag R.GEN_STROKE_CTL_HOLD_APPLY = true → 8000 ≤ s.gen.holdStrokes →
    gives .holdExpired s (raiseEvt R.GEN_STROKE_STAT_HOLD_EXPIRED 21 (holdDrop s)))
  ∧ (∀ (j : Iface) (s : State), s.pwr.rst = none →
    gives (.strokeNumRead j) s (readAs j.num 0x000100 s).2)
  ∧ (∀ (t : SolverTask) (s : State), s.pwr.rst = none → taskOnA t = true → (taskSt s t).idle = false → (taskSt s t).out = false →
    (taskSt s t).overrun = false → (taskSt s t).begun + taskDeadline t ≤ s.strokes →
    gives (.solverTaskOverrun t) s (faultRaise 25 (pmcCount 4 ((raiseEvt R.GEN_STROKE_STAT_OVR_A 21
      (setTask t { taskSt s t with overrun := true } s)).addSat R.GEN_SOLVER_LOAD_OVR_CNT_A 1))))
  ∧ (∀ (t : SolverTask) (s : State), s.pwr.rst = none → taskOnA t = false → (taskSt s t).idle = false → (taskSt s t).out = false →
    (taskSt s t).overrun = false → (taskSt s t).begun + taskDeadline t ≤ s.strokes →
    gives (.solverTaskOverrun t) s (faultRaise 26 (pmcCount 5 ((raiseEvt R.GEN_STROKE_STAT_OVR_B 21
      (setTask t { taskSt s t with overrun := true } s)).addSat R.GEN_SOLVER_LOAD_OVR_CNT_B 1))))
  ∧ (∀ (t : SolverTask) (s : State), s.pwr.rst = none → taskStale s t < taskAge s t →
    gives (.solverOutputStale t) s (setTask t { taskSt s t with stale := true } s))
  ∧ (∀ (p : Nat × Nat) (s : State), s.pwr.rst = none → s.gen.loadDue = some p →
    gives .solverLoadUpdate s ((({ s with gen := { s.gen with loadDue := none } } : State).pub R.GEN_SOLVER_LOAD_LOAD_A (p.1 * 100 / 31250)).pub
      R.GEN_SOLVER_LOAD_LOAD_B (p.2 * 100 / 31250)))

/-- 01 R28, R30: the output that a Solver task has worked out waits until the edge at which its period has passed; that edge publishes it, and it waits no more. -/
def Obligations.EdgePublishesTheTaskOutput : Prop :=
  ∀ (o : SolverOut) (s : State), s.gen.jobs = [o] →
    ((taskSt s o.task).begun + taskPeriod o.task ≤ s.strokes →
      tasksEdge s = selStat (taskRun o { s with gen := { s.gen with jobs := [] } }))
    ∧ (s.strokes < (taskSt s o.task).begun + taskPeriod o.task → tasksEdge s = selStat s)

/-- 01 R34 to R36: GEN_STROKE_CTL written by a Custodian after start-up. u is s with the access counted and noted. HOLD_APPLY taken, applied and discarded;
an interface that does not own the hold is answered with code 5 (HOLD), and the hold stays. -/
def Obligations.HoldCommandsComplete : Prop :=
  ∀ (j : Iface) (s : State), s.pwr.rst = none → cfgRuns s = true → ks2Usable s = true → isCust s j = true →
    let u := pmcAdd (7 + j.num) 1 (accCtx (hstTouch j s) (masterOf j) 0x00010C) (hstTouch j s)
    (s.flag R.GEN_STROKE_CTL_HOLD_APPLY = false →
      gives (.holdApplySet j) s (((({ u with gen := { u.gen with held := [], holdStrokes := 0 } } : State).put
        R.GEN_STROKE_CTL_HOLD_APPLY 1).put R.GEN_STROKE_STAT_HOLD_OWNER (j.num + 1))))
    ∧ (s.flag R.GEN_STROKE_CTL_HOLD_APPLY = true → ownsHold s j = true →
      gives (.holdApplySet j) s u
      ∧ gives (.holdApplyClear j) s (u.gen.held.foldl (fun t w => heldGo w t) (holdDrop u))
      ∧ gives (.holdDiscard j) s (((({ u with gen := { u.gen with held := [], holdStrokes := 0 } } : State).put
          R.GEN_STROKE_CTL_HOLD_APPLY 0).put R.GEN_STROKE_STAT_HOLD_OWNER 0)))
    ∧ (s.flag R.GEN_STROKE_CTL_HOLD_APPLY = true → ownsHold s j = false →
      gives (.holdApplySet j) s (accErr j 5 0x00010C u)
      ∧ gives (.holdApplyClear j) s (accErr j 5 0x00010C u)
      ∧ gives (.holdDiscard j) s (accErr j 5 0x00010C u))

/-! ## Engine time (02) -/

/-- 02 R47, R53, R59, R63, R64, R66 to R68, R70: the commands of engine time complete, each with the whole effect given. -/
def Obligations.EngineTimeCommandsComplete : Prop :=
  (∀ (i : Iface) (dt : Nat) (s : State), s.pwr.rst = none → gives (.etmNowRead i dt) s (readAs i.num 0x020010 (s.tick dt)).2)
  ∧ (∀ (i : Iface) (dt : Nat) (s : State), s.pwr.rst = none → gives (.etmOffsetRead i dt) s (readAs i.num 0x020030 (s.tick dt)).2)
  ∧ (∀ (abs : Bool) (s : State), s.pwr.rst = none →
    gives (.stepCmdGo abs) s (({ s with etm := { s.etm with custReq := some abs } } : State).putB R.ETM_STEP_CMD_ABS abs))
  ∧ (∀ s : State, s.pwr.rst = none → s.etm.reState = .run →
    gives .reepoch s { s with etm := { s.etm with reStart := true } })
  ∧ (∀ s : State, s.pwr.rst = none → s.etm.reState = .muffling →
    gives .reepochAbort s { s with etm := { s.etm with reAbort := true } })
  ∧ (∀ s : State, s.pwr.rst = none → s.etm.reState = .stepping → s.get R.ETM_REEPOCH_CFG_STEP_WAIT ≤ s.etm.reTimer + 1 →
    gives .stepWaitExpire s { s with etm := { s.etm with reDue := true } })
  ∧ (∀ s : State, s.pwr.rst = none → s.etm.reState = .settle → s.get R.ETM_REEPOCH_CFG_SETTLE ≤ s.etm.reTimer + 1 →
    gives .settleExpire s { s with etm := { s.etm with reDue := true } })
  ∧ (∀ (n : Fin 8) (v : BitVec 32) (dt : Nat) (s : State), s.pwr.rst = none → almFires (s.tick dt) n = false →
    tget none s.etm.almWas n ≠ some (s.tick dt).now →
    gives (.alarmWrite n 0 v dt) s (almArm n ((s.tick dt).put (R.ETM_ALM_TGT_LO_TGT_LO n) v.toNat))
    ∧ gives (.alarmWrite n 1 v dt) s (almArm n ((s.tick dt).put (R.ETM_ALM_TGT_HI_TGT_HI n) v.toNat))
    ∧ gives (.alarmWrite n 2 v dt) s (almArm n ((s.tick dt).put (R.ETM_ALM_PERIOD_PERIOD n) v.toNat))
    ∧ (v.toNat / 0x100 % 4 = 0 → gives (.alarmWrite n 3 v dt) s
        (almArm n (((s.tick dt).putB (R.ETM_ALM_CTL_ARM n) (tbit v.toNat 0)).putB (R.ETM_ALM_CTL_PERIODIC n) (tbit v.toNat 1)))))
  ∧ (∀ (n : Fin 8) (v : BitVec 32) (dt : Nat) (s : State), s.pwr.rst = none → tget none s.etm.almWas n = some (s.tick dt).now →
    almFires (s.tick dt) n = false →
    gives (.alarmWrite n 0 v dt) s (almArm n (((s.tick dt).put (R.ETM_ALM_CTL_ARM n) 1).put (R.ETM_ALM_TGT_LO_TGT_LO n) v.toNat)))
  ∧ (∀ (n : Fin 8) (dt : Nat) (s : State), s.pwr.rst = none → s.flag (R.ETM_ALM_CTL_ARM n) = true → almDue (s.tick dt) n = true →
    (tget false s.etm.almLate n = true → tget 0 s.etm.almAt n < (s.tick dt).now) →
    let u := almEdge n (s.tick dt)
    let w := raiseEvt (R.ETM_ALM_CTL_FIRED n) (12 + n) u
    let w := if tget false u.etm.almLate n then w.put (R.ETM_ALM_CTL_LATE n) 1 else w
    gives (.alarmFire n dt) s
      (almNext n { w with etm := { w.etm with almLate := tset false w.etm.almLate n false, almWas := tset none w.etm.almWas n (some w.now) } }))
  ∧ (∀ (i : Iface) (dt : Nat) (s : State), s.pwr.rst = none →
    gives (.convertRawf i dt) s (convGo i false (s.tick dt)) ∧ gives (.convertEtime i dt) s (convGo i true (s.tick dt)))
  ∧ (∀ (i : Iface) (r : ConvRes) (s : State), s.pwr.rst = none → tget none s.etm.convRes i.num = some r →
    let u : State := { s with etm := { s.etm with convRes := tset none s.etm.convRes i.num none } }
    let u := (u.put (R.ETM_CONV_OUT_W0_OUT.ifc i) (wordOf r.out 0)).put (R.ETM_CONV_OUT_W1_OUT.ifc i) (wordOf r.out 1)
    let u := (u.put (R.ETM_CONV_OUT_W2_OUT.ifc i) (wordOf r.out 2)).putB (R.ETM_CONV_STAT_RANGE.ifc i) r.range
    gives (.conversionDone i) s
      (((u.putB (R.ETM_CONV_STAT_PRE_STEP.ifc i) r.preStep).putB (R.ETM_CONV_STAT_INVALID.ifc i) r.invalid).put (R.ETM_CONV_STAT_DONE.ifc i) 1))
  ∧ (∀ s : State, s.pwr.rst = none → s.etm.utcCur.leap ≠ 0 → s.etm.utcCur.leapTai ≤ etSec s.etimeNow →
    let c : UtcData := { s.etm.utcCur with offset := s.etm.utcCur.offset + (if s.etm.utcCur.leap = 1 then 1 else -1), leap := 0 }
    let seen := s.etm.utcSeen.map (fun (e : Nat × UtcData × UtcData) => (e.1, (e.2.1, utcAt e.2.2 (etSec s.etimeNow))))
    let u : State := { s with etm := { s.etm with utcCur := c, utcSeen := seen, utcOld := some (s.etm.utcCur.leapTai, s.etm.utcCur.offset) } }
    gives .leapApply s ((u.put R.ETM_UTC_UTC_OFFSET (ofInt 16 c.offset)).put R.ETM_UTC_LEAP 0))

/-- 02 R62, R63, 03 R80: an armed alarm whose target is reached gives the Clapper its edge (u), sets FIRED; a single alarm disarms, a periodic one with a period moves
its target on by the period and stays armed (one whose period is 0 disarms: the model's choice, log entry 60); LATE is set where it was noted at arming. -/
def Obligations.AlarmFiresAtItsTarget : Prop :=
  ∀ (n : Fin 8) (dt : Nat) (s : State), s.pwr.rst = none → s.flag (R.ETM_ALM_CTL_ARM n) = true →
    0 ≤ rawDiff (s.tick dt).raw (s.get2 (R.ETM_ALM_TGT_LO_TGT_LO n) (R.ETM_ALM_TGT_HI_TGT_HI n)) →
    (tget false s.etm.almLate n = true → tget 0 s.etm.almAt n < (s.tick dt).now) →
    let u := almEdge n (s.tick dt)
    ∃ t, exec (.alarmFire n dt) s = .next t ∧
      t.get (R.ETM_ALM_CTL_FIRED n) = 1 ∧
      (tget false u.etm.almLate n = true → t.get (R.ETM_ALM_CTL_LATE n) = 1) ∧
      (tget false u.etm.almLate n = false → t.get (R.ETM_ALM_CTL_LATE n) = u.get (R.ETM_ALM_CTL_LATE n)) ∧
      (u.flag (R.ETM_ALM_CTL_PERIODIC n) = true → u.get (R.ETM_ALM_PERIOD_PERIOD n) ≠ 0 →
        t.get (R.ETM_ALM_CTL_ARM n) = u.get (R.ETM_ALM_CTL_ARM n) ∧
        t.get2 (R.ETM_ALM_TGT_LO_TGT_LO n) (R.ETM_ALM_TGT_HI_TGT_HI n) =
          (u.get2 (R.ETM_ALM_TGT_LO_TGT_LO n) (R.ETM_ALM_TGT_HI_TGT_HI n) + u.get (R.ETM_ALM_PERIOD_PERIOD n)) % 2 ^ 48) ∧
      (u.flag (R.ETM_ALM_CTL_PERIODIC n) = false ∨ u.get (R.ETM_ALM_PERIOD_PERIOD n) = 0 →
        t.get (R.ETM_ALM_CTL_ARM n) = 0 ∧
        t.get2 (R.ETM_ALM_TGT_LO_TGT_LO n) (R.ETM_ALM_TGT_HI_TGT_HI n) = u.get2 (R.ETM_ALM_TGT_LO_TGT_LO n) (R.ETM_ALM_TGT_HI_TGT_HI n)) ∧
      (∀ k, winOf k ≠ 0x02 → winOf k ≠ 0x14 → winOf k ≠ 0x15 → rdWord t k = rdWord u k) ∧
      (∀ m : Fin 8, m ≠ n → rdWord t (0x02010C + 0x10 * m.val) = rdWord u (0x02010C + 0x10 * m.val)) ∧
      t.clp = u.clp ∧ t.edge = u.edge ∧ t.tch = u.tch
/-! ## The Clapper (03) -/

/-- 03 R72, R77, R79, R84, R86 to R88, R91, R92, R97: the commands of the Clapper complete, each with the whole effect given. -/
def Obligations.ClapperCommandsComplete : Prop :=
  (∀ (n : Fin 24) (src : Fin 64) (fall : Bool) (code : BitVec 11) (dt : Nat) (s : State), s.pwr.rst = none →
    srcLive (s.tick dt) src = true → s.get (R.CLP_CH_CFG_MODE n) ≠ 0 → src.val ≠ 0x3F → (src.val < 0x20 ∨ 0x27 < src.val) →
    (s.get (R.CLP_CH_SRC_START_SRC n) = src.val → s.get (R.CLP_CH_SRC_STOP_SRC n) ≠ src.val →
      gives (.edgeArrival n src fall code dt) s (pathEdge n src 0 fall code.toNat (s.tick dt)))
    ∧ (s.get (R.CLP_CH_SRC_START_SRC n) ≠ src.val → s.get (R.CLP_CH_SRC_STOP_SRC n) = src.val →
      gives (.edgeArrival n src fall code dt) s (pathEdge n src 1 fall code.toNat (s.tick dt)))
    ∧ (s.get (R.CLP_CH_SRC_START_SRC n) = src.val → s.get (R.CLP_CH_SRC_STOP_SRC n) = src.val →
      gives (.edgeArrival n src fall code dt) s (pathEdge n src 1 fall code.toNat (pathEdge n src 0 fall code.toNat (s.tick dt)))))
  ∧ (∀ (n : Fin 24) (dt : Nat) (x : Stamp) (l : List Stamp) (s : State), s.pwr.rst = none →
    let u := s.tick dt
    (s.ch n).start.buf = x :: l → pathReady u (s.ch n).start = true →
    ((s.ch n).stop.buf = [] ∨ (∃ y r, (s.ch n).stop.buf = y :: r ∧ rawfDiff x.dlv y.dlv ≤ 0)
      ∨ (pathReady u (s.ch n).stop = false ∧ s.get (R.CLP_CH_CFG_MODE n) ≠ 2)) →
    gives (.stampDeliver n dt) s
      (passStart n x (u.setCh n { s.ch n with start := { (s.ch n).start with buf := l, outAt := some u.now } })))
  ∧ (∀ (n : Fin 24) (dt : Nat) (y : Stamp) (r : List Stamp) (s : State), s.pwr.rst = none →
    let u := s.tick dt
    (s.ch n).stop.buf = y :: r → pathReady u (s.ch n).stop = true →
    ((s.ch n).start.buf = [] ∨ (∃ x l, (s.ch n).start.buf = x :: l ∧ 0 < rawfDiff x.dlv y.dlv)
      ∨ (pathReady u (s.ch n).start = false ∧ s.get (R.CLP_CH_CFG_MODE n) ≠ 2)) →
    gives (.stampDeliver n dt) s
      (ssStop n y (u.setCh n { s.ch n with stop := { (s.ch n).stop with buf := r, outAt := some u.now } })))
  ∧ (∀ (n : Fin 24) (dt : Nat) (s : State), s.pwr.rst = none →
    (s.ch n).ss = .waitStop → (s.ch n).postWin ≠ 0 → (s.ch n).startAt + (s.ch n).postWin ≤ (s.tick dt).now →
    let u := (s.tick dt).addSat (R.CLP_CH_MISS_TIMEOUT n) 1
    gives (.stopTimeout n dt) s (ssGo n (if u.flag (R.CLP_CH_CFG_REARM n) then .armed else .idle) u))
  ∧ (∀ (conv : Fin 41) (s : State), s.pwr.rst = none →
    let lim := s.get R.CLP_CAL_CFG_CAL_HOLD
    let due := fun k => decide (lim < (s.slice conv k).fails) && !(s.slice conv k).bad
    let t := (if due 0 then tset {} s.clp.slices (2 * conv.val) { s.slice conv 0 with bad := true } else s.clp.slices)
    let t := (if due 1 then tset {} t (2 * conv.val + 1) { s.slice conv 1 with bad := true } else t)
    let u := calPublish (convSlice s) conv { s with clp := { s.clp with slices := t } }
    (due 0 = true ∨ due 1 = true) →
    ((s.slice conv 0).bad = true ∨ (s.slice conv 1).bad = true → gives (.calHoldExpire conv) s u)
    ∧ ((s.slice conv 0).bad = false ∧ (s.slice conv 1).bad = false →
      gives (.calHoldExpire conv) s
        (faultRaise (calSource conv) (if conv.val < 24 then irqRequest (159 + conv.val) u else u))))
  ∧ (∀ (dt : Nat) (s : State), s.pwr.rst = none → s.clp.warmFrom + 4 * 31250 ≤ (s.tick dt).now →
    gives (.calWarmupEnd dt) s { s.tick dt with clp := { s.clp with warm := false } })
  ∧ (∀ (j : Iface) (n : Fin 24) (dt : Nat) (s : State), s.pwr.rst = none →
    let v := readAs j.num (0x031024 + 0x80 * n.val) (s.tick dt)
    ((s.ch n).queue = [] ∨ domOn s 10 = false → gives (.clpQRead j n dt) s (v.2.put (R.CLP_CH_STAT_UNDERRUN n) 1))
    ∧ (∀ e l, (s.ch n).queue = e :: l → domOn s 10 = true →
      gives (.clpQRead j n dt) s (qLate n (qCheck n (v.2.setCh n { s.ch n with queue := l })))))
  ∧ (∀ (n : Fin 24) (s : State), s.pwr.rst = none → (s.ch n).ss = .idle → s.get (R.CLP_CH_CFG_MODE n) = 2 →
    gives (.clpArm n) s ((s.setCh n { s.ch n with ss := .armed }).put (R.CLP_CH_STAT_STATE n) 1))
  ∧ (∀ (n : Fin 24) (s : State), s.pwr.rst = none →
    gives (.clpDisarm n) s ((s.setCh n { s.ch n with ss := .idle }).put (R.CLP_CH_STAT_STATE n) 0)
    ∧ gives (.prescSync n) s (s.setCh n { s.ch n with
        start := { (s.ch n).start with presc := 0 }, stop := { (s.ch n).stop with presc := 0 } })
    ∧ gives (.statRestart n) s (s.setCh n { s.ch n with stat := { (s.ch n).stat with restart := true } })
    ∧ gives (.clpFlush n) s (qCheck n (s.setCh n { s.ch n with queue := [], gapNext := true })))
  ∧ (∀ s : State, s.pwr.rst = none →
    gives .syncAll s ((List.range 24).foldl (fun t n => prescSync n t) s))
  ∧ (∀ (j : Iface) (n : Fin 24) (s : State), s.pwr.rst = none →
    gives (.meanRead j n) s (readAs j.num (0x031038 + 0x80 * n.val) s).2)

/-- 03 R86, R72: an edge selected at the start path, with its prescaler at 0, no earlier edge within 8 ns and room in the burst buffer, is stamped: the stamp
joins the buffer and the snapshot, and no register changes. -/
def Obligations.EdgeIsStampedIntoBufferAndSnapshot : Prop :=
  ∀ (n : Fin 24) (src : Fin 64) (fall : Bool) (code : BitVec 11) (dt : Nat) (s : State), s.pwr.rst = none →
    srcLive (s.tick dt) src = true → s.get (R.CLP_CH_CFG_MODE n) ≠ 0 → src.val ≠ 0x3F → (src.val < 0x20 ∨ 0x27 < src.val) →
    s.get (R.CLP_CH_SRC_START_SRC n) = src.val → s.get (R.CLP_CH_SRC_STOP_SRC n) ≠ src.val →
    edgeSel s n (s.get (R.CLP_CH_CFG_PRESC n)) fall = true → (s.get (R.CLP_CH_CFG_PRESC n) = 0 ∨ (s.ch n).start.presc = 0) →
    (s.ch n).start.buf.length < 16 →
    let st := mkStamp (s.tick dt) n src 0 fall (s.ch n).start.miss code.toNat
    let at' := (s.tick dt).now * 4096 + st.arr % 4096
    (∀ a, (s.ch n).start.last = some a → a + 8192 ≤ at') →
    ∃ t, exec (.edgeArrival n src fall code dt) s = .next t ∧
      (t.ch n).start.buf = (s.ch n).start.buf ++ [st] ∧ (t.ch n).start.last = some at' ∧ (t.ch n).start.miss = false ∧
      (t.ch n).start.presc = ((s.ch n).start.presc + 1) % 2 ^ s.get (R.CLP_CH_CFG_PRESC n) ∧
      (t.ch n).cur ++ (t.ch n).nxt = (if 0 < rawDiff ((s.tick dt).nextEdge - 64) (st.arr / 4096)
        then (s.ch n).cur ++ [st] ++ (s.ch n).nxt else (s.ch n).cur ++ ((s.ch n).nxt ++ [st])) ∧
      (t.ch n).queue = (s.ch n).queue ∧ (t.ch n).stop = (s.ch n).stop ∧ (t.ch n).stat = (s.ch n).stat ∧
      (∀ m : Fin 24, m ≠ n → t.ch m = s.ch m) ∧ t.regs = s.regs ∧ t.irq = s.irq ∧ t.pending = s.pending

/-! ## Reference monitors (04) -/

/-- 04 R107, R117, R122, R125: the monitors' commands complete, each with the whole effect given. -/
def Obligations.MonitorCommandsComplete : Prop :=
  (∀ (m : Fin 32) (s : State), s.pwr.rst = none → (s.mon m).invHold = true → 64 ≤ (s.mon m).invRun →
    tbit (s.get (R.RMON_MON_CAUSE_HARD m)) 8 = false →
    gives (.invHoldTimeout m) s
      ((monGo m 0 (s.put (R.RMON_MON_CAUSE_HARD m) (withBit (s.get (R.RMON_MON_CAUSE_HARD m)) 8 true))).repub
        [(R.RMON_MON_STAT_STATE m).addr, (monStateFld m).addr]))
  ∧ (∀ (m : Fin 32) (s : State), s.pwr.rst = none → s.get (R.RMON_MON_STAT_STATE m) = 1 →
    s.get (R.RMON_MON_CAUSE_HARD m) = 0 → s.get (R.RMON_MON_CAUSE_SOFT m) = 0 →
    s.get (R.RMON_MON_VAL_TIME_VAL_TIME m) < (s.mon m).val → tdevFull s m = true → (s.mon m).invHold = false →
    gives (.validationComplete m) s ((monGo m 2 s).repub [(R.RMON_MON_STAT_STATE m).addr, (monStateFld m).addr]))
  ∧ (∀ (m : Fin 32) (s : State), s.pwr.rst = none → s.get (R.RMON_MON_STAT_STATE m) = 3 →
    s.get (R.RMON_MON_CAUSE_HARD m) = 0 → s.get (R.RMON_MON_CAUSE_SOFT m) = 0 →
    s.get (R.RMON_MON_CLR_TIME_CLR_TIME m) < (s.mon m).clr → (s.mon m).invHold = false →
    gives (.clearTimeComplete m) s ((monGo m 2 s).repub [(R.RMON_MON_STAT_STATE m).addr, (monStateFld m).addr]))
  ∧ (∀ (m : Fin 32) (s : State), s.pwr.rst = none → s.get (R.RMON_MON_SRC_VTYPE m) = 3 →
    s.flag (R.RMON_MON_CFG_QL_EN m) = true → (s.mon m).esmcAt + 40000 ≤ s.strokes →
    gives (.esmcTimeout m) s (s.setMon m { s.mon m with qlFail := true }))

/-- 04 R122, R125: a monitor in VALIDATING that has no cause, whose timer has passed VAL_TIME and whose window is full becomes VALID. Its state is published in
STAT, in the summary and as of the last edge, its time in the state restarts, its transition count goes up, CHG and the change record are made; every other
monitor keeps its registers. -/
def Obligations.ValidationMakesMonitorValid : Prop :=
  ∀ (m : Fin 32) (s : State), s.pwr.rst = none → s.get (R.RMON_MON_STAT_STATE m) = 1 →
    s.get (R.RMON_MON_CAUSE_HARD m) = 0 → s.get (R.RMON_MON_CAUSE_SOFT m) = 0 →
    s.get (R.RMON_MON_VAL_TIME_VAL_TIME m) < (s.mon m).val → tdevFull s m = true → (s.mon m).invHold = false →
    ∃ t, exec (.validationComplete m) s = .next t ∧
      t.get (R.RMON_MON_STAT_STATE m) = 2 ∧ t.getE (R.RMON_MON_STAT_STATE m) = 2 ∧ t.get (monStateFld m) = 2 ∧
      t.get (R.RMON_MON_STATE_TIME_STATE_TIME m) = 0 ∧
      t.get (R.RMON_MON_COUNTS_TRANS_CNT m) = satW 16 (s.get (R.RMON_MON_COUNTS_TRANS_CNT m) + 1) ∧
      t.get (R.RMON_CHG_CHG.bitAt m) = 1 ∧
      (∀ n : Fin 32, n ≠ m → ∀ w < 32, rdWord t (0x041000 + 0x80 * n.val + 4 * w) = rdWord s (0x041000 + 0x80 * n.val + 4 * w)) ∧
      (∀ k, winOf k ≠ 0x04 → winOf k ≠ 0x13 → winOf k ≠ 0x14 → winOf k ≠ 0x15 → rdWord t k = rdWord s k) ∧
      t.rmon = s.rmon ∧ t.sel = s.sel ∧ t.clp = s.clp

/-! ## Selection and the Carillon (05), the bound and the oscillator model (06), the timing channels (07) -/

/-- 05 R132, R144, R145, R150, R152: the commands of selection and of the Carillon complete, each with the whole effect given. The estimate waits for the
edge that publishes it (EdgePublishesTheTaskOutput). -/
def Obligations.SelectionCommandsComplete : Prop :=
  (∀ (c : Fin 8) (k : Fin 32) (s : State), s.pwr.rst = none →
    s.get (R.SEL_TCH_WTR_WTR c) ≤ tget 0 s.sel.timers (c.val * 32 + k.val) →
    gives (.wtrExpire c k) s (s.pub ((R.SEL_TCH_WTR_DONE_WTR_DONE c).bitAt k) 1))
  ∧ (∀ s : State, s.pwr.rst = none → unitDown s .solverB = false → taskRuns s .carillon →
    gives .carillonEstimate s { s with gen := { s.gen with jobs := s.gen.jobs ++ [.carillon] } })
  ∧ (∀ (m : Fin 32) (s : State), s.pwr.rst = none → joinDue s m = true →
    (carMembers s).length + ((List.range 32).filter (fun k => k != m.val && joinDue s k && joinsFirst s k m)).length < 16 →
    gives (.carJoinExpire m) s (s.setRef m { s.ref m with
      member := true, prov := none,
      c := if classTime s m then (s.ref m).c else some ((s.ref m).y.getD 0 - (if (carMembers s).isEmpty then 0 else carE s)) }))
  ∧ (∀ (m : Fin 32) (s : State), s.pwr.rst = none → s.get (R.SEL_REF_FLAGS_CORR m) ≠ 0 →
    s.get R.SEL_CORR_TIME_CORR_TIME ≤ (s.ref m).cnt → 0 < (s.ref m).cnt →
    gives (.corroborated m) s { corrClear m s with edge := ((corrClear m s).pub (R.SEL_REF_FLAGS_CORR m) 0).edge })
  ∧ (∀ (m : Fin 32) (s : State), s.pwr.rst = none →
    gives (.selAccept m) s { s with sel := { s.sel with accept := s.sel.accept ||| 2 ^ m.val } })

/-- 06 R169, R172 and 07 R182, R190, R196, R202: the commands of the bound, of the oscillator model and of the timing channels complete, each with the whole
effect given. A write of a channel's mode waits for the edge, and TCH_0's is ignored; the model's learning waits for the edge that publishes it. -/
def Obligations.ServoCommandsComplete : Prop :=
  (∀ (k : Fin 9) (s : State), s.pwr.rst = none → k.val ≠ 0 → s.get R.BND_CTL_HOLD_MAX ≠ 0 → 2 ≤ (s.bset k).basis →
    s.get R.BND_CTL_HOLD_MAX * 28800000 < s.get (R.BND_SET_HOLD_TAU_HOLD_TAU k) →
    let u := s.setBset k { s.bset k with sticky := (s.bset k).sticky ||| 64 }
    gives (.holdmaxExpire k) s ((bndPublish k (bndOf u k).1 (bndOf u k).2.1 (u.get (R.BND_SET_STAT_UNB_CAUSE k) ||| 64) u).repub
      ((List.range 5).map (fun w => 0x061000 + 0x100 * k.val + 4 * w))))
  ∧ (∀ s : State, s.pwr.rst = none → s.get R.BND_CTL_HOLD_MAX ≠ 0 → 2 ≤ (s.bset 0).basis →
    s.get R.BND_CTL_HOLD_MAX * 28800000 < s.get (R.BND_SET_HOLD_TAU_HOLD_TAU 0) →
    let u := s.setBset 0 { s.bset 0 with sticky := (s.bset 0).sticky ||| 64 }
    gives (.holdmaxExpire 0) s ((List.range 9).foldl (fun v j => if j = 0 || engSet v j then
      (bndPublish j (bndOf v j).1 (bndOf v j).2.1 (v.get (R.BND_SET_STAT_UNB_CAUSE j) ||| 64) v).repub
        ((List.range 5).map (fun w => 0x061000 + 0x100 * j + 4 * w)) else v) u))
  ∧ (∀ (t0 : BitVec 16) (s : State), s.pwr.rst = none → unitDown s .solverB = false → taskRuns s .learning →
    gives (.oscModelLearn t0) s { s with gen := { s.gen with jobs := s.gen.jobs ++ [.learning t0] } })
  ∧ (∀ s : State, s.pwr.rst = none → gives .modelClr s { s with bnd := { s.bnd with clrReq := true } })
  ∧ (∀ (c : Fin 8) (s : State), s.pwr.rst = none → 64 < (s.tc c).frzRun → s.get (R.TCH_CH_STAT_STATE c) ≠ 4 →
    gives (.freezeToHoldover c) s (ratesAgain (tchRepub c (tchHoldover c s))))
  ∧ (∀ (c : Fin 8) (s : State), s.pwr.rst = none → s.get (R.TCH_CH_STAT_STATE c) = 2 → 0 < (s.tc c).lockN →
    s.getE (R.TCH_CH_LOCK_CNT_LOCK_CNT c) ≤ (s.tc c).lockN →
    gives (.tchLocked c) s (tchRepub c (raiseEvt (R.TCH_EVT_STATE_CHG.bitAt c) (22 + c)
      ((s.setTc c { s.tc c with lockN := 0 }).put (R.TCH_CH_STAT_STATE c) 3))))
  ∧ (∀ (c : Fin 8) (s : State), s.pwr.rst = none →
    2 ^ s.getE (R.TCH_CH_HIST_HIST_TC c) + s.getE (R.TCH_CH_HIST_HO_GUARD c) ≤ (s.tc c).lockRun →
    gives (.histValid c) s (s.pub (R.TCH_CH_STAT_HIST_VALID c) 1))
  ∧ (∀ (c : Fin 8) (mode : BitVec 2) (s : State), s.pwr.rst = none →
    (c.val ≠ 0 → writeIsQueued (.modeWrite c mode) (R.TCH_CH_CTL_MODE c) mode.toNat s)
    ∧ (c.val = 0 → gives (.modeWrite c mode) s s))
  ∧ (∀ s : State, s.pwr.rst = none → s.get R.TCH_STEER_CFG_PORT ≠ 0 → s.get R.TCH_STEER_CFG_PER ≠ 0 →
    (s.strokes - 1) % (s.get R.TCH_STEER_CFG_PER * 8000) = 0 → s.getI R.TCH_STEER_KDAC_KDAC ≠ 0 →
    s.getE (R.TCH_CH_STAT_STATE 0) = 3 → s.flagE (R.TCH_CH_STAT_FROZEN 0) = false →
    let k := s.getI R.TCH_STEER_KDAC_KDAC
    let stp : Int := s.get R.TCH_STEER_STEP_STEER_STEP
    let q := if 0 < k then roundDiv s.tch.mean (2 * k) else roundDiv (-s.tch.mean) (-2 * k)
    let d := clampI (-stp) stp q
    let code := clampI 0 (2 ^ steerBits s - 1) (s.get R.TCH_STEER_CODE_CODE + d)
    let u := steerMove d (((s.put R.TCH_STEER_CODE_CODE code.toNat).addSat R.TCH_STEER_STAT_UPD_CNT 1).put R.TCH_STEER_STAT_HELD 0)
    gives .steerUpdate s (ratesAgain (tchRepub 0 (steerSend { u with etm := { u.etm with rate := u.etm.ratePub } }))))
  ∧ (∀ (v : BitVec 24) (s : State), s.pwr.rst = none →
    gives (.steerCodeWrite v) s { s with tch := { s.tch with codeReq := some v.toNat } })

/-- 07 R190: LOCK_CNT successive updates within LOCK_THR take a channel from ACQUIRE to LOCKED, published as of the edge, with the channel's change event; the
other channels' states, the bound's registers and the outputs' are as before. -/
def Obligations.ChannelLocksAfterLockCount : Prop :=
  ∀ (c : Fin 8) (s : State), s.pwr.rst = none → s.get (R.TCH_CH_STAT_STATE c) = 2 → 0 < (s.tc c).lockN →
    s.getE (R.TCH_CH_LOCK_CNT_LOCK_CNT c) ≤ (s.tc c).lockN →
    ∃ t, exec (.tchLocked c) s = .next t ∧ t.get (R.TCH_CH_STAT_STATE c) = 3 ∧ t.getE (R.TCH_CH_STAT_STATE c) = 3 ∧
      t.get (R.TCH_EVT_STATE_CHG.bitAt c) = 1 ∧
      (∀ d : Fin 8, d ≠ c → t.get (R.TCH_CH_STAT_STATE d) = s.get (R.TCH_CH_STAT_STATE d) ∧
        (c.val ≠ 0 ∨ s.get (R.TCH_CH_STAT_STATE d) ≠ 5 → t.getE (R.TCH_CH_STAT_STATE d) = s.getE (R.TCH_CH_STAT_STATE d))) ∧
      (∀ k, winOf k ≠ 0x07 → winOf k ≠ 0x14 → winOf k ≠ 0x15 → rdWord t k = rdWord s k) ∧
      t.bnd = s.bnd ∧ t.out = s.out ∧ t.sel = s.sel

/-! ## The analogue PLLs and the outputs (08) -/

/-- 01 R32, R34, 08 R207, R208, R211, R222, R224: a write of an APLL's enable, plan select, plan word or fine channel, of an output's enable or
of its configuration changes no register: it waits for the next Stroke edge, or is held. -/
def Obligations.OutputWritesWaitForTheEdge : Prop :=
  ∀ s : State, s.pwr.rst = none →
    (∀ k : Fin 4, writeIsQueued (.apllEnable k) (R.APL_APLL_CTL_EN k) 1 s ∧ writeIsQueued (.apllDisable k) (R.APL_APLL_CTL_EN k) 0 s)
    ∧ (∀ (k : Fin 4) (p : Fin 16), writeIsQueued (.planSelWrite k p) (R.APL_APLL_CTL_PLAN_SEL k) p s)
    ∧ (∀ (k : Fin 4) (x : BitVec 4), writeIsQueued (.fineTchWrite k x) (R.APL_APLL_CTL_FINE_TCH k) x.toNat s)
    ∧ (∀ (k : Fin 4) (p : Fin 16) (w : Fin 3) (v : BitVec 32),
        writeIsQueued (.planWordWrite k p w v) ⟨0x081100 + 0x400 * k.val + 0x10 * p.val + 4 * w.val, 31, 0⟩ v.toNat s)
    ∧ (∀ k : Fin 16, writeIsQueued (.outEnable k) (R.OUT_CFG_EN k) 1 s ∧ writeIsQueued (.outDisable k) (R.OUT_CFG_EN k) 0 s)
    ∧ (∀ (k : Fin 16) (w : Fin 10) (v : BitVec 32), writeIsQueued (.outCfgWrite k w v) ⟨0x091000 + 0x80 * k.val + 4 * w.val, 31, 0⟩ v.toNat s)

/-- 08 R208 to R210, R222: the events of the APLLs and of the outputs complete, each with the whole effect given. States: 0 OFF, 1 SEARCH, 2 ACQUIRE, 3
SETTLING, 4 LOCKED, 5 HOP, 6 FENCED. -/
def Obligations.ApllEventsComplete : Prop :=
  (∀ (k : Fin 4) (s : State), s.pwr.rst = none → (s.apll k).st = 5 → apllQuiet s k = true →
    gives (.planLoaded k) s (apllStart k s))
  ∧ (∀ (k : Fin 4) (band : BitVec 8) (s : State), s.pwr.rst = none → (s.apll k).st = 1 →
    gives (.bandFound k band) s ((bandStore k band.toNat s).setApll k { (bandStore k band.toNat s).apll k with st := 2, tries := 0 }))
  ∧ (∀ (k : Fin 4) (s : State), s.pwr.rst = none → (s.apll k).st = 1 →
    gives (.searchFail k) s (faultRaise (16 + k) (apllEvt k 3 (s.setApll k { s.apll k with st := 6 }))))
  ∧ (∀ (k : Fin 4) (up : Bool) (s : State), s.pwr.rst = none → (s.apll k).st = 2 →
    let b := s.get (R.APL_APLL_PLAN_W3_BAND k (s.apll k).plan)
    ((s.apll k).tries = 0 →
      gives (.tuningAtRail k up) s (s.setApll k { s.apll k with tries := 1, band := if up then min 255 (b + 1) else b - 1 }))
    ∧ ((s.apll k).tries = 1 →
      gives (.tuningAtRail k up) s
        (s.setApll k { s.apll k with tries := 2, band := if (s.apll k).band = min 255 (b + 1) then b - 1 else min 255 (b + 1) }))
    ∧ (2 ≤ (s.apll k).tries → gives (.tuningAtRail k up) s (s.setApll k { s.apll k with tries := 0, st := 1 })))
  ∧ (∀ (k : Fin 4) (n err dt : Nat) (s : State), s.pwr.rst = none → (s.apll k).st = 2 →
    2 ^ s.get (R.APL_APLL_LOCK_CFG_LOCK_N k) ≤ n → err * 1000 ≤ s.get (R.APL_APLL_LOCK_CFG_LOCK_WIN k) * 65536 →
    let u := if (s.apll k).tries = 0 then s.tick dt else bandStore k (s.apll k).band (s.tick dt)
    gives (.lockCriterionMet k n err dt) s
      ((u.setApll k { u.apll k with st := 3, stable := 0, lockHeld := false, tries := 0 }).put (R.APL_APLL_STAT_LOCK k) 1))
  ∧ (∀ (k : Fin 4) (why : LockLoss) (dt : Nat) (s : State), s.pwr.rst = none → lockGone s k why = true → s.flag (R.APL_APLL_STAT_LOCK k) = true → (s.apll k).st = 3 →
    let u := ((s.tick dt).setApll k { s.apll k with lockHeld := false }).put (R.APL_APLL_STAT_LOCK k) 0
    gives (.lockLost k why dt) s (u.setApll k { u.apll k with st := 2, tries := 0 }))
  ∧ (∀ (k : Fin 4) (why : LockLoss) (dt : Nat) (s : State), s.pwr.rst = none → lockGone s k why = true → s.flag (R.APL_APLL_STAT_LOCK k) = true → (s.apll k).st = 4 →
    let u := ((s.tick dt).setApll k { s.apll k with lockHeld := false }).put (R.APL_APLL_STAT_LOCK k) 0
    let a : ApllSt := { u.apll k with st := 2, tries := 0, unl := (s.apll k).unl + 1, losses := s.strokes :: (s.apll k).losses.take 255 }
    let v := apllEvt k 0 (apllMuffle k (u.setApll k a))
    gives (.lockLost k why dt) s
      (if u.get (R.APL_APLL_CTL_RELOCK_MAX k) ≠ 0 ∧ u.get (R.APL_APLL_CTL_RELOCK_MAX k) < recentUnl u k + 1 then apllFence k v else faultRaise (16 + k) v))
  ∧ (∀ (k : Fin 4) (s : State), lockGone s k .slip = true ∧ lockGone s k .range = true
      ∧ ∀ n least, lockGone s k (.cycles n least) = true ↔ 4 ≤ n ∧ s.get (R.APL_APLL_LOCK_CFG_UNLOCK_WIN k) * 65536 < least * 1000)
  ∧ (∀ (k : Fin 4) (s : State), s.pwr.rst = none → (s.apll k).st = 3 → 0 < (s.apll k).stable →
    s.get (R.APL_APLL_CTL_LOCK_STABLE k) ≤ (s.apll k).stable →
    let u := apllEvt k 1 (s.setApll k { s.apll k with st := 4, hop := false })
    let u := apllPublish k (if (s.apll k).hop then apllEvt k 2 u else u)
    gives (.apllStable k) s ((List.range 16).foldl (fun v o => if v.get (R.OUT_CFG_APLL o) = k.val then outPublish o (outFigures o (outAgain o v)) else v) u))
  ∧ (∀ (k : Fin 16) (dt : Nat) (s : State), s.pwr.rst = none → (s.outp k).st = 3 →
    gives (.outReachesIdle k dt) s (apllOff ((s.tick dt).get (R.OUT_CFG_APLL k)) (outStopped k (s.tick dt))))

/-- 08 R208, R209: the lock criterion met in ACQUIRE (2^LOCK_N PD cycles within LOCK_WIN) takes the APLL to SETTLING with LOCK set at once and its stable count from 0; no other APLL's state and no
register but LOCK and the plan's band word changes. -/
def Obligations.LockCriterionSetsLock : Prop :=
  ∀ (k : Fin 4) (n err dt : Nat) (s : State), s.pwr.rst = none → (s.apll k).st = 2 →
    2 ^ s.get (R.APL_APLL_LOCK_CFG_LOCK_N k) ≤ n → err * 1000 ≤ s.get (R.APL_APLL_LOCK_CFG_LOCK_WIN k) * 65536 →
    ∃ t, exec (.lockCriterionMet k n err dt) s = .next t ∧ t.get (R.APL_APLL_STAT_LOCK k) = 1 ∧ (t.apll k).st = 3 ∧ (t.apll k).stable = 0 ∧
      (∀ j : Fin 4, j ≠ k → t.apll j = s.apll j ∧ t.get (R.APL_APLL_STAT_LOCK j) = s.get (R.APL_APLL_STAT_LOCK j)) ∧
      (∀ o, t.outp o = s.outp o) ∧
      (∀ a, a ≠ (R.APL_APLL_STAT_LOCK k).addr → a ≠ (R.APL_APLL_PLAN_W3_BAND k (s.apll k).plan).addr → rdWord t a = rdWord s a) ∧
      ((s.apll k).tries = 0 → ∀ a, a ≠ (R.APL_APLL_STAT_LOCK k).addr → rdWord t a = rdWord s a) ∧
      t.edge = s.edge ∧ t.irq = s.irq ∧ t.tch = s.tch

/-! ## The GNSS baseband (09) and the time solution (10) -/

/-- 09 R231 to R243: the commands of the front end, of the jamming monitor and of acquisition complete, each with the whole effect given. -/
def Obligations.GnssSearchCommandsComplete : Prop :=
  (∀ (dt : Nat) (s : State), s.pwr.rst = none → domOn s 3 = true → s.flag R.GNS_STAT_SCLK_LOS = false →
    s.gns.sclkAt + 250 ≤ (s.tick dt).now →
    let u := ((s.tick dt).put R.GNS_STAT_SCLK_LOS 1).put R.GNS_STAT_SCLK_OK 0
    let u := epochSkip (u.setGns { u.gns with sclk := [], good := 0, dwell := [], chs := [] })
    gives (.sclkLos dt) s (faultRaise 23 (raiseEvt R.GNS_EVT_SCLK_LOS 184 (u.put R.GNS_STAT_SRCH_STATE 0))))
  ∧ (∀ s : State, s.pwr.rst = none → 8 ≤ s.gns.good → s.flag R.GNS_STAT_SCLK_OK = false →
    let u := (s.put R.GNS_STAT_SCLK_OK 1).put R.GNS_STAT_SCLK_LOS 0
    gives .sclkOk s (raiseEvt R.GNS_EVT_SCLK_OK 184 (u.setGns { s.gns with sclk := s.gns.sclk.take 1 })))
  ∧ (∀ s : State, s.pwr.rst = none → s.flag R.GNS_STAT_FE_BUSY = false → s.gns.feAgain = false → domOn s 3 = true →
    gives .feRun s (feNext (s.setGns { s.gns with feAgain := true })))
  ∧ (∀ s : State, s.pwr.rst = none → s.flag R.GNS_STAT_FE_BUSY = true →
    gives .feAbort s (s.setGns { s.gns with feAbort := true }))
  ∧ (∀ (rx : BitVec 32) (k dt : Nat) (s₀ : State), s₀.pwr.rst = none → bankLow s₀ 3 = false → s₀.gns.fe = some k → s₀.gns.agcRun = none →
    feOver (s₀.tick dt) = true →
    let s := s₀.tick dt
    let m := 2 ^ (s.get (R.GNS_FE_TBL_CTRL_LEN k) + 1)
    let v := rx.toNat % m
    let u := if s.flag (R.GNS_FE_TBL_CTRL_READ k) then s.put (R.GNS_FE_TBL_RX_RX k) v else s
    gives (.feEntryDone rx dt) s₀
      (if u.flag (R.GNS_FE_TBL_CTRL_VERIFY k) && v != u.get (R.GNS_FE_TBL_DATA_DATA k) % m then
        feEnd (raiseEvt R.GNS_EVT_FE_ERR 184 ((u.put R.GNS_FE_STAT_ERR 1).put R.GNS_FE_STAT_ERR_IDX k))
      else if u.gns.feAbort then feEnd u
      else if u.get R.GNS_FE_CFG_N_ENT ≤ k + 1 then feEnd (raiseEvt R.GNS_EVT_FE_DONE 184 u)
      else u.setGns { u.gns with fe := some (k + 1), feAt := u.now, feHold := u.flag (R.GNS_FE_TBL_CTRL_HOLD_CS k) }))
  ∧ (∀ (rx : BitVec 32) (k b dt : Nat) (s₀ : State), s₀.pwr.rst = none → bankLow s₀ 3 = false → s₀.gns.fe = some k → s₀.gns.agcRun = some b →
    feOver (s₀.tick dt) = true →
    let s := s₀.tick dt
    let v := rx.toNat % 2 ^ (s.get (R.GNS_FE_TBL_CTRL_LEN k) + 1)
    gives (.feEntryDone rx dt) s₀
      (feEnd ((s.put (R.GNS_FE_TBL_RX_RX k) v).put (if b = 0 then R.GNS_AGC_REF_AGC_B1 else R.GNS_AGC_REF_AGC_B5) v)))
  ∧ (∀ (b : Fin 2) (s : State), s.pwr.rst = none → domOn s 3 = true →
    s.flag (if b.val = 0 then R.GNS_JAM_CFG_AGC_EN_B1 else R.GNS_JAM_CFG_AGC_EN_B5) = true →
    let n := s.strokeNum / 8 / max 1 (s.get R.GNS_AGC_CFG_AGC_PER)
    n ≠ tget 0 s.gns.agcAt b →
    gives (.agcRead b) s (feNext (s.setGns { s.gns with agcDue := withBit s.gns.agcDue b true, agcAt := tset 0 s.gns.agcAt b n })))
  ∧ (∀ (b : Fin 2) (x : SpecIn) (s : State), s.pwr.rst = none → gnsOn s = true → bandOn s b = true →
    s.strokeNum / 8 ≠ tget 0 s.gns.specAt b → gives (.spectrumUpdate b x) s (specUpdate b x s))
  ∧ (∀ (b : Fin 2) (n : Fin 4) (s : State), s.pwr.rst = none → s.flag (R.GNS_NOTCH_STAT_ACTIVE b n) = true →
    100 ≤ (tget {} s.gns.notches (notchIdx b n)).below →
    let u := ((s.put (R.GNS_NOTCH_STAT_ACTIVE b n) 0).put (R.GNS_NOTCH_STAT_TONE b n) 0).put (R.GNS_NOTCH_STAT_DEPTH b n) 0
    gives (.notchRelease b n) s
      (u.setGns { s.gns with notchChg := true, notches := tset {} s.gns.notches (notchIdx b n) {} }))
  ∧ (∀ (l : List AidIn) (s : State), s.pwr.rst = none → unitDown s .solverA = false → taskRuns s .aiding →
    gives (.acqAiding l) s { s with gen := { s.gen with jobs := s.gen.jobs ++ [.aiding l] } })
  ∧ (∀ (l : List AidIn) (s : State), taskRun (.aiding l) s = taskPublished .aiding (s.setGns { s.gns with aid := l }))
  ∧ (∀ (e : AcqEntry) (r : List AcqEntry) (s : State), s.pwr.rst = none → gnsOn s = true → s.flag R.GNS_STAT_SCLK_OK = true → s.gns.dwell = [] →
    packOrder s (s.gns.queue.filter (entryLive s) ++ (searchList s).filter (fun e =>
      !(s.gns.queue.filter (entryLive s)).any (fun x => x.sys == e.sys && x.svid == e.svid && x.sig == e.sig))) = e :: r →
    let p := (e :: r).foldl (packOne s (sigBand e.sig)) {}
    let u := (s.putB R.GNS_STAT_CODE_AIDED (codeAided s)).putB R.GNS_STAT_DOP_AIDED (!outputStale s .aiding && s.gns.aid.any (·.dop.isSome))
    let g : GnsSt := { s.gns with queue := p.rest, dwell := p.take, dwellFrom := s.strokes, dwellNc := p.take.foldl (fun a e => max a e.nc) 0 }
    gives .searchPlan s ((u.setGns g).put R.GNS_STAT_SRCH_STATE 2))
  ∧ (∀ (l : List DwellHit) (noise : List Nat) (s : State), s.pwr.rst = none → gnsOn s = true → s.gns.dwell ≠ [] → s.gns.dwellFrom + 8 * s.gns.dwellNc ≤ s.strokes →
    let u := (s.setGns { s.gns with dwell := [] }).addSat R.GNS_ACQ_STAT_DWELLS 1
    let u := ((dwellOrder l s.gns.dwell).filter (fun p => entryLive u p.2)).foldl (fun s p => acqTest l noise p.1 p.2 s) (pmcAdd 320 1 {} u)
    gives (.dwellComplete l noise) s (u.put R.GNS_STAT_SRCH_STATE (if u.gns.queue.isEmpty && (searchList u).isEmpty then 0 else 1)))
  ∧ (∀ (n : Fin 96) (s : State), s.pwr.rst = none →
    let c := s.gch n
    let b := if c.b1.st = 2 then 1 else 0
    let x := c.band (1 - b)
    let sig := searchSig c.sys b
    x.st = 2 → (c.band b).st = 0 → bandOn s b = true → sigLacks s c.sys c.svid sig = false → s.get R.GNS_ACQ_CFG2_HO_DELAY ≤ x.age →
    (s.gns.queue ++ s.gns.dwell ++ s.gns.retry.map (·.1)).any (fun e => e.ch == n.val) = false →
    let cells := (2 * s.get R.GNS_ACQ_CFG2_HO_WIN * sigRate sig * sigCells sig + 999999999) / 1000000000 + 1
    let io := ((aidOf s c.sys c.svid sig).map (·.iono)).getD 0
    let ph := roundDiv ((x.codePh * sigRate sig : Nat) : Int) (sigRate x.sig) - roundDiv (io * (sigRate sig * 4 : Nat)) 1000000000
    let e : AcqEntry := { kind := 1, sys := c.sys, svid := c.svid, sig := sig, cells := cells, ch := n, codePh := (ph % (sigSpan sig : Int)).toNat,
                          nc := if b = 1 then s.get R.GNS_ACQ_CFG_NC_B5 else s.get R.GNS_ACQ_CFG_NC_CA,
                          dop := if b = 1 then roundDiv (x.dop * 117645) 157542 else roundDiv (x.dop * 157542) 117645 }
    gives (.handoverQueue n) s (s.setGns { s.gns with queue := s.gns.queue ++ [e] }))
  ∧ (∀ s : State, s.pwr.rst = none →
    let due := s.gns.retry.filter (fun r => decide (r.2 ≤ s.strokes))
    let ok := fun (r : AcqEntry × Nat) => r.1.ch ≥ 96 || ((s.gch r.1.ch).band (1 - sigBand r.1.sig)).st == 2
    let left := s.gns.retry.filter (fun r => !decide (r.2 ≤ s.strokes))
    gives .searchRetry s (s.setGns { s.gns with retry := left, queue := s.gns.queue ++ (due.filter ok).map (fun r =>
      if r.1.ch < 96 then hoEntry r.1.ch (sigBand r.1.sig) s else r.1) }))

/-- 09 R247 to R256 and 10 R259 to R274: the commands of tracking, of the measurement records and of the time solution complete, each with the whole effect
given. A band's states: 0 OFF, 1 PULL_IN, 2 PLL, 3 COAST. -/
def Obligations.GnssTrackCommandsComplete : Prop :=
  (∀ (x : ChTick) (s : State), s.pwr.rst = none → gnsOn s = true → x.ch < 96 → (s.gch x.ch).idle = false → unitDown s (.gnssCh x.ch) = false →
    let c := chTick s x (s.gch x.ch)
    let n := bit (c.b1.slip && !(s.gch x.ch).b1.slip) + bit (c.b5.slip && !(s.gch x.ch).b5.slip)
    gives (.trackTick [x]) s (if n = 0 then s.setGch x.ch c else pmcAdd 324 n {} (s.setGch x.ch c)))
  ∧ (∀ (n : Fin 96) (b : Fin 2) (s : State), s.pwr.rst = none →
    let x := (s.gch n).band b
    (x.st = 1 ∨ x.st = 3) → s.get R.GNS_LOCK_TIME_PLI_CNT ≤ x.good → 0 < x.good →
    gives (.bandPllLock n b) s (s.setGch n ((s.gch n).setBand b { x with st := 2, age := 0, bad := 0, lockMs := 0 })))
  ∧ (∀ (n : Fin 96) (b : Fin 2) (s : State), s.pwr.rst = none →
    let x := (s.gch n).band b
    x.st = 2 → s.get R.GNS_LOCK_TIME_LOSS_MS ≤ x.bad → 0 < x.bad →
    gives (.bandLoss n b) s (pmcAdd 324 1 {} (s.setGch n ((s.gch n).setBand b { x with st := 3, age := 0, good := 0, slip := true }))))
  ∧ (∀ (n : Fin 96) (b : Fin 2) (s : State), s.pwr.rst = none → ((s.gch n).band b).st = 1 →
    s.get R.GNS_PULL_TIME_PULL_TIME ≤ ((s.gch n).band b).age →
    (((s.gch n).band b).good < s.get R.GNS_LOCK_TIME_PLI_CNT ∨ ((s.gch n).band b).good = 0) → gives (.pullinTimeout n b) s (chFree n (bandDrop n b s)))
  ∧ (∀ (n : Fin 96) (b : Fin 2) (s : State), s.pwr.rst = none → ((s.gch n).band b).st = 3 →
    s.get R.GNS_LOCK_TIME_COAST_MAX ≤ ((s.gch n).band b).age →
    (((s.gch n).band b).good < s.get R.GNS_LOCK_TIME_PLI_CNT ∨ ((s.gch n).band b).good = 0) → gives (.coastTimeout n b) s (chFree n (bandDrop n b s)))
  ∧ (∀ (n : Fin 96) (b : Fin 2) (s : State), s.pwr.rst = none →
    let x := (s.gch n).band b
    let m := sigSpan x.sig
    x.st ≠ 0 → sigBoc x.sig = true → 20 ≤ x.sideRun →
    let ph := if x.ve < x.vl then (x.codePh + 2 ^ 17) % m else (x.codePh + m - 2 ^ 17) % m
    let y : BandSt := { x with side := true, slip := true, codePh := ph, sideRun := 0, lockMs := 0 }
    gives (.sidepeak n b) s (pmcAdd 324 1 {} (s.setGch n ((s.gch n).setBand b y))))
  ∧ (∀ (n : Fin 96) (s : State), s.pwr.rst = none → gives (.chRelease n) s (s.setGns { s.gns with rel := n.val :: s.gns.rel }))
  ∧ (∀ (w : Fin 6) (v : BitVec 32) (s : State), s.pwr.rst = none →
    writeIsQueued (.exclusionWrite w v) ⟨0x0A0030 + 4 * w.val, 31, 0⟩ v.toNat s)
  ∧ (∀ (j : Iface) (s : State), s.pwr.rst = none →
    gives (.measHold j) s (s.setGns { s.gns with pins := tset none s.gns.pins j.num (some (bankFor s j, s.strokes)) })
    ∧ gives (.measUnhold j) s (s.setGns { s.gns with pins := tset none s.gns.pins j.num none }))
  ∧ (∀ (j : Iface) (p : Nat × Nat) (s : State), s.pwr.rst = none → tget none s.gns.pins j.num = some p → p.2 + 800 ≤ s.strokes →
    gives (.measPinExpire j) s (s.setGns { s.gns with pins := tset none s.gns.pins j.num none }))
  ∧ (∀ (o : Option SolIn) (s : State), s.pwr.rst = none → solRuns s = true → unitDown s .solverA = false → taskRuns s .gnss →
    gives (.gnssSolution o) s { s with gen := { s.gen with jobs := s.gen.jobs ++ [.gnss o] } })
  ∧ (∀ (o : Option SolIn) (s : State), taskRun (.gnss o) s = taskPublished .gnss (withInputs .gnss 0x0B0000 0x80 (gntRun o) s))
  ∧ (∀ s : State, s.pwr.rst = none → gives .surveyRst s (s.setGnt { s.gnt with survey := {} }))
  ∧ (∀ (v : BitVec 32) (s : State), s.pwr.rst = none →
    writeIsQueued (.antDelayWrite false v) R.GNT_ANT_DELAY_ANT_DELAY v.toNat s
    ∧ writeIsQueued (.antDelayWrite true v) R.GNT_ANT_DIFF_B5_ANT_DIFF_B5 v.toNat s)
  ∧ (∀ s : State, s.pwr.rst = none → gives .gnssSleep s (s.setGnt { s.gnt with slpReq := true }))
  ∧ (∀ s : State, s.pwr.rst = none → s.get R.GNT_SLEEP_STAT_SLP_STATE = 2 → gives .gnssWake s (s.setGnt { s.gnt with wakeReq := true }))
  ∧ (∀ s : State, s.pwr.rst = none → s.get R.GNT_SLEEP_STAT_SLP_STATE = 2 → s.get R.GNT_SLEEP_CFG_SLEEP_MAX ≠ 0 →
    s.get R.GNT_SLEEP_CFG_SLEEP_MAX * 480000 ≤ s.strokes - s.gnt.slpFrom → gives .sleepMaxExpire s ((slpWaking s).repub [0x0B0188]))
  ∧ (∀ s : State, s.pwr.rst = none → s.get R.GNT_SLEEP_STAT_SLP_STATE = 3 → 16000 ≤ s.strokes - s.gnt.slpFrom →
    gives .wakeSlow s ((slpAwake 65535 1 s).repub [0x0B0188]))

/-- 09 R251, R255: the latch that an epoch has armed, once its instant has come, makes the record: it takes the armed target, the next EPOCH_SEQ and the
sample's index, and is delivered two Strokes on. No register changes, and the latch is no longer armed. -/
def Obligations.EpochLatchMakesTheRecord : Prop :=
  ∀ (idx : BitVec 32) (code : BitVec 11) (l : List ChLatch) (dt : Nat) (a : Int × Nat) (s : State), s.pwr.rst = none → s.gns.armed = some a → gnsOn s = true →
    0 ≤ rawDiff ((latchStamp (s.tick dt) (s.tick dt).raw code.toNat).1 / 4096) a.2 →
    ∃ t r, exec (.epochLatch idx code l dt) s = .next t ∧ t.gns.pend = some (r, s.strokes + 2) ∧ r.target = a.1 ∧
      r.seq = (s.gns.seq + 1) % 2 ^ 32 ∧ r.idx = idx.toNat ∧ r.latch = (latchStamp (s.tick dt) (s.tick dt).raw code.toNat).1 ∧
      (∀ e ∈ r.chs, (s.gch e.1).idle = false ∧ e.1 < 96) ∧
      t.gns.armed = none ∧ t.gns.last = a.1 ∧ t.gns.seq = r.seq ∧ t.gns.chs = s.gns.chs ∧ t.gns.queue = s.gns.queue ∧
      t.regs = s.regs ∧ t.edge = s.edge ∧ t.gnt = s.gnt ∧ t.irq = s.irq

/-! ## The serial lanes (11) -/

/-- 11 R280 to R296: the commands of the lanes complete, each with the whole effect given. A lane's stages: 0 OFF, 1 DETECT, 2 TRAIN, 3 LOCK, 4 EXCHANGE,
5 ACTIVE, 6 TEST, 7 FENCED; settled is the state once the lane's level rows and the links that follow have been evaluated at the command's instant. A lane
reaches ACTIVE only with its quad's calibration resistor (21 R527). -/
def Obligations.LaneCommandsComplete : Prop :=
  (∀ (k : Fin 16) (v : BitVec 32) (dt : Nat) (s : State), s.pwr.rst = none →
    gives (.laneCfgWrite k v dt) s (prlSync (laneCfgApplied k (rdWord s (0x0C1000 + 0x100 * k.val)) (regWrite (0x0C1000 + 0x100 * k.val) v.toNat (s.tick dt)))))
  ∧ (∀ (k : Fin 16) (en : Bool) (dt : Nat) (s : State), s.pwr.rst = none →
    gives (.laneTestEnable k en dt) s (laneSettle k ((s.tick dt).putB (R.LAN_LANE_CFG_TEST_EN k) en)))
  ∧ (∀ (q : Fin 4) (v : BitVec 32) (dt : Nat) (s : State), s.pwr.rst = none →
    gives (.quadCfgWrite q v dt) s (prlSync (quadCfgApplied q (rdWord s (0x0C0100 + 0x10 * q.val)) (regWrite (0x0C0100 + 0x10 * q.val) v.toNat (s.tick dt)))))
  ∧ (∀ (k : Fin 16) (found : Bool) (dt : Nat) (s : State), s.pwr.rst = none → laneStage s k = 1 → s.flag (R.LAN_LANE_CFG_DET_EN k) = true →
    (∀ at', (s.lane k).probeAt = some at' → at' ≤ (s.tick dt).now) →
    let n := if found then (s.lane k).probes + 1 else 0
    let o : LaneSt := { s.lane k with probes := n, probeAt := some ((s.tick dt).now + s.get (R.LAN_LANE_TMR0_DET_PER k) * msCounts) }
    let u := ((s.tick dt).setLane k o).putB (R.LAN_LANE_STAT_PARTNER k) found
    gives (.detectProbe k found dt) s (laneSettle k (if 2 ≤ n then stageGo k (laneStartStage u k) u else u)))
  ∧ (∀ (k : Fin 16) (ctle : BitVec 4) (dfe : BitVec 8) (fec : Bool) (dt : Nat) (s : State), s.pwr.rst = none →
    let settled := laneSettle k (s.tick dt)
    laneStage settled k = 2 → (lanePrl settled k = true → prlTrained settled k = true) →
    let u := (settled.put (R.LAN_LANE_RXEQ_CTLE k) ctle.toNat).put (R.LAN_LANE_RXEQ_DFE1 k) dfe.toNat
    gives (.trainComplete k ctle dfe fec dt) s (prlSync (stageGo k 3 (if laneAn u k then u.setLane k { u.lane k with fec := fec || u.flag (R.LAN_LANE_AN_ADV_F2 k) } else u))))
  ∧ (∀ (k : Fin 16) (dt : Nat) (s : State), s.pwr.rst = none →
    let settled := laneSettle k (s.tick dt)
    (laneStage settled k = 2 → laneExpired settled k = true → gives (.trainTimeout k dt) s (laneFail k 3 settled))
    ∧ (laneStage settled k = 2 → laneAn settled k = true → gives (.anFail k dt) s (laneFail k 4 settled))
    ∧ (laneStage settled k = 3 → laneExpired settled k = true → gives (.lockTimeout k dt) s (laneFail k 6 settled))
    ∧ (laneStage settled k = 4 → laneExpired settled k = true → gives (.exchTimeout k dt) s (prlSync (laneFail k 8 settled))))
  ∧ (∀ (k : Fin 16) (align : BitVec 7) (dt : Nat) (s : State), s.pwr.rst = none →
    let settled := laneSettle k (s.tick dt)
    laneStage settled k = 3 →
    let u := (settled.put (R.LAN_LANE_ALIGN_RX_ALIGN k) (align.toNat % wordUi (laneRate settled k))).put (R.LAN_LANE_STAT_LOL k) 0
    gives (.lockComplete k align dt) s (prlSync (laneLocked k ((u.setLane k { u.lane k with cdr := true }).put (R.LAN_LANE_STAT_HI_BER k) 0))))
  ∧ (∀ (k : Fin 16) (a : Fin 23) (dt : Nat) (s : State), s.pwr.rst = none →
    let settled := laneSettle k (s.tick dt)
    laneStage settled k = 4 →
    (lanePrl settled k = false → hcdOk settled k a = true → gives (.exchangeAccept k a dt) s (prlSync (laneUp k settled)))
    ∧ (lanePrl settled k = true → (settled.path (lanePath k)).part.isSome = true →
        (settled.path (lanePath k)).exch.any (fun e => decide (16 ≤ e.2)) = true → gives (.exchangeAccept k a dt) s (prlSync (laneUp k settled)))
    ∧ (lanePrl settled k = false → hcdOk settled k a = false → gives (.exchangeRefuse k a dt) s (prlSync (laneFail k 5 settled)))
    ∧ (lanePrl settled k = true → (settled.path (lanePath k)).exch.any (fun e => e.2 == 0) = true →
        gives (.exchangeRefuse k a dt) s (prlSync (laneFail k 7 settled))))
  ∧ (∀ (k : Fin 16) (dt : Nat) (s : State), s.pwr.rst = none →
    let u := ((s.tick dt).setLane k { s.lane k with bad := true }).put (R.LAN_LANE_STAT_LOS k) 1
    gives (.losAssert k dt) s (prlSync (if 2 ≤ laneStage u k ∧ laneStage u k ≤ 5 then laneFail k 1 u else u)))
  ∧ (∀ (k : Fin 16) (dt : Nat) (s : State), s.pwr.rst = none →
    gives (.losDeassert k dt) s (laneSettle k ((s.tick dt).put (R.LAN_LANE_STAT_LOS k) 0)))
  ∧ (∀ (k : Fin 16) (dt : Nat) (s : State), s.pwr.rst = none → (s.lane k).cdr = true →
    let u := ((s.tick dt).setLane k { s.lane k with bad := true }).put (R.LAN_LANE_STAT_LOL k) 1
    gives (.lol k dt) s (prlSync (if laneActive u k && !u.flag (R.LAN_LANE_STAT_LOS k) then laneLolExit k u else u)))
  ∧ (∀ (k : Fin 16) (hiBer : Bool) (dt : Nat) (s : State), s.pwr.rst = none →
    let settled := laneSettle k (s.tick dt)
    laneActive settled k = true →
    gives (.blockLoss k hiBer dt) s
      (prlSync (stageGo k 3 ((settled.put (R.LAN_LANE_STAT_FAIL_WHY k) (if hiBer then 9 else 10)).putB (R.LAN_LANE_STAT_HI_BER k) hiBer))))
  ∧ (∀ (q : Fin 4) (dt : Nat) (s : State), s.pwr.rst = none → gives (.qrefFallback q dt) s (quadCheck q (s.tick dt)))
  ∧ (∀ (k : Fin 16) (s : State), (laneRcal s k = true → laneUp k s = arpAnnounce k (stageGo k 5 s)) ∧ (laneRcal s k = false → laneUp k s = s))
  ∧ (∀ (k : Fin 16) (l : List Bool) (dt : Nat) (s : State), s.pwr.rst = none → laneStage s k = 6 → patLocks s k l = true →
    s.flag (R.LAN_LANE_PRBS_STAT_LOCK k) = false →
    gives (.prbsLock k l dt) s (raiseEvt (R.LAN_LANE_EVT_PRBS_LOCK k) (100 + k) ((s.tick dt).put (R.LAN_LANE_PRBS_STAT_LOCK k) 1)))
  ∧ (∀ (k : Fin 16) (bad : Fin 1025) (dt : Nat) (s : State), s.pwr.rst = none → s.flag (R.LAN_LANE_PRBS_STAT_LOCK k) = true → 128 < bad.val →
    gives (.prbsLost k bad dt) s (raiseEvt (R.LAN_LANE_EVT_PRBS_LOST k) (100 + k) ((s.tick dt).put (R.LAN_LANE_PRBS_STAT_LOCK k) 0)))
  ∧ (∀ (k : Fin 16) (s : State), s.pwr.rst = none → laneStage s k = 5 ∨ laneStage s k = 6 → (s.lane k).inj = 0 →
    gives (.inj1 k) s (s.setLane k { s.lane k with inj := 1 })
    ∧ gives (.injBurst k) s (s.setLane k { s.lane k with inj := s.get (R.LAN_LANE_PRBS_CTL_BURST_LEN k) }))
  ∧ (∀ (k : Fin 16) (s : State), s.pwr.rst = none → gives (.injectionComplete k) s (s.setLane k { s.lane k with inj := 0 }))
  ∧ (∀ (k : Fin 16) (s : State), s.pwr.rst = none →
    let u := s.put2 (R.LAN_LANE_BITS_LO_BITS k) (R.LAN_LANE_BITS_HI_BITS k) 0
    let u := u.put2 (R.LAN_LANE_ERR_LO_ERR k) (R.LAN_LANE_ERR_HI_ERR k) 0
    gives (.chkClr k) s (u.put (R.LAN_LANE_PRBS_STAT_SAT k) 0))

/-- 11 R292: once a lane in TEST has found its pattern, PRBS LOCK and its event stand, the counts go on from where they were, and no other register outside the
interrupt windows, and no other part of the block, changes. -/
def Obligations.PatternLockSetsItsFlag : Prop :=
  ∀ (k : Fin 16) (l : List Bool) (dt : Nat) (s : State), s.pwr.rst = none → laneStage s k = 6 → patLocks s k l = true →
    s.flag (R.LAN_LANE_PRBS_STAT_LOCK k) = false →
    ∃ t, exec (.prbsLock k l dt) s = .next t ∧ t.get (R.LAN_LANE_PRBS_STAT_LOCK k) = 1 ∧ t.get (R.LAN_LANE_EVT_PRBS_LOCK k) = 1 ∧
      t.get (R.LAN_LANE_BITS_LO_BITS k) = s.get (R.LAN_LANE_BITS_LO_BITS k) ∧ t.get (R.LAN_LANE_ERR_LO_ERR k) = s.get (R.LAN_LANE_ERR_LO_ERR k) ∧
      (∀ j : Fin 16, j ≠ k → laneStage t j = laneStage s j ∧ t.get (R.LAN_LANE_PRBS_STAT_LOCK j) = s.get (R.LAN_LANE_PRBS_STAT_LOCK j)) ∧
      (∀ a, winOf a ≠ 0x14 → winOf a ≠ 0x15 → a ≠ (R.LAN_LANE_PRBS_STAT_LOCK k).addr → a ≠ (R.LAN_LANE_EVT_PRBS_LOCK k).addr → rdWord t a = rdWord s a) ∧
      t.edge = s.edge ∧ t.lan = s.lan ∧ t.prl = s.prl ∧ t.mac = s.mac

/-! ## MAC ports, timestamps and the host packet path (12) -/

/-- 12 R300 to R324: the commands of the MAC complete, each with the whole effect given. -/
def Obligations.MacCommandsComplete : Prop :=
  (∀ (k : Fin 16) (b : List Byte) (wf : BitVec 48) (bf : Nat) (dt : Nat) (s : State), s.pwr.rst = none → lanePrl s k = false →
    unitDown s (.mac k) = false → laneActive s k = true →
    gives (.frameRx k b wf bf false dt) s (frameRx k (b.map (·.toNat)) wf.toNat bf false (s.tick dt))
    ∧ (b.length < 64 → gives (.frameRx k b wf bf false dt) s
        (tagEnd none 0 (pmcAdd (112 + k) 1 { port := some k, tc := some (frameClass (b.map (·.toNat))) } ((s.tick dt).addSat (R.MAC_PORT_RX_RUNT_RX_RUNT k) 1)))))
  ∧ (∀ (v : BitVec 32) (s : State), s.pwr.rst = none → s.mac.htx.length < 32768 →
    gives (.htxDataWrite v) s (s.setMac { s.mac with htx := s.mac.htx ++ leBytes 4 v.toNat }))
  ∧ (∀ s : State, s.pwr.rst = none →
    let k := s.get R.MAC_HTX_DESC_W0_PORT
    let len := s.get R.MAC_HTX_DESC_W0_LEN
    let f : TxFrame := { src := 0, bytes := s.mac.htx.take len, ip := s.flag R.MAC_HTX_DESC_W0_CSUM_IP, udp := s.flag R.MAC_HTX_DESC_W0_CSUM_UDP, at' := s.now }
    let u := s.setMac { s.mac with htx := [] }
    s.mac.htx.length = (len + 3) / 4 * 4 → len + 4 ≤ s.get (R.MAC_PORT_CFG_MAX_LEN k) + 4 * frameTags f.bytes → lanePrl s k = false →
    htxUnits len ≤ htxFree s → s.flag R.MAC_HTX_DESC_W0_FU = false → s.flag R.MAC_HTX_DESC_W0_TS_REQ = false → s.flag R.MAC_HTX_DESC_W0_ONESTEP = false →
    laneActive s k = true → gives .htxSubmit s (u.setPort k { s.port k with tx := (s.port k).tx ++ [f] }))
  ∧ (∀ s : State, s.pwr.rst = none → gives .htxAbandon s (s.setMac { s.mac with htx := [] }))
  ∧ (∀ (k : Fin 16) (wf : BitVec 48) (bf : Nat) (cut : Bool) (dt : Nat) (f : TxFrame) (rest : List TxFrame) (s : State), s.pwr.rst = none →
    txNext (s.port k).tx = some (f, rest) →
    txUp ((s.tick dt).setPort k { s.port k with tx := rest }) k f = true →
    gives (.frameCommit k wf bf cut dt) s (frameCommit k wf.toNat bf cut (s.tick dt)))
  ∧ (∀ (j : Iface) (k : Fin 16) (s : State), s.pwr.rst = none → (s.port k).tsq ≠ [] → domOn s (4 + k.val / 4) = true →
    gives (.tsqRead j k) s (tsqPop k (readAs j.num (0x0D10A4 + 0x200 * k.val) s).2))
  ∧ (∀ (f : RxFrame) (r : List RxFrame) (s : State), s.pwr.rst = none → s.mac.hrx = f :: r → domOn s (4 + f.port / 4) = true →
    gives .hrxDataRead s (s.setMac { s.mac with hrxPos := min f.bytes.length (s.mac.hrxPos + 4) }))
  ∧ (∀ s : State, s.pwr.rst = none → gives .hrxPop s (s.setMac { s.mac with hrx := s.mac.hrx.tail, hrxPos := 0 }))
  ∧ (∀ (k : Fin 16) (dt : Nat) (s : State), s.pwr.rst = none → s.flag (R.MAC_PORT_ESMC_CFG_ESMC_EN k) = true →
    (esmcDue (s.tick dt) k = true → gives (.esmcInfoTx k dt) s (esmcSend k (esmcChanged (s.tick dt) k) (s.tick dt)))
    ∧ (esmcChanged (s.tick dt) k = true → gives (.esmcEventTx k dt) s (esmcSend k true (s.tick dt))))

/-- 12 R319: a submission of LEN bytes that passes every check, with no stamp, no one-step field and no Follow_Up asked for, empties the transmit buffer and
joins the end of its port's transmit list, unchanged byte for byte; the other ports' lists, the receive buffer and every register stay as they were. -/
def Obligations.SubmitQueuesTheFrame : Prop :=
  ∀ (k : Fin 16) (s : State), s.pwr.rst = none →
    let len := s.get R.MAC_HTX_DESC_W0_LEN
    s.get R.MAC_HTX_DESC_W0_PORT = k → s.mac.htx.length = (len + 3) / 4 * 4 →
    len + 4 ≤ s.get (R.MAC_PORT_CFG_MAX_LEN k) + 4 * frameTags (s.mac.htx.take len) → lanePrl s k = false →
    htxUnits len ≤ htxFree s → s.flag R.MAC_HTX_DESC_W0_FU = false → s.flag R.MAC_HTX_DESC_W0_TS_REQ = false → s.flag R.MAC_HTX_DESC_W0_ONESTEP = false →
    laneActive s k = true →
    ∃ t f, exec .htxSubmit s = .next t ∧ (t.port k).tx = (s.port k).tx ++ [f] ∧ f.src = 0 ∧ f.bytes = s.mac.htx.take len ∧ f.tsTag = none ∧ f.os = none ∧
      t.mac.htx = [] ∧ (∀ n, n ≠ k.val → t.port n = s.port n) ∧ t.mac.hrx = s.mac.hrx ∧ t.mac.hrxPos = s.mac.hrxPos ∧
      t.regs = s.regs ∧ t.edge = s.edge ∧ t.tsv = s.tsv ∧ t.lan = s.lan ∧ t.irq = s.irq

/-- 12 R320: words read from the received frame at the head come in order: each read moves the place four bytes on, never past the frame's end, and HRX_POP
brings the next frame's first byte; neither changes a register, the transmit lists or the frames behind. -/
def Obligations.ReceiveBufferIsReadInOrder : Prop :=
  ∀ (f : RxFrame) (r : List RxFrame) (s : State), s.pwr.rst = none → s.mac.hrx = f :: r → domOn s (4 + f.port / 4) = true → s.mac.hrxPos ≤ f.bytes.length →
    (∃ t, exec .hrxDataRead s = .next t ∧ (hrxRead s).1 = frameWord f.bytes s.mac.hrxPos ∧ t.mac.hrx = s.mac.hrx ∧
      s.mac.hrxPos ≤ t.mac.hrxPos ∧ t.mac.hrxPos ≤ f.bytes.length ∧ (s.mac.hrxPos + 4 ≤ f.bytes.length → t.mac.hrxPos = s.mac.hrxPos + 4) ∧
      t.mac.ports = s.mac.ports ∧ t.mac.htx = s.mac.htx ∧ t.regs = s.regs ∧ t.edge = s.edge)
    ∧ (∃ t, exec .hrxPop s = .next t ∧ t.mac.hrx = r ∧ t.mac.hrxPos = 0 ∧ t.mac.ports = s.mac.ports ∧ t.mac.htx = s.mac.htx ∧ t.regs = s.regs ∧ t.edge = s.edge)

/-! ## The time services (13) -/

/-- 13 R326 to R345: the NTP, NTS, ARP and neighbour commands complete, each with the whole effect given: it acts on the frame at the head of a Mallet's
queue, of the command's kind, that does not wait for an edge. -/
def Obligations.MalletRequestsComplete : Prop :=
  (∀ (m : Fin 8) (bf dt : Nat) (f : MalFrame) (r : List MalFrame) (s : State), s.pwr.rst = none → (s.mal m).q = f :: r → f.wait = none →
    unitDown s (.mallet m) = false → domOn s 2 = true →
    (frameKind f.f.bytes = 3 → gives (.ntpRequest m bf dt) s (ntpRequest m bf f (s.tick dt)))
    ∧ (frameKind f.f.bytes = 6 → gives (.ntsRequest m bf dt) s (ntsRequest m bf f (s.tick dt)))
    ∧ (frameKind f.f.bytes = 4 → gives (.arpRequest m bf dt) s (arpRequest m bf f (s.tick dt)))
    ∧ (frameKind f.f.bytes = 5 → gives (.neighbourSolicitation m bf dt) s (nsRequest m bf f (s.tick dt))))
  ∧ (∀ (m : Fin 8) (bf dt w : Nat) (f : MalFrame) (r : List MalFrame) (s : State), s.pwr.rst = none → (s.mal m).q = f :: r → f.wait = some w → w < s.strokes →
    let u := s.tick dt
    (frameKind f.f.bytes = 3 → gives (.reserveRetry m bf dt) s (retryDue m bf (ntpBuild m bf f u)))
    ∧ (frameKind f.f.bytes = 6 → gives (.reserveRetry m bf dt) s (retryDue m bf (ntsRequest m bf f u)))
    ∧ (frameKind f.f.bytes = 4 → gives (.reserveRetry m bf dt) s (retryDue m bf (arpRequest m bf f u)))
    ∧ (frameKind f.f.bytes = 5 → gives (.reserveRetry m bf dt) s (retryDue m bf (nsRequest m bf f u)))
    ∧ (isPtp 1 f.f.bytes = true → ptpParse u f.f.port f.f.bytes = 0 →
      gives (.reserveRetry m bf dt) s (retryDue m bf (delayReqRx m bf f (ptpOf f.f.bytes) u)))
    ∧ (isPtp 12 f.f.bytes = true → ptpParse u f.f.port f.f.bytes = 0 →
      gives (.reserveRetry m bf dt) s (retryDue m bf (signalRx m bf f (ptpOf f.f.bytes) u))))
  ∧ (∀ (m : Fin 8) (bf dt w : Nat) (f : MalFrame) (l : List MalFrame) (r : (Nat × Bool) × Nat) (s : State), s.pwr.rst = none → (s.mal m).q = f :: l →
    f.wait = some w → w < s.strokes → frameKind f.f.bytes = 4 →
    let u := s.tick dt
    let b := f.f.bytes
    let a := sub b (etAt b + 2) 28
    let frame := ethFrame (sub b 6 6) (portAddr u f.f.port) (sub b 12 (4 * frameTags b)) 0x0806 (arpBody u f.f.port 2 (sub a 24 4) (sub a 8 6) (sub a 14 4))
    s.flag R.TSV_CTL_ARP_EN = true → be16 a 6 = 1 → reserve u f.f.port bf (lineLen frame.length) = some r →
    gives (.reserveRetry m bf dt) s (retryDue m bf (malEmit m f.f.port r { src := 1, bytes := frame, tag := f.f.tag } (malPop m u))))
  ∧ (∀ (j : Fin 8) (dt : Nat) (s : State), s.pwr.rst = none → ntsState (s.tick dt) j = 3 → s.tsv.expired.contains j.val = false →
    gives (.ntsKeyExpire j dt) s (raiseEvt R.TSV_EVT_KEY_EXPIRED 187 ((s.tick dt).setTsv { s.tsv with expired := s.tsv.expired ++ [j.val] })))

/-- 13 R346 to R353: the PTP messages received complete, each with the whole effect given. The message is the one at the head of a Mallet's queue, verified; w is the
block with it counted. A client session n is that of the message's sender, or the port's multicast client. -/
def Obligations.PtpMessagesReceivedComplete : Prop :=
  ∀ (m : Fin 8) (bf dt : Nat) (f : MalFrame) (s w : State), s.pwr.rst = none → ptpReady m f (s.tick dt) w →
    let k := f.f.port
    let msg := ptpOf f.f.bytes
    let who := clientOf w k f.f.bytes
    (∀ n, isPtp 0 f.f.bytes = true → who = some n →
      let u := heard n w
      gives (.syncRx m bf dt) s (ptpTaken m f.f (exchange n (u.setSess n { u.sess n with
        t1 := if tbit (msg.getD 6 0) 1 then none else some (msgTime msg 34 + msgCf msg), t2 := some (f.f.stamp, f.f.inv), syncAt := u.now,
        rxSync := some (msgSeq msg), cfSync := msgCf msg }))))
    ∧ (∀ n, isPtp 8 f.f.bytes = true → who = some n →
      let u := heard n w
      (u.sess n).rxSync = some (msgSeq msg) → (u.sess n).t2 ≠ none → (u.sess n).t1 = none →
      gives (.followUpRx m bf dt) s (ptpTaken m f.f (exchange n (u.setSess n { u.sess n with
        t1 := some (msgTime msg 34 + msgCf msg + (u.sess n).cfSync) }))))
    ∧ (∀ n, isPtp 9 f.f.bytes = true → who = some n →
      let u := heard n w
      sub msg 44 10 = portId u (u.sess n).port → msgSeq msg = (u.sess n).dreqId → (u.sess n).t3 ≠ none →
      gives (.delayRespRx m bf dt) s (ptpTaken m f.f (exchange n (u.setSess n { u.sess n with t4 := some (msgTime msg 34 + msgCf msg) }))))
    ∧ (isPtp 11 f.f.bytes = true → (∀ n, who = some n → gives (.announceRx m bf dt) s (ptpTaken m f.f (announceRx n f.f msg (heard n (annKeep k f.f.bytes w)))))
      ∧ (who = none → sessOf w k f.f.bytes = none →
        gives (.announceRx m bf dt) s (ptpTaken m f.f (w.setTsv { w.tsv with anns := tset none w.tsv.anns k (some (msgDataset msg)) }))))
    ∧ (∀ r, isPtp 1 f.f.bytes = true → reEpochs w = false →
      (∀ n, tbit (msg.getD 6 0) 2 = true → sessOf w k f.f.bytes = some n → (w.sess n).role = 0 → granted w n 9 = true →
        let u := sealNote k (some n) w
        sealGate u k (some n) ≤ 1 → reserve u k bf (drespLen u k (some n)) = some r →
        gives (.delayReqRx m bf dt) s (drespEmit m k (some n) f.f msg r u))
      ∧ (tbit (msg.getD 6 0) 2 = false → w.flag (R.TSV_PORT_CFG_MC_EN k) = true → isMaster w k = true →
        let u := sealNote k none w
        sealGate u k none ≤ 1 → reserve u k bf (drespLen u k none) = some r →
        gives (.delayReqRx m bf dt) s (drespEmit m k none f.f msg r u)))

/-- 13 R350, R352: the Signaling messages received complete, each with the whole effect given for a message with one unicast TLV d: a request granted, a CANCEL
acknowledged, an acknowledgement and a grant taken. TLV types: 4 request, 5 grant, 6 CANCEL, 7 its acknowledgement; ty is the message type it is about. -/
def Obligations.UnicastNegotiationCompletes : Prop :=
  ∀ (m : Fin 8) (bf dt tlvType : Nat) (f : MalFrame) (d : List Nat) (s w : State), s.pwr.rst = none → ptpReady m f (s.tick dt) w →
    let k := f.f.port
    let msg := ptpOf f.f.bytes
    let who := sessOf w k f.f.bytes
    let ty := d.headD 0 / 16
    let log := sbyte (d.getD 1 0)
    isPtp 12 f.f.bytes = true → sigTlvs msg = [(tlvType, d)] →
    (∀ n r, tlvType = 4 → grantOk w k ty log (some n) = true → (who = some n ∨ who = none ∧ sessFreeIdx w = some n) →
      sealGate w k who ≤ 1 → reserve w k bf (sigLineLen w k f.f 12) = some r →
      let dur := min (ofBe (sub d 2 4)) (w.get R.TSV_UNI_CFG_GRANT_MAX)
      let v := if who = none then sessNew k f.f w else w.sess n
      let v := setGrant { v with lastRx := w.strokes } ty (some { log := log, until' := w.now + dur * secCounts, dur := dur })
      gives (.requestUnicastTransmission m bf dt) s (sigEmit m f.f msg r w (tlv 5 ([ty * 16, d.getD 1 0] ++ beBytes 4 dur ++ [0, 1]))
        (pmcAdd 199 1 { port := some k } (w.setSess n v))))
    ∧ (∀ n r, tlvType = 6 → who = some n → sealGate w k who ≤ 1 → reserve w k bf (sigLineLen w k f.f 6) = some r →
      let u := w.setSess n (setGrant { w.sess n with lastRx := w.strokes, sflags := withBit (w.sess n).sflags 3 true } ty none)
      gives (.cancelUnicastTransmission m bf dt) s (sigEmit m f.f msg r w (tlv 7 [ty * 16, 0])
        (if grantTypes.all (fun x => !granted u n x) then sessFree n u else u)))
    ∧ (∀ n, tlvType = 7 → who = some n →
      let v := setGrant { w.sess n with lastRx := w.strokes } ty none
      let u := w.setSess n v
      gives (.cancelUnicastTransmission m bf dt) s (ptpTaken m f.f (if v.st = 4 ∧ grantTypes.all (fun x => (grantOf v x).isNone) then sessFree n u else u)))
    ∧ (∀ n, tlvType = 5 → who = some n → (w.sess n).role = 1 → grantTypes.contains ty = true → ofBe (sub d 2 4) ≠ 0 →
      let dur := ofBe (sub d 2 4)
      let v := setGrant { w.sess n with lastRx := w.strokes } ty (some { log := log, until' := w.now + dur * secCounts, dur := dur })
      let u := w.setSess n v
      let act := sessGo n 2 u
      ((w.sess n).st = 2 → gives (.grantRx m bf dt) s (ptpTaken m f.f u))
      ∧ ((w.sess n).st = 3 → gives (.grantRx m bf dt) s (ptpTaken m f.f act))
      ∧ ((w.sess n).st = 1 → grantTypes.all (fun x => granted u n x) = false → gives (.grantRx m bf dt) s (ptpTaken m f.f u))
      ∧ ((w.sess n).st = 1 → grantTypes.all (fun x => granted u n x) = true →
        gives (.grantRx m bf dt) s (ptpTaken m f.f (act.setSess n { act.sess n with
          sflags := withBit (withBit v.sflags 0 false) 1 false, nextRaw := u.now, annAt := u.now, syncAt := u.now }))))

/-- 13 R347 to R353: the PTP messages sent, the sessions' timers and the session table's commands complete, each with the whole effect given. A session's
states: 0 FREE, 1 REQUESTING, 2 ACTIVE, 3 RENEWING, 4 CANCELLING; roles: 0 granted by this node, 1 client, 2 multicast. -/
def Obligations.PtpSessionCommandsComplete : Prop :=
  (∀ (k : Fin 16) (n : Fin 4096) (bf dt : Nat) (r : (Nat × Bool) × Nat) (s : State), s.pwr.rst = none → ptpOn s k = true → isMaster s k = true →
    reEpochs (s.tick dt) = false → (s.sess n).st = 2 → (s.sess n).role = 0 → (s.sess n).port = k → granted (s.tick dt) n 0 = true →
    (s.sess n).nextRaw ≤ (s.tick dt).now →
    let u := sealNote k (some n.val) (s.tick dt)
    sealGate u k (some n.val) ≤ 1 → reserve u k bf (syncLen u k (some n.val)) = some r → gives (.syncTx k (some n) bf dt) s (syncEmit k (some n.val) r u))
  ∧ (∀ (k : Fin 16) (bf dt : Nat) (r : (Nat × Bool) × Nat) (s : State), s.pwr.rst = none → ptpOn s k = true → isMaster s k = true →
    reEpochs (s.tick dt) = false → s.flag (R.TSV_PORT_CFG_MC_EN k) = true → tget 0 s.tsv.next (4 * k.val + 1) ≤ (s.tick dt).now →
    let u := sealNote k none (s.tick dt)
    sealGate u k none ≤ 1 → reserve u k bf (syncLen u k none) = some r → gives (.syncTx k none bf dt) s (syncEmit k none r u))
  ∧ (∀ (k : Fin 16) (dt e : Nat) (l : List Nat) (d : FuDue) (s : State), s.pwr.rst = none → (s.port k).tsq = e :: l →
    tbit e 16 = false → tbit e 20 = true → tbit e 18 = false →
    s.tsv.fus.find? (fun d => d.port == k.val && d.tag == e % 65536) = some d →
    let u := tsqPop k (s.tick dt)
    let u := u.setTsv { s.tsv with fus := s.tsv.fus.filter (fun d => !(d.port == k.val && d.tag == e % 65536)) }
    let v := sealNote d.port d.sess u
    reEpochs u = false → sealGate v d.port d.sess ≤ 1 →
    gives (.followUpTx k dt) s (ptpOriginate d.port d.sess (followUpMsg u d (e / 2 ^ 32 % 2 ^ 60)) v))
  ∧ (∀ (k : Fin 16) (dt e : Nat) (l : List Nat) (s : State), s.pwr.rst = none → (s.port k).tsq = e :: l → tbit e 16 = true →
    let gap := (e % 65536, e / 2 ^ 32 % 65536)
    let hit := s.tsv.fus.filter (fun d => d.port == k.val && inRun gap d.tag)
    let u := (s.tick dt).setTsv { s.tsv with fus := s.tsv.fus.filter (fun d => !(d.port == k.val && inRun gap d.tag)) }
    hit ≠ [] → gives (.followUpTx k dt) s ((tsqPop k u).addSat (R.MAC_PORT_FU_SUPP_FU_SUPP k) hit.length))
  ∧ (∀ (k : Fin 16) (n : Fin 4096) (dt : Nat) (s : State), s.pwr.rst = none → ptpOn s k = true → isMaster s k = true →
    (s.sess n).st = 2 → (s.sess n).role = 0 → (s.sess n).port = k → granted (s.tick dt) n 11 = true → (s.sess n).nextAnn ≤ (s.tick dt).now →
    let log := sbyte ((s.sess n).logs.getD 0 0)
    let r := announceMsg k (some n.val) (s.sess n).annSeq log (s.tick dt)
    let v : Sess := { s.sess n with annSeq := ((s.sess n).annSeq + 1) % 65536, nextAnn := max ((s.sess n).nextAnn + logCounts log) r.2.now }
    let u := sealNote k (some n.val) (r.2.setSess n v)
    sealGate u k (some n.val) ≤ 1 → gives (.announceTx k (some n) dt) s (ptpOriginate k (some n.val) r.1 u))
  ∧ (∀ (k : Fin 16) (dt : Nat) (s : State), s.pwr.rst = none → ptpOn s k = true → isMaster s k = true → s.flag (R.TSV_PORT_CFG_MC_EN k) = true →
    tget 0 s.tsv.next (4 * k.val) ≤ (s.tick dt).now →
    let log := s.getI (R.TSV_PORT_LOG_ANN_LOG k)
    let q := portSeq k 0 (s.tick dt)
    let r := announceMsg k none q.1 log q.2
    let u := sealNote k none (r.2.setTsv { r.2.tsv with next := tset 0 r.2.tsv.next (4 * k) (max (tget 0 s.tsv.next (4 * k.val) + logCounts log) r.2.now) })
    sealGate u k none ≤ 1 → gives (.announceTx k none dt) s (ptpOriginate k none r.1 u))
  ∧ (∀ (n : Fin 4096) (bf dt : Nat) (r : (Nat × Bool) × Nat) (s : State), s.pwr.rst = none →
    let v := s.sess n
    let u := sealNote v.port (some n.val) (s.tick dt)
    ptpOn s v.port = true → v.role ≠ 0 → (v.st = 2 ∨ v.st = 3) → v.nextRaw ≤ (s.tick dt).now → (v.role = 2 ∨ granted (s.tick dt) n 9 = true) →
    sealGate u v.port (some n.val) ≤ 1 → reserve u v.port bf (dreqLen u v.port n) = some r → gives (.delayReqTx n bf dt) s (dreqEmit v.port n r u))
  ∧ (∀ (n : Fin 4096) (dt : Nat) (s : State), s.pwr.rst = none →
    let l := grantTypes.filter (fun ty => (grantOf (s.sess n) ty).elim false (fun g => decide (4 * (g.until' - (s.tick dt).now) ≤ g.dur * secCounts)))
    (s.sess n).st = 2 → (s.sess n).role = 1 → l ≠ [] → gives (.grantRenew n dt) s (sendRequests n l (sessGo n 3 (s.tick dt))))
  ∧ (∀ (n : Fin 4096) (dt : Nat) (s : State), s.pwr.rst = none → ((s.sess n).st = 2 ∨ (s.sess n).st = 3) →
    ((s.sess n).role = 0 → grantTypes.all (fun ty => !granted (s.tick dt) n ty) = true → gives (.grantExpire n dt) s (sessFree n (s.tick dt)))
    ∧ ((s.sess n).role = 1 → grantTypes.any (fun ty => !granted (s.tick dt) n ty) = true →
        let u := sessGo n 1 (s.tick dt)
        gives (.grantExpire n dt) s (raiseEvt R.TSV_EVT_SESS_TIMEOUT 187 (u.setSess n { u.sess n with sflags := withBit (s.sess n).sflags 0 true }))))
  ∧ (∀ (n : Fin 4096) (dt : Nat) (s : State), s.pwr.rst = none → (s.sess n).st = 1 → (s.sess n).since + 3 * secCounts ≤ (s.tick dt).now →
    gives (.requestRetry n dt) s
      (sendRequests n grantTypes ((s.tick dt).setSess n { s.sess n with sflags := withBit (s.sess n).sflags 1 true, since := (s.tick dt).now })))
  ∧ (∀ (n : Fin 4096) (dt : Nat) (s : State), s.pwr.rst = none → (s.sess n).st = 4 → (s.sess n).since + secCounts ≤ (s.tick dt).now →
    gives (.cancelTimeout n dt) s (sessFree n (s.tick dt)))
  ∧ (∀ (n : Fin 4096) (dt : Nat) (s : State), s.pwr.rst = none → (s.sess n).role ≠ 0 → 1 ≤ (s.sess n).st → (s.sess n).st ≤ 3 → (s.sess n).los = false →
    let log := if (s.sess n).role = 2 then s.getI (R.TSV_PORT_LOG_SYNC_LOG (s.sess n).port) else sbyte ((s.sess n).logs.getD 1 0)
    (annOut (s.tick dt) (s.sess n) = true ∨ (s.sess n).syncAt + 3 * logCounts log ≤ (s.tick dt).now) →
    let u := (s.tick dt).setSess n { s.sess n with los := true }
    gives (.ptpSessionLos n dt) s (match vMon u 4 n with | some m => vPush m { los := true, raw := u.raw * 4096 } u | none => u))
  ∧ (∀ s : State, s.pwr.rst = none → gives .sessRead s (sessRead s))
  ∧ (∀ (dt : Nat) (s : State), s.pwr.rst = none → (s.sess (s.get R.TSV_SESS_IDX_IDX)).st = 0 →
    let n := s.get R.TSV_SESS_IDX_IDX
    let v := sessFrom (s.tick dt) (sessWords s)
    let u := (s.tick dt).put R.TSV_SESS_CMD_BUSY 1
    (v.role = 1 → gives (.sessWrite dt) s (sendRequests n grantTypes (u.setSess n { v with st := 1 })))
    ∧ (v.role = 2 → gives (.sessWrite dt) s (u.setSess n { v with st := 2 })))
  ∧ (∀ (dt : Nat) (s : State), s.pwr.rst = none → (s.sess (s.get R.TSV_SESS_IDX_IDX)).st ≠ 0 →
    let n := s.get R.TSV_SESS_IDX_IDX
    let u := sendCancels n ((s.tick dt).put R.TSV_SESS_CMD_BUSY 1)
    gives (.sessFree dt) s (if (s.sess n).role = 0 then sessFree n u else sessGo n 4 u))
  ∧ (∀ s : State, s.pwr.rst = none → gives .sessCmdDone s (s.put R.TSV_SESS_CMD_BUSY 0))
  ∧ (∀ (l : List BmcaIn) (s : State), s.pwr.rst = none → unitDown s (taskUnit .bmca) = false → taskRuns s .bmca →
    gives (.bmca l) s { s with gen := { s.gen with jobs := s.gen.jobs ++ [.bmca l] } })

/-- 13 R351: the session table's READ copies the 64 bytes of the indexed session into the sixteen entry words, little-endian, and changes nothing else but
BUSY: no session, no other register. -/
def Obligations.SessionReadCopiesTheEntry : Prop :=
  ∀ s : State, s.pwr.rst = none →
    ∃ t, exec .sessRead s = .next t ∧
      (∀ w < 16, t.get (R.TSV_SESS_W_ENTRY w) = ofLe (sub (sessBytes s (s.get R.TSV_SESS_IDX_IDX)) (4 * w) 4) % 2 ^ 32) ∧
      t.get R.TSV_SESS_CMD_BUSY = 1 ∧
      (∀ a, (∀ w < 16, a ≠ (R.TSV_SESS_W_ENTRY w).addr) → a ≠ R.TSV_SESS_CMD_BUSY.addr → rdWord t a = rdWord s a) ∧
      t.tsv = s.tsv ∧ t.mac = s.mac ∧ t.edge = s.edge

/-- 13 R352: a CANCELLING session goes FREE after one second, its entry cleared; no other session, no register and no frame list changes. -/
def Obligations.CancelledSessionGoesFree : Prop :=
  ∀ (n : Fin 4096) (dt : Nat) (s : State), s.pwr.rst = none → (s.sess n).st = 4 → (s.sess n).since + secCounts ≤ (s.tick dt).now →
    ∃ t, exec (.cancelTimeout n dt) s = .next t ∧ t.sess n = {} ∧ (∀ k, k ≠ n.val → t.sess k = s.sess k) ∧
      t.regs = s.regs ∧ t.edge = s.edge ∧ t.mac = s.mac ∧ t.key = s.key

/-! ## Keys and authentication (14) -/

/-- 14 R360 to R384: the key engine's commands complete, each with the whole effect given. An interface owns the open transaction from its BEGIN; a staged
operation passes where stageCheck answers 0; an import erases the staging words, a wrapped one takes a use of its parent, a generated key is a draw. Operations: 1 plain import, 2 wrapped import, 3 generate, 4 invalidate, 5 set uses, 6 reclaim. -/
def Obligations.KeyCommandsComplete : Prop :=
  (∀ s : State, s.pwr.rst = none → s.key.remaskAt + remaskPer s < s.strokes → gives .remaskPass s (remaskPass s))
  ∧ (∀ (j : Iface) (dt : Nat) (s : State), s.pwr.rst = none → s.get R.KEY_STAT_TXN_STATE = 0 →
    let u := ((s.tick dt).put R.KEY_STAT_TXN_STATE 1).put R.KEY_STAT_TXN_OWNER j.num
    gives (.keyBegin j dt) s (u.setKey { s.key with staged := [], since := (s.tick dt).now }))
  ∧ (∀ (j : Iface) (s : State), s.pwr.rst = none →
    let staged := fun (op : Nat) (slot : Nat) (m : KeySlot × State) =>
      m.2.setKey { m.2.key with staged := m.2.key.staged ++ [{ op := op, slot := slot, new := m.1, val := 0 }] }
    let u := s.put R.KEY_STG_OP_OP 1
    let v := stageFloor j 2 (s.put R.KEY_STG_OP_OP 2)
    let new := stgSlot v (stagedSlots v)
    let w := s.put R.KEY_STG_OP_OP 3
    ((stageCheck u j 1).1 = 0 → gives (.stageImportPlain j) s
      (staged 1 (u.get R.KEY_STG_OP_SLOT) (maskKey (stgSlot u (stagedSlots u)) (stageCheck u j 1).2.1 (stgErase u))))
    ∧ ((stageCheck v j 2).1 = 0 → gives (.stageImportWrapped j) s
      (staged 2 (v.get R.KEY_STG_OP_SLOT) (maskKey new (stageCheck v j 2).2.1 (stgErase (keyCnt 2 (keyTake new.parent 1 v))))))
    ∧ ((stageCheck w j 3).1 = 0 → gives (.stageGenerate j) s
      (staged 3 (w.get R.KEY_STG_OP_SLOT) (maskKey (stgSlot w (stagedSlots w)) (rngDraw 256 w).1 (rngDraw 256 w).2))))
  ∧ (∀ (j : Iface) (s : State), s.pwr.rst = none → keyOwns s j = true → s.key.staged.length < 16 →
    let slot := s.get R.KEY_STG_OP_SLOT
    let c := kslot (stagedSlots s) slot
    let uses := s.get R.KEY_STG_USES_USE_MAX
    (2 ≤ slot → c.state ≠ 0 → gives (.stageInvalidate j) s
      ((s.put R.KEY_STG_OP_OP 4).setKey { s.key with staged := s.key.staged ++ [{ op := 4, slot := slot, new := {}, val := uses }] }))
    ∧ (c.useMax ≠ 0 → uses ≤ c.uses → gives (.stageSetUses j) s
      ((s.put R.KEY_STG_OP_OP 5).setKey { s.key with staged := s.key.staged ++ [{ op := 5, slot := slot, new := {}, val := uses }] }))
    ∧ (c.state = 3 → gives (.stageReclaim j) s
      ((s.put R.KEY_STG_OP_OP 6).setKey { s.key with staged := s.key.staged ++ [{ op := 6, slot := slot, new := {}, val := uses }] })))
  ∧ (∀ (j : Iface) (s : State), s.pwr.rst = none → keyOwns s j = true →
    (nvmSlots s.key.slots s.key.staged ≠ [] →
      gives (.keyCommit j) s ((s.setNvm { s.nvm with part := some (stagedTxn s) }).put R.KEY_STAT_TXN_STATE 2))
    ∧ (nvmSlots s.key.slots s.key.staged = [] → gives (.keyCommit j) s (keyApply s))
    ∧ gives (.keyAbort j) s (keyIdle s))
  ∧ (∀ (dt : Nat) (s : State), s.pwr.rst = none → s.get R.KEY_STAT_TXN_STATE = 1 →
    s.key.since + s.get R.KEY_CTL_TXN_MAX * msCounts ≤ (s.tick dt).now →
    gives (.txnDiscard dt) s (raiseEvt R.KEY_EVT_TXN_DISCARD 188 (keyIdle (s.tick dt))))
  ∧ (∀ s : State, s.get R.KEY_STAT_TXN_STATE = 2 → s.flag R.KEY_STAT_COMPACTING = false → s.key.floorDue = [] →
    gives .commitDone s (custSettle (keyApply (jnlSeal (stagedTxn s) s))))
  ∧ (∀ (tmo : Bool) (s : State), s.pwr.rst = none → s.get R.KEY_STAT_TXN_STATE = 2 →
    let u := raiseEvt R.KEY_EVT_COMMIT_FAIL 188 (keyIdle s)
    gives (.commitFail tmo) s (if tmo then faultRaise 21 u else u))
  ∧ (∀ s : State, s.pwr.rst = none → s.flag R.KEY_STAT_COMPACTING = true → gives .compactionDone s (keyCompacted s))
  ∧ (∀ (k : Fin 64) (s : State), s.pwr.rst = none → s.key.floorDue.contains k.val = true →
    let u := (s.setKey { s.key with floorDue := s.key.floorDue.filter (· != k.val) }).setSlot k { s.slot k with floor := (s.slot k).floor - 1024 }
    let v := jnlSeal { seq := (u.get R.KEY_JNL_SEQ + 1) % 2 ^ 32, recs := [jnlRec u.key.slots k] } u
    gives (.floorCommit k) s (v.setNvm { v.nvm with part := s.nvm.part }))
  ∧ (∀ s : State, s.pwr.rst = none →
    gives .rngDegraded s (faultRaise 24 (raiseEvt R.KEY_EVT_RNG_DEGRADED 188 (s.put R.KEY_STAT_RNG_OK 0))))
  ∧ (∀ s : State, s.pwr.rst = none → 2 ^ 20 ≤ s.key.rngCnt →
    gives (.rngReseed true) s ((s.setKey { s.key with rngCnt := 0 }).put R.KEY_STAT_RNG_OK 1))
  ∧ (∀ (j : Iface) (s : State), s.pwr.rst = none →
    let u := (s.put (R.KEY_ATT_STAT_DONE.ifc j) 0).put (R.KEY_ATT_STAT_NOKEY.ifc j) 0
    let u := (List.range 8).foldl (fun u w => u.put ((R.KEY_ATT_RESP_W0_RESP.word w).ifc j) 0) u
    let v := (u.put (R.KEY_ATT_STAT_ATT_LC.ifc j) (u.get R.GEN_LC_STATE)).put (R.KEY_ATT_STAT_BUSY.ifc j) 1
    let v := (List.range 8).foldl (fun v w => v.put ((R.KEY_ATT_DIGEST_W0_DIGEST.word w).ifc j) (rdWord v (0x160040 + 4 * w))) v
    let v := v.setKey { v.key with att := tset none v.key.att j.num (some (attMsg s j)) }
    keyGate u 3 2 1 ≠ 1 → ((u.slot 3).priv = 2 → isCust u j = true) → u.get R.GEN_LC_STATE ≠ 4 →
    gives (.attGo j) s (if keyGate v 3 2 1 = 2 then floorAsk 3 v else v))
  ∧ (∀ (j : Iface) (msg : List Nat) (s : State), s.pwr.rst = none → tget none s.key.att j.num = some msg → s.key.floorDue.contains 3 = false →
    let u := keyCnt 1 (keyTake 3 1 (s.setKey { s.key with att := tset none s.key.att j.num none }))
    let u := (List.range 8).foldl (fun u w => u.put ((R.KEY_ATT_RESP_W0_RESP.word w).ifc j) (ofLe (((hmacOf (s.slot 3).key msg).drop (4 * w)).take 4))) u
    gives (.attDone j) s ((u.put (R.KEY_ATT_STAT_BUSY.ifc j) 0).put (R.KEY_ATT_STAT_DONE.ifc j) 1))

/-- 14 R377: a pass of re-masking changes no key: each slot that holds one reads in clear exactly as before, and its attributes, uses, generation and state stay;
the next pass is counted from the Stroke that this one was due in. The new masks are the model's free draws. -/
def Obligations.RemaskKeepsEveryKey : Prop :=
  ∀ s : State, s.pwr.rst = none → s.key.remaskAt + remaskPer s < s.strokes →
    ∃ t, exec .remaskPass s = .next t ∧ s.key.remaskAt < t.key.remaskAt ∧ t.key.remaskAt < s.strokes ∧
      ∀ k, (t.slot k).key = (s.slot k).key ∧ (∀ x m, { t.slot k with stored := x, mask := m } = { s.slot k with stored := x, mask := m })

/-- 14 R370: an aborted transaction leaves the store as it was: every slot, use count and generation, the journal and the words of every other block stand, and
nothing is staged any longer. -/
def Obligations.AbortLeavesTheStore : Prop :=
  ∀ (j : Iface) (s : State), s.pwr.rst = none → s.get R.KEY_STAT_TXN_STATE = 1 → s.get R.KEY_STAT_TXN_OWNER = j.num →
    ∃ t, exec (.keyAbort j) s = .next t ∧ t.key.slots = s.key.slots ∧ t.key.staged = [] ∧ t.get R.KEY_STAT_TXN_STATE = 0 ∧
      t.nvm.jnl0 = s.nvm.jnl0 ∧ t.nvm.jnl1 = s.nvm.jnl1 ∧ (∀ a, winOf a ≠ 0x0F → rdWord t a = rdWord s a) ∧ t.edge = s.edge

/-! ## Porarir links, paths and domains (15, 16) -/

/-- 15 R386 to R405 and 16 R409 to R424: the commands of the Porarir lines, of the path pairs and of the domain complete, each with the whole effect given;
settled is the state once the path pairs' level rows have been evaluated at the command's instant. A lane of mode PORARIR sends and takes cells in the stages
2 TRAIN to 5 ACTIVE. -/
def Obligations.PorarirCommandsComplete : Prop :=
  (∀ (l : Fin 16) (wf : BitVec 48) (req : BitVec 8) (ready : Bool) (dt : Nat) (s : State), s.pwr.rst = none →
    let settled := prlSync (s.tick dt)
    lanePrl settled l = true → 2 ≤ laneStage settled l → laneStage settled l ≤ 5 →
    let r := nextCell l wf.toNat req.toNat ready settled
    let u := msgClean (lanePath l / 2) r.2
    gives (.cellBoundary l wf req ready dt) s { u with prl := { u.prl with cells := tset [] u.prl.cells l r.1 } })
  ∧ (∀ (l : Fin 16) (b : List Byte) (wf : BitVec 48) (dt : Nat) (s : State), s.pwr.rst = none →
    let settled := prlSync (s.tick dt)
    lanePrl settled l = true → 2 ≤ laneStage settled l → laneStage settled l ≤ 5 → cellOk (cellBytes b) = true →
    let c := cellBytes b
    let p := lanePath l
    let o := settled.path p
    (c.getD 0 0 = 1 → laneActive settled l = true → isPath settled p = true →
      let st := wordStamp (settled.lane l).rx (laneRate settled l) wf.toNat 0
      let got : PrlPath := { o with
        rx := some (be16 c 2, etOf (etTotal settled.etm st.1), st.2, false)
        data := some { bytes := sub c 7 49, at' := ((settled.now : Int) - rawDiff settled.raw (st.1 / 4096)).toNat } }
      (pathExchange settled p c st = none → gives (.timeCellRx l b wf dt) s (pmcCount (256 + p) (settled.setPath p got)))
      ∧ (∀ r, pathExchange settled p c st = some r → gives (.timeCellRx l b wf dt) s
          (pmcCount (256 + p) (settled.setPath p { got with ex := some r.1, delay := r.2 / 64, n := if o.st = 1 then o.n + 1 else o.n }))))
    ∧ (c.getD 0 0 = 2 → laneActive settled l = true → isPath settled p = true →
      let good := o.part.any (fun r => decide (be16 c 4 = r.1 ∧ c.getD 6 0 = r.2.1 + 8 * r.2.2))
      let rxok := tbit (c.getD 7 0) 0
      let far := if rxok then 0 else o.far + 1
      let u := settled.setPath p { o with tollAt := some settled.now, far := far }
      (good = false → o.st ≠ 0 → gives (.tollRx l b dt) s (pathDown p 3 settled))
      ∧ (good = true → o.st ≠ 0 → gives (.tollRx l b dt) s (if u.get R.PRL_CFG_TOLL_MISS ≤ far then pathDown p 4 u else u))
      ∧ (good = true → o.st = 0 → gives (.tollRx l b dt) s
          (if rxok && !o.barred && u.flag (R.PRL_PP_CTL_EN (p / 2)) && !pairErr u (p / 2) then u.setPath p { u.path p with st := 1, n := 0, far := 0 } else u)))
    ∧ (c.getD 0 0 = 3 → laneStage settled l = 2 → gives (.trnCellRx l b dt) s (trnRx l c settled))
    ∧ (c.getD 0 0 = 4 → laneStage settled l = 4 → isPath settled p = true → o.part = none → o.exch.any (fun e => e.2 == 0) = false → exchBad settled p c = 0 →
      let n := match o.exch with
        | some e => if e.1 = c then e.2 + 1 else 1
        | none => 1
      let u := settled.setPath p { o with exch := some (c, n) }
      gives (.exchCellRx l b dt) s (if 16 ≤ n then
        (u.setPath p { u.path p with part := some (be16 c 6, c.getD 10 0 % 8, c.getD 10 0 / 8 % 2) }).put (R.PRL_PP_PATH_HOP_FAC_PARTNER (p / 2) (p % 2)) (be16 c 12)
        else u))
    ∧ (8 ≤ c.getD 0 0 → laneActive settled l = true → isPath settled p = true →
      let kind := c.getD 0 0 - 8
      let r := asmStep (tget none o.asm kind) (be16 c 2) (c.getD 1 0 % 16) (tbit (c.getD 1 0) 4) (sub c 4 56)
      let u := settled.setPath p { o with asm := tset none o.asm kind r.1 }
      let u := if r.2.1 = 0 then u else u.addSat (R.PRL_PP_MSGCNT2_FRAG_ERR (p / 2)) r.2.1
      (r.2.2 = none → gives (.msgCellRx l b dt) s u)
      ∧ (∀ m, r.2.2 = some m → gives (.msgCellRx l b dt) s (msgDedup p kind (be16 c 2) m u))))
  ∧ (∀ (k : Fin 8) (h : Fin 2) (dt n : Nat) (s : State), s.pwr.rst = none →
    let settled := prlSync (s.tick dt)
    (settled.path (2 * k + h)).st ≠ 0 → (settled.path (2 * k + h)).tollAt = some n → n + tollSpan settled ≤ settled.now →
    gives (.tollTimeout k h dt) s (pathDown (2 * k + h) 2 settled))
  ∧ (∀ (k : Fin 8) (s : State), s.pwr.rst = none → pairState s k = 2 → gives (.pathSwitch k) s (s.setPair k { s.pair k with switch := true }))
  ∧ (∀ (kind : Fin 3) (k : Fin 8) (b : List Byte) (s : State), s.pwr.rst = none → 1 ≤ b.length → b.length ≤ 894 →
    let o := s.pair k
    let q := tget [] o.qs kind.val
    let n := o.seqs.getD kind.val 0
    (q.length < 32 → gives (.msgSend kind k b) s (s.setPair k
      { o with qs := tset [] o.qs kind.val (q ++ [{ seq := n, bytes := cellBytes b }]), seqs := o.seqs.set kind.val ((n + 1) % 65536) }))
    ∧ (32 ≤ q.length → gives (.msgSend kind k b) s
        (raiseEvt (R.PRL_EVT2_MSG_DROP.bitAt k) 190 (s.addSat (R.PRL_PP_MSGCNT2_MSG_DROP k) 1))))
  ∧ (∀ s : State, s.pwr.rst = none → unitDown s (taskUnit .election) = false → taskRuns s .election →
    gives .election s { s with gen := { s.gen with jobs := s.gen.jobs ++ [.election] } })
  ∧ (∀ (dt : Nat) (s : State), s.pwr.rst = none →
    let ended := s.dom.table.filter (fun e => decide (e.until' ≤ (s.tick dt).now))
    gives (.relayHoldEnd dt) s (ended.foldl (fun u e => holdDone e u) (s.tick dt))
    ∧ (∀ e rest, s.dom.table = e :: rest → ended = [e] → e.pending ≠ 0 →
      let u := (s.tick dt).setDom { s.dom with table := rest.filter (fun x => x != e) ++ [{ e with pending := 0, until' := holdEnd (s.tick dt) }] }
      gives (.relayHoldEnd dt) s (reportSend e.subject e.code 1 e.wh e.pending u))
    ∧ (∀ e rest, s.dom.table = e :: rest → ended = [e] → e.pending = 0 →
      gives (.relayHoldEnd dt) s ((s.tick dt).setDom { s.dom with table := rest.filter (fun x => x != e) })))

/-- 15 R388: a cell that fails its check on a Porarir lane is dropped whatever it says it is, and does the same under each receiving command: the path's count of
bad cells rises by one, and no other path, no lane, no domain state and no register outside the path's counter and the interrupt and counter windows changes
from what the instant itself brought. -/
def Obligations.CorruptCellIsDropped : Prop :=
  ∀ (l : Fin 16) (b : List Byte) (wf : BitVec 48) (dt : Nat) (s : State), s.pwr.rst = none →
    let settled := prlSync (s.tick dt)
    lanePrl settled l = true → 2 ≤ laneStage settled l → laneStage settled l ≤ 5 → cellOk (cellBytes b) = false →
    ∃ t, exec (.timeCellRx l b wf dt) s = .next t ∧ exec (.tollRx l b dt) s = .next t ∧ exec (.trnCellRx l b dt) s = .next t ∧
      exec (.exchCellRx l b dt) s = .next t ∧ exec (.msgCellRx l b dt) s = .next t ∧
      t.path (lanePath l) = { settled.path (lanePath l) with crc := (settled.path (lanePath l)).crc + 1 } ∧
      (∀ p, p ≠ lanePath l → t.path p = settled.path p) ∧ t.lan = settled.lan ∧ t.dom = settled.dom ∧ t.edge = settled.edge ∧
      (∀ a, a ≠ (R.PRL_PP_PATH_CNT_CRC_ERR (lanePath l / 2) (lanePath l % 2)).addr → winOf a ≠ 0x14 → winOf a ≠ 0x15 → rdWord t a = rdWord settled a)

/-- 16 R412: datasets are compared field by field in the order PRIO1, CLASS, ACC, VAR, PRIO2, node ID, as unsigned numbers: the first field that differs decides
and the lower is the better; datasets of two nodes never compare equal; and the best of a list of routes is one that no other of the list is better than. -/
def Obligations.DatasetsCompareFieldByField : Prop :=
  (∀ (p p' c c' a a' q q' : BitVec 8) (v v' n n' : BitVec 16),
    let x := dataKey p.toNat c.toNat a.toNat v.toNat q.toNat n.toNat
    let y := dataKey p'.toNat c'.toNat a'.toNat v'.toNat q'.toNat n'.toNat
    (x < y ↔ p < p' ∨ (p = p' ∧ (c < c' ∨ (c = c' ∧ (a < a' ∨ (a = a' ∧ (v < v' ∨ (v = v' ∧ (q < q' ∨ (q = q' ∧ n < n')))))))))) ∧
    (n ≠ n' → x ≠ y))
  ∧ (∀ (f : Nat × DomRoute → Nat) (l : List (Nat × DomRoute)), (leastBy f l = none ↔ l = []) ∧
      ∀ r, leastBy f l = some r → r ∈ l ∧ ∀ x ∈ l, f r ≤ f x)

/-- 16 R415: a lane in ACTIVE whose pair is enabled and that has sent no TIME cell in this Stroke, 500 counts or more after its edge, sends one at the cell
boundary, and the hop count in it is this node's STEPS. -/
def Obligations.TimeCellCarriesSteps : Prop :=
  ∀ (l : Fin 16) (wf : BitVec 48) (req : BitVec 8) (ready : Bool) (dt : Nat) (s : State), s.pwr.rst = none →
    let settled := prlSync (s.tick dt)
    lanePrl settled l = true → laneStage settled l = 5 → isPath settled (lanePath l) = true →
    settled.gen.edgeNow + 500 ≤ settled.now → (settled.path (lanePath l)).timeAt ≠ some settled.strokes →
    ∃ t, exec (.cellBoundary l wf req ready dt) s = .next t ∧ (tget [] t.prl.cells l.val).getD 0 0 = 1 ∧
      (tget [] t.prl.cells l.val).getD 7 0 = settled.dom.steps

/-! ## Faults and the recorder (17) -/

/-- 17 R426 to R440: the commands of fault handling complete, each with the whole effect given. -/
def Obligations.FaultCommandsComplete : Prop :=
  (∀ (src : Fin 320) (subject wit code : BitVec 16) (dt : Nat) (s : State), s.pwr.rst = none →
    src.val ≤ 266 → detectorHeld (s.tick dt) src = false →
    let rp : Report := { subject := subject.toNat, wit := wit.toNat, code := code.toNat % 512 }
    let u := pmcCount 352 ((s.tick dt).addSat (R.FLT_SRC_RAISE_CNT src) 1)
    let detail := match homeUnit src with | some x => unitStat u x | none => 0
    let covers := u.flt.shadows.find? (fun sh => sh.covers.contains src.val && shadowLive u sh)
    (∀ sh, covers = some sh → gives (.faultRaise src subject wit code dt) s
      (if fltKind src = 2 ∧ src.val < 250 then originate rp.subject src rp.wh (raiseConseq src sh rp detail u) else raiseConseq src sh rp detail u))
    ∧ (covers = none → fltKind src = 2 → src.val < 250 → gives (.faultRaise src subject wit code dt) s
        (originate rp.subject src rp.wh (raiseReport src { rp with code := src.val } u)))
    ∧ (covers = none → fltKind src = 2 → 250 ≤ src.val → gives (.faultRaise src subject wit code dt) s
        (raiseReport src { rp with code := if src.val = 250 then rp.code else src.val } u))
    ∧ (covers = none → fltKind src ≠ 2 → gives (.faultRaise src subject wit code dt) s (raiseLatch src detail u)))
  ∧ (∀ (u : HwUnit) (dt : Nat) (s : State), s.pwr.rst = none → s.flt.resetting.any (fun r => r.1 == u && decide (r.2 ≤ (s.tick dt).now)) = true →
    (u = .recorder → s.flag R.REC_STAT_FLUSHING = false) → unitOff s u = false → unitHeld s u = false →
    gives (.blockResetRelease u dt) s
      (releaseUnit u { s.tick dt with flt := { s.flt with resetting := s.flt.resetting.filter (fun r => r.1 != u) } }))
  ∧ (∀ (dt : Nat) (s : State), s.pwr.rst = none →
    gives (.shadowEnd dt) s { s.tick dt with flt := { s.flt with shadows := s.flt.shadows.filter (shadowLive (s.tick dt)) } })
  ∧ (∀ (src : BitVec 9) (s : State), s.pwr.rst = none →
    let u := s.put R.FLT_CLR_SRC src.toNat
    gives (.fltClr src) s (({ u with flt := { u.flt with clrReq := some src.toNat } } : State).put R.FLT_CLR_STAT_RESULT 7))
  ∧ (∀ s : State, s.pwr.rst = none → gives .dedupExpire s ((dedupOld s).foldl (fun u i => dedupEnd i u) s))
  ∧ (∀ (dt : Nat) (q : Nat × Nat) (s : State), s.pwr.rst = none → s.flt.chipReq = some q →
    (s.flag R.REC_STAT_FLUSHING = false ∨ q.2 ≤ (s.tick dt).now) → gives (.chipResetStart dt) s (resetBegin .fault q.1 (s.tick dt)))
  ∧ (∀ (dt n : Nat) (s : State), s.pwr.rst = none → s.flt.errnUntil = some n → n ≤ (s.tick dt).now →
    (errnHeld s = false → gives (.errnMinExpire dt) s
      (({ s.tick dt with flt := { s.flt with errnUntil := none } } : State).putB R.FLT_STAT_ERR_N_ACT false))
    ∧ (errnHeld s = true → gives (.errnMinExpire dt) s ((s.tick dt).putB R.FLT_STAT_ERR_N_ACT true)))

/-- 17 R442 to R449: the commands of the recorder complete, each with the whole effect given. FLUSH_DONE completes through a reset too (R436). -/
def Obligations.RecorderCommandsComplete : Prop :=
  (∀ s : State, s.flag R.REC_STAT_FLUSHING = true → gives .flushDone s (flushFinish s))
  ∧ (∀ s : State, s.pwr.rst = none →
    (s.flag R.REC_STAT_FLUSHING = false → gives .recFlush s
      (pmcCount 356 (({ s with rcd := { s.rcd with flushTo := s.rcd.nextSeq, flushPfail := false } } : State).put R.REC_STAT_FLUSHING 1)))
    ∧ (s.flag R.REC_STAT_FLUSHING = true → gives .recFlush s { s with rcd := { s.rcd with flushAgain := true } }))
  ∧ (∀ s : State, s.pwr.rst = none → gives .eraseFixed s (eraseFixed s) ∧ gives .eraseRoll s (eraseRoll s) ∧ gives .recTrig s (recHostTrig s))
  ∧ (∀ (j : Iface) (area : Fin 3) (seq : BitVec 32) (s : State), s.pwr.rst = none →
    gives (.recRdGo j area seq) s (recRdGo j ((s.put (R.REC_RD_CTL_AREA.ifc j) area).put (R.REC_RD_SEQ_SEQ.ifc j) seq.toNat)))
  ∧ (∀ (j : Iface) (s : State), s.pwr.rst = none → tget 0 s.rcd.rdBusy j.num ≠ 0 → gives (.recRdDone j) s (recRdDone j s))
  ∧ (∀ (dt : Nat) (s : State), s.pwr.rst = none →
    let old := s.get R.REC_STAT_PHASE
    let new := recPhase (s.tick dt)
    (old = new → gives (.recoveryEnd dt) s (s.tick dt))
    ∧ (old ≠ new → gives (.recoveryEnd dt) s (logRec 0x18B [old, new] ((s.tick dt).put R.REC_STAT_PHASE new))))

/-- 17 R431: a request to clear a source waits for the next edge: RESULT reads 7 meanwhile, SRC names the source, and no fault state, no source's registers and
no register of another block changes yet. -/
def Obligations.FaultClearWaitsForTheEdge : Prop :=
  ∀ (src : BitVec 9) (s : State), s.pwr.rst = none →
    ∃ t, exec (.fltClr src) s = .next t ∧ t.get R.FLT_CLR_STAT_RESULT = 7 ∧ t.get R.FLT_CLR_SRC = src.toNat ∧
      t.flt = { s.flt with clrReq := some src.toNat } ∧ (∀ a, a ≠ R.FLT_CLR_SRC.addr → a ≠ R.FLT_CLR_STAT_RESULT.addr → rdWord t a = rdWord s a) ∧
      t.edge = s.edge ∧ t.rcd = s.rcd ∧ t.irq = s.irq

/-- 17 R447: erasing FIXED empties it, with its use count and FULL flag, after the host's record; ROLL stands, and no register outside the recorder's, the
interrupt's and the counters' windows changes. -/
def Obligations.EraseFixedLeavesRoll : Prop :=
  ∀ s : State, s.pwr.rst = none →
    ∃ t, exec .eraseFixed s = .next t ∧ t.rcd.fixed = [] ∧ t.get R.REC_USE_FIXED_USED = 0 ∧ t.get R.REC_STAT_FIXED_FULL = 0 ∧ t.rcd.roll = s.rcd.roll ∧
      t.flt = s.flt ∧ t.key = s.key ∧ t.edge = s.edge ∧
      (∀ a, winOf a ≠ 0x13 → winOf a ≠ 0x14 → winOf a ≠ 0x15 → rdWord t a = rdWord s a)

/-! ## Interrupts and counters (18) -/

/-- 18 R451 to R468: the commands of the interrupt controller and of the counters complete, each with the whole effect given. -/
def Obligations.InterruptCommandsComplete : Prop :=
  (∀ (src : Fin 256) (dt : Nat) (s : State), s.pwr.rst = none → 1 ≤ src.val → src.val ≤ 254 → s.flag (R.IRQ_SRC_EN src) = true →
    (irqPend s src = true → gives (.irqRequestEdge src dt) s (pmcSettle (pmcCount0 88 (s.tick dt))))
    ∧ (irqPend s src = false → gives (.irqRequestEdge src dt) s
        (let u := irqSetPend src true (s.tick dt)
         pmcSettle (tgtArrive (s.get (R.IRQ_SRC_TARGET src)) src u))))
  ∧ (∀ (m : Master) (t : Fin 6) (s : State), s.pwr.rst = none → m ≠ .recorder → (isHost m = true → t.val < 4) → (s.tgt t).st ≠ .service →
    let g := s.tgt t
    let c := accCtx s m (0x140100 + 0x20 * t.val)
    (∀ src, irqLowest s t = some src → gives (.irqClaim m t) s
      (pmcAdd (70 + t) 1 c (irqUnhold src ((irqSetPend src false s).setTgt t { g with st := .service, active := src }))))
    ∧ (irqLowest s t = none → g.st = .asserted → gives (.irqClaim m t) s
        (pmcAdd (76 + t) 1 c ((s.setTgt t { g with st := .idle, count := 0 }).addSat (R.IRQ_TGT_COUNTS_SPUR_CNT t) 1))))
  ∧ (∀ (m : Master) (t : Fin 6) (s : State), s.pwr.rst = none →
    (m = .recorder ∨ (s.tgt t).st = .service ∨ (isHost m = true ∧ 4 ≤ t.val) ∨ (irqLowest s t = none ∧ (s.tgt t).st ≠ .asserted)) → gives (.irqClaim m t) s s)
  ∧ (∀ (t : Fin 6) (id : BitVec 8) (s : State), s.pwr.rst = none →
    let g := s.tgt t
    let u := s.setTgt t { g with st := .idle, active := 0, count := 0 }
    (g.st = .service → g.active = id.toNat →
      (irqLowest u t = none → gives (.irqComplete t id) s (pmcSettle u))
      ∧ (irqLowest u t ≠ none → gives (.irqComplete t id) s (pmcSettle (tgtAssert t (u.setTgt t { u.tgt t with count := g.count })))))
    ∧ ((g.st ≠ .service ∨ g.active ≠ id.toNat) → id ≠ 0 → id ≠ 255 → gives (.irqComplete t id) s (pmcSettle (s.put (R.IRQ_TGT_STAT_CPL_ERR t) 1))))
  ∧ (∀ (src : Fin 256) (t : Fin 4) (dt : Nat) (s : State), s.pwr.rst = none → 1 ≤ src.val → src.val ≤ 195 →
    gives (.targetWrite src t dt) s (pmcSettle (irqMove src t (s.tick dt))))
  ∧ (∀ (src : Fin 256) (en : Bool) (dt : Nat) (s : State), s.pwr.rst = none → 1 ≤ src.val → src.val ≤ 215 → (src.val ≤ 195 ∨ 200 ≤ src.val) →
    let v := (s.tick dt).putB (R.IRQ_SRC_EN src) en
    let t := v.get (R.IRQ_SRC_TARGET src)
    (irqPend v src = false → gives (.irqEnWrite src en dt) s v)
    ∧ (irqPend v src = true → en = true → s.flag (R.IRQ_SRC_EN src) = false → gives (.irqEnWrite src en dt) s (pmcSettle (tgtArrive t src v)))
    ∧ (irqPend v src = true → (en = false ∨ s.flag (R.IRQ_SRC_EN src) = true) → gives (.irqEnWrite src en dt) s (pmcSettle (tgtSettle t v))))
  ∧ (∀ (t : Fin 6) (dt due : Nat) (s : State), s.pwr.rst = none → (s.tgt t).st = .gather → tgtDue (s.tick dt) t = some due →
    (s.flag (R.IRQ_TGT_CFG_SLEEP t) = false → gives (.coalTimeout t dt) s (pmcSettle (tgtAssert t (s.tick dt))))
    ∧ (s.flag (R.IRQ_TGT_CFG_SLEEP t) = true → gives (.coalTimeout t dt) s (pmcSettle (tgtHold t due (s.tick dt)))))
  ∧ (∀ (t : Fin 4) (dt : Nat) (s : State), s.pwr.rst = none →
    gives (.sleepWrite t true dt) s ((s.tick dt).put (R.IRQ_TGT_CFG_SLEEP t) 1)
    ∧ gives (.sleepWrite t false dt) s (irqSleepOp t false (s.tick dt)))
  ∧ (∀ (src : Fin 256) (dt d : Nat) (s : State), s.pwr.rst = none →
    let t := s.get (R.IRQ_SRC_TARGET src)
    tget none s.irq.heldFrom src.val = some d → s.flag (R.IRQ_TGT_CFG_SLEEP t) = true → s.flag (R.IRQ_SRC_FB_EN src) = true → irqDeliv s t src = true →
    d + s.get (R.IRQ_TGT_SLEEP_LAT_SLEEP_LAT t) * 250 ≤ (s.tick dt).now → s.flag (R.IRQ_TGT_CFG_SLEEP (s.get (R.IRQ_SRC_FB src))) = false →
    gives (.sleepFallback src dt) s
      (pmcCount (82 + t) (irqMove src (s.get (R.IRQ_SRC_FB src)) ((s.tick dt).put (R.IRQ_SRC_REDIR src) 1))))
  ∧ (∀ s : State, s.pwr.rst = none → gives .pmcSnap s (pmcSnapOp s))
  ∧ (∀ (j : Iface) (s : State), s.pwr.rst = none →
    let v := (readAs j.num 0x150300 s).2
    gives (.pmcTagRead j) s { v with pmc := { v.pmc with tags := v.pmc.tags.tail } })

/-- 18 R457: a claim by an interface that may claim at a target out of SERVICE returns the lowest-numbered source deliverable there, and puts the target into
SERVICE with that source; registers outside the interrupt and counter windows, and every other part of the block but those two, stay. -/
def Obligations.ClaimTakesTheLowestSource : Prop :=
  ∀ (m : Master) (t : Fin 6) (src : Fin 256) (s : State), s.pwr.rst = none → m ≠ .recorder → (isHost m = true → t.val < 4) → (s.tgt t).st ≠ .service →
    1 ≤ src.val → src.val ≤ 255 → irqDeliv s t src = true → (∀ k, 1 ≤ k → k < src.val → irqDeliv s t k = false) →
    (claimBy m t s).1 = src.val ∧
    ∃ u, exec (.irqClaim m t) s = .next u ∧ (u.tgt t).st = .service ∧ (u.tgt t).active = src.val ∧
      (∀ a, winOf a ≠ 0x14 → winOf a ≠ 0x15 → rdWord u a = rdWord s a) ∧ u.edge = s.edge ∧ u.flt = s.flt ∧ u.rcd = s.rcd ∧ u.etm = s.etm

/-- 18 R463: PMC_SNAP copies every one of the 512 counters on one cycle: each SNAP word is the counter as it stood, the counters go on unchanged, and no word of
another block changes. -/
def Obligations.SnapshotCopiesEveryCounter : Prop :=
  ∀ s : State, s.pwr.rst = none →
    ∃ t, exec .pmcSnap s = .next t ∧ (∀ n < 512, t.get (R.PMC_SNAP_SNAP n) = s.get (R.PMC_CNT_CNT n) ∧ t.get (R.PMC_CNT_CNT n) = s.get (R.PMC_CNT_CNT n)) ∧
      t.get R.PMC_STAT_SNAP_DONE = 1 ∧ (∀ a, winOf a ≠ 0x15 → rdWord t a = rdWord s a) ∧ t.irq = s.irq ∧ t.pmc = s.pmc ∧ t.edge = s.edge

/-! ## Power, reset and life cycle (19), and the balls (21) -/

/-- 19 R469 to R496 and 21 R529 to R531: the commands of the domains, of the RTC, of power fail, of the clock and of the rails complete, each with the whole
effect given; those without a reset hypothesis run beside every reset. -/
def Obligations.PowerCommandsComplete : Prop :=
  (∀ (d : Fin 12) (dt : Nat) (s : State), s.pwr.rst = none → tget 0 s.pwr.changing d.val = 1 → gives (.domainWakeDone d dt) s (domDone d 0 (s.tick dt)))
  ∧ (∀ (d : Fin 12) (dt : Nat) (s : State), s.pwr.rst = none → 2 ≤ tget 0 s.pwr.changing d.val → domQuiet (s.tick dt) d = true →
    let u := domDone d (tget 0 s.pwr.changing d.val - 1) (s.tick dt)
    gives (.domainEntryDone d dt) s (if u.flag (R.PWR_DOM_IN_USE d) ∧ !tbit u.pwr.shed d then domStart d 0 u else u))
  ∧ (∀ s : State, gives .xtalStop s
      (rtcInvalid ((s.setPwr { s.pwr with rtcSec := (rtcNow s).1, rtcSub := (rtcNow s).2, rtcUp := s.up, rtcRun := false }).put R.PWR_RTC_STAT_XTAL_OK 0)))
  ∧ (∀ s : State, s.pwr.rtcRun = false →
    gives .xtalRestart s ((s.setPwr { s.pwr with rtcUp := s.up, rtcRun := true }).put R.PWR_RTC_STAT_XTAL_OK 1))
  ∧ (∀ s : State, s.pwr.rst = none → s.flag R.ETM_CTL_RTC_SYNC_EN = false →
    gives .rtcLoad s (rtcSet (s.get R.PWR_RTC_SET_LO_SET + s.get R.PWR_RTC_SET_HI_SET * 2 ^ 32) (s.get R.PWR_RTC_SET_SUB_SET) s))
  ∧ (∀ s : State, s.pwr.rst = none → s.flag R.PWR_RTC_STAT_RTC_VALID = true →
    gives .rtcInvalidate s (pwrEvt R.PWR_EVT_RTC_INVALID (s.put R.PWR_RTC_STAT_RTC_VALID 0)))
  ∧ (∀ (dt : Nat) (s : State), gives (.pfail dt) s (pfail (s.tick dt)))
  ∧ (∀ (dt : Nat) (s : State), s.flag R.PWR_STAT_PFAIL = true → gives (.pfailNRise dt) s ((s.tick dt).setPwr { s.pwr with rearm := some (s.tick dt).up }))
  ∧ (∀ (dt n : Nat) (s : State), s.pwr.rearm = some n → s.flag R.PWR_STAT_PFAIL = true →
    n + s.get R.PWR_PFAIL_CFG_REARM * msCounts ≤ (s.tick dt).up →
    let u := (s.tick dt).setPwr { s.pwr with rearm := none, shed := 0, shedAny := false }
    let u := pwrEvt R.PWR_EVT_PFAIL_CLR ((u.put R.PWR_STAT_PFAIL 0).put R.PWR_STAT_SHED 0)
    gives (.pfailClr dt) s (if s.pwr.shedAny then logRec 0x195 (leBytes 4 (rdWord u 0x010028)) u else u))
  ∧ (∀ (stopped : Bool) (dt : Nat) (s : State),
    let u := (s.tick dt).setPwr { s.pwr with oscStop := s.pwr.oscStop || stopped }
    (s.flag R.PWR_STAT_BACKUP = false → s.pwr.rst = none → gives (.syspllLoss stopped dt) s (spllLeave true u))
    ∧ (s.flag R.PWR_STAT_BACKUP = false → s.pwr.rst ≠ none →
      gives (.syspllLoss stopped dt) s (spllUnlock ((u.setPwr { u.pwr with strokesB := 0 }).put R.PWR_STAT_BACKUP 1)))
    ∧ (s.flag R.PWR_STAT_BACKUP = true → s.flag R.PWR_SPLL_STAT_LOCK = true → gives (.syspllLoss stopped dt) s (spllUnlock u))
    ∧ (s.flag R.PWR_STAT_BACKUP = true → s.flag R.PWR_SPLL_STAT_LOCK = false → gives (.syspllLoss stopped dt) s (u.put R.PWR_SPLL_CNT_STABLE_CNT 0)))
  ∧ (∀ s : State, s.pwr.rst = none → s.now = s.gen.edgeNow → spllReady s = true →
    let u : State := { s with etm := { s.etm with backupTo := some s.raw } }
    let u := bndReturn (((u.put R.PWR_STAT_BACKUP 0).put R.ETM_STAT_BACKUP_CLK 0).put R.PWR_STAT_RET_PEND 0)
    let u := lanesClock (pwrEvt R.PWR_EVT_SPLL_RETURN u)
    gives .spllReturn s (logRec 0x192 (spllStatBytes u ++ leBytes 4 u.pwr.strokesB) u))
  ∧ (∀ s : State, s.pwr.rst = none → s.flag R.PWR_STAT_BACKUP = true → gives .spllReturnWrite s (s.put R.PWR_STAT_RET_PEND 1))
  ∧ (∀ (w : Fin 4) (v : BitVec 32) (s : State), s.pwr.rst = none → gives (.spllPlanWrite w v) s (writeCode .image (0x010010 + 4 * w.val) v.toNat s).2)
  ∧ (∀ s : State, s.pwr.vddioH = true →
    gives .vbatFall s (s.put R.PWR_STAT_VBAT_LOW 1) ∧ gives .vbatRise s (s.put R.PWR_STAT_VBAT_LOW 0))
  ∧ (∀ (b : Fin 4) (s : State), gives (.bankRailLow b) s (s.setPwr { s.pwr with banks := withBit s.pwr.banks b true })
    ∧ gives (.bankRailRestored b) s (s.setPwr { s.pwr with banks := withBit s.pwr.banks b false }))

/-- 19 R484 to R487, R491 to R493 and 21 R529: the commands of the resets and of the life cycle complete, each with the whole effect given. -/
def Obligations.ResetCommandsComplete : Prop :=
  (∀ s : State,
    let bor := s.pwr.rst.elim false (·.bor)
    gives .porRise s (s.setPwr { s.pwr with rst := some { kind := .por, bor := bor, from' := s.up, rails := some s.up }, lcReq := none, vddioH := true }))
  ∧ (∀ (h : Bool) (s : State), gives (.brownout h) s (brownout h s))
  ∧ (∀ (dt : Nat) (s : State),
    let u := (s.tick dt).setPwr { s.pwr with rst := some { kind := .pin, src := 0, from' := (s.tick dt).up } }
    let u := ({ u with flt := { u.flt with errnUntil := none, chipReq := none } } : State).put R.FLT_STAT_ERR_N_ACT 0
    let u := if u.get R.KEY_STAT_TXN_STATE = 1 then logRec 0x178 [] (keyIdle u) else u
    (s.pwr.rst = none → gives (.pinReset dt) s (flushStart false u))
    ∧ (s.pwr.rst ≠ none → gives (.pinReset dt) s (s.tick dt)))
  ∧ (∀ (dt : Nat) (s : State), s.pwr.rst = none → gives (.hostReset 0x5A dt) s (resetBegin .host 0 (s.tick dt)))
  ∧ (∀ (t : Nat) (r : RstSt) (s : State), s.pwr.rst = some r → r.kind ≠ .por →
    (r.kind = .fault ∨ s.flag R.REC_STAT_FLUSHING = false ∨ 12 * msCounts ≤ t) →
    gives (.resetRelease t) s (resetRelease r (s.flag R.REC_STAT_FLUSHING) true { s with up := max s.up (r.from' + t) }))
  ∧ (∀ (t n : Nat) (locked : Bool) (straps : BitVec 4) (r : RstSt) (s : State), s.pwr.rst = some r → r.kind = .por → r.rails = some n → msCounts ≤ t →
    (locked = true ∨ 21 * msCounts ≤ t) → gives (.porRelease t locked straps) s
      (resetRelease r false locked { s with pwr := { s.pwr with straps := straps.toNat }, up := max s.up (n + t) }))
  ∧ (∀ (target : BitVec 3) (confirm : BitVec 8) (s : State), s.pwr.rst = none → lcResult s target.toNat confirm.toNat = 0 →
    gives (.lcRequest target confirm) s
      ((((s.put R.GEN_LC_REQ_TARGET target.toNat).put R.GEN_LC_REQ_CONFIRM confirm.toNat).put R.GEN_LC_REQ_RESULT 0).setPwr { s.pwr with lcReq := some target.toNat }))
  ∧ (∀ (tgt : Nat) (s : State), s.pwr.lcReq = some tgt → lcReady s = true →
    let from' := s.get R.GEN_LC_STATE
    let u := (s.setPwr { s.pwr with lcReq := none }).put R.GEN_LC_STATE tgt
    let u := if from' = 3 ∧ tgt = 2 then u.addSat R.GEN_LC_RETURNS 1 else u
    gives .lcOtpWritten s (resetBegin .lc 0 (lcErase from' tgt (logRec 0x193 [from', tgt] u))))

/-- The whole-machine rule of 19 R484 and R485 as the model takes it (its gate is the model's, log entry 61): while a reset is in progress only the commands of
PD_AO, of the resets, of the two seals, of the flush, of the clock and of the TAP act; every other command leaves the whole state as it is. -/
def Obligations.ResetGatesTheBlock : Prop :=
  ∀ (c : Instr) (s : State), s.pwr.rst ≠ none →
    (match c with
      | .commitDone | .flushDone | .nvmSealDone | .xtalStop | .xtalRestart | .pfail _ | .pfailClr _ | .pfailNRise _ | .porRise | .brownout _ | .pinReset _
      | .resetRelease _ | .porRelease _ _ _ | .syspllLoss _ _ | .lcOtpWritten | .vbatFall | .vbatRise | .bankRailLow _ | .bankRailRestored _
      | .tckEdge _ _ _ _ _ => True
      | _ => exec c s = .next s)

/-- 19 R492, R493: a request to change the life cycle is judged (in an order that is the model's, log entry 62): 4 busy, 2 a wrong CONFIRM, 1 a pair of
states that has no transition, 3 no return left, 0 accepted; the state itself does not change yet, an accepted request waits for the OTP write, and a refused one leaves what waits as it is. -/
def Obligations.LifeCycleRequestIsJudged : Prop :=
  ∀ (target : BitVec 3) (confirm : BitVec 8) (s : State), s.pwr.rst = none →
    let st := s.get R.GEN_LC_STATE
    let tgt := target.toNat
    ∃ t, exec (.lcRequest target confirm) s = .next t ∧ t.get R.GEN_LC_STATE = st ∧
      (s.pwr.lcReq ≠ none → t.get R.GEN_LC_REQ_RESULT = 4 ∧ t.pwr = s.pwr) ∧
      (s.pwr.lcReq = none → confirm ≠ 0xC5 → t.get R.GEN_LC_REQ_RESULT = 2 ∧ t.pwr = s.pwr) ∧
      (s.pwr.lcReq = none → confirm = 0xC5 → (st = 4 ∨ tgt ≤ 1 ∨ 5 ≤ tgt ∨ st = tgt ∨ (st = 1 ∧ tgt = 3)) → t.get R.GEN_LC_REQ_RESULT = 1 ∧ t.pwr = s.pwr) ∧
      (s.pwr.lcReq = none → confirm = 0xC5 → st = 3 → tgt = 2 → 8 ≤ s.get R.GEN_LC_RETURNS → t.get R.GEN_LC_REQ_RESULT = 3 ∧ t.pwr = s.pwr) ∧
      (s.pwr.lcReq = none → confirm = 0xC5 → ((st = 1 ∧ tgt = 2) ∨ (st = 2 ∧ tgt = 3) ∨ (st = 3 ∧ tgt = 2 ∧ s.get R.GEN_LC_RETURNS < 8) ∨
        (tgt = 4 ∧ 1 ≤ st ∧ st ≤ 3)) → t.get R.GEN_LC_REQ_RESULT = 0 ∧ t.pwr = { s.pwr with lcReq := some tgt }) ∧
      (∀ a, a ≠ R.GEN_LC_REQ_TARGET.addr → rdWord t a = rdWord s a) ∧ t.edge = s.edge ∧ t.nvm = s.nvm ∧ t.key = s.key

/-- 21 R545: the TAP's commands complete in every state, reset or not: TRST_N low goes to Test-Logic-Reset with IDCODE selected, and an edge of TCK moves the TAP;
no edge changes anything outside the TAP. -/
def Obligations.TckEdgeMovesTheTapAlone : Prop :=
  ∀ (rise tms tdi : Bool) (pins : List Bool) (s : State),
    gives (.tckEdge rise tms tdi true pins) s { s with jtag := { s.jtag with tap := 0, op := 1 } }
    ∧ gives (.tckEdge true tms tdi false pins) s (tckRise tms tdi pins s)
    ∧ gives (.tckEdge false tms tdi false pins) s (tckFall s)
    ∧ (∀ trst, ∃ t, exec (.tckEdge rise tms tdi trst pins) s = .next t ∧ { t with jtag := s.jtag } = s)

/-- 21 R545 (IEEE 1149.1): five rising edges of TCK with TMS high bring the TAP from any of its sixteen states to Test-Logic-Reset. -/
def Obligations.FiveTmsEdgesResetTheTap : Prop :=
  ∀ (tdi : Bool) (pins : List Bool) (s : State), s.jtag.tap < 16 →
    ∃ a b c d e, exec (.tckEdge true true tdi false pins) s = .next a ∧ exec (.tckEdge true true tdi false pins) a = .next b ∧
      exec (.tckEdge true true tdi false pins) b = .next c ∧ exec (.tckEdge true true tdi false pins) c = .next d ∧
      exec (.tckEdge true true tdi false pins) d = .next e ∧ e.jtag.tap = 0 ∧ e.jtag.op = 1

/-! ## Start-up, the NVM and host access (20) -/

/-- 20 R498 to R513: the commands of start-up, of the image and of the NVM complete, each with the whole effect given. CFG_STAT.STATE: 0 FETCH, 1 CHECK,
2 APPLY, 3 RESTORE, 4 RUN, 5 FAILSAFE, 6 HALT; NVM_STATE: 0 IDLE, 1 ERASE, 2 WRITE, 3 SEAL. -/
def Obligations.StartUpCommandsComplete : Prop :=
  (∀ (ha hb : List Byte) (s : State), s.pwr.rst = none → s.get R.CFG_STAT_STATE = 0 →
    let a := ha.map (·.toNat)
    let b := hb.map (·.toNat)
    let x := if hdrGood a then [0] else []
    let y := if hdrGood b then [1] else []
    let u := s.setCfg { s.cfg with cands := if imgLe a 8 4 < imgLe b 8 4 then y ++ x else x ++ y }
    gives (.headersRead ha hb) s (checkNext (u.put R.CFG_STAT_STATE 1)))
  ∧ (∀ (img : List Byte) (slot : Nat) (r : List Nat) (s : State), s.pwr.rst = none → s.get R.CFG_STAT_STATE = 1 → s.cfg.cands = slot :: r →
    let b := img.map (·.toNat)
    (imgReason s b = 0 → gives (.candidateChecked img) s (imgPass slot b s))
    ∧ (imgReason s b ≠ 0 → gives (.candidateChecked img) s (imgReject slot (imgReason s b) s)))
  ∧ (∀ s : State, s.pwr.rst = none → s.get R.CFG_STAT_STATE = 2 →
    (s.cfg.waitTo ≠ 0 → s.cfg.waitTo ≤ s.strokes → gives .applyWaitExpire s (applyRecs s.cfg.recs s))
    ∧ (s.cfg.waitTo = 0 → s.cfg.recs = [] → gives .imageApplied s (imgApplied s)))
  ∧ (∀ s : State, s.pwr.rst = none → s.get R.CFG_STAT_STATE = 3 → s.cfg.runDue = false → s.gen.waiting = [] →
    let u := storesRest s
    gives .restoreDone s (u.setCfg { u.cfg with runDue := true }))
  ∧ (∀ s : State, s.pwr.rst = none → s.flag R.CFG_STAT_LOCKED = false →
    gives .cfgLock s (logRec 0x1A8 [] (cfgEvt R.CFG_EVT_LOCK (s.put R.CFG_STAT_LOCKED 1))))
  ∧ (∀ (m : BitVec 3) (s : State), s.pwr.rst = none →
    let u := s.put R.CFG_CMD_SET m.toNat
    gives (.nvmStore m) s (u.put R.CFG_NVM_STAT_PEND (u.get R.CFG_NVM_STAT_PEND ||| m.toNat)))
  ∧ (∀ s : State, s.pwr.rst = none →
    let h := s.get R.CFG_NVM_CFG_LEARN_HRS * 3600 * 8000
    let n := s.strokes - 1
    let u := storeAsk 2 (s.setCfg { s.cfg with learnAt := n / h * h })
    (h ≠ 0 → s.cfg.learnAt + h ≤ n → s.cfg.fullDue = false → gives .learnStoreTimer s u)
    ∧ (h = 0 ∨ n < s.cfg.learnAt + h → s.cfg.fullDue = true → s.flag R.CFG_NVM_CFG_ON_FULL = true →
      gives .learnStoreTimer s (storeAsk 2 (s.setCfg { s.cfg with fullDue := false })))
    ∧ (h ≠ 0 → s.cfg.learnAt + h ≤ n → s.cfg.fullDue = true → s.flag R.CFG_NVM_CFG_ON_FULL = true →
      gives .learnStoreTimer s (storeAsk 2 (u.setCfg { u.cfg with fullDue := false }))))
  ∧ (∀ s : State, s.pwr.rst = none → s.get R.CFG_NVM_STAT_NVM_STATE = 0 → s.get R.CFG_NVM_STAT_PEND ≠ 0 → cfgRuns s = true →
    let u := s.setCfg { s.cfg with timer := s.up, cap := none, capDue := true }
    gives .nvmStoreStart s ((u.put R.CFG_NVM_STAT_CUR (lowStore (s.get R.CFG_NVM_STAT_PEND))).put R.CFG_NVM_STAT_NVM_STATE 1))
  ∧ (∀ s : State, s.pwr.rst = none → s.get R.CFG_NVM_STAT_NVM_STATE = 1 → s.cfg.capDue = false →
    let a := storeArea s.nvm (s.get R.CFG_NVM_STAT_CUR)
    let q := storeNext s.nvm (s.get R.CFG_NVM_STAT_CUR)
    gives .nvmEraseDone s
      ((s.setNvm { s.nvm with copies := tset none s.nvm.copies a none, torn := tset none s.nvm.torn a (some q) }).put R.CFG_NVM_STAT_NVM_STATE 2))
  ∧ (∀ s : State, s.pwr.rst = none → s.get R.CFG_NVM_STAT_NVM_STATE = 2 →
    gives (.nvmWriteDone true) s (s.put R.CFG_NVM_STAT_NVM_STATE 3)
    ∧ gives (.nvmWriteDone false) s (gnssTold false ((s.put R.CFG_NVM_STAT_FAIL_WHY 3).put R.CFG_NVM_STAT_NVM_STATE 0)))
  ∧ (∀ (c : NvmCopy) (s : State), s.pwr.rst = none → s.get R.CFG_NVM_STAT_NVM_STATE = 3 → s.cfg.cap = some c → gives .nvmSealDone s (storeSealed s))
  ∧ (∀ (yielded dt : Nat) (s : State), s.pwr.rst = none → (s.get R.CFG_NVM_STAT_NVM_STATE = 1 ∨ s.get R.CFG_NVM_STAT_NVM_STATE = 2) →
    s.cfg.timer + yielded + s.get R.CFG_NVM_CFG_NVM_TMO * msCounts ≤ (s.tick dt).up →
    gives (.nvmTmo yielded dt) s (storeFail 2 (faultRaise 21 (s.tick dt))))
  ∧ (∀ s : State, s.pwr.rst = none → s.cfg.ovl.length < 8000 →
    let l := s.cfg.ovl ++ [(s.get R.CFG_OVL_ADDR_ADDR, s.get R.CFG_OVL_DATA_VALUE)]
    gives .ovlAppend s ((s.setCfg { s.cfg with ovl := l }).put R.CFG_OVL_CTL_N l.length))
  ∧ (∀ s : State, s.pwr.rst = none → gives .ovlClear s ((s.setCfg { s.cfg with ovl := [] }).put R.CFG_OVL_CTL_N 0))
  ∧ (∀ (k : Fin 4) (s : State), s.pwr.rst = none →
    let u := s.put R.CFG_IK_CMD_IDX k
    ((u.get R.GEN_LC_STATE = 1 ∨ u.get R.GEN_LC_STATE = 2) → tbit (u.get R.CFG_IK_STAT_ENROLLED) k = false →
      gives (.ikEnroll k) s ((u.setCfg { u.cfg with ik := tset 0 u.cfg.ik k (ikHash u) }).put (R.CFG_IK_STAT_ENROLLED.bitAt k) 1))
    ∧ (u.get R.GEN_LC_STATE ≠ 4 → tbit (u.get R.CFG_IK_STAT_ENROLLED) k = true →
      gives (.ikRevoke k) s (u.put (R.CFG_IK_STAT_REVOKED.bitAt k) 1)))
  ∧ (∀ (v : BitVec 32) (s : State), s.pwr.rst = none → s.get R.CFG_MIN_SEQ_MIN_SEQ < v.toNat →
    gives (.minSeqWrite v) s (s.put R.CFG_MIN_SEQ_MIN_SEQ v.toNat))

/-- 20 R514 to R521: the host transactions and the commands of privilege complete, each with the whole effect given: the words of an aligned transaction are
written or read in order, each with its own checks. -/
def Obligations.HostCommandsComplete : Prop :=
  (∀ (a : BitVec 24) (l : List Word) (dt : Nat) (s : State), s.pwr.rst = none → a.toNat % 4 = 0 →
    gives (.spiWrite a l false dt) s (writeWords .spi a.toNat (l.map (·.toNat)) (s.tick dt))
    ∧ gives (.spiQwrite a l false dt) s (writeWords .spi a.toNat (l.map (·.toNat)) (s.tick dt))
    ∧ gives (.i2cWrite (BitVec.ofNat 7 (i2cAddr s)) a l false dt) s (writeWords .i2c a.toNat (l.map (·.toNat)) (s.tick dt)))
  ∧ (∀ (a : BitVec 24) (n dt : Nat) (s : State), s.pwr.rst = none → a.toNat % 4 = 0 →
    let u := (s.tick dt).setHst { s.hst with out := [] }
    gives (.spiRead a n false dt) s (readWords .spi n a.toNat u)
    ∧ gives (.spiQread a n false dt) s (readWords .spi n a.toNat u)
    ∧ gives (.i2cRead (BitVec.ofNat 7 (i2cAddr s)) a n false dt) s (readWords .i2c n a.toNat u))
  ∧ (∀ (dev : BitVec 7) (a : BitVec 24) (l : List Word) (part : Bool) (n dt : Nat) (s : State), s.pwr.rst = none → dev.toNat ≠ i2cAddr s →
    gives (.i2cWrite dev a l part dt) s (s.tick dt) ∧ gives (.i2cRead dev a n part dt) s (s.tick dt))
  ∧ (∀ (dt : Nat) (s : State), s.pwr.rst = none →
    let u := hstTouch .spi (custSettle (s.tick dt))
    gives (.spiStatus dt) s (u.setHst { u.hst with out := [u.get (R.HST_STAT_ERR_CODE.ifc .spi) + 16 * bit (isCust u .spi)] }))
  ∧ (∀ (op : Byte) (dt : Nat) (s : State), s.pwr.rst = none →
    op.toNat ≠ 0x02 → op.toNat ≠ 0x0B → op.toNat ≠ 0x32 → op.toNat ≠ 0x6B → op.toNat ≠ 0x05 →
    let r := (hstTouch .spi (s.tick dt)).fresh 24
    gives (.spiUnknownOpcode op dt) s (accErr .spi 7 r.1 r.2))
  ∧ (∀ (j : Iface) (dt : Nat) (s : State), s.pwr.rst = none →
    let u := hstTouch j (custSettle (s.tick dt))
    (newServed u j = true → gives (.custNew j dt) s (chalPut j (leBytes 32 (rngDraw 256 u).1) (rngDraw 256 u).2))
    ∧ (tget [] u.hst.chal j.num ≠ [] → keyGate u 2 3 1 ≠ 1 →
      let resp := (List.range 8).flatMap (fun w => leBytes 4 (u.get ((R.HST_RESP_W0_RESP.word w).ifc j)))
      let v := chalPut j [] (keyUseNow 2 (msgWake u))
      (hmacOf (u.slot 2).key (custMsg u j 0) = resp → gives (.custVerify j dt) s (custSettle (custGain j none false v)))
      ∧ (hmacOf (u.slot 2).key (custMsg u j 0) ≠ resp → gives (.custVerify j dt) s
          (custFail j (v.setHst { v.hst with failAt := tset none v.hst.failAt j.num (some (v.now + secCounts)) }))))
    ∧ (ks2Usable u = false → u.get R.GEN_LC_STATE = 1 ∨ u.get R.GEN_LC_STATE = 2 → j ≠ .inband → gives (.custodianClaim j dt) s (custGain j none true u))
    ∧ gives (.custDrop j dt) s (custEnd j u))
  ∧ (∀ (j : Iface) (dt : Nat) (s : State), s.pwr.rst = none → s.get R.HST_MGMT_CFG_CUST_TMO ≠ 0 →
    tget 0 s.hst.last j.num + s.get R.HST_MGMT_CFG_CUST_TMO * 600 * secCounts ≤ (s.tick dt).now → gives (.custTimeout j dt) s (custEnd j (s.tick dt)))
  ∧ (∀ (j : Iface) (dt : Nat) (s : State), s.pwr.rst = none → newServed (s.tick dt) j = true →
    gives (.custFailWaitEnd j dt) s ((s.tick dt).setHst { s.hst with failAt := tset none s.hst.failAt j.num none }))
  ∧ (∀ (dt slot : Nat) (r : MgmtReq) (l : List MgmtReq) (s : State), s.pwr.rst = none → s.hst.reqs = r :: l →
    let u := (s.tick dt).setHst { s.hst with reqs := l }
    let b := r.msg
    let n := ofBe ((b.drop 2).take 2)
    b.getD 0 0 = 1 → b.getD 1 0 = 1 → 32 + n ≤ b.length → mgmtKey u (ofBe ((b.drop 4).take 4)) = some slot → keyGate u slot 3 1 ≠ 1 →
    (hmacOf (u.slot slot).key (b.take (16 + n))).take 16 = (b.drop (16 + n)).take 16 →
    gives (.mgmtRequest dt) s (mgmtServe r slot (keyUseNow slot (msgWake u))))

/-- 20 R517, 22 R557: a transaction whose address is no multiple of four is refused whole, whatever it would have written or read: the interface's error code is 1
and its error address is that address; no register outside HST, IRQ and PMC changes, nothing is queued for a Stroke edge, and no other interface's error shows. -/
def Obligations.UnalignedTransactionIsRefused : Prop :=
  ∀ (j : Iface) (a : BitVec 24) (v : BitVec 32) (dt : Nat) (s : State), s.pwr.rst = none → a.toNat % 4 ≠ 0 →
    ∃ t, exec (.registerWrite j a v dt) s = .next t ∧ t.get (R.HST_STAT_ERR_CODE.ifc j) = 1 ∧ t.get (R.HST_ERR_ADDR_ADDR.ifc j) = a.toNat ∧
      t.get R.HST_EVT_ACC_ERR = 1 ∧
      (∀ i : Iface, i ≠ j → t.get (R.HST_STAT_ERR_CODE.ifc i) = s.get (R.HST_STAT_ERR_CODE.ifc i) ∧ t.get (R.HST_ERR_ADDR_ADDR.ifc i) = s.get (R.HST_ERR_ADDR_ADDR.ifc i)) ∧
      (∀ k, winOf k ≠ 0x14 → winOf k ≠ 0x15 → winOf k ≠ 0x17 → rdWord t k = rdWord s k) ∧ t.gen = s.gen ∧ t.edge = s.edge ∧ t.key = s.key ∧ t.nvm = s.nvm

/-- 22 R556, 20 R517: a word written to an address that no register has is refused with code 6 and that address, with the same frame: what an unmapped address
would have held is nowhere. The premise that KS_2 is usable keeps privilege as it is. -/
def Obligations.UnmappedWriteIsRefused : Prop :=
  ∀ (j : Iface) (a : BitVec 24) (v : BitVec 32) (dt : Nat) (s : State), s.pwr.rst = none → a.toNat % 4 = 0 → mapped a.toNat = false → ks2Usable s = true →
    ∃ t, exec (.registerWrite j a v dt) s = .next t ∧ t.get (R.HST_STAT_ERR_CODE.ifc j) = 6 ∧ t.get (R.HST_ERR_ADDR_ADDR.ifc j) = a.toNat ∧
      t.get R.HST_EVT_ACC_ERR = 1 ∧
      (∀ k, winOf k ≠ 0x14 → winOf k ≠ 0x15 → winOf k ≠ 0x17 → rdWord t k = rdWord s k) ∧ t.gen = s.gen ∧ t.edge = s.edge ∧ t.key = s.key ∧ t.nvm = s.nvm

/-- 20 R510: MIN_SEQ can only be raised: written with v it reads the greater of v and what it read, and nothing else changes. -/
def Obligations.MinSeqOnlyRises : Prop :=
  ∀ (v : BitVec 32) (s : State), s.pwr.rst = none →
    ∃ t, exec (.minSeqWrite v) s = .next t ∧ t.get R.CFG_MIN_SEQ_MIN_SEQ = max (s.get R.CFG_MIN_SEQ_MIN_SEQ) v.toNat ∧
      (∀ k, k ≠ R.CFG_MIN_SEQ_MIN_SEQ.addr → rdWord t k = rdWord s k) ∧ t.edge = s.edge ∧ t.cfg = s.cfg ∧ t.nvm = s.nvm ∧ t.irq = s.irq

/-! ## The block -/

/-- The model's own queue (log entry 1): a step takes the command at the front of the queue, and is exec of it on the state with the queue's rest; on an empty
queue the block idles. -/
def Obligations.StepRunsTheFrontCommand : Prop :=
  ∀ s : State, (∀ c rest, s.pending = c :: rest → step s = exec c { s with pending := rest }) ∧ (s.pending = [] → step s = .next s)

/-- The commands of the queue run first in, first out, and none of them stops the block (log entry 1): from every state, after n steps the block stands in a state
whose queue has lost its first n commands, whatever the commands and the state are; no command puts another into the queue. -/
def Obligations.QueueRunsFirstInFirstOut : Prop :=
  ∀ (n : Nat) (s : State), ∃ t, s.afterSteps n = some t ∧ t.pending = s.pending.drop n

/-- Every step keeps the queue's commands well formed (log entry 1). -/
def Obligations.StepKeepsTheQueueWellFormed : Prop :=
  ∀ s t : State, (∀ c ∈ s.pending, c.wf = true) → step s = .next t → ∀ c ∈ t.pending, c.wf = true

/-- 00 R7, R8: a field written reads back what it can hold, a field that shares no bit with it reads as before, whichever register either is in, and the register
file keeps its canonical form, in which equal register files are equal data. -/
def Obligations.FieldsReadBackWhatIsWritten : Prop :=
  ∀ (f g : Fld) (v : Nat) (s : State), f.lo ≤ f.hi → f.hi < 32 → g.lo ≤ g.hi → g.hi < 32 →
    (s.put f v).get f = v % 2 ^ (f.hi - f.lo + 1) ∧
    (f.addr ≠ g.addr ∨ f.hi < g.lo ∨ g.hi < f.lo → (s.put f v).get g = s.get g) ∧
    (twf resetWord s.regs = true → twf resetWord (s.put f v).regs = true)

/-- What reset leaves: no command waits, no reset is in progress, no Stroke edge has come, no key, no record and no frame is held, every register reads its reset
word, and the tables of registers, of registers at the last edge and of retained bytes have their canonical form. The life cycle's value is the model's choice
(log entry 6). -/
def Obligations.ResetLeavesTheBlockEmpty : Prop :=
  State.reset.pending = [] ∧ State.reset.pwr.rst = none ∧ State.reset.strokes = 0 ∧ State.reset.key.slots = [] ∧ State.reset.rcd.ring = [] ∧
    State.reset.mac.hrx = [] ∧ State.reset.mac.htx = [] ∧ State.reset.lan.lanes = [] ∧ State.reset.flt.clrReq = none ∧
    (∀ a, rdWord State.reset a = (resetWord a).toNat) ∧
    twf resetWord State.reset.regs = true ∧ twf resetWord State.reset.edge = true ∧ twf (fun _ => (0 : Byte)) State.reset.ret = true
end

