-- ==== Sys2Proof/Laws/Tbl.lean ====
section
/-! SUPPORT. The laws of sparse tables: a read after a write, and the canonical form kept by every write. -/

namespace Sys2Proof.Machine

variable {α : Type}

@[simp] theorem tget_tdel_same (d : α) (t : Tbl α) (k : Nat) : tget d (tdel t k) k = d := by
  induction t with
  | nil => rfl
  | cons e t ih => obtain ⟨a, v⟩ := e; simp only [tdel]; split <;> simp_all [tget]

theorem tget_tdel_other (d : α) (t : Tbl α) {k j : Nat} (h : j ≠ k) : tget d (tdel t k) j = tget d t j := by
  induction t with
  | nil => rfl
  | cons e t ih => obtain ⟨a, v⟩ := e; simp only [tdel]; split <;> simp_all [tget, Ne.symm h]

theorem tget_tdel_twice (t : Tbl α) (k : Nat) : ∀ e ∈ tdel t k, e.1 ≠ k := by
  induction t with
  | nil => simp [tdel]
  | cons e t ih =>
    obtain ⟨a, v⟩ := e; simp only [tdel]; split
    · exact ih
    · intro e he
      rcases List.mem_cons.mp he with rfl | he
      · assumption
      · exact ih e he

@[simp] theorem tget_tins_same (d : α) (t : Tbl α) (k : Nat) (v : α) (h : ∀ e ∈ t, e.1 ≠ k) : tget d (tins k v t) k = v := by
  induction t with
  | nil => simp [tins, tget]
  | cons e t ih => obtain ⟨a, w⟩ := e; simp only [tins]; split <;> simp_all [tget]

theorem tget_tins_other (d : α) (t : Tbl α) {k j : Nat} (v : α) (h : j ≠ k) : tget d (tins k v t) j = tget d t j := by
  induction t with
  | nil => simp [tins, tget, Ne.symm h]
  | cons e t ih => obtain ⟨a, w⟩ := e; simp only [tins]; split <;> simp_all [tget, Ne.symm h]

theorem tsorted_tail {e : Nat × α} {t : Tbl α} (h : tsorted (e :: t) = true) : tsorted t = true := by
  cases t with
  | nil => rfl
  | cons e' t => obtain ⟨a, v⟩ := e; obtain ⟨b, w⟩ := e'; simp_all [tsorted]

theorem tsorted_head_lt {a : Nat} {v : α} {t : Tbl α} (h : tsorted ((a, v) :: t) = true) : ∀ e ∈ t, a < e.1 := by
  induction t generalizing a v with
  | nil => simp
  | cons e' t ih =>
    obtain ⟨b, w⟩ := e'
    simp only [tsorted, Bool.and_eq_true, decide_eq_true_eq] at h
    intro e he
    rcases List.mem_cons.mp he with rfl | he
    · exact h.1
    · exact h.1.trans (ih h.2 e he)

theorem tsorted_cons {a : Nat} {v : α} {t : Tbl α} (h : ∀ e ∈ t, a < e.1) (ht : tsorted t = true) : tsorted ((a, v) :: t) = true := by
  cases t with
  | nil => rfl
  | cons e t => obtain ⟨b, w⟩ := e; simp_all [tsorted]

theorem tdel_subset (t : Tbl α) (k : Nat) : ∀ e ∈ tdel t k, e ∈ t := by
  induction t with
  | nil => simp [tdel]
  | cons e t ih =>
    obtain ⟨a, v⟩ := e; simp only [tdel]; split
    · intro e he; exact List.mem_cons_of_mem _ (ih e he)
    · intro e he
      rcases List.mem_cons.mp he with rfl | he
      · simp
      · exact List.mem_cons_of_mem _ (ih e he)

theorem tdel_sorted (t : Tbl α) (k : Nat) (h : tsorted t = true) : tsorted (tdel t k) = true := by
  induction t with
  | nil => rfl
  | cons e t ih =>
    obtain ⟨a, v⟩ := e; simp only [tdel]; split
    · exact ih (tsorted_tail h)
    · exact tsorted_cons (fun e he => tsorted_head_lt h e (tdel_subset t k e he)) (ih (tsorted_tail h))

theorem tins_mem (t : Tbl α) (k : Nat) (v : α) : ∀ e ∈ tins k v t, e = (k, v) ∨ e ∈ t := by
  induction t with
  | nil => simp [tins]
  | cons e t ih =>
    obtain ⟨a, w⟩ := e; simp only [tins]; split
    · intro e he; rcases List.mem_cons.mp he with rfl | he <;> simp_all
    · intro e he
      rcases List.mem_cons.mp he with rfl | he
      · simp
      · rcases ih e he with rfl | h <;> simp_all

theorem tins_sorted (t : Tbl α) (k : Nat) (v : α) (h : tsorted t = true) (hk : ∀ e ∈ t, e.1 ≠ k) : tsorted (tins k v t) = true := by
  induction t with
  | nil => rfl
  | cons e t ih =>
    obtain ⟨a, w⟩ := e; simp only [tins]; split
    · rename_i hlt
      refine tsorted_cons (fun e he => ?_) h
      rcases List.mem_cons.mp he with rfl | he
      · exact hlt
      · exact hlt.trans (tsorted_head_lt h e he)
    · rename_i hlt
      refine tsorted_cons (fun e he => ?_) (ih (tsorted_tail h) fun e he => hk e (List.mem_cons_of_mem _ he))
      rcases tins_mem t k v e he with rfl | he
      · have := hk (a, w) (by simp); simp at this hlt ⊢; omega
      · exact tsorted_head_lt h e he

variable [DecidableEq α]

/-- A read of the key just written gives the value written. -/
@[simp] theorem tget_tset_same (d : α) (t : Tbl α) (k : Nat) (v : α) : tget d (tset d t k v) k = v := by
  unfold tset; split
  · simp_all
  · exact tget_tins_same d _ k v (tget_tdel_twice t k)

/-- A write of one key leaves every other key alone, whatever the default. -/
theorem tget_tset_other (d d' : α) (t : Tbl α) {k j : Nat} (v : α) (h : j ≠ k) : tget d' (tset d t k v) j = tget d' t j := by
  unfold tset; split
  · exact tget_tdel_other d' t h
  · rw [tget_tins_other _ _ _ h, tget_tdel_other _ _ h]

/-- Both laws at once. -/
theorem tget_tset (d : α) (t : Tbl α) (k j : Nat) (v : α) : tget d (tset d t k v) j = if j = k then v else tget d t j := by
  split
  · subst_vars; simp
  · exact tget_tset_other _ _ _ _ ‹_›

/-- A write keeps the canonical form, where it takes the default of its key. -/
theorem twf_tset (d : Nat → α) (t : Tbl α) (k : Nat) (v : α) (h : twf d t = true) : twf d (tset (d k) t k v) = true := by
  simp only [twf, Bool.and_eq_true, List.all_eq_true, decide_eq_true_eq] at h ⊢
  have hd := tdel_sorted t k h.1
  unfold tset; split
  · exact ⟨hd, fun e he => h.2 e (tdel_subset t k e he)⟩
  · refine ⟨tins_sorted _ k v hd (tget_tdel_twice t k), fun e he => ?_⟩
    rcases tins_mem _ k v e he with rfl | he
    · assumption
    · exact h.2 e (tdel_subset t k e he)

end Sys2Proof.Machine
end

