-- ==== Sys2Proof/Laws/Regs.lean ====
section
/-! SUPPORT. The laws of register fields: a read after a write of the same field, and of a field that shares no bit with it. -/

namespace Sys2Proof.Machine

/-! ## Bits -/

/-- A number cut at a field: what lies below it, the field, and what lies above. -/
theorem bits_split (n hi lo : Nat) :
    n = n % 2 ^ lo + 2 ^ lo * (bits n hi lo + 2 ^ (hi - lo + 1) * (n / 2 ^ lo / 2 ^ (hi - lo + 1))) := by
  have a := Nat.mod_add_div n (2 ^ lo)
  have b := Nat.mod_add_div (n / 2 ^ lo) (2 ^ (hi - lo + 1))
  unfold bits
  rw [b]
  exact a.symm

/-- A field written: the parts below and above it stay. -/
theorem withBits_eq (n hi lo v : Nat) :
    withBits n hi lo v = n % 2 ^ lo + 2 ^ lo * (v % 2 ^ (hi - lo + 1) + 2 ^ (hi - lo + 1) * (n / 2 ^ lo / 2 ^ (hi - lo + 1))) := by
  have h := bits_split n hi lo
  unfold withBits
  generalize bits n hi lo = b at h ⊢
  generalize n / 2 ^ lo / 2 ^ (hi - lo + 1) = q at h ⊢
  generalize v % 2 ^ (hi - lo + 1) = c
  generalize n % 2 ^ lo = r at h ⊢
  subst h
  ring_nf
  omega

theorem bits_withBits_same (n hi lo v : Nat) : bits (withBits n hi lo v) hi lo = v % 2 ^ (hi - lo + 1) := by
  rw [withBits_eq, bits]
  have : (n % 2 ^ lo + 2 ^ lo * (v % 2 ^ (hi - lo + 1) + 2 ^ (hi - lo + 1) * (n / 2 ^ lo / 2 ^ (hi - lo + 1)))) / 2 ^ lo
      = v % 2 ^ (hi - lo + 1) + 2 ^ (hi - lo + 1) * (n / 2 ^ lo / 2 ^ (hi - lo + 1)) := by
    rw [Nat.add_mul_div_left _ _ (by positivity), Nat.div_eq_of_lt (Nat.mod_lt _ (by positivity)), zero_add]
  rw [this, Nat.add_mul_mod_self_left, Nat.mod_mod]

theorem testBit_withBits (n hi lo v i : Nat) :
    (withBits n hi lo v).testBit i = if lo ≤ i ∧ i < lo + (hi - lo + 1) then v.testBit (i - lo) else n.testBit i := by
  rw [withBits_eq, Nat.add_comm, Nat.testBit_two_pow_mul_add _ (Nat.mod_lt _ (by positivity)), Nat.add_comm (v % _),
    Nat.testBit_two_pow_mul_add _ (Nat.mod_lt _ (by positivity))]
  by_cases h : i < lo
  · rw [if_pos h, if_neg (by omega), Nat.testBit_mod_two_pow]; simp [h]
  · rw [if_neg h]
    by_cases h2 : i - lo < hi - lo + 1
    · rw [if_pos h2, if_pos (by omega), Nat.testBit_mod_two_pow]; simp [h2]
    · rw [if_neg h2, if_neg (by omega), Nat.testBit_div_two_pow, Nat.testBit_div_two_pow]
      congr 1; omega

theorem testBit_bits (n hi lo i : Nat) : (bits n hi lo).testBit i = (decide (i < hi - lo + 1) && n.testBit (i + lo)) := by
  rw [bits, Nat.testBit_mod_two_pow, Nat.testBit_div_two_pow]

theorem bits_withBits_other (n hi lo v hi' lo' : Nat) (h : hi' < lo ∨ hi < lo') (h1 : lo ≤ hi) (h2 : lo' ≤ hi') :
    bits (withBits n hi lo v) hi' lo' = bits n hi' lo' := by
  apply Nat.eq_of_testBit_eq
  intro i
  rw [testBit_bits, testBit_bits, testBit_withBits]
  by_cases hi1 : i < hi' - lo' + 1
  · rw [if_neg (by omega)]
  · simp [hi1]

theorem withBits_lt (n hi lo v : Nat) (hn : n < 2 ^ 32) (h : lo ≤ hi) (h' : hi < 32) : withBits n hi lo v < 2 ^ 32 := by
  apply Nat.lt_pow_two_of_testBit
  intro i hi'
  rw [testBit_withBits, if_neg (by omega)]
  exact Nat.testBit_lt_two_pow (hn.trans_le (Nat.pow_le_pow_right (by norm_num) hi'))

/-! ## Registers -/

/-- A field that lies in a 32-bit register. -/
def Fits (f : Fld) : Prop := f.lo ≤ f.hi ∧ f.hi < 32

/-- Two fields without a common bit. -/
def Apart (f g : Fld) : Prop := f.addr ≠ g.addr ∨ f.hi < g.lo ∨ g.hi < f.lo

theorem rdWord_lt (s : State) (k : Nat) : rdWord s k < 2 ^ 32 := BitVec.isLt _

@[simp] theorem rdWord_wrWord_same (s : State) (k v : Nat) : rdWord (wrWord s k v) k = v % 2 ^ 32 := by
  simp [rdWord, wrWord]

theorem rdWord_wrWord_other (s : State) {k j : Nat} (v : Nat) (h : j ≠ k) : rdWord (wrWord s k v) j = rdWord s j := by
  simp [rdWord, wrWord, tget_tset_other _ _ _ _ h]

/-- A field reads back what was written, cut to its width. -/
theorem get_put_same (s : State) (f : Fld) (v : Nat) (h : Fits f) : (s.put f v).get f = v % 2 ^ (f.hi - f.lo + 1) := by
  rw [State.get, State.put, rdWord_wrWord_same, Nat.mod_eq_of_lt (withBits_lt _ _ _ _ (rdWord_lt s _) h.1 h.2),
    bits_withBits_same]

/-- A write of one field leaves every field apart from it. -/
theorem get_put_other (s : State) (f g : Fld) (v : Nat) (hf : Fits f) (hg : Fits g) (h : Apart f g) : (s.put f v).get g = s.get g := by
  by_cases ha : g.addr = f.addr
  · rw [State.get, State.get, State.put, ha, rdWord_wrWord_same,
      Nat.mod_eq_of_lt (withBits_lt _ _ _ _ (rdWord_lt s _) hf.1 hf.2), bits_withBits_other]
    · rcases h with h | h | h
      · exact absurd ha.symm h
      · exact .inr h
      · exact .inl h
    · exact hf.1
    · exact hg.1
  · rw [State.get, State.get, State.put, rdWord_wrWord_other _ _ ha]

/-- The register file keeps its canonical form. -/
theorem wrWord_wf (s : State) (k v : Nat) (h : twf resetWord s.regs = true) : twf resetWord (wrWord s k v).regs = true :=
  twf_tset resetWord s.regs k _ h

theorem put_wf (s : State) (f : Fld) (v : Nat) (h : twf resetWord s.regs = true) : twf resetWord (s.put f v).regs = true :=
  wrWord_wf s _ _ h

theorem pub_wf (s : State) (f : Fld) (v : Nat) (h : twf resetWord s.edge = true) : twf resetWord (s.pub f v).edge = true :=
  twf_tset resetWord s.edge _ _ h

/-! ## The snapshot of the last edge -/

theorem getE_pub_same (s : State) (f : Fld) (v : Nat) (h : Fits f) : (s.pub f v).getE f = v % 2 ^ (f.hi - f.lo + 1) := by
  simp only [State.getE, State.pub, tget_tset_same, BitVec.toNat_ofNat]
  rw [Nat.mod_eq_of_lt (withBits_lt _ _ _ _ (BitVec.isLt _) h.1 h.2), bits_withBits_same]

theorem get_pub (s : State) (f g : Fld) (v : Nat) : (s.pub f v).get g = (s.put f v).get g := rfl

theorem edge_fold (r : Tbl Word) (l : List Nat) (e : Tbl Word) (k : Nat) :
    tget (resetWord k) (l.foldl (fun e a => tset (resetWord a) e a (tget (resetWord a) r a)) e) k =
      if k ∈ l then tget (resetWord k) r k else tget (resetWord k) e k := by
  induction l generalizing e with
  | nil => simp
  | cons a l ih =>
    rw [List.foldl_cons, ih]
    by_cases hl : k ∈ l
    · simp [hl]
    · by_cases ha : k = a
      · subst ha; simp
      · simp [hl, ha, tget_tset_other _ _ _ _ ha]

/-- What is published again reads at the edge as it reads now; the rest of the snapshot stays. -/
theorem getE_repub (s : State) (l : List Nat) (f : Fld) : (s.repub l).getE f = if f.addr ∈ l then s.get f else s.getE f := by
  simp only [State.getE, State.repub, edge_fold, State.get, rdWord]
  split <;> rfl

theorem get_repub (s : State) (l : List Nat) (f : Fld) : (s.repub l).get f = s.get f := rfl

theorem getE_put (s : State) (f g : Fld) (v : Nat) : (s.put f v).getE g = s.getE g := rfl

end Sys2Proof.Machine
end

