-- ==== Sys2Proof/Laws/Irq.lean ====
section
/-! SUPPORT. What an interrupt request, a claim and a counted event can change: the registers of IRQ and PMC, and the state that
those two blocks keep, nothing else. -/

namespace Sys2Proof.Machine

/-- t is s but for the words of IRQ and PMC and the state of the two blocks. -/
def IrqOnly (s t : State) : Prop :=
  t = { s with regs := t.regs, irq := t.irq, pmc := t.pmc } ∧
    ∀ k, winOf k ≠ 0x14 → winOf k ≠ 0x15 → rdWord t k = rdWord s k

theorem IrqOnly.refl (s : State) : IrqOnly s s := ⟨rfl, fun _ _ _ => rfl⟩

theorem IrqOnly.trans {s t u : State} (a : IrqOnly s t) (b : IrqOnly t u) : IrqOnly s u := by
  refine ⟨?_, fun k h1 h2 => (b.2 k h1 h2).trans (a.2 k h1 h2)⟩
  rw [b.1, a.1]

/-- A field outside the two windows reads as before. -/
theorem IrqOnly.get {s t : State} (a : IrqOnly s t) (f : Fld) (h1 : winOf f.addr ≠ 0x14) (h2 : winOf f.addr ≠ 0x15) :
    t.get f = s.get f := by simp [State.get, a.2 _ h1 h2]

theorem irqOnly_put (s : State) (f : Fld) (v : Nat) (h : winOf f.addr = 0x14 ∨ winOf f.addr = 0x15) : IrqOnly s (s.put f v) := by
  refine ⟨rfl, fun k h1 h2 => ?_⟩
  rw [State.put, rdWord_wrWord_other]
  rintro rfl; tauto

theorem irqOnly_irq (s : State) (v : IrqSt) : IrqOnly s { s with irq := v } := ⟨rfl, fun _ _ _ => rfl⟩

theorem irqOnly_pmc (s : State) (v : PmcSt) : IrqOnly s { s with pmc := v } := ⟨rfl, fun _ _ _ => rfl⟩

/-- A fold of steps that each stay inside stays inside. -/
theorem irqOnly_fold {α : Type} (f : State → α → State) (h : ∀ s a, IrqOnly s (f s a)) (l : List α) (s : State) : IrqOnly s (l.foldl f s) := by
  induction l generalizing s with
  | nil => exact .refl s
  | cons a l ih => exact (h s a).trans (ih _)

/-- A key that lies in a window by its base and a bounded offset. -/
theorem winOf_eq {k w : Nat} (h1 : w * 0x10000 ≤ k) (h2 : k < (w + 1) * 0x10000) (h3 : w < 256) : winOf k = w := by
  unfold winOf; omega

theorem get_lt (s : State) (f : Fld) : s.get f < 2 ^ (f.hi - f.lo + 1) := Nat.mod_lt _ (by positivity)

theorem srcTarget_lt (s : State) (src : Nat) : s.get (R.IRQ_SRC_TARGET src) < 8 := get_lt s _

/-! ## Counting -/

theorem pmcOvf_only (n : Nat) (s : State) (h : n < 512) : IrqOnly s (pmcOvf n s) := by
  unfold pmcOvf
  refine ((irqOnly_put s _ _ (.inr ?_)).trans (irqOnly_put _ _ _ (.inr ?_))).trans (irqOnly_pmc _ _)
  · exact winOf_eq (by simp [R.PMC_OVF_OVF, Fld.bitAt]; omega) (by simp [R.PMC_OVF_OVF, Fld.bitAt]; omega) (by decide)
  · decide

theorem pmcCnt_win {n : Nat} (h : n < 512) : winOf (R.PMC_CNT_CNT n).addr = 0x15 :=
  winOf_eq (by simp [R.PMC_CNT_CNT]; omega) (by simp [R.PMC_CNT_CNT]; omega) (by decide)

theorem pmcBump_only (fuel n k : Nat) (s : State) (h : n < 512) : IrqOnly s (pmcBump fuel n k s) := by
  induction fuel generalizing n k s with
  | zero => exact .refl s
  | succ f ih =>
    have hp := irqOnly_put s (R.PMC_CNT_CNT n) ((s.get (R.PMC_CNT_CNT n) + k) % 2 ^ 32) (.inr (pmcCnt_win h))
    unfold pmcBump
    dsimp only
    split
    · exact hp
    · split
      · split
        · exact hp.trans (ih _ _ _ (by omega))
        · exact hp.trans (pmcOvf_only n _ h)
      · exact hp.trans (pmcOvf_only n _ h)

theorem pmcAdd0_only (n k : Nat) (c : PmcCtx) (s : State) (h : n < 512) : IrqOnly s (pmcAdd0 n k c s) := by
  unfold pmcAdd0
  split
  · exact .refl s
  · split
    · exact .refl s
    · split
      · exact .refl s
      · exact pmcBump_only _ _ _ _ h

theorem pmcBump_irq (fuel n k : Nat) (s : State) : (pmcBump fuel n k s).irq = s.irq := by
  induction fuel generalizing n k s with
  | zero => rfl
  | succ f ih =>
    unfold pmcBump
    dsimp only
    split
    · rfl
    · split
      · split
        · exact ih _ _ _
        · rfl
      · rfl

/-- Counting asks for its interrupt later: the targets stay as they are. -/
theorem pmcAdd0_irq (n k : Nat) (c : PmcCtx) (s : State) : (pmcAdd0 n k c s).irq = s.irq := by
  unfold pmcAdd0
  split
  · rfl
  · split
    · rfl
    · split
      · rfl
      · exact pmcBump_irq _ _ _ _

/-! ## Requests -/

theorem tgtField_win {t : Nat} (h : t < 8) : winOf (R.IRQ_TGT_COUNTS_DELIV_CNT t).addr = 0x14 :=
  winOf_eq (by simp [R.IRQ_TGT_COUNTS_DELIV_CNT]; omega) (by simp [R.IRQ_TGT_COUNTS_DELIV_CNT]; omega) (by decide)

theorem tgtAssert_only (t : Nat) (s : State) (h : t < 8) : IrqOnly s (tgtAssert t s) := by
  unfold tgtAssert
  exact ((irqOnly_irq s _).trans (irqOnly_put _ _ _ (.inl (tgtField_win h)))).trans (pmcAdd0_only _ _ _ _ (by omega))

theorem tgtGather_only (t : Nat) (s : State) (h : t < 8) : IrqOnly s (tgtGather t s) := by
  unfold tgtGather
  split
  · split
    · split
      · exact irqOnly_irq s _
      · exact tgtAssert_only t s h
    · exact .refl s
  · exact .refl s

theorem tgtFurther_only (t : Nat) (s : State) (h : t < 8) : IrqOnly s (tgtFurther t s) := by
  unfold tgtFurther
  dsimp only
  split
  · exact (irqOnly_irq s _).trans (irqOnly_irq _ _)
  · exact (irqOnly_irq s _).trans (tgtGather_only t _ h)

theorem pendField_win {src : Nat} (h : src < 256) : winOf ((R.IRQ_PEND_PEND (src / 32)).bitAt (src % 32)).addr = 0x14 :=
  winOf_eq (by simp [R.IRQ_PEND_PEND, Fld.bitAt]) (by simp [R.IRQ_PEND_PEND, Fld.bitAt]; omega) (by decide)

theorem irqSetPend_only (src : Nat) (b : Bool) (s : State) (h : src < 256) : IrqOnly s (irqSetPend src b s) :=
  irqOnly_put _ _ _ (.inl (pendField_win h))

theorem tgtArrive_only (t src : Nat) (s : State) (h : t < 8) (hs : src < 256) : IrqOnly s (tgtArrive t src s) := by
  unfold tgtArrive
  dsimp only
  split
  · exact (irqOnly_irq s _).trans (tgtGather_only t _ h)
  · exact (((irqSetPend_only src false s hs).trans (tgtGather_only t _ h)).trans (irqSetPend_only src true _ hs)).trans (tgtFurther_only t _ h)

theorem irqRequest0_only (src : Nat) (s : State) : IrqOnly s (irqRequest0 src s) := by
  unfold irqRequest0
  split
  · exact .refl s
  · rename_i h
    split
    · split
      · exact pmcAdd0_only _ _ _ _ (by omega)
      · exact (irqSetPend_only src true s (by omega)).trans (tgtArrive_only _ _ _ (srcTarget_lt s src) (by omega))
    · exact .refl s

theorem pmcSettle_only (s : State) : IrqOnly s (pmcSettle s) := by
  unfold pmcSettle
  split
  · exact (irqOnly_pmc s _).trans (irqRequest0_only _ _)
  · exact .refl s

/-- A request changes IRQ and PMC alone. -/
theorem irqRequest_only (src : Nat) (s : State) : IrqOnly s (irqRequest src s) := (irqRequest0_only src s).trans (pmcSettle_only _)

/-- A counted event changes IRQ and PMC alone. -/
theorem pmcAdd_only (n k : Nat) (c : PmcCtx) (s : State) (h : n < 512) : IrqOnly s (pmcAdd n k c s) :=
  (pmcAdd0_only n k c s h).trans (pmcSettle_only _)

/-- An event bit raised: the bit reads 1, and but for it only IRQ and PMC change. -/
theorem raiseEvt_only (f : Fld) (src : Nat) (s : State) : IrqOnly (s.put f 1) (raiseEvt f src s) := irqRequest_only src _

theorem raiseEvt_get_other (f g : Fld) (src : Nat) (s : State) (hf : Fits f) (hg : Fits g) (h : Apart f g)
    (h1 : winOf g.addr ≠ 0x14) (h2 : winOf g.addr ≠ 0x15) : (raiseEvt f src s).get g = s.get g := by
  rw [(raiseEvt_only f src s).get g h1 h2, get_put_other s f g 1 hf hg h]

theorem raiseEvt_get_same (f : Fld) (src : Nat) (s : State) (hf : Fits f) (h1 : winOf f.addr ≠ 0x14) (h2 : winOf f.addr ≠ 0x15) :
    (raiseEvt f src s).get f = 1 := by
  rw [(raiseEvt_only f src s).get f h1 h2, get_put_same s f 1 hf]
  exact Nat.mod_eq_of_lt (Nat.one_lt_two_pow (by omega))

end Sys2Proof.Machine
end

