-- ==== Sys2Proof/Laws/Rec.lean ====
section
/-! SUPPORT. What a captured record can change: the registers of REC, IRQ and PMC, the state that those blocks keep, the retention
SRAM's copy of SEQ and the recorder's own captures. -/

namespace Sys2Proof.Machine

/-- t is s but for the words of REC, IRQ and PMC and the state of the three blocks. -/
def RecOnly (s t : State) : Prop :=
  t = { s with regs := t.regs, irq := t.irq, pmc := t.pmc, rcd := t.rcd, ret := t.ret, caps := t.caps } ∧
    ∀ k, winOf k ≠ 0x13 → winOf k ≠ 0x14 → winOf k ≠ 0x15 → rdWord t k = rdWord s k

theorem RecOnly.refl (s : State) : RecOnly s s := ⟨rfl, fun _ _ _ _ => rfl⟩

theorem RecOnly.trans {s t u : State} (a : RecOnly s t) (b : RecOnly t u) : RecOnly s u := by
  refine ⟨?_, fun k h1 h2 h3 => (b.2 k h1 h2 h3).trans (a.2 k h1 h2 h3)⟩
  rw [b.1, a.1]

theorem IrqOnly.rec_only {s t : State} (a : IrqOnly s t) : RecOnly s t := by
  refine ⟨?_, fun k _ h2 h3 => a.2 k h2 h3⟩
  rw [a.1]

theorem RecOnly.get {s t : State} (a : RecOnly s t) (f : Fld) (h1 : winOf f.addr ≠ 0x13) (h2 : winOf f.addr ≠ 0x14)
    (h3 : winOf f.addr ≠ 0x15) : t.get f = s.get f := by simp [State.get, a.2 _ h1 h2 h3]

theorem recOnly_put (s : State) (f : Fld) (v : Nat) (h : winOf f.addr = 0x13) : RecOnly s (s.put f v) := by
  refine ⟨rfl, fun k h1 _ _ => ?_⟩
  rw [State.put, rdWord_wrWord_other]
  rintro rfl; tauto

theorem recOnly_rcd (s : State) (v : RecSt) : RecOnly s { s with rcd := v } := ⟨rfl, fun _ _ _ _ => rfl⟩

theorem recOnly_ret (s : State) (v : Tbl Byte) : RecOnly s { s with ret := v } := ⟨rfl, fun _ _ _ _ => rfl⟩

theorem pmcCount_rec_only (n : Nat) (s : State) (h : n < 512) : RecOnly s (pmcCount n s) := (pmcAdd_only n 1 {} s h).rec_only

theorem readAs_rec_only (r a : Nat) (s : State) : RecOnly s (readAs r a s).2 := by
  unfold readAs
  split
  · exact ⟨rfl, fun _ _ _ _ => rfl⟩
  · split
    · split <;> exact .refl s
    · exact .refl s

/-- A fold over pairs whose state stays inside stays inside. -/
theorem recOnly_fold {α β : Type} (f : β × State → α → β × State) (h : ∀ p a, RecOnly p.2 (f p a).2) (l : List α) (p : β × State) :
    RecOnly p.2 (l.foldl f p).2 := by
  induction l generalizing p with
  | nil => exact .refl _
  | cons a l ih => exact (h p a).trans (ih _)

theorem snapWords_only (set : Nat) (s : State) : RecOnly s (snapWords set s).2 := by
  unfold snapWords
  refine recOnly_fold _ (fun p r => ?_) _ ([], s)
  dsimp only
  split
  · refine recOnly_fold _ (fun q k => ?_) _ p
    split
    · exact .refl _
    · split
      · exact .refl _
      · exact readAs_rec_only _ _ _
  · exact .refl _

theorem rlDrop_only (code : Nat) (st : RlSt) (s : State) : RecOnly s (rlDrop code st s) :=
  (recOnly_rcd s _).trans (pmcCount_rec_only 355 _ (by decide))

theorem flushStart_only (b : Bool) (s : State) : RecOnly s (flushStart b s) := by
  unfold flushStart
  split
  · exact recOnly_rcd s _
  · exact ((recOnly_rcd s _).trans (recOnly_put _ _ _ (by decide))).trans (pmcCount_rec_only _ _ (by decide))

theorem ringWrite_only (ring : List Record) (r : Record) (code : Nat) (st : RlSt) (s : State) : RecOnly s (ringWrite ring r code st s) := by
  have h : RecOnly s (pmcCount 354 (recLevel ((keepSeq ((r.seq + 1) % 2 ^ 32)
      { s with rcd := { s.rcd with ring := ring ++ [r], nextSeq := (r.seq + 1) % 2 ^ 32,
                                   rl := tset {} s.rcd.rl code { st with n := st.n + 1, dropped := 0 } } }).put R.REC_SEQ_SEQ r.seq))) := by
    refine RecOnly.trans ?_ (pmcCount_rec_only _ _ (by decide))
    refine RecOnly.trans ?_ (recOnly_put _ _ _ (by decide))
    refine RecOnly.trans ?_ (recOnly_put _ _ _ (by decide))
    exact (recOnly_rcd s _).trans (recOnly_ret _ _)
  unfold ringWrite
  dsimp only
  split
  · exact h.trans (flushStart_only _ _)
  · exact h

theorem recEvt_only (f : Fld) (s : State) (h : winOf f.addr = 0x13) : RecOnly s (raiseEvt f 192 s) :=
  (recOnly_put s f 1 h).trans (raiseEvt_only f 192 s).rec_only

theorem lostRec_only (s : State) : RecOnly s (pmcCount 355 (s.addSat R.REC_LOST_SRAM_LOST 1)) :=
  (recOnly_put s _ _ (by decide)).trans (pmcCount_rec_only _ _ (by decide))

theorem recOnly_ite {β : Type} {s : State} {p : Prop} [Decidable p] {a b : β × State} (ha : RecOnly s a.2) (hb : RecOnly s b.2) :
    RecOnly s (if p then a else b).2 := by split <;> assumption

/-- A capture changes REC, IRQ, PMC, the retained SEQ and the recorder's captures alone. -/
theorem capture_only (code : Nat) (payload : List Nat) (fl : RecFlags) (s : State) : RecOnly s (capture code payload fl s).2 := by
  unfold capture
  split
  · exact .refl s
  · dsimp only
    generalize (if (tget ({} : RlSt) s.rcd.rl code).win = (s.strokes - 1) / (8000 * rlSecs (recCfg s code)) then
      tget ({} : RlSt) s.rcd.rl code
      else { tget ({} : RlSt) s.rcd.rl code with win := (s.strokes - 1) / (8000 * rlSecs (recCfg s code)), n := 0 }) = st
    split
    · exact rlDrop_only _ _ s
    · have hs : RecOnly s (if tbit (recCfg s code) 5 = true then snapWords (bits (recCfg s code) 4 2) s else ([], s)).2 := by
        split
        · exact snapWords_only _ s
        · exact .refl s
      generalize (if tbit (recCfg s code) 5 = true then snapWords (bits (recCfg s code) 4 2) s else ([], s)) = sn at hs ⊢
      refine hs.trans ?_
      refine recOnly_ite (ringWrite_only _ _ _ _ _) ?_
      · refine recOnly_ite ((recEvt_only _ _ (by decide)).trans (lostRec_only _)) ?_
        · split
          · exact (recEvt_only _ _ (by decide)).trans (ringWrite_only _ _ _ _ _)
          · exact (recEvt_only _ _ (by decide)).trans (lostRec_only _)

/-- A record changes REC, IRQ, PMC, the retained SEQ and the recorder's captures alone. -/
theorem logRec_only (code : Nat) (payload : List Nat) (s : State) : RecOnly s (logRec code payload s) := capture_only _ _ _ s

/-- A field outside the three windows reads as before a record. -/
theorem logRec_get (code : Nat) (payload : List Nat) (s : State) (g : Fld) (h1 : winOf g.addr ≠ 0x13) (h2 : winOf g.addr ≠ 0x14)
    (h3 : winOf g.addr ≠ 0x15) : (logRec code payload s).get g = s.get g := (logRec_only code payload s).get g h1 h2 h3

/-- The two areas of the serial flash stay as they are. -/
def KeepsLog (s t : State) : Prop := t.rcd.fixed = s.rcd.fixed ∧ t.rcd.roll = s.rcd.roll

theorem KeepsLog.refl (s : State) : KeepsLog s s := ⟨rfl, rfl⟩

theorem KeepsLog.trans {s t u : State} (a : KeepsLog s t) (b : KeepsLog t u) : KeepsLog s u := ⟨b.1.trans a.1, b.2.trans a.2⟩

theorem IrqOnly.keepsLog {s t : State} (a : IrqOnly s t) : KeepsLog s t := by
  have h : t.rcd = s.rcd := by rw [a.1]
  exact ⟨by rw [h], by rw [h]⟩

theorem pmcCount_keepsLog (n : Nat) (s : State) (h : n < 512) : KeepsLog s (pmcCount n s) := (pmcAdd_only n 1 {} s h).keepsLog

theorem put_keepsLog (s : State) (f : Fld) (v : Nat) : KeepsLog s (s.put f v) := ⟨rfl, rfl⟩

theorem readAs_keepsLog (r a : Nat) (s : State) : KeepsLog s (readAs r a s).2 := by
  unfold readAs
  split
  · exact ⟨rfl, rfl⟩
  · split
    · split <;> exact .refl s
    · exact .refl s

/-- A fold over pairs whose steps keep the areas keeps them. -/
theorem keepsLog_fold {α β : Type} (f : β × State → α → β × State) (h : ∀ p a, KeepsLog p.2 (f p a).2) (l : List α) (p : β × State) :
    KeepsLog p.2 (l.foldl f p).2 := by
  induction l generalizing p with
  | nil => exact .refl _
  | cons a l ih => exact (h p a).trans (ih _)

theorem snapWords_keepsLog (set : Nat) (s : State) : KeepsLog s (snapWords set s).2 := by
  unfold snapWords
  refine keepsLog_fold _ (fun p r => ?_) _ ([], s)
  dsimp only
  split
  · refine keepsLog_fold _ (fun q k => ?_) _ p
    split
    · exact .refl _
    · split
      · exact .refl _
      · exact readAs_keepsLog _ _ _
  · exact .refl _

theorem flushStart_keepsLog (b : Bool) (s : State) : KeepsLog s (flushStart b s) := by
  unfold flushStart
  split
  · exact ⟨rfl, rfl⟩
  · exact KeepsLog.trans ⟨rfl, rfl⟩ (pmcCount_keepsLog _ _ (by decide))

theorem rlDrop_keepsLog (code : Nat) (st : RlSt) (s : State) : KeepsLog s (rlDrop code st s) :=
  KeepsLog.trans (t := { s with rcd := { s.rcd with rl := tset {} s.rcd.rl code { st with dropped := satW 16 (st.dropped + 1) } } }) ⟨rfl, rfl⟩
    (pmcCount_keepsLog 355 _ (by decide))

theorem ringWrite_keepsLog (ring : List Record) (r : Record) (code : Nat) (st : RlSt) (s : State) : KeepsLog s (ringWrite ring r code st s) := by
  have h : KeepsLog s (pmcCount 354 (recLevel ((keepSeq ((r.seq + 1) % 2 ^ 32)
      { s with rcd := { s.rcd with ring := ring ++ [r], nextSeq := (r.seq + 1) % 2 ^ 32,
                                   rl := tset {} s.rcd.rl code { st with n := st.n + 1, dropped := 0 } } }).put R.REC_SEQ_SEQ r.seq))) := by
    refine KeepsLog.trans ?_ (pmcCount_keepsLog _ _ (by decide))
    exact ⟨rfl, rfl⟩
  unfold ringWrite
  dsimp only
  split
  · exact h.trans (flushStart_keepsLog _ _)
  · exact h

theorem recEvt_keepsLog (f : Fld) (s : State) : KeepsLog s (raiseEvt f 192 s) := (put_keepsLog s f 1).trans (raiseEvt_only f 192 s).keepsLog

theorem lostRec_keepsLog (s : State) : KeepsLog s (pmcCount 355 (s.addSat R.REC_LOST_SRAM_LOST 1)) :=
  KeepsLog.trans ⟨rfl, rfl⟩ (pmcCount_keepsLog _ _ (by decide))

theorem keepsLog_ite {β : Type} {s : State} {p : Prop} [Decidable p] {a b : β × State} (ha : KeepsLog s a.2) (hb : KeepsLog s b.2) :
    KeepsLog s (if p then a else b).2 := by split <;> assumption

/-- A capture leaves both areas of the flash as they are. -/
theorem capture_keepsLog (code : Nat) (payload : List Nat) (fl : RecFlags) (s : State) : KeepsLog s (capture code payload fl s).2 := by
  unfold capture
  split
  · exact .refl s
  · dsimp only
    generalize (if (tget ({} : RlSt) s.rcd.rl code).win = (s.strokes - 1) / (8000 * rlSecs (recCfg s code)) then
      tget ({} : RlSt) s.rcd.rl code
      else { tget ({} : RlSt) s.rcd.rl code with win := (s.strokes - 1) / (8000 * rlSecs (recCfg s code)), n := 0 }) = st
    split
    · exact rlDrop_keepsLog _ _ s
    · have hs : KeepsLog s (if tbit (recCfg s code) 5 = true then snapWords (bits (recCfg s code) 4 2) s else ([], s)).2 := by
        split
        · exact snapWords_keepsLog _ s
        · exact .refl s
      generalize (if tbit (recCfg s code) 5 = true then snapWords (bits (recCfg s code) 4 2) s else ([], s)) = sn at hs ⊢
      refine hs.trans ?_
      refine keepsLog_ite (ringWrite_keepsLog _ _ _ _ _) ?_
      refine keepsLog_ite ((recEvt_keepsLog _ _).trans (lostRec_keepsLog _)) ?_
      split
      · exact (recEvt_keepsLog _ _).trans (ringWrite_keepsLog _ _ _ _ _)
      · exact (recEvt_keepsLog _ _).trans (lostRec_keepsLog _)

end Sys2Proof.Machine
end

