-- ==== Sys2Proof/Laws/State.lean ====
section
/-! SUPPORT. One lemma per field of State and update: what an update of a register field, of the time, of a block's state, a request or a record leaves. -/

namespace Sys2Proof.Machine

variable (s : State) (f g : Fld) (k v n : Nat) (b : Bool)

/-! ## Registers -/

@[simp] theorem wrWord_pending : (wrWord s k v).pending = s.pending := rfl
@[simp] theorem wrWord_edge : (wrWord s k v).edge = s.edge := rfl
@[simp] theorem wrWord_caps : (wrWord s k v).caps = s.caps := rfl
@[simp] theorem wrWord_now : (wrWord s k v).now = s.now := rfl
@[simp] theorem wrWord_up : (wrWord s k v).up = s.up := rfl
@[simp] theorem wrWord_strokes : (wrWord s k v).strokes = s.strokes := rfl
@[simp] theorem wrWord_ret : (wrWord s k v).ret = s.ret := rfl
@[simp] theorem wrWord_freeCount : (wrWord s k v).freeCount = s.freeCount := rfl
@[simp] theorem wrWord_gen : (wrWord s k v).gen = s.gen := rfl
@[simp] theorem wrWord_etm : (wrWord s k v).etm = s.etm := rfl
@[simp] theorem wrWord_clp : (wrWord s k v).clp = s.clp := rfl
@[simp] theorem wrWord_rmon : (wrWord s k v).rmon = s.rmon := rfl
@[simp] theorem wrWord_sel : (wrWord s k v).sel = s.sel := rfl
@[simp] theorem wrWord_bnd : (wrWord s k v).bnd = s.bnd := rfl
@[simp] theorem wrWord_tch : (wrWord s k v).tch = s.tch := rfl
@[simp] theorem wrWord_out : (wrWord s k v).out = s.out := rfl
@[simp] theorem wrWord_gns : (wrWord s k v).gns = s.gns := rfl
@[simp] theorem wrWord_gnt : (wrWord s k v).gnt = s.gnt := rfl
@[simp] theorem wrWord_lan : (wrWord s k v).lan = s.lan := rfl
@[simp] theorem wrWord_key : (wrWord s k v).key = s.key := rfl
@[simp] theorem wrWord_nvm : (wrWord s k v).nvm = s.nvm := rfl
@[simp] theorem wrWord_mac : (wrWord s k v).mac = s.mac := rfl
@[simp] theorem wrWord_tsv : (wrWord s k v).tsv = s.tsv := rfl
@[simp] theorem wrWord_prl : (wrWord s k v).prl = s.prl := rfl
@[simp] theorem wrWord_dom : (wrWord s k v).dom = s.dom := rfl
@[simp] theorem wrWord_cfg : (wrWord s k v).cfg = s.cfg := rfl
@[simp] theorem wrWord_hst : (wrWord s k v).hst = s.hst := rfl
@[simp] theorem wrWord_pwr : (wrWord s k v).pwr = s.pwr := rfl
@[simp] theorem wrWord_jtag : (wrWord s k v).jtag = s.jtag := rfl
@[simp] theorem wrWord_rcd : (wrWord s k v).rcd = s.rcd := rfl
@[simp] theorem wrWord_flt : (wrWord s k v).flt = s.flt := rfl
@[simp] theorem wrWord_irq : (wrWord s k v).irq = s.irq := rfl
@[simp] theorem wrWord_pmc : (wrWord s k v).pmc = s.pmc := rfl

@[simp] theorem put_pending : (s.put f v).pending = s.pending := rfl
@[simp] theorem put_edge : (s.put f v).edge = s.edge := rfl
@[simp] theorem put_caps : (s.put f v).caps = s.caps := rfl
@[simp] theorem put_now : (s.put f v).now = s.now := rfl
@[simp] theorem put_up : (s.put f v).up = s.up := rfl
@[simp] theorem put_strokes : (s.put f v).strokes = s.strokes := rfl
@[simp] theorem put_ret : (s.put f v).ret = s.ret := rfl
@[simp] theorem put_freeCount : (s.put f v).freeCount = s.freeCount := rfl
@[simp] theorem put_gen : (s.put f v).gen = s.gen := rfl
@[simp] theorem put_etm : (s.put f v).etm = s.etm := rfl
@[simp] theorem put_clp : (s.put f v).clp = s.clp := rfl
@[simp] theorem put_rmon : (s.put f v).rmon = s.rmon := rfl
@[simp] theorem put_sel : (s.put f v).sel = s.sel := rfl
@[simp] theorem put_bnd : (s.put f v).bnd = s.bnd := rfl
@[simp] theorem put_tch : (s.put f v).tch = s.tch := rfl
@[simp] theorem put_out : (s.put f v).out = s.out := rfl
@[simp] theorem put_gns : (s.put f v).gns = s.gns := rfl
@[simp] theorem put_gnt : (s.put f v).gnt = s.gnt := rfl
@[simp] theorem put_lan : (s.put f v).lan = s.lan := rfl
@[simp] theorem put_key : (s.put f v).key = s.key := rfl
@[simp] theorem put_nvm : (s.put f v).nvm = s.nvm := rfl
@[simp] theorem put_mac : (s.put f v).mac = s.mac := rfl
@[simp] theorem put_tsv : (s.put f v).tsv = s.tsv := rfl
@[simp] theorem put_prl : (s.put f v).prl = s.prl := rfl
@[simp] theorem put_dom : (s.put f v).dom = s.dom := rfl
@[simp] theorem put_cfg : (s.put f v).cfg = s.cfg := rfl
@[simp] theorem put_hst : (s.put f v).hst = s.hst := rfl
@[simp] theorem put_pwr : (s.put f v).pwr = s.pwr := rfl
@[simp] theorem put_jtag : (s.put f v).jtag = s.jtag := rfl
@[simp] theorem put_rcd : (s.put f v).rcd = s.rcd := rfl
@[simp] theorem put_flt : (s.put f v).flt = s.flt := rfl
@[simp] theorem put_irq : (s.put f v).irq = s.irq := rfl
@[simp] theorem put_pmc : (s.put f v).pmc = s.pmc := rfl

@[simp] theorem putB_pending : (s.putB f b).pending = s.pending := rfl
@[simp] theorem putB_edge : (s.putB f b).edge = s.edge := rfl
@[simp] theorem putB_caps : (s.putB f b).caps = s.caps := rfl
@[simp] theorem putB_now : (s.putB f b).now = s.now := rfl
@[simp] theorem putB_up : (s.putB f b).up = s.up := rfl
@[simp] theorem putB_strokes : (s.putB f b).strokes = s.strokes := rfl
@[simp] theorem putB_ret : (s.putB f b).ret = s.ret := rfl
@[simp] theorem putB_freeCount : (s.putB f b).freeCount = s.freeCount := rfl
@[simp] theorem putB_gen : (s.putB f b).gen = s.gen := rfl
@[simp] theorem putB_etm : (s.putB f b).etm = s.etm := rfl
@[simp] theorem putB_clp : (s.putB f b).clp = s.clp := rfl
@[simp] theorem putB_rmon : (s.putB f b).rmon = s.rmon := rfl
@[simp] theorem putB_sel : (s.putB f b).sel = s.sel := rfl
@[simp] theorem putB_bnd : (s.putB f b).bnd = s.bnd := rfl
@[simp] theorem putB_tch : (s.putB f b).tch = s.tch := rfl
@[simp] theorem putB_out : (s.putB f b).out = s.out := rfl
@[simp] theorem putB_gns : (s.putB f b).gns = s.gns := rfl
@[simp] theorem putB_gnt : (s.putB f b).gnt = s.gnt := rfl
@[simp] theorem putB_lan : (s.putB f b).lan = s.lan := rfl
@[simp] theorem putB_key : (s.putB f b).key = s.key := rfl
@[simp] theorem putB_nvm : (s.putB f b).nvm = s.nvm := rfl
@[simp] theorem putB_mac : (s.putB f b).mac = s.mac := rfl
@[simp] theorem putB_tsv : (s.putB f b).tsv = s.tsv := rfl
@[simp] theorem putB_prl : (s.putB f b).prl = s.prl := rfl
@[simp] theorem putB_dom : (s.putB f b).dom = s.dom := rfl
@[simp] theorem putB_cfg : (s.putB f b).cfg = s.cfg := rfl
@[simp] theorem putB_hst : (s.putB f b).hst = s.hst := rfl
@[simp] theorem putB_pwr : (s.putB f b).pwr = s.pwr := rfl
@[simp] theorem putB_jtag : (s.putB f b).jtag = s.jtag := rfl
@[simp] theorem putB_rcd : (s.putB f b).rcd = s.rcd := rfl
@[simp] theorem putB_flt : (s.putB f b).flt = s.flt := rfl
@[simp] theorem putB_irq : (s.putB f b).irq = s.irq := rfl
@[simp] theorem putB_pmc : (s.putB f b).pmc = s.pmc := rfl

@[simp] theorem put2_pending : (s.put2 f g v).pending = s.pending := rfl
@[simp] theorem put2_edge : (s.put2 f g v).edge = s.edge := rfl
@[simp] theorem put2_caps : (s.put2 f g v).caps = s.caps := rfl
@[simp] theorem put2_now : (s.put2 f g v).now = s.now := rfl
@[simp] theorem put2_up : (s.put2 f g v).up = s.up := rfl
@[simp] theorem put2_strokes : (s.put2 f g v).strokes = s.strokes := rfl
@[simp] theorem put2_ret : (s.put2 f g v).ret = s.ret := rfl
@[simp] theorem put2_freeCount : (s.put2 f g v).freeCount = s.freeCount := rfl
@[simp] theorem put2_gen : (s.put2 f g v).gen = s.gen := rfl
@[simp] theorem put2_etm : (s.put2 f g v).etm = s.etm := rfl
@[simp] theorem put2_clp : (s.put2 f g v).clp = s.clp := rfl
@[simp] theorem put2_rmon : (s.put2 f g v).rmon = s.rmon := rfl
@[simp] theorem put2_sel : (s.put2 f g v).sel = s.sel := rfl
@[simp] theorem put2_bnd : (s.put2 f g v).bnd = s.bnd := rfl
@[simp] theorem put2_tch : (s.put2 f g v).tch = s.tch := rfl
@[simp] theorem put2_out : (s.put2 f g v).out = s.out := rfl
@[simp] theorem put2_gns : (s.put2 f g v).gns = s.gns := rfl
@[simp] theorem put2_gnt : (s.put2 f g v).gnt = s.gnt := rfl
@[simp] theorem put2_lan : (s.put2 f g v).lan = s.lan := rfl
@[simp] theorem put2_key : (s.put2 f g v).key = s.key := rfl
@[simp] theorem put2_nvm : (s.put2 f g v).nvm = s.nvm := rfl
@[simp] theorem put2_mac : (s.put2 f g v).mac = s.mac := rfl
@[simp] theorem put2_tsv : (s.put2 f g v).tsv = s.tsv := rfl
@[simp] theorem put2_prl : (s.put2 f g v).prl = s.prl := rfl
@[simp] theorem put2_dom : (s.put2 f g v).dom = s.dom := rfl
@[simp] theorem put2_cfg : (s.put2 f g v).cfg = s.cfg := rfl
@[simp] theorem put2_hst : (s.put2 f g v).hst = s.hst := rfl
@[simp] theorem put2_pwr : (s.put2 f g v).pwr = s.pwr := rfl
@[simp] theorem put2_jtag : (s.put2 f g v).jtag = s.jtag := rfl
@[simp] theorem put2_rcd : (s.put2 f g v).rcd = s.rcd := rfl
@[simp] theorem put2_flt : (s.put2 f g v).flt = s.flt := rfl
@[simp] theorem put2_irq : (s.put2 f g v).irq = s.irq := rfl
@[simp] theorem put2_pmc : (s.put2 f g v).pmc = s.pmc := rfl

@[simp] theorem addSat_pending : (s.addSat f n).pending = s.pending := rfl
@[simp] theorem addSat_edge : (s.addSat f n).edge = s.edge := rfl
@[simp] theorem addSat_caps : (s.addSat f n).caps = s.caps := rfl
@[simp] theorem addSat_now : (s.addSat f n).now = s.now := rfl
@[simp] theorem addSat_up : (s.addSat f n).up = s.up := rfl
@[simp] theorem addSat_strokes : (s.addSat f n).strokes = s.strokes := rfl
@[simp] theorem addSat_ret : (s.addSat f n).ret = s.ret := rfl
@[simp] theorem addSat_freeCount : (s.addSat f n).freeCount = s.freeCount := rfl
@[simp] theorem addSat_gen : (s.addSat f n).gen = s.gen := rfl
@[simp] theorem addSat_etm : (s.addSat f n).etm = s.etm := rfl
@[simp] theorem addSat_clp : (s.addSat f n).clp = s.clp := rfl
@[simp] theorem addSat_rmon : (s.addSat f n).rmon = s.rmon := rfl
@[simp] theorem addSat_sel : (s.addSat f n).sel = s.sel := rfl
@[simp] theorem addSat_bnd : (s.addSat f n).bnd = s.bnd := rfl
@[simp] theorem addSat_tch : (s.addSat f n).tch = s.tch := rfl
@[simp] theorem addSat_out : (s.addSat f n).out = s.out := rfl
@[simp] theorem addSat_gns : (s.addSat f n).gns = s.gns := rfl
@[simp] theorem addSat_gnt : (s.addSat f n).gnt = s.gnt := rfl
@[simp] theorem addSat_lan : (s.addSat f n).lan = s.lan := rfl
@[simp] theorem addSat_key : (s.addSat f n).key = s.key := rfl
@[simp] theorem addSat_nvm : (s.addSat f n).nvm = s.nvm := rfl
@[simp] theorem addSat_mac : (s.addSat f n).mac = s.mac := rfl
@[simp] theorem addSat_tsv : (s.addSat f n).tsv = s.tsv := rfl
@[simp] theorem addSat_prl : (s.addSat f n).prl = s.prl := rfl
@[simp] theorem addSat_dom : (s.addSat f n).dom = s.dom := rfl
@[simp] theorem addSat_cfg : (s.addSat f n).cfg = s.cfg := rfl
@[simp] theorem addSat_hst : (s.addSat f n).hst = s.hst := rfl
@[simp] theorem addSat_pwr : (s.addSat f n).pwr = s.pwr := rfl
@[simp] theorem addSat_jtag : (s.addSat f n).jtag = s.jtag := rfl
@[simp] theorem addSat_rcd : (s.addSat f n).rcd = s.rcd := rfl
@[simp] theorem addSat_flt : (s.addSat f n).flt = s.flt := rfl
@[simp] theorem addSat_irq : (s.addSat f n).irq = s.irq := rfl
@[simp] theorem addSat_pmc : (s.addSat f n).pmc = s.pmc := rfl

@[simp] theorem pub_pending : (s.pub f v).pending = s.pending := rfl
@[simp] theorem pub_caps : (s.pub f v).caps = s.caps := rfl
@[simp] theorem pub_now : (s.pub f v).now = s.now := rfl
@[simp] theorem pub_up : (s.pub f v).up = s.up := rfl
@[simp] theorem pub_strokes : (s.pub f v).strokes = s.strokes := rfl
@[simp] theorem pub_ret : (s.pub f v).ret = s.ret := rfl
@[simp] theorem pub_freeCount : (s.pub f v).freeCount = s.freeCount := rfl
@[simp] theorem pub_gen : (s.pub f v).gen = s.gen := rfl
@[simp] theorem pub_etm : (s.pub f v).etm = s.etm := rfl
@[simp] theorem pub_clp : (s.pub f v).clp = s.clp := rfl
@[simp] theorem pub_rmon : (s.pub f v).rmon = s.rmon := rfl
@[simp] theorem pub_sel : (s.pub f v).sel = s.sel := rfl
@[simp] theorem pub_bnd : (s.pub f v).bnd = s.bnd := rfl
@[simp] theorem pub_tch : (s.pub f v).tch = s.tch := rfl
@[simp] theorem pub_out : (s.pub f v).out = s.out := rfl
@[simp] theorem pub_gns : (s.pub f v).gns = s.gns := rfl
@[simp] theorem pub_gnt : (s.pub f v).gnt = s.gnt := rfl
@[simp] theorem pub_lan : (s.pub f v).lan = s.lan := rfl
@[simp] theorem pub_key : (s.pub f v).key = s.key := rfl
@[simp] theorem pub_nvm : (s.pub f v).nvm = s.nvm := rfl
@[simp] theorem pub_mac : (s.pub f v).mac = s.mac := rfl
@[simp] theorem pub_tsv : (s.pub f v).tsv = s.tsv := rfl
@[simp] theorem pub_prl : (s.pub f v).prl = s.prl := rfl
@[simp] theorem pub_dom : (s.pub f v).dom = s.dom := rfl
@[simp] theorem pub_cfg : (s.pub f v).cfg = s.cfg := rfl
@[simp] theorem pub_hst : (s.pub f v).hst = s.hst := rfl
@[simp] theorem pub_pwr : (s.pub f v).pwr = s.pwr := rfl
@[simp] theorem pub_jtag : (s.pub f v).jtag = s.jtag := rfl
@[simp] theorem pub_rcd : (s.pub f v).rcd = s.rcd := rfl
@[simp] theorem pub_flt : (s.pub f v).flt = s.flt := rfl
@[simp] theorem pub_irq : (s.pub f v).irq = s.irq := rfl
@[simp] theorem pub_pmc : (s.pub f v).pmc = s.pmc := rfl

@[simp] theorem repub_pending (l : List Nat) : (s.repub l).pending = s.pending := rfl
@[simp] theorem repub_regs (l : List Nat) : (s.repub l).regs = s.regs := rfl
@[simp] theorem repub_caps (l : List Nat) : (s.repub l).caps = s.caps := rfl
@[simp] theorem repub_now (l : List Nat) : (s.repub l).now = s.now := rfl
@[simp] theorem repub_up (l : List Nat) : (s.repub l).up = s.up := rfl
@[simp] theorem repub_strokes (l : List Nat) : (s.repub l).strokes = s.strokes := rfl
@[simp] theorem repub_ret (l : List Nat) : (s.repub l).ret = s.ret := rfl
@[simp] theorem repub_freeCount (l : List Nat) : (s.repub l).freeCount = s.freeCount := rfl
@[simp] theorem repub_gen (l : List Nat) : (s.repub l).gen = s.gen := rfl
@[simp] theorem repub_etm (l : List Nat) : (s.repub l).etm = s.etm := rfl
@[simp] theorem repub_clp (l : List Nat) : (s.repub l).clp = s.clp := rfl
@[simp] theorem repub_rmon (l : List Nat) : (s.repub l).rmon = s.rmon := rfl
@[simp] theorem repub_sel (l : List Nat) : (s.repub l).sel = s.sel := rfl
@[simp] theorem repub_bnd (l : List Nat) : (s.repub l).bnd = s.bnd := rfl
@[simp] theorem repub_tch (l : List Nat) : (s.repub l).tch = s.tch := rfl
@[simp] theorem repub_out (l : List Nat) : (s.repub l).out = s.out := rfl
@[simp] theorem repub_gns (l : List Nat) : (s.repub l).gns = s.gns := rfl
@[simp] theorem repub_gnt (l : List Nat) : (s.repub l).gnt = s.gnt := rfl
@[simp] theorem repub_lan (l : List Nat) : (s.repub l).lan = s.lan := rfl
@[simp] theorem repub_key (l : List Nat) : (s.repub l).key = s.key := rfl
@[simp] theorem repub_nvm (l : List Nat) : (s.repub l).nvm = s.nvm := rfl
@[simp] theorem repub_mac (l : List Nat) : (s.repub l).mac = s.mac := rfl
@[simp] theorem repub_tsv (l : List Nat) : (s.repub l).tsv = s.tsv := rfl
@[simp] theorem repub_prl (l : List Nat) : (s.repub l).prl = s.prl := rfl
@[simp] theorem repub_dom (l : List Nat) : (s.repub l).dom = s.dom := rfl
@[simp] theorem repub_cfg (l : List Nat) : (s.repub l).cfg = s.cfg := rfl
@[simp] theorem repub_hst (l : List Nat) : (s.repub l).hst = s.hst := rfl
@[simp] theorem repub_pwr (l : List Nat) : (s.repub l).pwr = s.pwr := rfl
@[simp] theorem repub_jtag (l : List Nat) : (s.repub l).jtag = s.jtag := rfl
@[simp] theorem repub_rcd (l : List Nat) : (s.repub l).rcd = s.rcd := rfl
@[simp] theorem repub_flt (l : List Nat) : (s.repub l).flt = s.flt := rfl
@[simp] theorem repub_irq (l : List Nat) : (s.repub l).irq = s.irq := rfl
@[simp] theorem repub_pmc (l : List Nat) : (s.repub l).pmc = s.pmc := rfl

/-! ## Time -/

@[simp] theorem tick_pending : (s.tick n).pending = s.pending := rfl
@[simp] theorem tick_regs : (s.tick n).regs = s.regs := rfl
@[simp] theorem tick_edge : (s.tick n).edge = s.edge := rfl
@[simp] theorem tick_caps : (s.tick n).caps = s.caps := rfl
@[simp] theorem tick_strokes : (s.tick n).strokes = s.strokes := rfl
@[simp] theorem tick_ret : (s.tick n).ret = s.ret := rfl
@[simp] theorem tick_freeCount : (s.tick n).freeCount = s.freeCount := rfl
@[simp] theorem tick_gen : (s.tick n).gen = s.gen := rfl
@[simp] theorem tick_etm : (s.tick n).etm = s.etm := rfl
@[simp] theorem tick_clp : (s.tick n).clp = s.clp := rfl
@[simp] theorem tick_rmon : (s.tick n).rmon = s.rmon := rfl
@[simp] theorem tick_sel : (s.tick n).sel = s.sel := rfl
@[simp] theorem tick_bnd : (s.tick n).bnd = s.bnd := rfl
@[simp] theorem tick_tch : (s.tick n).tch = s.tch := rfl
@[simp] theorem tick_out : (s.tick n).out = s.out := rfl
@[simp] theorem tick_gns : (s.tick n).gns = s.gns := rfl
@[simp] theorem tick_gnt : (s.tick n).gnt = s.gnt := rfl
@[simp] theorem tick_lan : (s.tick n).lan = s.lan := rfl
@[simp] theorem tick_key : (s.tick n).key = s.key := rfl
@[simp] theorem tick_nvm : (s.tick n).nvm = s.nvm := rfl
@[simp] theorem tick_mac : (s.tick n).mac = s.mac := rfl
@[simp] theorem tick_tsv : (s.tick n).tsv = s.tsv := rfl
@[simp] theorem tick_prl : (s.tick n).prl = s.prl := rfl
@[simp] theorem tick_dom : (s.tick n).dom = s.dom := rfl
@[simp] theorem tick_cfg : (s.tick n).cfg = s.cfg := rfl
@[simp] theorem tick_hst : (s.tick n).hst = s.hst := rfl
@[simp] theorem tick_pwr : (s.tick n).pwr = s.pwr := rfl
@[simp] theorem tick_jtag : (s.tick n).jtag = s.jtag := rfl
@[simp] theorem tick_rcd : (s.tick n).rcd = s.rcd := rfl
@[simp] theorem tick_flt : (s.tick n).flt = s.flt := rfl
@[simp] theorem tick_irq : (s.tick n).irq = s.irq := rfl
@[simp] theorem tick_pmc : (s.tick n).pmc = s.pmc := rfl

/-! ## Requests, counted events and records -/

@[simp] theorem irqRequest_pending : (irqRequest n s).pending = s.pending := by rw [(irqRequest_only n s).1]
@[simp] theorem irqRequest_edge : (irqRequest n s).edge = s.edge := by rw [(irqRequest_only n s).1]
@[simp] theorem irqRequest_caps : (irqRequest n s).caps = s.caps := by rw [(irqRequest_only n s).1]
@[simp] theorem irqRequest_now : (irqRequest n s).now = s.now := by rw [(irqRequest_only n s).1]
@[simp] theorem irqRequest_up : (irqRequest n s).up = s.up := by rw [(irqRequest_only n s).1]
@[simp] theorem irqRequest_strokes : (irqRequest n s).strokes = s.strokes := by rw [(irqRequest_only n s).1]
@[simp] theorem irqRequest_ret : (irqRequest n s).ret = s.ret := by rw [(irqRequest_only n s).1]
@[simp] theorem irqRequest_freeCount : (irqRequest n s).freeCount = s.freeCount := by rw [(irqRequest_only n s).1]
@[simp] theorem irqRequest_gen : (irqRequest n s).gen = s.gen := by rw [(irqRequest_only n s).1]
@[simp] theorem irqRequest_etm : (irqRequest n s).etm = s.etm := by rw [(irqRequest_only n s).1]
@[simp] theorem irqRequest_clp : (irqRequest n s).clp = s.clp := by rw [(irqRequest_only n s).1]
@[simp] theorem irqRequest_rmon : (irqRequest n s).rmon = s.rmon := by rw [(irqRequest_only n s).1]
@[simp] theorem irqRequest_sel : (irqRequest n s).sel = s.sel := by rw [(irqRequest_only n s).1]
@[simp] theorem irqRequest_bnd : (irqRequest n s).bnd = s.bnd := by rw [(irqRequest_only n s).1]
@[simp] theorem irqRequest_tch : (irqRequest n s).tch = s.tch := by rw [(irqRequest_only n s).1]
@[simp] theorem irqRequest_out : (irqRequest n s).out = s.out := by rw [(irqRequest_only n s).1]
@[simp] theorem irqRequest_gns : (irqRequest n s).gns = s.gns := by rw [(irqRequest_only n s).1]
@[simp] theorem irqRequest_gnt : (irqRequest n s).gnt = s.gnt := by rw [(irqRequest_only n s).1]
@[simp] theorem irqRequest_lan : (irqRequest n s).lan = s.lan := by rw [(irqRequest_only n s).1]
@[simp] theorem irqRequest_key : (irqRequest n s).key = s.key := by rw [(irqRequest_only n s).1]
@[simp] theorem irqRequest_nvm : (irqRequest n s).nvm = s.nvm := by rw [(irqRequest_only n s).1]
@[simp] theorem irqRequest_mac : (irqRequest n s).mac = s.mac := by rw [(irqRequest_only n s).1]
@[simp] theorem irqRequest_tsv : (irqRequest n s).tsv = s.tsv := by rw [(irqRequest_only n s).1]
@[simp] theorem irqRequest_prl : (irqRequest n s).prl = s.prl := by rw [(irqRequest_only n s).1]
@[simp] theorem irqRequest_dom : (irqRequest n s).dom = s.dom := by rw [(irqRequest_only n s).1]
@[simp] theorem irqRequest_cfg : (irqRequest n s).cfg = s.cfg := by rw [(irqRequest_only n s).1]
@[simp] theorem irqRequest_hst : (irqRequest n s).hst = s.hst := by rw [(irqRequest_only n s).1]
@[simp] theorem irqRequest_pwr : (irqRequest n s).pwr = s.pwr := by rw [(irqRequest_only n s).1]
@[simp] theorem irqRequest_jtag : (irqRequest n s).jtag = s.jtag := by rw [(irqRequest_only n s).1]
@[simp] theorem irqRequest_rcd : (irqRequest n s).rcd = s.rcd := by rw [(irqRequest_only n s).1]
@[simp] theorem irqRequest_flt : (irqRequest n s).flt = s.flt := by rw [(irqRequest_only n s).1]

@[simp] theorem raiseEvt_pending : (raiseEvt f n s).pending = s.pending := by rw [(raiseEvt_only f n s).1]; rfl
@[simp] theorem raiseEvt_edge : (raiseEvt f n s).edge = s.edge := by rw [(raiseEvt_only f n s).1]; rfl
@[simp] theorem raiseEvt_caps : (raiseEvt f n s).caps = s.caps := by rw [(raiseEvt_only f n s).1]; rfl
@[simp] theorem raiseEvt_now : (raiseEvt f n s).now = s.now := by rw [(raiseEvt_only f n s).1]; rfl
@[simp] theorem raiseEvt_up : (raiseEvt f n s).up = s.up := by rw [(raiseEvt_only f n s).1]; rfl
@[simp] theorem raiseEvt_strokes : (raiseEvt f n s).strokes = s.strokes := by rw [(raiseEvt_only f n s).1]; rfl
@[simp] theorem raiseEvt_ret : (raiseEvt f n s).ret = s.ret := by rw [(raiseEvt_only f n s).1]; rfl
@[simp] theorem raiseEvt_freeCount : (raiseEvt f n s).freeCount = s.freeCount := by rw [(raiseEvt_only f n s).1]; rfl
@[simp] theorem raiseEvt_gen : (raiseEvt f n s).gen = s.gen := by rw [(raiseEvt_only f n s).1]; rfl
@[simp] theorem raiseEvt_etm : (raiseEvt f n s).etm = s.etm := by rw [(raiseEvt_only f n s).1]; rfl
@[simp] theorem raiseEvt_clp : (raiseEvt f n s).clp = s.clp := by rw [(raiseEvt_only f n s).1]; rfl
@[simp] theorem raiseEvt_rmon : (raiseEvt f n s).rmon = s.rmon := by rw [(raiseEvt_only f n s).1]; rfl
@[simp] theorem raiseEvt_sel : (raiseEvt f n s).sel = s.sel := by rw [(raiseEvt_only f n s).1]; rfl
@[simp] theorem raiseEvt_bnd : (raiseEvt f n s).bnd = s.bnd := by rw [(raiseEvt_only f n s).1]; rfl
@[simp] theorem raiseEvt_tch : (raiseEvt f n s).tch = s.tch := by rw [(raiseEvt_only f n s).1]; rfl
@[simp] theorem raiseEvt_out : (raiseEvt f n s).out = s.out := by rw [(raiseEvt_only f n s).1]; rfl
@[simp] theorem raiseEvt_gns : (raiseEvt f n s).gns = s.gns := by rw [(raiseEvt_only f n s).1]; rfl
@[simp] theorem raiseEvt_gnt : (raiseEvt f n s).gnt = s.gnt := by rw [(raiseEvt_only f n s).1]; rfl
@[simp] theorem raiseEvt_lan : (raiseEvt f n s).lan = s.lan := by rw [(raiseEvt_only f n s).1]; rfl
@[simp] theorem raiseEvt_key : (raiseEvt f n s).key = s.key := by rw [(raiseEvt_only f n s).1]; rfl
@[simp] theorem raiseEvt_nvm : (raiseEvt f n s).nvm = s.nvm := by rw [(raiseEvt_only f n s).1]; rfl
@[simp] theorem raiseEvt_mac : (raiseEvt f n s).mac = s.mac := by rw [(raiseEvt_only f n s).1]; rfl
@[simp] theorem raiseEvt_tsv : (raiseEvt f n s).tsv = s.tsv := by rw [(raiseEvt_only f n s).1]; rfl
@[simp] theorem raiseEvt_prl : (raiseEvt f n s).prl = s.prl := by rw [(raiseEvt_only f n s).1]; rfl
@[simp] theorem raiseEvt_dom : (raiseEvt f n s).dom = s.dom := by rw [(raiseEvt_only f n s).1]; rfl
@[simp] theorem raiseEvt_cfg : (raiseEvt f n s).cfg = s.cfg := by rw [(raiseEvt_only f n s).1]; rfl
@[simp] theorem raiseEvt_hst : (raiseEvt f n s).hst = s.hst := by rw [(raiseEvt_only f n s).1]; rfl
@[simp] theorem raiseEvt_pwr : (raiseEvt f n s).pwr = s.pwr := by rw [(raiseEvt_only f n s).1]; rfl
@[simp] theorem raiseEvt_jtag : (raiseEvt f n s).jtag = s.jtag := by rw [(raiseEvt_only f n s).1]; rfl
@[simp] theorem raiseEvt_rcd : (raiseEvt f n s).rcd = s.rcd := by rw [(raiseEvt_only f n s).1]; rfl
@[simp] theorem raiseEvt_flt : (raiseEvt f n s).flt = s.flt := by rw [(raiseEvt_only f n s).1]; rfl

@[simp] theorem logRec_pending (l : List Nat) : (logRec n l s).pending = s.pending := by rw [(logRec_only n l s).1]
@[simp] theorem logRec_edge (l : List Nat) : (logRec n l s).edge = s.edge := by rw [(logRec_only n l s).1]
@[simp] theorem logRec_now (l : List Nat) : (logRec n l s).now = s.now := by rw [(logRec_only n l s).1]
@[simp] theorem logRec_up (l : List Nat) : (logRec n l s).up = s.up := by rw [(logRec_only n l s).1]
@[simp] theorem logRec_strokes (l : List Nat) : (logRec n l s).strokes = s.strokes := by rw [(logRec_only n l s).1]
@[simp] theorem logRec_freeCount (l : List Nat) : (logRec n l s).freeCount = s.freeCount := by rw [(logRec_only n l s).1]
@[simp] theorem logRec_gen (l : List Nat) : (logRec n l s).gen = s.gen := by rw [(logRec_only n l s).1]
@[simp] theorem logRec_etm (l : List Nat) : (logRec n l s).etm = s.etm := by rw [(logRec_only n l s).1]
@[simp] theorem logRec_clp (l : List Nat) : (logRec n l s).clp = s.clp := by rw [(logRec_only n l s).1]
@[simp] theorem logRec_rmon (l : List Nat) : (logRec n l s).rmon = s.rmon := by rw [(logRec_only n l s).1]
@[simp] theorem logRec_sel (l : List Nat) : (logRec n l s).sel = s.sel := by rw [(logRec_only n l s).1]
@[simp] theorem logRec_bnd (l : List Nat) : (logRec n l s).bnd = s.bnd := by rw [(logRec_only n l s).1]
@[simp] theorem logRec_tch (l : List Nat) : (logRec n l s).tch = s.tch := by rw [(logRec_only n l s).1]
@[simp] theorem logRec_out (l : List Nat) : (logRec n l s).out = s.out := by rw [(logRec_only n l s).1]
@[simp] theorem logRec_gns (l : List Nat) : (logRec n l s).gns = s.gns := by rw [(logRec_only n l s).1]
@[simp] theorem logRec_gnt (l : List Nat) : (logRec n l s).gnt = s.gnt := by rw [(logRec_only n l s).1]
@[simp] theorem logRec_lan (l : List Nat) : (logRec n l s).lan = s.lan := by rw [(logRec_only n l s).1]
@[simp] theorem logRec_key (l : List Nat) : (logRec n l s).key = s.key := by rw [(logRec_only n l s).1]
@[simp] theorem logRec_nvm (l : List Nat) : (logRec n l s).nvm = s.nvm := by rw [(logRec_only n l s).1]
@[simp] theorem logRec_mac (l : List Nat) : (logRec n l s).mac = s.mac := by rw [(logRec_only n l s).1]
@[simp] theorem logRec_tsv (l : List Nat) : (logRec n l s).tsv = s.tsv := by rw [(logRec_only n l s).1]
@[simp] theorem logRec_prl (l : List Nat) : (logRec n l s).prl = s.prl := by rw [(logRec_only n l s).1]
@[simp] theorem logRec_dom (l : List Nat) : (logRec n l s).dom = s.dom := by rw [(logRec_only n l s).1]
@[simp] theorem logRec_cfg (l : List Nat) : (logRec n l s).cfg = s.cfg := by rw [(logRec_only n l s).1]
@[simp] theorem logRec_hst (l : List Nat) : (logRec n l s).hst = s.hst := by rw [(logRec_only n l s).1]
@[simp] theorem logRec_pwr (l : List Nat) : (logRec n l s).pwr = s.pwr := by rw [(logRec_only n l s).1]
@[simp] theorem logRec_jtag (l : List Nat) : (logRec n l s).jtag = s.jtag := by rw [(logRec_only n l s).1]
@[simp] theorem logRec_flt (l : List Nat) : (logRec n l s).flt = s.flt := by rw [(logRec_only n l s).1]

/-! ## The blocks' own state -/

@[simp] theorem setPwr_pwr (x : PwrSt) : (s.setPwr x).pwr = x := rfl
@[simp] theorem setPwr_pending (x : PwrSt) : (s.setPwr x).pending = s.pending := rfl
@[simp] theorem setPwr_regs (x : PwrSt) : (s.setPwr x).regs = s.regs := rfl
@[simp] theorem setPwr_edge (x : PwrSt) : (s.setPwr x).edge = s.edge := rfl
@[simp] theorem setPwr_caps (x : PwrSt) : (s.setPwr x).caps = s.caps := rfl
@[simp] theorem setPwr_now (x : PwrSt) : (s.setPwr x).now = s.now := rfl
@[simp] theorem setPwr_up (x : PwrSt) : (s.setPwr x).up = s.up := rfl
@[simp] theorem setPwr_strokes (x : PwrSt) : (s.setPwr x).strokes = s.strokes := rfl
@[simp] theorem setPwr_ret (x : PwrSt) : (s.setPwr x).ret = s.ret := rfl
@[simp] theorem setPwr_freeCount (x : PwrSt) : (s.setPwr x).freeCount = s.freeCount := rfl
@[simp] theorem setPwr_gen (x : PwrSt) : (s.setPwr x).gen = s.gen := rfl
@[simp] theorem setPwr_etm (x : PwrSt) : (s.setPwr x).etm = s.etm := rfl
@[simp] theorem setPwr_clp (x : PwrSt) : (s.setPwr x).clp = s.clp := rfl
@[simp] theorem setPwr_rmon (x : PwrSt) : (s.setPwr x).rmon = s.rmon := rfl
@[simp] theorem setPwr_sel (x : PwrSt) : (s.setPwr x).sel = s.sel := rfl
@[simp] theorem setPwr_bnd (x : PwrSt) : (s.setPwr x).bnd = s.bnd := rfl
@[simp] theorem setPwr_tch (x : PwrSt) : (s.setPwr x).tch = s.tch := rfl
@[simp] theorem setPwr_out (x : PwrSt) : (s.setPwr x).out = s.out := rfl
@[simp] theorem setPwr_gns (x : PwrSt) : (s.setPwr x).gns = s.gns := rfl
@[simp] theorem setPwr_gnt (x : PwrSt) : (s.setPwr x).gnt = s.gnt := rfl
@[simp] theorem setPwr_lan (x : PwrSt) : (s.setPwr x).lan = s.lan := rfl
@[simp] theorem setPwr_key (x : PwrSt) : (s.setPwr x).key = s.key := rfl
@[simp] theorem setPwr_nvm (x : PwrSt) : (s.setPwr x).nvm = s.nvm := rfl
@[simp] theorem setPwr_mac (x : PwrSt) : (s.setPwr x).mac = s.mac := rfl
@[simp] theorem setPwr_tsv (x : PwrSt) : (s.setPwr x).tsv = s.tsv := rfl
@[simp] theorem setPwr_prl (x : PwrSt) : (s.setPwr x).prl = s.prl := rfl
@[simp] theorem setPwr_dom (x : PwrSt) : (s.setPwr x).dom = s.dom := rfl
@[simp] theorem setPwr_cfg (x : PwrSt) : (s.setPwr x).cfg = s.cfg := rfl
@[simp] theorem setPwr_hst (x : PwrSt) : (s.setPwr x).hst = s.hst := rfl
@[simp] theorem setPwr_jtag (x : PwrSt) : (s.setPwr x).jtag = s.jtag := rfl
@[simp] theorem setPwr_rcd (x : PwrSt) : (s.setPwr x).rcd = s.rcd := rfl
@[simp] theorem setPwr_flt (x : PwrSt) : (s.setPwr x).flt = s.flt := rfl
@[simp] theorem setPwr_irq (x : PwrSt) : (s.setPwr x).irq = s.irq := rfl
@[simp] theorem setPwr_pmc (x : PwrSt) : (s.setPwr x).pmc = s.pmc := rfl

@[simp] theorem setPwr_get (x : PwrSt) : (s.setPwr x).get f = s.get f := rfl

@[simp] theorem setCfg_cfg (x : CfgSt) : (s.setCfg x).cfg = x := rfl
@[simp] theorem setCfg_pending (x : CfgSt) : (s.setCfg x).pending = s.pending := rfl
@[simp] theorem setCfg_regs (x : CfgSt) : (s.setCfg x).regs = s.regs := rfl
@[simp] theorem setCfg_edge (x : CfgSt) : (s.setCfg x).edge = s.edge := rfl
@[simp] theorem setCfg_caps (x : CfgSt) : (s.setCfg x).caps = s.caps := rfl
@[simp] theorem setCfg_now (x : CfgSt) : (s.setCfg x).now = s.now := rfl
@[simp] theorem setCfg_up (x : CfgSt) : (s.setCfg x).up = s.up := rfl
@[simp] theorem setCfg_strokes (x : CfgSt) : (s.setCfg x).strokes = s.strokes := rfl
@[simp] theorem setCfg_ret (x : CfgSt) : (s.setCfg x).ret = s.ret := rfl
@[simp] theorem setCfg_freeCount (x : CfgSt) : (s.setCfg x).freeCount = s.freeCount := rfl
@[simp] theorem setCfg_gen (x : CfgSt) : (s.setCfg x).gen = s.gen := rfl
@[simp] theorem setCfg_etm (x : CfgSt) : (s.setCfg x).etm = s.etm := rfl
@[simp] theorem setCfg_clp (x : CfgSt) : (s.setCfg x).clp = s.clp := rfl
@[simp] theorem setCfg_rmon (x : CfgSt) : (s.setCfg x).rmon = s.rmon := rfl
@[simp] theorem setCfg_sel (x : CfgSt) : (s.setCfg x).sel = s.sel := rfl
@[simp] theorem setCfg_bnd (x : CfgSt) : (s.setCfg x).bnd = s.bnd := rfl
@[simp] theorem setCfg_tch (x : CfgSt) : (s.setCfg x).tch = s.tch := rfl
@[simp] theorem setCfg_out (x : CfgSt) : (s.setCfg x).out = s.out := rfl
@[simp] theorem setCfg_gns (x : CfgSt) : (s.setCfg x).gns = s.gns := rfl
@[simp] theorem setCfg_gnt (x : CfgSt) : (s.setCfg x).gnt = s.gnt := rfl
@[simp] theorem setCfg_lan (x : CfgSt) : (s.setCfg x).lan = s.lan := rfl
@[simp] theorem setCfg_key (x : CfgSt) : (s.setCfg x).key = s.key := rfl
@[simp] theorem setCfg_nvm (x : CfgSt) : (s.setCfg x).nvm = s.nvm := rfl
@[simp] theorem setCfg_mac (x : CfgSt) : (s.setCfg x).mac = s.mac := rfl
@[simp] theorem setCfg_tsv (x : CfgSt) : (s.setCfg x).tsv = s.tsv := rfl
@[simp] theorem setCfg_prl (x : CfgSt) : (s.setCfg x).prl = s.prl := rfl
@[simp] theorem setCfg_dom (x : CfgSt) : (s.setCfg x).dom = s.dom := rfl
@[simp] theorem setCfg_hst (x : CfgSt) : (s.setCfg x).hst = s.hst := rfl
@[simp] theorem setCfg_pwr (x : CfgSt) : (s.setCfg x).pwr = s.pwr := rfl
@[simp] theorem setCfg_jtag (x : CfgSt) : (s.setCfg x).jtag = s.jtag := rfl
@[simp] theorem setCfg_rcd (x : CfgSt) : (s.setCfg x).rcd = s.rcd := rfl
@[simp] theorem setCfg_flt (x : CfgSt) : (s.setCfg x).flt = s.flt := rfl
@[simp] theorem setCfg_irq (x : CfgSt) : (s.setCfg x).irq = s.irq := rfl
@[simp] theorem setCfg_pmc (x : CfgSt) : (s.setCfg x).pmc = s.pmc := rfl

@[simp] theorem setCfg_get (x : CfgSt) : (s.setCfg x).get f = s.get f := rfl

@[simp] theorem setHst_hst (x : HstSt) : (s.setHst x).hst = x := rfl
@[simp] theorem setHst_pending (x : HstSt) : (s.setHst x).pending = s.pending := rfl
@[simp] theorem setHst_regs (x : HstSt) : (s.setHst x).regs = s.regs := rfl
@[simp] theorem setHst_edge (x : HstSt) : (s.setHst x).edge = s.edge := rfl
@[simp] theorem setHst_caps (x : HstSt) : (s.setHst x).caps = s.caps := rfl
@[simp] theorem setHst_now (x : HstSt) : (s.setHst x).now = s.now := rfl
@[simp] theorem setHst_up (x : HstSt) : (s.setHst x).up = s.up := rfl
@[simp] theorem setHst_strokes (x : HstSt) : (s.setHst x).strokes = s.strokes := rfl
@[simp] theorem setHst_ret (x : HstSt) : (s.setHst x).ret = s.ret := rfl
@[simp] theorem setHst_freeCount (x : HstSt) : (s.setHst x).freeCount = s.freeCount := rfl
@[simp] theorem setHst_gen (x : HstSt) : (s.setHst x).gen = s.gen := rfl
@[simp] theorem setHst_etm (x : HstSt) : (s.setHst x).etm = s.etm := rfl
@[simp] theorem setHst_clp (x : HstSt) : (s.setHst x).clp = s.clp := rfl
@[simp] theorem setHst_rmon (x : HstSt) : (s.setHst x).rmon = s.rmon := rfl
@[simp] theorem setHst_sel (x : HstSt) : (s.setHst x).sel = s.sel := rfl
@[simp] theorem setHst_bnd (x : HstSt) : (s.setHst x).bnd = s.bnd := rfl
@[simp] theorem setHst_tch (x : HstSt) : (s.setHst x).tch = s.tch := rfl
@[simp] theorem setHst_out (x : HstSt) : (s.setHst x).out = s.out := rfl
@[simp] theorem setHst_gns (x : HstSt) : (s.setHst x).gns = s.gns := rfl
@[simp] theorem setHst_gnt (x : HstSt) : (s.setHst x).gnt = s.gnt := rfl
@[simp] theorem setHst_lan (x : HstSt) : (s.setHst x).lan = s.lan := rfl
@[simp] theorem setHst_key (x : HstSt) : (s.setHst x).key = s.key := rfl
@[simp] theorem setHst_nvm (x : HstSt) : (s.setHst x).nvm = s.nvm := rfl
@[simp] theorem setHst_mac (x : HstSt) : (s.setHst x).mac = s.mac := rfl
@[simp] theorem setHst_tsv (x : HstSt) : (s.setHst x).tsv = s.tsv := rfl
@[simp] theorem setHst_prl (x : HstSt) : (s.setHst x).prl = s.prl := rfl
@[simp] theorem setHst_dom (x : HstSt) : (s.setHst x).dom = s.dom := rfl
@[simp] theorem setHst_cfg (x : HstSt) : (s.setHst x).cfg = s.cfg := rfl
@[simp] theorem setHst_pwr (x : HstSt) : (s.setHst x).pwr = s.pwr := rfl
@[simp] theorem setHst_jtag (x : HstSt) : (s.setHst x).jtag = s.jtag := rfl
@[simp] theorem setHst_rcd (x : HstSt) : (s.setHst x).rcd = s.rcd := rfl
@[simp] theorem setHst_flt (x : HstSt) : (s.setHst x).flt = s.flt := rfl
@[simp] theorem setHst_irq (x : HstSt) : (s.setHst x).irq = s.irq := rfl
@[simp] theorem setHst_pmc (x : HstSt) : (s.setHst x).pmc = s.pmc := rfl

@[simp] theorem setHst_get (x : HstSt) : (s.setHst x).get f = s.get f := rfl

@[simp] theorem setKey_key (x : KeySt) : (s.setKey x).key = x := rfl
@[simp] theorem setKey_pending (x : KeySt) : (s.setKey x).pending = s.pending := rfl
@[simp] theorem setKey_regs (x : KeySt) : (s.setKey x).regs = s.regs := rfl
@[simp] theorem setKey_edge (x : KeySt) : (s.setKey x).edge = s.edge := rfl
@[simp] theorem setKey_caps (x : KeySt) : (s.setKey x).caps = s.caps := rfl
@[simp] theorem setKey_now (x : KeySt) : (s.setKey x).now = s.now := rfl
@[simp] theorem setKey_up (x : KeySt) : (s.setKey x).up = s.up := rfl
@[simp] theorem setKey_strokes (x : KeySt) : (s.setKey x).strokes = s.strokes := rfl
@[simp] theorem setKey_ret (x : KeySt) : (s.setKey x).ret = s.ret := rfl
@[simp] theorem setKey_freeCount (x : KeySt) : (s.setKey x).freeCount = s.freeCount := rfl
@[simp] theorem setKey_gen (x : KeySt) : (s.setKey x).gen = s.gen := rfl
@[simp] theorem setKey_etm (x : KeySt) : (s.setKey x).etm = s.etm := rfl
@[simp] theorem setKey_clp (x : KeySt) : (s.setKey x).clp = s.clp := rfl
@[simp] theorem setKey_rmon (x : KeySt) : (s.setKey x).rmon = s.rmon := rfl
@[simp] theorem setKey_sel (x : KeySt) : (s.setKey x).sel = s.sel := rfl
@[simp] theorem setKey_bnd (x : KeySt) : (s.setKey x).bnd = s.bnd := rfl
@[simp] theorem setKey_tch (x : KeySt) : (s.setKey x).tch = s.tch := rfl
@[simp] theorem setKey_out (x : KeySt) : (s.setKey x).out = s.out := rfl
@[simp] theorem setKey_gns (x : KeySt) : (s.setKey x).gns = s.gns := rfl
@[simp] theorem setKey_gnt (x : KeySt) : (s.setKey x).gnt = s.gnt := rfl
@[simp] theorem setKey_lan (x : KeySt) : (s.setKey x).lan = s.lan := rfl
@[simp] theorem setKey_nvm (x : KeySt) : (s.setKey x).nvm = s.nvm := rfl
@[simp] theorem setKey_mac (x : KeySt) : (s.setKey x).mac = s.mac := rfl
@[simp] theorem setKey_tsv (x : KeySt) : (s.setKey x).tsv = s.tsv := rfl
@[simp] theorem setKey_prl (x : KeySt) : (s.setKey x).prl = s.prl := rfl
@[simp] theorem setKey_dom (x : KeySt) : (s.setKey x).dom = s.dom := rfl
@[simp] theorem setKey_cfg (x : KeySt) : (s.setKey x).cfg = s.cfg := rfl
@[simp] theorem setKey_hst (x : KeySt) : (s.setKey x).hst = s.hst := rfl
@[simp] theorem setKey_pwr (x : KeySt) : (s.setKey x).pwr = s.pwr := rfl
@[simp] theorem setKey_jtag (x : KeySt) : (s.setKey x).jtag = s.jtag := rfl
@[simp] theorem setKey_rcd (x : KeySt) : (s.setKey x).rcd = s.rcd := rfl
@[simp] theorem setKey_flt (x : KeySt) : (s.setKey x).flt = s.flt := rfl
@[simp] theorem setKey_irq (x : KeySt) : (s.setKey x).irq = s.irq := rfl
@[simp] theorem setKey_pmc (x : KeySt) : (s.setKey x).pmc = s.pmc := rfl

@[simp] theorem setKey_get (x : KeySt) : (s.setKey x).get f = s.get f := rfl

@[simp] theorem setNvm_nvm (x : NvmSt) : (s.setNvm x).nvm = x := rfl
@[simp] theorem setNvm_pending (x : NvmSt) : (s.setNvm x).pending = s.pending := rfl
@[simp] theorem setNvm_regs (x : NvmSt) : (s.setNvm x).regs = s.regs := rfl
@[simp] theorem setNvm_edge (x : NvmSt) : (s.setNvm x).edge = s.edge := rfl
@[simp] theorem setNvm_caps (x : NvmSt) : (s.setNvm x).caps = s.caps := rfl
@[simp] theorem setNvm_now (x : NvmSt) : (s.setNvm x).now = s.now := rfl
@[simp] theorem setNvm_up (x : NvmSt) : (s.setNvm x).up = s.up := rfl
@[simp] theorem setNvm_strokes (x : NvmSt) : (s.setNvm x).strokes = s.strokes := rfl
@[simp] theorem setNvm_ret (x : NvmSt) : (s.setNvm x).ret = s.ret := rfl
@[simp] theorem setNvm_freeCount (x : NvmSt) : (s.setNvm x).freeCount = s.freeCount := rfl
@[simp] theorem setNvm_gen (x : NvmSt) : (s.setNvm x).gen = s.gen := rfl
@[simp] theorem setNvm_etm (x : NvmSt) : (s.setNvm x).etm = s.etm := rfl
@[simp] theorem setNvm_clp (x : NvmSt) : (s.setNvm x).clp = s.clp := rfl
@[simp] theorem setNvm_rmon (x : NvmSt) : (s.setNvm x).rmon = s.rmon := rfl
@[simp] theorem setNvm_sel (x : NvmSt) : (s.setNvm x).sel = s.sel := rfl
@[simp] theorem setNvm_bnd (x : NvmSt) : (s.setNvm x).bnd = s.bnd := rfl
@[simp] theorem setNvm_tch (x : NvmSt) : (s.setNvm x).tch = s.tch := rfl
@[simp] theorem setNvm_out (x : NvmSt) : (s.setNvm x).out = s.out := rfl
@[simp] theorem setNvm_gns (x : NvmSt) : (s.setNvm x).gns = s.gns := rfl
@[simp] theorem setNvm_gnt (x : NvmSt) : (s.setNvm x).gnt = s.gnt := rfl
@[simp] theorem setNvm_lan (x : NvmSt) : (s.setNvm x).lan = s.lan := rfl
@[simp] theorem setNvm_key (x : NvmSt) : (s.setNvm x).key = s.key := rfl
@[simp] theorem setNvm_mac (x : NvmSt) : (s.setNvm x).mac = s.mac := rfl
@[simp] theorem setNvm_tsv (x : NvmSt) : (s.setNvm x).tsv = s.tsv := rfl
@[simp] theorem setNvm_prl (x : NvmSt) : (s.setNvm x).prl = s.prl := rfl
@[simp] theorem setNvm_dom (x : NvmSt) : (s.setNvm x).dom = s.dom := rfl
@[simp] theorem setNvm_cfg (x : NvmSt) : (s.setNvm x).cfg = s.cfg := rfl
@[simp] theorem setNvm_hst (x : NvmSt) : (s.setNvm x).hst = s.hst := rfl
@[simp] theorem setNvm_pwr (x : NvmSt) : (s.setNvm x).pwr = s.pwr := rfl
@[simp] theorem setNvm_jtag (x : NvmSt) : (s.setNvm x).jtag = s.jtag := rfl
@[simp] theorem setNvm_rcd (x : NvmSt) : (s.setNvm x).rcd = s.rcd := rfl
@[simp] theorem setNvm_flt (x : NvmSt) : (s.setNvm x).flt = s.flt := rfl
@[simp] theorem setNvm_irq (x : NvmSt) : (s.setNvm x).irq = s.irq := rfl
@[simp] theorem setNvm_pmc (x : NvmSt) : (s.setNvm x).pmc = s.pmc := rfl

@[simp] theorem setNvm_get (x : NvmSt) : (s.setNvm x).get f = s.get f := rfl

@[simp] theorem setGns_gns (x : GnsSt) : (s.setGns x).gns = x := rfl
@[simp] theorem setGns_pending (x : GnsSt) : (s.setGns x).pending = s.pending := rfl
@[simp] theorem setGns_regs (x : GnsSt) : (s.setGns x).regs = s.regs := rfl
@[simp] theorem setGns_edge (x : GnsSt) : (s.setGns x).edge = s.edge := rfl
@[simp] theorem setGns_caps (x : GnsSt) : (s.setGns x).caps = s.caps := rfl
@[simp] theorem setGns_now (x : GnsSt) : (s.setGns x).now = s.now := rfl
@[simp] theorem setGns_up (x : GnsSt) : (s.setGns x).up = s.up := rfl
@[simp] theorem setGns_strokes (x : GnsSt) : (s.setGns x).strokes = s.strokes := rfl
@[simp] theorem setGns_ret (x : GnsSt) : (s.setGns x).ret = s.ret := rfl
@[simp] theorem setGns_freeCount (x : GnsSt) : (s.setGns x).freeCount = s.freeCount := rfl
@[simp] theorem setGns_gen (x : GnsSt) : (s.setGns x).gen = s.gen := rfl
@[simp] theorem setGns_etm (x : GnsSt) : (s.setGns x).etm = s.etm := rfl
@[simp] theorem setGns_clp (x : GnsSt) : (s.setGns x).clp = s.clp := rfl
@[simp] theorem setGns_rmon (x : GnsSt) : (s.setGns x).rmon = s.rmon := rfl
@[simp] theorem setGns_sel (x : GnsSt) : (s.setGns x).sel = s.sel := rfl
@[simp] theorem setGns_bnd (x : GnsSt) : (s.setGns x).bnd = s.bnd := rfl
@[simp] theorem setGns_tch (x : GnsSt) : (s.setGns x).tch = s.tch := rfl
@[simp] theorem setGns_out (x : GnsSt) : (s.setGns x).out = s.out := rfl
@[simp] theorem setGns_gnt (x : GnsSt) : (s.setGns x).gnt = s.gnt := rfl
@[simp] theorem setGns_lan (x : GnsSt) : (s.setGns x).lan = s.lan := rfl
@[simp] theorem setGns_key (x : GnsSt) : (s.setGns x).key = s.key := rfl
@[simp] theorem setGns_nvm (x : GnsSt) : (s.setGns x).nvm = s.nvm := rfl
@[simp] theorem setGns_mac (x : GnsSt) : (s.setGns x).mac = s.mac := rfl
@[simp] theorem setGns_tsv (x : GnsSt) : (s.setGns x).tsv = s.tsv := rfl
@[simp] theorem setGns_prl (x : GnsSt) : (s.setGns x).prl = s.prl := rfl
@[simp] theorem setGns_dom (x : GnsSt) : (s.setGns x).dom = s.dom := rfl
@[simp] theorem setGns_cfg (x : GnsSt) : (s.setGns x).cfg = s.cfg := rfl
@[simp] theorem setGns_hst (x : GnsSt) : (s.setGns x).hst = s.hst := rfl
@[simp] theorem setGns_pwr (x : GnsSt) : (s.setGns x).pwr = s.pwr := rfl
@[simp] theorem setGns_jtag (x : GnsSt) : (s.setGns x).jtag = s.jtag := rfl
@[simp] theorem setGns_rcd (x : GnsSt) : (s.setGns x).rcd = s.rcd := rfl
@[simp] theorem setGns_flt (x : GnsSt) : (s.setGns x).flt = s.flt := rfl
@[simp] theorem setGns_irq (x : GnsSt) : (s.setGns x).irq = s.irq := rfl
@[simp] theorem setGns_pmc (x : GnsSt) : (s.setGns x).pmc = s.pmc := rfl

@[simp] theorem setGns_get (x : GnsSt) : (s.setGns x).get f = s.get f := rfl

@[simp] theorem setGnt_gnt (x : GntSt) : (s.setGnt x).gnt = x := rfl
@[simp] theorem setGnt_pending (x : GntSt) : (s.setGnt x).pending = s.pending := rfl
@[simp] theorem setGnt_regs (x : GntSt) : (s.setGnt x).regs = s.regs := rfl
@[simp] theorem setGnt_edge (x : GntSt) : (s.setGnt x).edge = s.edge := rfl
@[simp] theorem setGnt_caps (x : GntSt) : (s.setGnt x).caps = s.caps := rfl
@[simp] theorem setGnt_now (x : GntSt) : (s.setGnt x).now = s.now := rfl
@[simp] theorem setGnt_up (x : GntSt) : (s.setGnt x).up = s.up := rfl
@[simp] theorem setGnt_strokes (x : GntSt) : (s.setGnt x).strokes = s.strokes := rfl
@[simp] theorem setGnt_ret (x : GntSt) : (s.setGnt x).ret = s.ret := rfl
@[simp] theorem setGnt_freeCount (x : GntSt) : (s.setGnt x).freeCount = s.freeCount := rfl
@[simp] theorem setGnt_gen (x : GntSt) : (s.setGnt x).gen = s.gen := rfl
@[simp] theorem setGnt_etm (x : GntSt) : (s.setGnt x).etm = s.etm := rfl
@[simp] theorem setGnt_clp (x : GntSt) : (s.setGnt x).clp = s.clp := rfl
@[simp] theorem setGnt_rmon (x : GntSt) : (s.setGnt x).rmon = s.rmon := rfl
@[simp] theorem setGnt_sel (x : GntSt) : (s.setGnt x).sel = s.sel := rfl
@[simp] theorem setGnt_bnd (x : GntSt) : (s.setGnt x).bnd = s.bnd := rfl
@[simp] theorem setGnt_tch (x : GntSt) : (s.setGnt x).tch = s.tch := rfl
@[simp] theorem setGnt_out (x : GntSt) : (s.setGnt x).out = s.out := rfl
@[simp] theorem setGnt_gns (x : GntSt) : (s.setGnt x).gns = s.gns := rfl
@[simp] theorem setGnt_lan (x : GntSt) : (s.setGnt x).lan = s.lan := rfl
@[simp] theorem setGnt_key (x : GntSt) : (s.setGnt x).key = s.key := rfl
@[simp] theorem setGnt_nvm (x : GntSt) : (s.setGnt x).nvm = s.nvm := rfl
@[simp] theorem setGnt_mac (x : GntSt) : (s.setGnt x).mac = s.mac := rfl
@[simp] theorem setGnt_tsv (x : GntSt) : (s.setGnt x).tsv = s.tsv := rfl
@[simp] theorem setGnt_prl (x : GntSt) : (s.setGnt x).prl = s.prl := rfl
@[simp] theorem setGnt_dom (x : GntSt) : (s.setGnt x).dom = s.dom := rfl
@[simp] theorem setGnt_cfg (x : GntSt) : (s.setGnt x).cfg = s.cfg := rfl
@[simp] theorem setGnt_hst (x : GntSt) : (s.setGnt x).hst = s.hst := rfl
@[simp] theorem setGnt_pwr (x : GntSt) : (s.setGnt x).pwr = s.pwr := rfl
@[simp] theorem setGnt_jtag (x : GntSt) : (s.setGnt x).jtag = s.jtag := rfl
@[simp] theorem setGnt_rcd (x : GntSt) : (s.setGnt x).rcd = s.rcd := rfl
@[simp] theorem setGnt_flt (x : GntSt) : (s.setGnt x).flt = s.flt := rfl
@[simp] theorem setGnt_irq (x : GntSt) : (s.setGnt x).irq = s.irq := rfl
@[simp] theorem setGnt_pmc (x : GntSt) : (s.setGnt x).pmc = s.pmc := rfl

@[simp] theorem setGnt_get (x : GntSt) : (s.setGnt x).get f = s.get f := rfl

@[simp] theorem setMac_mac (x : MacSt) : (s.setMac x).mac = x := rfl
@[simp] theorem setMac_pending (x : MacSt) : (s.setMac x).pending = s.pending := rfl
@[simp] theorem setMac_regs (x : MacSt) : (s.setMac x).regs = s.regs := rfl
@[simp] theorem setMac_edge (x : MacSt) : (s.setMac x).edge = s.edge := rfl
@[simp] theorem setMac_caps (x : MacSt) : (s.setMac x).caps = s.caps := rfl
@[simp] theorem setMac_now (x : MacSt) : (s.setMac x).now = s.now := rfl
@[simp] theorem setMac_up (x : MacSt) : (s.setMac x).up = s.up := rfl
@[simp] theorem setMac_strokes (x : MacSt) : (s.setMac x).strokes = s.strokes := rfl
@[simp] theorem setMac_ret (x : MacSt) : (s.setMac x).ret = s.ret := rfl
@[simp] theorem setMac_freeCount (x : MacSt) : (s.setMac x).freeCount = s.freeCount := rfl
@[simp] theorem setMac_gen (x : MacSt) : (s.setMac x).gen = s.gen := rfl
@[simp] theorem setMac_etm (x : MacSt) : (s.setMac x).etm = s.etm := rfl
@[simp] theorem setMac_clp (x : MacSt) : (s.setMac x).clp = s.clp := rfl
@[simp] theorem setMac_rmon (x : MacSt) : (s.setMac x).rmon = s.rmon := rfl
@[simp] theorem setMac_sel (x : MacSt) : (s.setMac x).sel = s.sel := rfl
@[simp] theorem setMac_bnd (x : MacSt) : (s.setMac x).bnd = s.bnd := rfl
@[simp] theorem setMac_tch (x : MacSt) : (s.setMac x).tch = s.tch := rfl
@[simp] theorem setMac_out (x : MacSt) : (s.setMac x).out = s.out := rfl
@[simp] theorem setMac_gns (x : MacSt) : (s.setMac x).gns = s.gns := rfl
@[simp] theorem setMac_gnt (x : MacSt) : (s.setMac x).gnt = s.gnt := rfl
@[simp] theorem setMac_lan (x : MacSt) : (s.setMac x).lan = s.lan := rfl
@[simp] theorem setMac_key (x : MacSt) : (s.setMac x).key = s.key := rfl
@[simp] theorem setMac_nvm (x : MacSt) : (s.setMac x).nvm = s.nvm := rfl
@[simp] theorem setMac_tsv (x : MacSt) : (s.setMac x).tsv = s.tsv := rfl
@[simp] theorem setMac_prl (x : MacSt) : (s.setMac x).prl = s.prl := rfl
@[simp] theorem setMac_dom (x : MacSt) : (s.setMac x).dom = s.dom := rfl
@[simp] theorem setMac_cfg (x : MacSt) : (s.setMac x).cfg = s.cfg := rfl
@[simp] theorem setMac_hst (x : MacSt) : (s.setMac x).hst = s.hst := rfl
@[simp] theorem setMac_pwr (x : MacSt) : (s.setMac x).pwr = s.pwr := rfl
@[simp] theorem setMac_jtag (x : MacSt) : (s.setMac x).jtag = s.jtag := rfl
@[simp] theorem setMac_rcd (x : MacSt) : (s.setMac x).rcd = s.rcd := rfl
@[simp] theorem setMac_flt (x : MacSt) : (s.setMac x).flt = s.flt := rfl
@[simp] theorem setMac_irq (x : MacSt) : (s.setMac x).irq = s.irq := rfl
@[simp] theorem setMac_pmc (x : MacSt) : (s.setMac x).pmc = s.pmc := rfl

@[simp] theorem setMac_get (x : MacSt) : (s.setMac x).get f = s.get f := rfl

@[simp] theorem tick_get : (s.tick n).get f = s.get f := rfl

/-- States with the same register file read alike. -/
theorem get_of_regs {s t : State} (h : t.regs = s.regs) (f : Fld) : t.get f = s.get f := by simp [State.get, rdWord, h]

end Sys2Proof.Machine
end

