-- ==== Sys2Proof/Tests/Slice0.lean ====
section
/-! SUPPORT. The model's own tests: the refusals of WellFormed, a witness of the hypotheses of each statement, clause by clause, and small tests of one step,
their expected values computed by hand from the rules named. -/

open Sys2Proof Sys2Proof.Machine

namespace Sys2Proof.Tests

set_option Elab.async false

/-- A state with the fields named written. -/
def with' (l : List (Fld × Nat)) (s : State := State.reset) : State := l.foldl (fun s p => s.put p.1 p.2) s

/-- A state whose registers stood so at the last edge too. -/
def edged (s : State) : State := { s with edge := s.regs }

/-- A state in RUN with KS_2 live. -/
def running (l : List (Fld × Nat)) : State :=
  { with' ((R.CFG_STAT_STATE, 4) :: l) with key := { slots := [(0, { state := 1 }), (2, { state := 1, ops := 8 })] } }

theorem test_reset_is_no_reset_in_progress : State.reset.pwr.rst = none := rfl


/-- A lane whose stage stands, in a state of the fields named. -/
def laneAt (k : Fin 16) (st : Nat) (l : List (Fld × Nat)) (o : LaneSt) : State :=
  { with' ((R.LAN_LANE_STAT_STAGE k, st) :: (R.LAN_LANE_CFG_EN k, 1) :: l) with lan := { lanes := [(k, o)] } }

/-- A band's tick without anything in it. -/
def noTick : BandTick :=
  { nco := ⟨0, 0, 0⟩, i := 0, q := 0, ve := 0, vl := 0, prompt := 0, disc := 0, cn0 := 0, bitSync := false, secSync := false, preamble := false, l1c := none }

/-- A PTP message of a type in an Ethernet frame (12 R301), flagField's first octet fl, between identities of zeros; the body behind the header. -/
def ptpFr (ty fl : Nat) (body : List Nat) : List Nat :=
  List.replicate 12 0 ++ [0x88, 0xF7, ty, 2, 0, 34 + body.length, 0, 0, fl, 0] ++ List.replicate 26 0 ++ body

/-- A Signaling message with one TLV. -/
def sigFr (ty : Nat) (d : List Nat) : List Nat := ptpFr 12 4 (List.replicate 10 0 ++ tlv ty d)

/-- An IPv4 packet in a frame. -/
def ipFr (proto : Nat) (l : List Nat) : List Nat :=
  List.replicate 12 0 ++ [8, 0, 0x45, 0, 0, 20 + l.length, 0, 0, 0, 0, 64, proto] ++ List.replicate 10 0 ++ l

/-- A frame at a Mallet, received on port 15. -/
def inMal (b : List Nat) (wait : Option Nat := none) : MalFrame := { f := { port := 15, bytes := b }, wait := wait }

/-- A grant that lasts. -/
def lasting : Option Grant := some { log := 0, until' := 2 ^ 40, dur := 300 }

/-- Session 4095 on port 15, of the peer with the identities of zeros. -/
def peer (role st : Nat) (v : Sess := {}) : Sess := { v with role := role, st := st, port := 15, ip := List.replicate 16 0, pid := List.replicate 10 0 }

/-- A state of the fields named, in its first Stroke, with a frame at the head of Mallet 7's queue and session 4095. -/
def malAt (f : MalFrame) (v : Sess) (l : List (Fld × Nat) := []) : State :=
  { with' ((R.TSV_CTL_PTP_EN, 1) :: (R.TSV_PORT_CFG_PTP_EN 15, 1) :: (R.TSV_PTP_CFG_DOMAIN, 0) :: l) with
    strokes := 1, tsv := { mals := [(7, { q := [f] })], sess := [(4095, v)] } }

/-- What a verified message leaves. -/
def readyOut (f : MalFrame) (s : State) : State :=
  ptpHeard f.f.port (ptpType (ptpOf f.f.bytes)) (ptpVerify f.f.port (ptpWho s f.f.port f.f.bytes) (ptpOf f.f.bytes) s).2

theorem ready_of {m : Nat} {f : MalFrame} {s : State}
    (h : (s.mal m).q.head? = some f ∧ f.wait = none ∧ unitDown s (.mallet m) = false ∧ domOn s 2 = true ∧ ptpParse s f.f.port f.f.bytes = 0)
    (hv : (ptpVerify f.f.port (ptpWho s f.f.port f.f.bytes) (ptpOf f.f.bytes) s).1 = 0) : ptpReady m f s (readyOut f s) :=
  ⟨h.1, h.2.1, h.2.2.1, h.2.2.2.1, h.2.2.2.2, _, Prod.ext hv rfl, rfl⟩

/-- A store with the root and a wrapping key, its transaction open by I2C and a wrapping key described by the staging registers for slot 8. -/
def staging (l : List (Fld × Nat)) (k : KeySt := {}) : State :=
  { with' ([(R.KEY_STAT_TXN_STATE, 1), (R.KEY_STAT_TXN_OWNER, 1), (R.KEY_STG_OP_SLOT, 8), (R.KEY_STG_ATTR_KIND, 3), (R.KEY_STG_ATTR_OPS, 0x30),
      (R.KEY_STAT_RNG_OK, 1)] ++ l) with
    key := { k with slots := [(0, { state := 1, kind := 1, ops := 0x10 }), (4, { state := 1, kind := 3, ops := 0x30, depth := 1, uses := 9, useMax := 9 }), (5, { state := 3 })] } }

/-- A wrapped import under slot 4. -/
def wrapped : State := staging [(R.KEY_STG_OP_PARENT, 4), (R.KEY_STG_OP_OP, 2)]

theorem wrapped_check (b : Bool) : importErr (stagedSlots wrapped) (wrapped.flag R.KEY_STAT_RNG_OK) false (keyGate wrapped 4 5 1 == 0 && b) 2 8
    (stgSlot wrapped (stagedSlots wrapped)) = if b then 0 else 8 := by
  cases b <;> decide +kernel

/-- Whether a blob opens is a free value: a wrapped import passes where it does. -/
theorem wrapped_import (h : Config.aesSivOpens (toBytes (keyBytes (kslot (stagedSlots wrapped) (stgSlot wrapped (stagedSlots wrapped)).parent).key))
    [toBytes (wrapAd (stgSlot wrapped (stagedSlots wrapped)))] (toBytes (stgData wrapped 12)) = true) :
    ∃ (j : Iface) (s : State), s.pwr.rst = none ∧ (let v := stageFloor j 2 (s.put R.KEY_STG_OP_OP 2); (stageCheck v j 2).1 = 0) := by
  refine ⟨.i2c, wrapped, by decide +kernel, ?_⟩
  have h1 : wrapped.put R.KEY_STG_OP_OP 2 = wrapped := by decide +kernel
  have h2 : stageFloor .i2c 2 wrapped = wrapped := by
    have : ¬ keyGate wrapped (wrapped.get R.KEY_STG_OP_PARENT) 5 1 = 2 := by decide +kernel
    simp only [stageFloor, this, and_false, if_false]
  have h3 : keyOwns wrapped .i2c = true := by decide +kernel
  have h4 : ¬ 16 ≤ wrapped.key.staged.length := by decide +kernel
  have h5 : wrapped.get R.KEY_STG_OP_SLOT = 8 := by decide +kernel
  have h6 : (stgSlot wrapped (stagedSlots wrapped)).parent = 4 := by decide +kernel
  rw [h6] at h
  simp only [h1, h2, stageCheck, h3, h4, h5, h6, h, if_false, Bool.not_true, Bool.false_eq_true]
  exact wrapped_check true

/-- A cell of a kind, flags, SEQ 7 and body, as bytes. -/
def cellOf (kind flags : Nat) (body : List Nat) : List Byte := (mkCell kind flags 7 body).map (BitVec.ofNat 8)

/-- Path 0 of an enabled pair of one lane, the lane in a stage. -/
def pathAt (st : Nat) (o : PrlPath) (l : List (Fld × Nat) := []) : State :=
  { laneAt 0 st ([(R.LAN_LANE_CFG_MODE 0, 1), (R.PRL_PP_CTL_EN 0, 1), (R.PRL_PP_CTL_SINGLE 0, 1), (R.DOM_ID_NODE_ID, 9), (R.DOM_ID_DOMAIN, 0)] ++ l) {} with
    prl := { paths := [(0, { o with upAt := some 0 })] } }

/-- A Nyger image with one empty section. -/
def image : List Byte :=
  let b := ascii "NYGR" ++ [1, 0, 0x16, 0x88, 9, 0, 0, 0, 96, 0, 0, 0, 1, 0] ++ List.replicate 46 0 ++ [1, 0, 0, 0, 80, 0, 0, 0, 0, 0, 0, 0] ++ List.replicate 20 0
  toBytes (b ++ leBytes 4 (crc32 b))

/-- KS_2 with HMAC_VER, and a challenge at SPI. -/
def challenged : State :=
  { key := { slots := [(0, { state := 1 }), (2, { state := 1, ops := 8 })] }, hst := { chal := [(0, [1])] } }

/-- The answer that the challenge asks for. -/
def answer : List Nat := hmacOf (challenged.slot 2).key (custMsg challenged .spi 0)

/-- A response written at SPI. -/
def respond (r : List Nat) (s : State) : State :=
  (List.range 8).foldl (fun s w => s.put ((R.HST_RESP_W0_RESP.word w).ifc .spi) (ofLe ((r.drop (4 * w)).take 4))) s

theorem fold_keeps {β : Type} (h : State → β) (f : Nat → Fld) (v : Nat → Nat) (hh : ∀ s w, h (s.put (f w) (v w)) = h s) (l : List Nat) (s : State) :
    h (l.foldl (fun s w => s.put (f w) (v w)) s) = h s := by
  induction l generalizing s with
  | nil => rfl
  | cons a t ih => rw [List.foldl_cons, ih, hh]

theorem custMsg_put (f : Fld) (v : Nat) (hf : 16 ≤ f.addr) (s : State) : custMsg (s.put f v) .spi 0 = custMsg s .spi 0 := by
  have h : ∀ w < 4, rdWord (s.put f v) (4 * w) = rdWord s (4 * w) := fun w hw => rdWord_wrWord_other s _ (by omega)
  simp only [custMsg, show List.range 4 = [0, 1, 2, 3] from rfl, List.flatMap_cons, List.flatMap_nil, h 0 (by omega), h 1 (by omega), h 2 (by omega), h 3 (by omega)]
  rfl

theorem fold_put_get (f : Nat → Fld) (v : Nat → Nat) (hf : ∀ w, Fits (f w)) (ha : ∀ w w', w ≠ w' → Apart (f w) (f w')) (k : Nat) (l : List Nat) (s : State)
    (hk : k ∈ l ∨ s.get (f k) = v k % 2 ^ ((f k).hi - (f k).lo + 1)) :
    (l.foldl (fun s w => s.put (f w) (v w)) s).get (f k) = v k % 2 ^ ((f k).hi - (f k).lo + 1) := by
  induction l generalizing s with
  | nil => exact hk.resolve_left (by simp)
  | cons a t ih =>
    refine ih _ ?_
    by_cases h : k = a
    · exact .inr (h ▸ get_put_same s _ _ (hf _))
    · rcases hk with hk | hk
      · exact .inl ((List.mem_cons.mp hk).resolve_left h)
      · exact .inr ((get_put_other s _ _ _ (hf _) (hf _) (ha _ _ (fun e => h e.symm))).trans hk)

theorem leBytes_lt (n v : Nat) : ∀ b ∈ leBytes n v, b < 256 := by
  induction n generalizing v with
  | zero => simp [leBytes]
  | succ n ih => intro b hb; rcases List.mem_cons.mp hb with rfl | hb; · exact Nat.mod_lt _ (by omega)
                 · exact ih _ b hb

theorem leBytes_length (n v : Nat) : (leBytes n v).length = n := by
  induction n generalizing v with
  | zero => rfl
  | succ n ih => simp [leBytes, ih]

theorem leBytes_ofLe (l : List Nat) (h : ∀ b ∈ l, b < 256) : leBytes l.length (ofLe l) = l := by
  induction l with
  | nil => rfl
  | cons a t ih =>
    have ha := h a (by simp)
    have := ih (fun b hb => h b (by simp [hb]))
    simp only [List.length_cons, leBytes, ofLe]
    rw [show (a % 256 + 256 * ofLe t) % 256 = a by omega, show (a % 256 + 256 * ofLe t) / 256 = ofLe t by omega, this]

theorem ofLe_lt (l : List Nat) : ofLe l < 256 ^ l.length := by
  induction l with
  | nil => simp [ofLe]
  | cons a t ih => simp only [ofLe, List.length_cons, Nat.pow_succ]; omega

theorem hmac_length (k : Nat) (m : List Nat) : (hmacOf k m).length = 32 := by
  simp only [hmacOf, resBytes, beBytes, List.length_reverse, leBytes_length]

theorem hmac_lt (k : Nat) (m : List Nat) : ∀ b ∈ hmacOf k m, b < 256 := by
  intro b hb
  exact leBytes_lt _ _ b (List.mem_reverse.mp hb)

theorem quarters (l : List Nat) (h : l.length = 32) : (List.range 8).flatMap (fun w => (l.drop (4 * w)).take 4) = l := by
  simp only [show List.range 8 = [0, 1, 2, 3, 4, 5, 6, 7] from rfl, List.flatMap_cons, List.flatMap_nil]
  have : ∀ n, (l.drop n).take 4 ++ l.drop (n + 4) = l.drop n := fun n => by rw [← List.drop_drop, List.take_append_drop]
  have h8 : l.drop 32 = [] := List.drop_eq_nil_of_le (by omega)
  have h7 := this 28; have h6 := this 24; have h5 := this 20; have h4 := this 16; have h3 := this 12; have h2 := this 8; have h1 := this 4; have h0 := this 0
  simp only [Nat.zero_add, Nat.reduceAdd, Nat.reduceMul, Nat.mul_zero, List.drop_zero, h8] at *
  rw [h7, h6, h5, h4, h3, h2, h1, h0]

/-- The right response verifies. -/
theorem right_response : ∃ (j : Iface) (dt : Nat) (s : State), s.pwr.rst = none ∧ (let u := hstTouch j (custSettle (s.tick dt)); tget [] u.hst.chal j.num ≠ [] ∧
    keyGate u 2 3 1 ≠ 1 ∧ (let resp := (List.range 8).flatMap (fun w => leBytes 4 (u.get ((R.HST_RESP_W0_RESP.word w).ifc j)));
    hmacOf (u.slot 2).key (custMsg u j 0) = resp)) := by
  let f : Nat → Fld := fun w => (R.HST_RESP_W0_RESP.word w).ifc .spi
  let v : Nat → Nat := fun w => ofLe ((answer.drop (4 * w)).take 4)
  have keep : ∀ {β : Type} (h : State → β), (∀ s w, h (s.put (f w) (v w)) = h s) → h (respond answer challenged) = h challenged :=
    fun h hh => fold_keeps h f v hh _ _
  have hk := keep (·.key) (fun _ _ => rfl)
  have hh := keep (·.hst) (fun _ _ => rfl)
  have hp := keep (·.pwr) (fun _ _ => rfl)
  have hs := keep (·.strokes) (fun _ _ => rfl)
  have hm := keep (fun s => custMsg s .spi 0) (fun s w => custMsg_put _ _ (by show 16 ≤ 0x170030 + 4 * w + 0 * 2 ^ 24; omega) s)
  have hg : ∀ w, w < 8 → (respond answer challenged).get (f w) = v w := by
    intro w hw
    refine (fold_put_get f v (fun w => ⟨show 0 ≤ 31 by decide, show 31 < 32 by decide⟩) (fun w w' h => .inl ?_) w _ _ (.inl (List.mem_range.mpr hw))).trans ?_
    · show 0x170030 + 4 * w + 0 * 2 ^ 24 ≠ 0x170030 + 4 * w' + 0 * 2 ^ 24; omega
    · refine Nat.mod_eq_of_lt (Nat.lt_of_lt_of_le (ofLe_lt _) ?_)
      exact Nat.pow_le_pow_right (by omega) (by simp) |>.trans (by decide : 256 ^ 4 ≤ 2 ^ 32)
  generalize hS : respond answer challenged = S at *
  have ht : custSettle (S.tick 0) = S.tick 0 := by
    rw [custSettle, if_pos]
    show keyUsable (S.tick 0).key.slots 2 3 = true
    rw [show (S.tick 0).key = S.key from rfl, hk]; decide +kernel
  refine ⟨.spi, 0, S, ?_, ?_, ?_, ?_⟩
  · rw [hp]; rfl
  · rw [ht]; show tget [] S.hst.chal 0 ≠ []; rw [hh]; decide
  · rw [ht]; show keyGate (hstTouch .spi (S.tick 0)) 2 3 1 ≠ 1
    have : keyGate (hstTouch .spi (S.tick 0)) 2 3 1 = keyGate challenged 2 3 1 := by
      simp only [keyGate, State.slot, show (hstTouch .spi (S.tick 0)).key = S.key from rfl, hk]
      rfl
    rw [this]; decide +kernel
  · rw [ht]
    have e1 : ((hstTouch .spi (S.tick 0)).slot 2).key = (challenged.slot 2).key := by
      simp only [State.slot, show (hstTouch .spi (S.tick 0)).key = S.key from rfl, hk]
    have e2 : custMsg (hstTouch .spi (S.tick 0)) .spi 0 = custMsg challenged .spi 0 := Eq.trans (b := custMsg S .spi 0) rfl hm
    show hmacOf ((hstTouch .spi (S.tick 0)).slot 2).key (custMsg (hstTouch .spi (S.tick 0)) .spi 0) = _
    rw [e1, e2]
    show answer = (List.range 8).flatMap (fun w => leBytes 4 (S.get (f w)))
    have hq := quarters answer (hmac_length _ _)
    conv_lhs => rw [← hq]
    refine congrArg List.flatten (List.map_congr_left fun w hw => ?_)
    have hw := List.mem_range.mp hw
    rw [hg w hw]
    have hl : ((answer.drop (4 * w)).take 4).length = 4 := by
      have : answer.length = 32 := hmac_length _ _
      simp only [List.length_take, List.length_drop, this]; omega
    have := leBytes_ofLe ((answer.drop (4 * w)).take 4) (fun b hb => hmac_lt _ _ b (List.mem_of_mem_drop (List.mem_of_mem_take hb)))
    rw [hl] at this
    exact this.symm

/-- Of two responses one at least is wrong. -/
theorem wrong_response : ∃ (j : Iface) (dt : Nat) (s : State), s.pwr.rst = none ∧ (let u := hstTouch j (custSettle (s.tick dt)); tget [] u.hst.chal j.num ≠ [] ∧
    keyGate u 2 3 1 ≠ 1 ∧ (let resp := (List.range 8).flatMap (fun w => leBytes 4 (u.get ((R.HST_RESP_W0_RESP.word w).ifc j)));
    hmacOf (u.slot 2).key (custMsg u j 0) ≠ resp)) := by
  have hm : custMsg (challenged.put (R.HST_RESP_W0_RESP.ifc .spi) 1) .spi 0 = custMsg challenged .spi 0 := custMsg_put _ _ (by decide) _
  let u := fun s : State => hstTouch .spi (custSettle (State.tick s 0))
  by_cases h : hmacOf ((u challenged).slot 2).key (custMsg (u challenged) .spi 0)
      = (List.range 8).flatMap (fun w => leBytes 4 ((u challenged).get ((R.HST_RESP_W0_RESP.word w).ifc .spi)))
  · refine ⟨.spi, 0, challenged.put (R.HST_RESP_W0_RESP.ifc .spi) 1, rfl, by decide +kernel, by decide +kernel, ?_⟩
    intro _ e
    have hu : custMsg (u challenged) .spi 0 = custMsg (u (challenged.put (R.HST_RESP_W0_RESP.ifc .spi) 1)) .spi 0 := by decide +kernel
    have hk : ((u challenged).slot 2).key = ((u (challenged.put (R.HST_RESP_W0_RESP.ifc .spi) 1)).slot 2).key := by decide +kernel
    rw [hu, hk] at h
    have := h.symm.trans e
    exact absurd this (by decide +kernel)
  · exact ⟨.spi, 0, challenged, rfl, by decide +kernel, by decide +kernel, h⟩

/-- A request whose ICV is its key's. -/
theorem sealed_request : ∃ (dt slot : Nat) (r : MgmtReq) (l : List MgmtReq) (s : State), s.pwr.rst = none ∧ s.hst.reqs = r :: l ∧
    (let u := (s.tick dt).setHst { s.hst with reqs := l }; let b := r.msg; let n := ofBe ((b.drop 2).take 2); b.getD 0 0 = 1 ∧ b.getD 1 0 = 1 ∧ 32 + n ≤ b.length ∧
    mgmtKey u (ofBe ((b.drop 4).take 4)) = some slot ∧ keyGate u slot 3 1 ≠ 1 ∧
    (hmacOf (u.slot slot).key (b.take (16 + n))).take 16 = (b.drop (16 + n)).take 16) := by
  let p : List Nat := [1, 1, 0, 0, 0, 0, 0, 5, 0, 0, 0, 0, 0, 0, 0, 0]
  let x := (hmacOf 0 p).take 16
  have hx : x.length = 16 := by simp [x, hmac_length]
  let r : MgmtReq := { msg := p ++ x, port := none }
  refine ⟨0, 4, r, [], { key := { slots := [(0, { state := 1 }), (4, { state := 1, kind := 8, role := 5, ops := 8 })] }, hst := { reqs := [r] } }, rfl, rfl, ?_⟩
  refine ⟨rfl, rfl, ?_, ?_, ?_, ?_⟩
  · show 32 + 0 ≤ (p ++ x).length
    rw [List.length_append, hx]; decide
  · show mgmtKey _ 5 = some 4
    exact (by decide +kernel : keyByRole [(0, { state := 1 }), (4, { state := 1, kind := 8, role := 5, ops := 8 })] 8 5 none = some 4)
  · show keyGate _ 4 3 1 ≠ 1
    decide +kernel
  · show (hmacOf (KeySlot.key (kslot [(0, { state := 1 }), (4, { state := 1, kind := 8, role := 5, ops := 8 })] 4)) ((p ++ x).take (16 + ofBe [0, 0]))).take 16 = ((p ++ x).drop (16 + ofBe [0, 0])).take 16
    rw [show KeySlot.key (kslot [(0, { state := 1 }), (4, { state := 1, kind := 8, role := 5, ops := 8 })] 4) = 0 by decide +kernel,
      show 16 + ofBe [0, 0] = 16 from rfl, show (p ++ x).take 16 = p from rfl, show (p ++ x).drop 16 = x from rfl, List.take_of_length_le (Nat.le_of_eq hx)]

/-! ## WellFormed refuses -/

theorem test_instant_past_the_stroke_is_refused : Instr.wf (.pinReset 39064) = false ∧ Instr.wf (.pinReset 39063) = true := by decide
theorem test_bit_fraction_past_rawf_is_refused :
    Instr.wf (.frameRx 0 [] 0 4096 false 0) = false ∧ Instr.wf (.frameCommit 0 0 4096 false 0) = false ∧ Instr.wf (.frameRx 0 [] 0 4095 false 0) = true := by decide
theorem test_unit_that_does_not_exist_is_refused :
    Instr.wf (.blockResetRelease (.apll 4) 0) = false ∧ Instr.wf (.blockResetRelease (.lane 16) 0) = false ∧ Instr.wf (.blockResetRelease (.mallet 8) 0) = false ∧
    Instr.wf (.blockResetRelease (.gnssCh 96) 0) = false ∧ Instr.wf (.blockResetRelease (.rmon 32) 0) = false ∧ Instr.wf (.blockResetRelease (.apll 3) 0) = true := by decide

/-- 64 probes and a line of 8 192 hits. -/
def calOf (conv probe code n : Nat) : CalIn := { conv := conv, probes := List.replicate 63 (0, 0) ++ [(probe, 0)], hits := [(code, n)] }

theorem test_calibration_out_of_range_is_refused :
    CalIn.wf (calOf 41 0 0 8192) = false ∧ CalIn.wf (calOf 40 2048 0 8192) = false ∧ CalIn.wf (calOf 40 0 1536 8192) = false ∧ CalIn.wf (calOf 40 0 0 8191) = false ∧
    CalIn.wf { calOf 40 0 0 8192 with probes := [] } = false ∧ CalIn.wf (calOf 40 2047 1535 8192) = true := by decide +kernel

/-- A lane's Stroke. -/
def laneIn (k dt code bits bad : Nat) : LaneIn := { lane := k, rx := some ⟨dt, code, 0⟩, tx := none, errs := 0, bits := bits, bad := bad }

theorem test_lane_out_of_range_is_refused :
    LaneIn.wf (laneIn 16 0 0 0 0) = false ∧ LaneIn.wf (laneIn 15 39064 0 0 0) = false ∧ LaneIn.wf (laneIn 15 0 2048 0 0) = false ∧ LaneIn.wf (laneIn 15 0 0 1 2) = false ∧
    LaneIn.wf (laneIn 15 39063 2047 2 2) = true := by decide

/-- An edge at which nothing is seen. -/
def edgeOf (tj : Int) (pd : List Int) : EdgeIn := { cal := [], tj := tj, pd := pd, sclk := none, lanes := [], spll := true, busyA := 0, busyB := 0 }

theorem test_edge_out_of_range_is_refused :
    EdgeIn.wf (edgeOf 32768 [0, 0, 0, 0]) = false ∧ EdgeIn.wf (edgeOf (-32769) [0, 0, 0, 0]) = false ∧ EdgeIn.wf (edgeOf 0 [0, 0, 0]) = false ∧
    EdgeIn.wf { edgeOf 0 [0, 0, 0, 0] with sclk := some ⟨0, 0, 2048, 0, 0⟩ } = false ∧ EdgeIn.wf { edgeOf 0 [0, 0, 0, 0] with cal := [calOf 41 0 0 8192] } = false ∧
    EdgeIn.wf (edgeOf (-32768) [0, 0, 0, 0]) = true := by decide +kernel

theorem test_spectrum_of_255_bins_is_refused :
    SpecIn.wf ⟨List.replicate 255 0, List.replicate 4 (0, 0, 0)⟩ = false ∧ SpecIn.wf ⟨List.replicate 256 0, List.replicate 3 (0, 0, 0)⟩ = false ∧
    SpecIn.wf ⟨List.replicate 256 0, List.replicate 4 (0, 0, 0)⟩ = true := by decide +kernel
theorem test_dwell_without_its_noise_is_refused : Instr.wf (.dwellComplete [] (List.replicate 63 0)) = false ∧ Instr.wf (.dwellComplete [] (List.replicate 64 0)) = true := by
  decide +kernel

/-! ## The spec's own figures -/

/-- 02, an alarm across the wrap: 2 097 152 cycles. -/
theorem test_alarm_waits_across_the_wrap : rawDiff 0x000000100000 0xFFFFFFF00000 = 2097152 := by decide +kernel

/-- 02 R70: a leap of +1 s moves the offset at LEAP_TAI and not before. -/
theorem test_leap_moves_the_offset : (utcAt { valid := true, offset := 37, leap := 1, leapTai := 100 } 100).offset = 38 ∧
    (utcAt { valid := true, offset := 37, leap := 1, leapTai := 100 } 99).offset = 37 := by decide

/-- 12, a receive stamp on 10GBASE-R: s_k + 65 536 199 (before RX_CORR). -/
theorem test_receive_stamp_of_the_example : wordStamp [(127998362, 19531, false), (0, 0, false)] 1 29531 2 = (127998362 + 65536199, false) := by decide +kernel

/-- 06 R177: 1 466.700 ns is code 0x24, 1 ps exactly 0x17, a little more 0x18, above 10 s 0x31. -/
theorem test_accuracy_codes : accCode (1466 * 65536 + 45876) false = 0x24 ∧ accCode 65 false = 0x17 ∧ accCode 66 false = 0x18 ∧ accCode (10 ^ 10 * 65536 + 1) false = 0x31 ∧
    accCode 0 true = 0xFE := by decide +kernel

/-- 09, aided search on waking: 5 cells for L1 C/A, 9 for E1-C; 1 bin. -/
theorem test_grid_of_the_aided_example :
    let s := { edged (with' [(R.BND_SET_BOUND_W0_LOWER 0, 800 * 65536), (R.BND_SET_BOUND_W1_LOWER 0, 0), (R.BND_SET_BOUND_W1_UPPER 0, 0), (R.BND_SET_BOUND_W2_UPPER 0, 0), (R.BND_SET_BOUND_W3_UNBOUNDED 0, 0)]) with gen := { tasks := [(1, { published := true })] } }
    let a := fun sys sig => some ({ sys := sys, svid := 1, sig := sig, visible := true, served := true, codePh := 0, dop := some 0, uRange := 100, uDop := 6, iono := 0 } : AidIn)
    gridCells s 1 (a 0 1) = 5 ∧ gridCells s 3 (a 1 3) = 9 ∧ gridBins s 1 (a 0 1) = 1 := by decide +kernel

/-- IEEE 802.3's check value of the CRC that 12, 15 and 20 use. -/
theorem test_crc_of_the_check_string : crc32 (ascii "123456789") = 0xCBF43926 := by decide +kernel

/-- 16 R412: CLASS decides before ACC; the node only between equals. -/
theorem test_class_decides_before_accuracy : dataKey 128 6 0xFE 0xFFFF 128 9 < dataKey 128 7 0x20 0 128 1 := by decide +kernel

/-! ## One step -/

theorem test_empty_queue_idles : step State.reset = .next State.reset := rfl

/-- 19 R493: a wrong CONFIRM is RESULT 2. -/
theorem test_wrong_confirm_is_result_2 : lcResult State.reset 2 0xC4 = 2 := by decide +kernel

/-- 18 R457: the claim reads the lowest deliverable source and the target serves it. -/
theorem test_claim_serves_the_lowest : (match step { with' [(R.IRQ_SRC_EN 33, 1), ((R.IRQ_PEND_PEND 1).bitAt 1, 1), (R.IRQ_SRC_TARGET 33, 3), (R.IRQ_SRC_EN 9, 1),
      ((R.IRQ_PEND_PEND 0).bitAt 9, 1), (R.IRQ_SRC_TARGET 9, 3)] with pending := [.irqClaim .spi 3] } with | .next t => (t.tgt 3).active | _ => 0) = 9 := by decide +kernel

/-- 01 R18: the first Stroke edge is edge 0. -/
theorem test_first_edge_is_edge_0 : (match step { State.reset with pending := [.strokeEdge (edgeOf 0 [0, 0, 0, 0])] } with
      | .next t => (t.strokes, t.strokeNum, t.pending.length) | _ => (0, 9, 9)) = (1, 0, 0) := by decide +kernel

/-- 00 R9: a host without privilege leaves a /C register as it was. -/
theorem test_plain_host_leaves_a_custodian_register : (match step { with' [(R.CFG_STAT_STATE, 4)] with key := (running []).key, pending := [.spiWrite 0x010000 [5] false 0] } with
      | .next t => rdWord t 0x010000 == rdWord State.reset 0x010000 | _ => false) = true := by decide +kernel

/-- What a row that writes v to field f of a Stroke-read register queues: none where the register's map has no such register. -/
def queued (f : Fld) (v : Nat) (s : State) : Option Nat :=
  (findReg f.addr).bind (fun d => if strokeReg f.addr d then
    some ((writeParts s true f.addr (withBits (lastWord s f.addr) f.hi f.lo v) d).mask &&& ((2 ^ (f.hi - f.lo + 1) - 1) * 2 ^ f.lo)) else none)

/-- Of writeIsQueued's four clauses: a value that the map lists waits, is held, or meets a full buffer; one that it does not list changes nothing. -/
theorem test_witness_writeIsQueued :
    (∃ (c : Fin 8) (mode : BitVec 2) (s : State), queued (R.TCH_CH_CTL_MODE c) mode.toNat s = some 0) ∧
    (∃ (c : Fin 8) (mode : BitVec 2) (s : State), queued (R.TCH_CH_CTL_MODE c) mode.toNat s = some 3 ∧ s.flag R.GEN_STROKE_CTL_HOLD_APPLY = false) ∧
    (∃ (k : Fin 4) (s : State), queued (R.APL_APLL_CTL_EN k) 1 s = some 1 ∧ s.flag R.GEN_STROKE_CTL_HOLD_APPLY = true ∧ s.gen.held.length < 256) ∧
    (∃ (k : Fin 4) (s : State), queued (R.APL_APLL_CTL_EN k) 1 s = some 1 ∧ s.flag R.GEN_STROKE_CTL_HOLD_APPLY = true ∧ 256 ≤ s.gen.held.length) :=
  ⟨⟨7, 3, State.reset, by decide +kernel⟩, ⟨7, 2, State.reset, by decide +kernel⟩, ⟨3, with' [(R.GEN_STROKE_CTL_HOLD_APPLY, 1)], by decide +kernel⟩,
    ⟨3, { with' [(R.GEN_STROKE_CTL_HOLD_APPLY, 1)] with gen := { held := List.replicate 256 { key := 0, val := 0, mask := 0 } } }, by decide +kernel⟩⟩

/-! ## Witnesses: hypotheses that some state meets, clause by clause -/

theorem test_witness_StrokeCommandsComplete :
    (∃ s : State, s.pwr.rst = none ∧ s.strokes = 0) ∧
    (∃ s : State, s.pwr.rst = none ∧ s.strokes ≠ 0) ∧
    (∃ (a : BitVec 24) (s : State), s.pwr.rst = none ∧ a.toNat % 4 ≠ 0) ∧
    (∃ (a : BitVec 24) (s : State), s.pwr.rst = none ∧ a.toNat % 4 = 0) ∧
    (∃ s : State, s.pwr.rst = none ∧ s.flag R.GEN_STROKE_CTL_HOLD_APPLY = true ∧ 8000 ≤ s.gen.holdStrokes) ∧
    (∃ (t : SolverTask) (s : State), s.pwr.rst = none ∧ taskOnA t = true ∧ (taskSt s t).idle = false ∧ (taskSt s t).out = false ∧ (taskSt s t).overrun = false ∧ (taskSt s t).begun + taskDeadline t ≤ s.strokes) ∧
    (∃ (t : SolverTask) (s : State), s.pwr.rst = none ∧ taskOnA t = false ∧ (taskSt s t).idle = false ∧ (taskSt s t).out = false ∧ (taskSt s t).overrun = false ∧ (taskSt s t).begun + taskDeadline t ≤ s.strokes) ∧
    (∃ (t : SolverTask) (s : State), s.pwr.rst = none ∧ taskStale s t < taskAge s t) ∧
    (∃ (p : Nat × Nat) (s : State), s.pwr.rst = none ∧ s.gen.loadDue = some p) :=
  ⟨⟨State.reset, by decide +kernel⟩,
    ⟨{ strokes := 1 }, by decide +kernel⟩,
    ⟨0xFFFFFF, State.reset, by decide +kernel⟩,
    ⟨0xFFFFFC, State.reset, by decide +kernel⟩,
    ⟨{ with' [(R.GEN_STROKE_CTL_HOLD_APPLY, 1)] with gen := { holdStrokes := 8000 } }, by decide +kernel⟩,
    ⟨.gnss, { strokes := 200, gen := { tasks := [(0, { idle := false })] } }, by decide +kernel⟩,
    ⟨.bmca, { strokes := 8, gen := { tasks := [(4, { idle := false })] } }, by decide +kernel⟩,
    ⟨.carillon, { strokes := 9 }, by decide +kernel⟩,
    ⟨(1, 2), { gen := { loadDue := some (1, 2) } }, by decide +kernel⟩⟩

theorem test_witness_EdgePublishesTheTaskOutput :
    (∃ (o : SolverOut) (s : State), s.gen.jobs = [o] ∧ (taskSt s o.task).begun + taskPeriod o.task ≤ s.strokes) ∧
    (∃ (o : SolverOut) (s : State), s.gen.jobs = [o] ∧ s.strokes < (taskSt s o.task).begun + taskPeriod o.task) :=
  ⟨⟨.election, { strokes := 8, gen := { jobs := [.election] } }, by decide +kernel⟩,
    ⟨.election, { gen := { jobs := [.election] } }, by decide +kernel⟩⟩

theorem test_witness_HoldCommandsComplete :
    (∃ (j : Iface) (s : State), s.pwr.rst = none ∧ cfgRuns s = true ∧ ks2Usable s = true ∧ isCust s j = true ∧ s.flag R.GEN_STROKE_CTL_HOLD_APPLY = false) ∧
    (∃ (j : Iface) (s : State), s.pwr.rst = none ∧ cfgRuns s = true ∧ ks2Usable s = true ∧ isCust s j = true ∧ s.flag R.GEN_STROKE_CTL_HOLD_APPLY = true ∧ ownsHold s j = true) ∧
    (∃ (j : Iface) (s : State), s.pwr.rst = none ∧ cfgRuns s = true ∧ ks2Usable s = true ∧ isCust s j = true ∧ s.flag R.GEN_STROKE_CTL_HOLD_APPLY = true ∧ ownsHold s j = false) :=
  ⟨⟨.spi, running [(R.HST_STAT_CUST.ifc .spi, 1)], by decide +kernel⟩,
    ⟨.inband, running [(R.HST_STAT_CUST.ifc .inband, 1), (R.GEN_STROKE_CTL_HOLD_APPLY, 1), (R.GEN_STROKE_STAT_HOLD_OWNER, 3)], by decide +kernel⟩,
    ⟨.spi, running [(R.HST_STAT_CUST.ifc .spi, 1), (R.GEN_STROKE_CTL_HOLD_APPLY, 1), (R.GEN_STROKE_STAT_HOLD_OWNER, 2)], by decide +kernel⟩⟩

theorem test_witness_EngineTimeCommandsComplete :
    (∃ s : State, s.pwr.rst = none ∧ s.etm.reState = .run) ∧
    (∃ s : State, s.pwr.rst = none ∧ s.etm.reState = .muffling) ∧
    (∃ s : State, s.pwr.rst = none ∧ s.etm.reState = .stepping ∧ s.get R.ETM_REEPOCH_CFG_STEP_WAIT ≤ s.etm.reTimer + 1) ∧
    (∃ s : State, s.pwr.rst = none ∧ s.etm.reState = .settle ∧ s.get R.ETM_REEPOCH_CFG_SETTLE ≤ s.etm.reTimer + 1) ∧
    (∃ (n : Fin 8) (dt : Nat) (s : State), s.pwr.rst = none ∧ almFires (s.tick dt) n = false ∧ tget none s.etm.almWas n ≠ some (s.tick dt).now) ∧
    (∃ (n : Fin 8) (v : BitVec 32) (dt : Nat) (s : State), s.pwr.rst = none ∧ almFires (s.tick dt) n = false ∧ tget none s.etm.almWas n ≠ some (s.tick dt).now ∧ v.toNat / 0x100 % 4 = 0) ∧
    (∃ (n : Fin 8) (dt : Nat) (s : State), s.pwr.rst = none ∧ tget none s.etm.almWas n = some (s.tick dt).now ∧ almFires (s.tick dt) n = false) ∧
    (∃ (n : Fin 8) (dt : Nat) (s : State), s.pwr.rst = none ∧ s.flag (R.ETM_ALM_CTL_ARM n) = true ∧ almDue (s.tick dt) n = true ∧ (tget false s.etm.almLate n = true → tget 0 s.etm.almAt n < (s.tick dt).now)) ∧
    (∃ (i : Iface) (r : ConvRes) (s : State), s.pwr.rst = none ∧ tget none s.etm.convRes i.num = some r) ∧
    (∃ s : State, s.pwr.rst = none ∧ s.etm.utcCur.leap ≠ 0 ∧ s.etm.utcCur.leapTai ≤ etSec s.etimeNow) :=
  ⟨⟨State.reset, by decide +kernel⟩,
    ⟨{ etm := { reState := .muffling } }, by decide +kernel⟩,
    ⟨{ etm := { reState := .stepping, reTimer := 65535 } }, by decide +kernel⟩,
    ⟨{ etm := { reState := .settle, reTimer := 65535 } }, by decide +kernel⟩,
    ⟨7, 0, State.reset, by decide +kernel⟩,
    ⟨7, 0, 0, State.reset, by decide +kernel⟩,
    ⟨7, 0, { etm := { almWas := [(7, some 0)] } }, by decide +kernel⟩,
    ⟨7, 0, with' [(R.ETM_ALM_CTL_ARM 7, 1)], by decide +kernel⟩,
    ⟨.inband, ⟨0, false, false, false⟩, { etm := { convRes := [(2, some ⟨0, false, false, false⟩)] } }, by decide +kernel⟩,
    ⟨{ etm := { utcCur := { valid := true, offset := 37, leap := 1, leapTai := 0 } } }, by decide +kernel⟩⟩

theorem test_witness_AlarmFiresAtItsTarget :
    ∃ (n : Fin 8) (dt : Nat) (s : State), s.pwr.rst = none ∧ s.flag (R.ETM_ALM_CTL_ARM n) = true ∧ 0 ≤ rawDiff (s.tick dt).raw (s.get2 (R.ETM_ALM_TGT_LO_TGT_LO n) (R.ETM_ALM_TGT_HI_TGT_HI n)) ∧ (tget false s.etm.almLate n = true → tget 0 s.etm.almAt n < (s.tick dt).now) :=
  ⟨0, 0, with' [(R.ETM_ALM_CTL_ARM 0, 1)], by decide +kernel⟩

theorem test_witness_ClapperCommandsComplete :
    (∃ (n : Fin 24) (src : Fin 64) (dt : Nat) (s : State), s.pwr.rst = none ∧ srcLive (s.tick dt) src = true ∧ s.get (R.CLP_CH_CFG_MODE n) ≠ 0 ∧ src.val ≠ 0x3F ∧ (src.val < 0x20 ∨ 0x27 < src.val) ∧ s.get (R.CLP_CH_SRC_START_SRC n) = src.val ∧ s.get (R.CLP_CH_SRC_STOP_SRC n) ≠ src.val) ∧
    (∃ (n : Fin 24) (src : Fin 64) (dt : Nat) (s : State), s.pwr.rst = none ∧ srcLive (s.tick dt) src = true ∧ s.get (R.CLP_CH_CFG_MODE n) ≠ 0 ∧ src.val ≠ 0x3F ∧ (src.val < 0x20 ∨ 0x27 < src.val) ∧ s.get (R.CLP_CH_SRC_START_SRC n) ≠ src.val ∧ s.get (R.CLP_CH_SRC_STOP_SRC n) = src.val) ∧
    (∃ (n : Fin 24) (src : Fin 64) (dt : Nat) (s : State), s.pwr.rst = none ∧ srcLive (s.tick dt) src = true ∧ s.get (R.CLP_CH_CFG_MODE n) ≠ 0 ∧ src.val ≠ 0x3F ∧ (src.val < 0x20 ∨ 0x27 < src.val) ∧ s.get (R.CLP_CH_SRC_START_SRC n) = src.val ∧ s.get (R.CLP_CH_SRC_STOP_SRC n) = src.val) ∧
    (∃ (n : Fin 24) (dt : Nat) (x : Stamp) (l : List Stamp) (s : State), s.pwr.rst = none ∧ (let u := s.tick dt; (s.ch n).start.buf = x :: l ∧ pathReady u (s.ch n).start = true ∧ ((s.ch n).stop.buf = [] ∨ (∃ y r, (s.ch n).stop.buf = y :: r ∧ rawfDiff x.dlv y.dlv ≤ 0) ∨ (pathReady u (s.ch n).stop = false ∧ s.get (R.CLP_CH_CFG_MODE n) ≠ 2)))) ∧
    (∃ (n : Fin 24) (dt : Nat) (y : Stamp) (r : List Stamp) (s : State), s.pwr.rst = none ∧ (let u := s.tick dt; (s.ch n).stop.buf = y :: r ∧ pathReady u (s.ch n).stop = true ∧ ((s.ch n).start.buf = [] ∨ (∃ x l, (s.ch n).start.buf = x :: l ∧ 0 < rawfDiff x.dlv y.dlv) ∨ (pathReady u (s.ch n).start = false ∧ s.get (R.CLP_CH_CFG_MODE n) ≠ 2)))) ∧
    (∃ (n : Fin 24) (dt : Nat) (s : State), s.pwr.rst = none ∧ (s.ch n).ss = .waitStop ∧ (s.ch n).postWin ≠ 0 ∧ (s.ch n).startAt + (s.ch n).postWin ≤ (s.tick dt).now) ∧
    (∃ (conv : Fin 41) (s : State), s.pwr.rst = none ∧ (let lim := s.get R.CLP_CAL_CFG_CAL_HOLD; let due := fun k => decide (lim < (s.slice conv k).fails) && !(s.slice conv k).bad; (due 0 = true ∨ due 1 = true) ∧ ((s.slice conv 0).bad = true ∨ (s.slice conv 1).bad = true))) ∧
    (∃ (conv : Fin 41) (s : State), s.pwr.rst = none ∧ (let lim := s.get R.CLP_CAL_CFG_CAL_HOLD; let due := fun k => decide (lim < (s.slice conv k).fails) && !(s.slice conv k).bad; (due 0 = true ∨ due 1 = true) ∧ (s.slice conv 0).bad = false ∧ (s.slice conv 1).bad = false)) ∧
    (∃ (dt : Nat) (s : State), s.pwr.rst = none ∧ s.clp.warmFrom + 4 * 31250 ≤ (s.tick dt).now) ∧
    (∃ (n : Fin 24) (s : State), s.pwr.rst = none ∧ ((s.ch n).queue = [] ∨ domOn s 10 = false)) ∧
    (∃ (n : Fin 24) (s : State), ∃ e l, s.pwr.rst = none ∧ (s.ch n).queue = e :: l ∧ domOn s 10 = true) ∧
    (∃ (n : Fin 24) (s : State), s.pwr.rst = none ∧ (s.ch n).ss = .idle ∧ s.get (R.CLP_CH_CFG_MODE n) = 2) :=
  ⟨⟨23, 31, 0, with' [(R.CLP_CH_CFG_MODE 23, 1), (R.CLP_CH_SRC_START_SRC 23, 31), (R.CLP_CH_SRC_STOP_SRC 23, 0)], by decide +kernel⟩,
    ⟨23, 31, 0, with' [(R.CLP_CH_CFG_MODE 23, 1), (R.CLP_CH_SRC_START_SRC 23, 0), (R.CLP_CH_SRC_STOP_SRC 23, 31)], by decide +kernel⟩,
    ⟨0, 0, 0, with' [(R.RMON_MON_CFG_INPUT_MODE 0, 1), (R.CLP_CH_CFG_MODE 0, 2), (R.CLP_CH_SRC_START_SRC 0, 0), (R.CLP_CH_SRC_STOP_SRC 0, 0)], by decide +kernel⟩,
    ⟨23, 0, { arr := 0, dlv := 0 }, [], { clp := { chs := [(23, { start := { buf := [{ arr := 0, dlv := 0 }] } })] } }, rfl, by decide +kernel, by decide +kernel, .inl rfl⟩,
    ⟨0, 0, { arr := 0, dlv := 0 }, [], { now := 5, clp := { chs := [(0, { stop := { buf := [{ arr := 0, dlv := 0 }], outAt := some 0 } })] } }, rfl, by decide +kernel, by decide +kernel, .inl rfl⟩,
    ⟨23, 0, { now := 1, clp := { chs := [(23, { ss := .waitStop, postWin := 1 })] } }, by decide +kernel⟩,
    ⟨0, { clp := { slices := [(0, { fails := 65536 }), (1, { bad := true })] } }, by decide +kernel⟩,
    ⟨40, { clp := { slices := [(80, { fails := 65536 })] } }, by decide +kernel⟩,
    ⟨0, { now := 125000, clp := {} }, by decide +kernel⟩,
    ⟨0, State.reset, by decide +kernel⟩,
    ⟨23, { clp := { chs := [(23, { queue := [5] })] } }, 5, [], by decide +kernel⟩,
    ⟨23, with' [(R.CLP_CH_CFG_MODE 23, 2)], by decide +kernel⟩⟩

theorem test_witness_EdgeIsStampedIntoBufferAndSnapshot :
    ∃ (n : Fin 24) (src : Fin 64) (fall : Bool) (code : BitVec 11) (dt : Nat) (s : State), s.pwr.rst = none ∧ srcLive (s.tick dt) src = true ∧ s.get (R.CLP_CH_CFG_MODE n) ≠ 0 ∧ src.val ≠ 0x3F ∧ (src.val < 0x20 ∨ 0x27 < src.val) ∧ s.get (R.CLP_CH_SRC_START_SRC n) = src.val ∧ s.get (R.CLP_CH_SRC_STOP_SRC n) ≠ src.val ∧ edgeSel s n (s.get (R.CLP_CH_CFG_PRESC n)) fall = true ∧ (s.get (R.CLP_CH_CFG_PRESC n) = 0 ∨ (s.ch n).start.presc = 0) ∧ (s.ch n).start.buf.length < 16 ∧ (let st := mkStamp (s.tick dt) n src 0 fall (s.ch n).start.miss code.toNat; let at' := (s.tick dt).now * 4096 + st.arr % 4096; (∀ a, (s.ch n).start.last = some a → a + 8192 ≤ at')) :=
  ⟨23, 31, true, 0, 0, with' [(R.CLP_CH_CFG_MODE 23, 1), (R.CLP_CH_CFG_EDGE 23, 1), (R.CLP_CH_SRC_START_SRC 23, 31), (R.CLP_CH_SRC_STOP_SRC 23, 0)], by decide +kernel⟩

theorem test_witness_MonitorCommandsComplete :
    (∃ (m : Fin 32) (s : State), s.pwr.rst = none ∧ (s.mon m).invHold = true ∧ 64 ≤ (s.mon m).invRun ∧ tbit (s.get (R.RMON_MON_CAUSE_HARD m)) 8 = false) ∧
    (∃ (m : Fin 32) (s : State), s.pwr.rst = none ∧ s.get (R.RMON_MON_STAT_STATE m) = 1 ∧ s.get (R.RMON_MON_CAUSE_HARD m) = 0 ∧ s.get (R.RMON_MON_CAUSE_SOFT m) = 0 ∧ s.get (R.RMON_MON_VAL_TIME_VAL_TIME m) < (s.mon m).val ∧ tdevFull s m = true ∧ (s.mon m).invHold = false) ∧
    (∃ (m : Fin 32) (s : State), s.pwr.rst = none ∧ s.get (R.RMON_MON_STAT_STATE m) = 3 ∧ s.get (R.RMON_MON_CAUSE_HARD m) = 0 ∧ s.get (R.RMON_MON_CAUSE_SOFT m) = 0 ∧ s.get (R.RMON_MON_CLR_TIME_CLR_TIME m) < (s.mon m).clr ∧ (s.mon m).invHold = false) ∧
    (∃ (m : Fin 32) (s : State), s.pwr.rst = none ∧ s.get (R.RMON_MON_SRC_VTYPE m) = 3 ∧ s.flag (R.RMON_MON_CFG_QL_EN m) = true ∧ (s.mon m).esmcAt + 40000 ≤ s.strokes) :=
  ⟨⟨31, { with' [(R.RMON_MON_CAUSE_HARD 31, 0)] with rmon := { mons := [(31, { invHold := true, invRun := 64 })] } }, by decide +kernel⟩,
    ⟨31, { with' [(R.RMON_MON_STAT_STATE 31, 1), (R.RMON_MON_CAUSE_HARD 31, 0), (R.RMON_MON_CFG_TDEV_EN 31, 0)] with rmon := { mons := [(31, { val := 2 ^ 32 })] } }, by decide +kernel⟩,
    ⟨31, { with' [(R.RMON_MON_STAT_STATE 31, 3), (R.RMON_MON_CAUSE_HARD 31, 0)] with rmon := { mons := [(31, { clr := 2 ^ 32 })] } }, by decide +kernel⟩,
    ⟨31, { with' [(R.RMON_MON_SRC_VTYPE 31, 3), (R.RMON_MON_CFG_QL_EN 31, 1)] with strokes := 40000 }, by decide +kernel⟩⟩

theorem test_witness_ValidationMakesMonitorValid :
    ∃ (m : Fin 32) (s : State), s.pwr.rst = none ∧ s.get (R.RMON_MON_STAT_STATE m) = 1 ∧ s.get (R.RMON_MON_CAUSE_HARD m) = 0 ∧ s.get (R.RMON_MON_CAUSE_SOFT m) = 0 ∧ s.get (R.RMON_MON_VAL_TIME_VAL_TIME m) < (s.mon m).val ∧ tdevFull s m = true ∧ (s.mon m).invHold = false :=
  ⟨0, { with' [(R.RMON_MON_STAT_STATE 0, 1), (R.RMON_MON_CAUSE_HARD 0, 0), (R.RMON_MON_CFG_TDEV_EN 0, 0)] with rmon := { mons := [(0, { val := 2 ^ 32 })] } }, by decide +kernel⟩

theorem test_witness_SelectionCommandsComplete :
    (∃ (c : Fin 8) (k : Fin 32) (s : State), s.pwr.rst = none ∧ s.get (R.SEL_TCH_WTR_WTR c) ≤ tget 0 s.sel.timers (c.val * 32 + k.val)) ∧
    (∃ s : State, s.pwr.rst = none ∧ unitDown s .solverB = false ∧ taskRuns s .carillon) ∧
    (∃ (m : Fin 32) (s : State), s.pwr.rst = none ∧ joinDue s m = true ∧ (carMembers s).length + ((List.range 32).filter (fun k => k != m.val && joinDue s k && joinsFirst s k m)).length < 16) ∧
    (∃ (m : Fin 32) (s : State), s.pwr.rst = none ∧ s.get (R.SEL_REF_FLAGS_CORR m) ≠ 0 ∧ s.get R.SEL_CORR_TIME_CORR_TIME ≤ (s.ref m).cnt ∧ 0 < (s.ref m).cnt) :=
  ⟨⟨7, 31, { with' [(R.SEL_TCH_WTR_WTR 7, 5)] with sel := { timers := [(255, 5)] } }, by decide +kernel⟩,
    ⟨{ strokes := 1, gen := { tasks := [(2, { idle := false })] } }, rfl, rfl, rfl, rfl, nofun⟩,
    ⟨31, { with' [(R.SEL_CAR_MASK_MASK, 2 ^ 31)] with sel := { refs := [(31, { y := some 0, vc := 2 ^ 32 })] } }, by decide +kernel⟩,
    ⟨31, { with' [(R.SEL_REF_FLAGS_CORR 31, 1)] with sel := { refs := [(31, { cnt := 2 ^ 32 })] } }, by decide +kernel⟩⟩

theorem test_witness_ServoCommandsComplete :
    (∃ (k : Fin 9) (s : State), s.pwr.rst = none ∧ k.val ≠ 0 ∧ s.get R.BND_CTL_HOLD_MAX ≠ 0 ∧ 2 ≤ (s.bset k).basis ∧ s.get R.BND_CTL_HOLD_MAX * 28800000 < s.get (R.BND_SET_HOLD_TAU_HOLD_TAU k)) ∧
    (∃ s : State, s.pwr.rst = none ∧ s.get R.BND_CTL_HOLD_MAX ≠ 0 ∧ 2 ≤ (s.bset 0).basis ∧ s.get R.BND_CTL_HOLD_MAX * 28800000 < s.get (R.BND_SET_HOLD_TAU_HOLD_TAU 0)) ∧
    (∃ s : State, s.pwr.rst = none ∧ unitDown s .solverB = false ∧ taskRuns s .learning) ∧
    (∃ (c : Fin 8) (s : State), s.pwr.rst = none ∧ 64 < (s.tc c).frzRun ∧ s.get (R.TCH_CH_STAT_STATE c) ≠ 4) ∧
    (∃ (c : Fin 8) (s : State), s.pwr.rst = none ∧ s.get (R.TCH_CH_STAT_STATE c) = 2 ∧ 0 < (s.tc c).lockN ∧ s.getE (R.TCH_CH_LOCK_CNT_LOCK_CNT c) ≤ (s.tc c).lockN) ∧
    (∃ (c : Fin 8) (s : State), s.pwr.rst = none ∧ 2 ^ s.getE (R.TCH_CH_HIST_HIST_TC c) + s.getE (R.TCH_CH_HIST_HO_GUARD c) ≤ (s.tc c).lockRun) ∧
    (∃ (c : Fin 8) (s : State), s.pwr.rst = none ∧ c.val ≠ 0) ∧
    (∃ (c : Fin 8) (s : State), s.pwr.rst = none ∧ c.val = 0) ∧
    (∃ s : State, s.pwr.rst = none ∧ s.get R.TCH_STEER_CFG_PORT ≠ 0 ∧ s.get R.TCH_STEER_CFG_PER ≠ 0 ∧ (s.strokes - 1) % (s.get R.TCH_STEER_CFG_PER * 8000) = 0 ∧ s.getI R.TCH_STEER_KDAC_KDAC ≠ 0 ∧ s.getE (R.TCH_CH_STAT_STATE 0) = 3 ∧ s.flagE (R.TCH_CH_STAT_FROZEN 0) = false) :=
  ⟨⟨8, { with' [(R.BND_CTL_HOLD_MAX, 1), (R.BND_SET_HOLD_TAU_HOLD_TAU 8, 28800001)] with bnd := { sets := [(8, { basis := 2 })] } }, by decide +kernel⟩,
    ⟨{ with' [(R.BND_CTL_HOLD_MAX, 1), (R.BND_SET_HOLD_TAU_HOLD_TAU 0, 28800001)] with bnd := { sets := [(0, { basis := 2 })] } }, by decide +kernel⟩,
    ⟨{ strokes := 8000, gen := { tasks := [(3, { idle := false })] } }, rfl, rfl, rfl, rfl, nofun⟩,
    ⟨7, { tch := { chs := [(7, { frzRun := 65 })] } }, by decide +kernel⟩,
    ⟨7, { with' [(R.TCH_CH_STAT_STATE 7, 2)] with tch := { chs := [(7, { lockN := 2 ^ 32 })] } }, by decide +kernel⟩,
    ⟨7, { tch := { chs := [(7, { lockRun := 2 ^ 80 })] } }, by decide +kernel⟩,
    ⟨7, State.reset, by decide +kernel⟩,
    ⟨0, State.reset, by decide +kernel⟩,
    ⟨{ edged (with' [(R.TCH_STEER_CFG_PORT, 1), (R.TCH_STEER_CFG_PER, 1), (R.TCH_STEER_KDAC_KDAC, 1), (R.TCH_CH_STAT_STATE 0, 3)]) with strokes := 8001 }, by decide +kernel⟩⟩

theorem test_witness_ChannelLocksAfterLockCount :
    ∃ (c : Fin 8) (s : State), s.pwr.rst = none ∧ s.get (R.TCH_CH_STAT_STATE c) = 2 ∧ 0 < (s.tc c).lockN ∧ s.getE (R.TCH_CH_LOCK_CNT_LOCK_CNT c) ≤ (s.tc c).lockN :=
  ⟨7, { with' [(R.TCH_CH_STAT_STATE 7, 2)] with tch := { chs := [(7, { lockN := 2 ^ 32 })] } }, by decide +kernel⟩

theorem test_witness_OutputWritesWaitForTheEdge :
    ∃ s : State, s.pwr.rst = none :=
  ⟨State.reset, by decide +kernel⟩

theorem test_witness_ApllEventsComplete :
    (∃ (k : Fin 4) (s : State), s.pwr.rst = none ∧ (s.apll k).st = 5 ∧ apllQuiet s k = true) ∧
    (∃ (k : Fin 4) (s : State), s.pwr.rst = none ∧ (s.apll k).st = 1) ∧
    (∃ (k : Fin 4) (s : State), s.pwr.rst = none ∧ (s.apll k).st = 2 ∧ (s.apll k).tries = 0) ∧
    (∃ (k : Fin 4) (s : State), s.pwr.rst = none ∧ (s.apll k).st = 2 ∧ (s.apll k).tries = 1) ∧
    (∃ (k : Fin 4) (s : State), s.pwr.rst = none ∧ (s.apll k).st = 2 ∧ 2 ≤ (s.apll k).tries) ∧
    (∃ (k : Fin 4) (n err : Nat) (s : State), s.pwr.rst = none ∧ (s.apll k).st = 2 ∧ 2 ^ s.get (R.APL_APLL_LOCK_CFG_LOCK_N k) ≤ n ∧ err * 1000 ≤ s.get (R.APL_APLL_LOCK_CFG_LOCK_WIN k) * 65536) ∧
    (∃ (k : Fin 4) (why : LockLoss) (s : State), s.pwr.rst = none ∧ lockGone s k why = true ∧ s.flag (R.APL_APLL_STAT_LOCK k) = true ∧ (s.apll k).st = 3) ∧
    (∃ (k : Fin 4) (why : LockLoss) (s : State), s.pwr.rst = none ∧ lockGone s k why = true ∧ s.flag (R.APL_APLL_STAT_LOCK k) = true ∧ (s.apll k).st = 4) ∧
    (∃ (k : Fin 4) (s : State), s.pwr.rst = none ∧ (s.apll k).st = 3 ∧ 0 < (s.apll k).stable ∧ s.get (R.APL_APLL_CTL_LOCK_STABLE k) ≤ (s.apll k).stable) ∧
    (∃ (k : Fin 16) (s : State), s.pwr.rst = none ∧ (s.outp k).st = 3) :=
  ⟨⟨3, { out := { aplls := [(3, { st := 5 })] } }, by decide +kernel⟩,
    ⟨3, { out := { aplls := [(3, { st := 1 })] } }, by decide +kernel⟩,
    ⟨3, { out := { aplls := [(3, { st := 2 })] } }, by decide +kernel⟩,
    ⟨3, { out := { aplls := [(3, { st := 2, tries := 1 })] } }, by decide +kernel⟩,
    ⟨0, { out := { aplls := [(0, { st := 2, tries := 2 })] } }, by decide +kernel⟩,
    ⟨3, 2 ^ 32, 0, { out := { aplls := [(3, { st := 2 })] } }, by decide +kernel⟩,
    ⟨3, .slip, { with' [(R.APL_APLL_STAT_LOCK 3, 1)] with out := { aplls := [(3, { st := 3 })] } }, by decide +kernel⟩,
    ⟨3, .slip, { with' [(R.APL_APLL_STAT_LOCK 3, 1)] with out := { aplls := [(3, { st := 4 })] } }, by decide +kernel⟩,
    ⟨3, { out := { aplls := [(3, { st := 3, stable := 2 ^ 32 })] } }, by decide +kernel⟩,
    ⟨15, { out := { outs := [(15, { st := 3 })] } }, by decide +kernel⟩⟩

theorem test_witness_LockCriterionSetsLock :
    ∃ (k : Fin 4) (n err : Nat) (s : State), s.pwr.rst = none ∧ (s.apll k).st = 2 ∧ 2 ^ s.get (R.APL_APLL_LOCK_CFG_LOCK_N k) ≤ n ∧ err * 1000 ≤ s.get (R.APL_APLL_LOCK_CFG_LOCK_WIN k) * 65536 :=
  ⟨3, 2 ^ 32, 0, { out := { aplls := [(3, { st := 2 })] } }, by decide +kernel⟩

theorem test_witness_GnssSearchCommandsComplete :
    (∃ (dt : Nat) (s : State), s.pwr.rst = none ∧ domOn s 3 = true ∧ s.flag R.GNS_STAT_SCLK_LOS = false ∧ s.gns.sclkAt + 250 ≤ (s.tick dt).now) ∧
    (∃ s : State, s.pwr.rst = none ∧ 8 ≤ s.gns.good ∧ s.flag R.GNS_STAT_SCLK_OK = false) ∧
    (∃ s : State, s.pwr.rst = none ∧ s.flag R.GNS_STAT_FE_BUSY = false ∧ s.gns.feAgain = false ∧ domOn s 3 = true) ∧
    (∃ s : State, s.pwr.rst = none ∧ s.flag R.GNS_STAT_FE_BUSY = true) ∧
    (∃ (k dt : Nat) (s₀ : State), s₀.pwr.rst = none ∧ bankLow s₀ 3 = false ∧ s₀.gns.fe = some k ∧ s₀.gns.agcRun = none ∧ feOver (s₀.tick dt) = true) ∧
    (∃ (k b dt : Nat) (s₀ : State), s₀.pwr.rst = none ∧ bankLow s₀ 3 = false ∧ s₀.gns.fe = some k ∧ s₀.gns.agcRun = some b ∧ feOver (s₀.tick dt) = true) ∧
    (∃ (b : Fin 2) (s : State), s.pwr.rst = none ∧ domOn s 3 = true ∧ s.flag (if b.val = 0 then R.GNS_JAM_CFG_AGC_EN_B1 else R.GNS_JAM_CFG_AGC_EN_B5) = true ∧ (let n := s.strokeNum / 8 / max 1 (s.get R.GNS_AGC_CFG_AGC_PER); n ≠ tget 0 s.gns.agcAt b)) ∧
    (∃ (b : Fin 2) (s : State), s.pwr.rst = none ∧ gnsOn s = true ∧ bandOn s b = true ∧ s.strokeNum / 8 ≠ tget 0 s.gns.specAt b) ∧
    (∃ (b : Fin 2) (n : Fin 4) (s : State), s.pwr.rst = none ∧ s.flag (R.GNS_NOTCH_STAT_ACTIVE b n) = true ∧ 100 ≤ (tget {} s.gns.notches (notchIdx b n)).below) ∧
    (∃ s : State, s.pwr.rst = none ∧ unitDown s .solverA = false ∧ taskRuns s .aiding) ∧
    (∃ (e : AcqEntry) (r : List AcqEntry) (s : State), s.pwr.rst = none ∧ gnsOn s = true ∧ s.flag R.GNS_STAT_SCLK_OK = true ∧ s.gns.dwell = [] ∧ packOrder s (s.gns.queue.filter (entryLive s) ++ (searchList s).filter (fun e => !(s.gns.queue.filter (entryLive s)).any (fun x => x.sys == e.sys && x.svid == e.svid && x.sig == e.sig))) = e :: r) ∧
    (∃ s : State, s.pwr.rst = none ∧ gnsOn s = true ∧ s.gns.dwell ≠ [] ∧ s.gns.dwellFrom + 8 * s.gns.dwellNc ≤ s.strokes) ∧
    (∃ (n : Fin 96) (s : State), s.pwr.rst = none ∧ (let c := s.gch n; let b := if c.b1.st = 2 then 1 else 0; let x := c.band (1 - b); let sig := searchSig c.sys b; x.st = 2 ∧ (c.band b).st = 0 ∧ bandOn s b = true ∧ sigLacks s c.sys c.svid sig = false ∧ s.get R.GNS_ACQ_CFG2_HO_DELAY ≤ x.age ∧ (s.gns.queue ++ s.gns.dwell ++ s.gns.retry.map (·.1)).any (fun e => e.ch == n.val) = false)) :=
  ⟨⟨0, { now := 250 }, by decide +kernel⟩,
    ⟨{ gns := { good := 8 } }, by decide +kernel⟩,
    ⟨State.reset, by decide +kernel⟩,
    ⟨with' [(R.GNS_STAT_FE_BUSY, 1)], by decide +kernel⟩,
    ⟨63, 0, { now := 2 ^ 40, gns := { fe := some 63 } }, by decide +kernel⟩,
    ⟨0, 1, 0, { now := 2 ^ 40, gns := { fe := some 0, agcRun := some 1 } }, by decide +kernel⟩,
    ⟨1, { with' [(R.GNS_JAM_CFG_AGC_EN_B5, 1), (R.GNS_AGC_CFG_AGC_PER, 1)] with strokes := 9 }, by decide +kernel⟩,
    ⟨1, { with' [(R.GNS_CTL_EN, 1), (R.GNS_CTL_B5_EN, 1)] with strokes := 9 }, by decide +kernel⟩,
    ⟨1, 3, { with' [(R.GNS_NOTCH_STAT_ACTIVE 1 3, 1)] with gns := { notches := [(notchIdx 1 3, { below := 100 })] } }, by decide +kernel⟩,
    ⟨{ gen := { tasks := [(1, { idle := false })] } }, rfl, rfl, rfl, rfl, nofun⟩,
    ⟨{ kind := 0, sys := 0, svid := 1, sig := 0 }, [], { with' [(R.GNS_CTL_EN, 1), (R.GNS_CTL_B1_EN, 1), (R.GNS_CTL_B5_EN, 0), (R.GNS_CTL_SYS_EN, 1), (R.GNS_STAT_SCLK_OK, 1)] with gen := { tasks := [(1, { published := true })] }, gns := { queue := [{ kind := 0, sys := 0, svid := 1, sig := 0 }] } }, by decide +kernel⟩,
    ⟨{ with' [(R.GNS_CTL_EN, 1)] with strokes := 16, gns := { dwell := [{ kind := 0, sys := 0, svid := 1, sig := 0 }], dwellNc := 2 } }, by decide +kernel⟩,
    ⟨95, { with' [(R.GNS_CTL_B5_EN, 1)] with gns := { chs := [(95, { b1 := { st := 2, age := 2 ^ 32 } })] } }, by decide +kernel⟩⟩

theorem test_witness_GnssTrackCommandsComplete :
    (∃ (x : ChTick) (s : State), s.pwr.rst = none ∧ gnsOn s = true ∧ x.ch < 96 ∧ (s.gch x.ch).idle = false ∧ unitDown s (.gnssCh x.ch) = false) ∧
    (∃ (n : Fin 96) (b : Fin 2) (s : State), s.pwr.rst = none ∧ (let x := (s.gch n).band b; (x.st = 1 ∨ x.st = 3) ∧ s.get R.GNS_LOCK_TIME_PLI_CNT ≤ x.good ∧ 0 < x.good)) ∧
    (∃ (n : Fin 96) (b : Fin 2) (s : State), s.pwr.rst = none ∧ (let x := (s.gch n).band b; x.st = 2 ∧ s.get R.GNS_LOCK_TIME_LOSS_MS ≤ x.bad ∧ 0 < x.bad)) ∧
    (∃ (n : Fin 96) (b : Fin 2) (s : State), s.pwr.rst = none ∧ ((s.gch n).band b).st = 1 ∧ s.get R.GNS_PULL_TIME_PULL_TIME ≤ ((s.gch n).band b).age ∧ (((s.gch n).band b).good < s.get R.GNS_LOCK_TIME_PLI_CNT ∨ ((s.gch n).band b).good = 0)) ∧
    (∃ (n : Fin 96) (b : Fin 2) (s : State), s.pwr.rst = none ∧ ((s.gch n).band b).st = 3 ∧ s.get R.GNS_LOCK_TIME_COAST_MAX ≤ ((s.gch n).band b).age ∧ (((s.gch n).band b).good < s.get R.GNS_LOCK_TIME_PLI_CNT ∨ ((s.gch n).band b).good = 0)) ∧
    (∃ (n : Fin 96) (b : Fin 2) (s : State), s.pwr.rst = none ∧ (let x := (s.gch n).band b; x.st ≠ 0 ∧ sigBoc x.sig = true ∧ 20 ≤ x.sideRun)) ∧
    (∃ (j : Iface) (p : Nat × Nat) (s : State), s.pwr.rst = none ∧ tget none s.gns.pins j.num = some p ∧ p.2 + 800 ≤ s.strokes) ∧
    (∃ s : State, s.pwr.rst = none ∧ solRuns s = true ∧ unitDown s .solverA = false ∧ taskRuns s .gnss) ∧
    (∃ s : State, s.pwr.rst = none ∧ s.get R.GNT_SLEEP_STAT_SLP_STATE = 2) ∧
    (∃ s : State, s.pwr.rst = none ∧ s.get R.GNT_SLEEP_STAT_SLP_STATE = 2 ∧ s.get R.GNT_SLEEP_CFG_SLEEP_MAX ≠ 0 ∧ s.get R.GNT_SLEEP_CFG_SLEEP_MAX * 480000 ≤ s.strokes - s.gnt.slpFrom) ∧
    (∃ s : State, s.pwr.rst = none ∧ s.get R.GNT_SLEEP_STAT_SLP_STATE = 3 ∧ 16000 ≤ s.strokes - s.gnt.slpFrom) :=
  ⟨⟨{ ch := 95, b1 := noTick, b5 := noTick, rho := 0, iono := 0 }, { with' [(R.GNS_CTL_EN, 1)] with gns := { chs := [(95, { b1 := { st := 2 } })] } }, by decide +kernel⟩,
    ⟨95, 1, { gns := { chs := [(95, { b5 := { st := 3, good := 2 ^ 32 } })] } }, by decide +kernel⟩,
    ⟨95, 0, { gns := { chs := [(95, { b1 := { st := 2, bad := 2 ^ 32 } })] } }, by decide +kernel⟩,
    ⟨95, 1, { gns := { chs := [(95, { b5 := { st := 1, age := 2 ^ 32 } })] } }, by decide +kernel⟩,
    ⟨0, 0, { gns := { chs := [(0, { b1 := { st := 3, age := 2 ^ 32 } })] } }, by decide +kernel⟩,
    ⟨95, 0, { gns := { chs := [(95, { b1 := { st := 1, sig := 2, sideRun := 20 } })] } }, by decide +kernel⟩,
    ⟨.inband, (0, 0), { strokes := 800, gns := { pins := [(2, some (0, 0))] } }, by decide +kernel⟩,
    ⟨{ with' [(R.GNT_CTL_EN, 1)] with gen := { tasks := [(0, { idle := false })] } }, rfl, by decide +kernel, by decide +kernel, by decide +kernel, by decide +kernel, nofun⟩,
    ⟨with' [(R.GNT_SLEEP_STAT_SLP_STATE, 2)], by decide +kernel⟩,
    ⟨{ with' [(R.GNT_SLEEP_STAT_SLP_STATE, 2), (R.GNT_SLEEP_CFG_SLEEP_MAX, 1)] with strokes := 480000 }, by decide +kernel⟩,
    ⟨{ with' [(R.GNT_SLEEP_STAT_SLP_STATE, 3)] with strokes := 16000 }, by decide +kernel⟩⟩

theorem test_witness_EpochLatchMakesTheRecord :
    ∃ (code : BitVec 11) (dt : Nat) (a : Int × Nat) (s : State), s.pwr.rst = none ∧ s.gns.armed = some a ∧ gnsOn s = true ∧ 0 ≤ rawDiff ((latchStamp (s.tick dt) (s.tick dt).raw code.toNat).1 / 4096) a.2 :=
  ⟨0, 0, (0, 4), { with' [(R.GNS_CTL_EN, 1)] with now := 1000, clp := { slices := [(80, { table := [7] }), (81, { table := [7] })] }, gns := { armed := some (0, 4) } }, by decide +kernel⟩

theorem test_witness_LaneCommandsComplete :
    (∃ (k : Fin 16) (dt : Nat) (s : State), s.pwr.rst = none ∧ laneStage s k = 1 ∧ s.flag (R.LAN_LANE_CFG_DET_EN k) = true ∧ (∀ at', (s.lane k).probeAt = some at' → at' ≤ (s.tick dt).now)) ∧
    (∃ (k : Fin 16) (dt : Nat) (s : State), s.pwr.rst = none ∧ (let settled := laneSettle k (s.tick dt); laneStage settled k = 2 ∧ (lanePrl settled k = true → prlTrained settled k = true))) ∧
    (∃ (k : Fin 16) (dt : Nat) (s : State), s.pwr.rst = none ∧ (let settled := laneSettle k (s.tick dt); laneStage settled k = 2 ∧ laneExpired settled k = true)) ∧
    (∃ (k : Fin 16) (dt : Nat) (s : State), s.pwr.rst = none ∧ (let settled := laneSettle k (s.tick dt); laneStage settled k = 2 ∧ laneAn settled k = true)) ∧
    (∃ (k : Fin 16) (dt : Nat) (s : State), s.pwr.rst = none ∧ (let settled := laneSettle k (s.tick dt); laneStage settled k = 3 ∧ laneExpired settled k = true)) ∧
    (∃ (k : Fin 16) (dt : Nat) (s : State), s.pwr.rst = none ∧ (let settled := laneSettle k (s.tick dt); laneStage settled k = 4 ∧ laneExpired settled k = true)) ∧
    (∃ (k : Fin 16) (dt : Nat) (s : State), s.pwr.rst = none ∧ (let settled := laneSettle k (s.tick dt); laneStage settled k = 3)) ∧
    (∃ (k : Fin 16) (a : Fin 23) (dt : Nat) (s : State), s.pwr.rst = none ∧ (let settled := laneSettle k (s.tick dt); laneStage settled k = 4 ∧ lanePrl settled k = false ∧ hcdOk settled k a = true)) ∧
    (∃ (k : Fin 16) (dt : Nat) (s : State), s.pwr.rst = none ∧ (let settled := laneSettle k (s.tick dt); laneStage settled k = 4 ∧ lanePrl settled k = true ∧ (settled.path (lanePath k)).part.isSome = true ∧ (settled.path (lanePath k)).exch.any (fun e => decide (16 ≤ e.2)) = true)) ∧
    (∃ (k : Fin 16) (a : Fin 23) (dt : Nat) (s : State), s.pwr.rst = none ∧ (let settled := laneSettle k (s.tick dt); laneStage settled k = 4 ∧ lanePrl settled k = false ∧ hcdOk settled k a = false)) ∧
    (∃ (k : Fin 16) (dt : Nat) (s : State), s.pwr.rst = none ∧ (let settled := laneSettle k (s.tick dt); laneStage settled k = 4 ∧ lanePrl settled k = true ∧ (settled.path (lanePath k)).exch.any (fun e => e.2 == 0) = true)) ∧
    (∃ (k : Fin 16) (s : State), s.pwr.rst = none ∧ (s.lane k).cdr = true) ∧
    (∃ (k : Fin 16) (dt : Nat) (s : State), s.pwr.rst = none ∧ (let settled := laneSettle k (s.tick dt); laneActive settled k = true)) ∧
    (∃ (k : Fin 16) (s : State), laneRcal s k = true) ∧
    (∃ (k : Fin 16) (s : State), laneRcal s k = false) ∧
    (∃ (k : Fin 16) (l : List Bool) (s : State), s.pwr.rst = none ∧ laneStage s k = 6 ∧ patLocks s k l = true ∧ s.flag (R.LAN_LANE_PRBS_STAT_LOCK k) = false) ∧
    (∃ (k : Fin 16) (bad : Fin 1025) (s : State), s.pwr.rst = none ∧ s.flag (R.LAN_LANE_PRBS_STAT_LOCK k) = true ∧ 128 < bad.val) ∧
    (∃ (k : Fin 16) (s : State), s.pwr.rst = none ∧ (laneStage s k = 5 ∨ laneStage s k = 6) ∧ (s.lane k).inj = 0) :=
  ⟨⟨15, 0, laneAt 15 1 [(R.LAN_LANE_CFG_DET_EN 15, 1)] {}, rfl, by decide +kernel, by decide +kernel, fun _ h => by cases h⟩,
    ⟨15, 0, laneAt 15 2 [] {}, by decide +kernel⟩,
    ⟨15, 0, laneAt 15 2 [] {}, by decide +kernel⟩,
    ⟨15, 0, laneAt 15 2 [(R.LAN_LANE_CFG_AN_EN 15, 1), (R.LAN_LANE_CFG_RATE 15, 2), (R.LAN_QUAD_CFG_PLL0_RATE 3, 3)] {}, by decide +kernel⟩,
    ⟨15, 0, laneAt 15 3 [] {}, by decide +kernel⟩,
    ⟨15, 0, laneAt 15 4 [] {}, by decide +kernel⟩,
    ⟨15, 0, laneAt 15 3 [] {}, by decide +kernel⟩,
    ⟨15, 10, 0, laneAt 15 4 [(R.LAN_LANE_CFG_RATE 15, 2), (R.LAN_QUAD_CFG_PLL0_RATE 3, 3), (R.LAN_LANE_AN_ADV_TECH 15, 2 ^ 10)] {}, by decide +kernel⟩,
    ⟨0, 0, { laneAt 0 4 [(R.LAN_LANE_CFG_MODE 0, 1)] {} with prl := { paths := [(0, { part := some (1, 0, 0), exch := some ([], 16) })] } }, by decide +kernel⟩,
    ⟨15, 2, 0, laneAt 15 4 [(R.LAN_LANE_CFG_RATE 15, 2), (R.LAN_QUAD_CFG_PLL0_RATE 3, 3), (R.LAN_LANE_AN_ADV_TECH 15, 2 ^ 10)] {}, by decide +kernel⟩,
    ⟨0, 0, { laneAt 0 4 [(R.LAN_LANE_CFG_MODE 0, 1)] {} with prl := { paths := [(0, { exch := some ([], 0) })] } }, by decide +kernel⟩,
    ⟨15, laneAt 15 5 [] { cdr := true }, by decide +kernel⟩,
    ⟨15, 0, laneAt 15 5 [] {}, by decide +kernel⟩,
    ⟨15, State.reset, by decide +kernel⟩,
    ⟨15, { lan := { rcal := 0 } }, by decide +kernel⟩,
    ⟨15, List.replicate 256 false, laneAt 15 6 [(R.LAN_LANE_PRBS_CTL_RX_PAT 15, 5)] {}, by decide +kernel⟩,
    ⟨15, 129, with' [(R.LAN_LANE_PRBS_STAT_LOCK 15, 1)], by decide +kernel⟩,
    ⟨15, laneAt 15 5 [] {}, by decide +kernel⟩⟩

theorem test_witness_PatternLockSetsItsFlag :
    ∃ (k : Fin 16) (l : List Bool) (s : State), s.pwr.rst = none ∧ laneStage s k = 6 ∧ patLocks s k l = true ∧ s.flag (R.LAN_LANE_PRBS_STAT_LOCK k) = false :=
  ⟨15, List.replicate 256 false, laneAt 15 6 [(R.LAN_LANE_PRBS_CTL_RX_PAT 15, 5)] {}, by decide +kernel⟩

theorem test_witness_MacCommandsComplete :
    (∃ (k : Fin 16) (s : State), s.pwr.rst = none ∧ lanePrl s k = false ∧ unitDown s (.mac k) = false ∧ laneActive s k = true) ∧
    (∃ (k : Fin 16) (b : List Byte) (s : State), s.pwr.rst = none ∧ lanePrl s k = false ∧ unitDown s (.mac k) = false ∧ laneActive s k = true ∧ b.length < 64) ∧
    (∃ s : State, s.pwr.rst = none ∧ s.mac.htx.length < 32768) ∧
    (∃ s : State, s.pwr.rst = none ∧ (let k := s.get R.MAC_HTX_DESC_W0_PORT; let len := s.get R.MAC_HTX_DESC_W0_LEN; let f : TxFrame := { src := 0, bytes := s.mac.htx.take len, ip := s.flag R.MAC_HTX_DESC_W0_CSUM_IP, udp := s.flag R.MAC_HTX_DESC_W0_CSUM_UDP, at' := s.now }; s.mac.htx.length = (len + 3) / 4 * 4 ∧ len + 4 ≤ s.get (R.MAC_PORT_CFG_MAX_LEN k) + 4 * frameTags f.bytes ∧ lanePrl s k = false ∧ htxUnits len ≤ htxFree s ∧ s.flag R.MAC_HTX_DESC_W0_FU = false ∧ s.flag R.MAC_HTX_DESC_W0_TS_REQ = false ∧ s.flag R.MAC_HTX_DESC_W0_ONESTEP = false ∧ laneActive s k = true)) ∧
    (∃ (k : Fin 16) (dt : Nat) (f : TxFrame) (rest : List TxFrame) (s : State), s.pwr.rst = none ∧ txNext (s.port k).tx = some (f, rest) ∧ txUp ((s.tick dt).setPort k { s.port k with tx := rest }) k f = true) ∧
    (∃ (k : Fin 16) (s : State), s.pwr.rst = none ∧ (s.port k).tsq ≠ [] ∧ domOn s (4 + k.val / 4) = true) ∧
    (∃ (f : RxFrame) (r : List RxFrame) (s : State), s.pwr.rst = none ∧ s.mac.hrx = f :: r ∧ domOn s (4 + f.port / 4) = true) ∧
    (∃ (k : Fin 16) (dt : Nat) (s : State), s.pwr.rst = none ∧ s.flag (R.MAC_PORT_ESMC_CFG_ESMC_EN k) = true ∧ esmcDue (s.tick dt) k = true) ∧
    (∃ (k : Fin 16) (dt : Nat) (s : State), s.pwr.rst = none ∧ s.flag (R.MAC_PORT_ESMC_CFG_ESMC_EN k) = true ∧ esmcChanged (s.tick dt) k = true) :=
  ⟨⟨15, laneAt 15 5 [] {}, by decide +kernel⟩,
    ⟨15, [], laneAt 15 5 [] {}, by decide +kernel⟩,
    ⟨State.reset, by decide +kernel⟩,
    ⟨{ laneAt 15 5 [(R.MAC_HTX_DESC_W0_PORT, 15), (R.MAC_HTX_DESC_W0_LEN, 15)] {} with mac := { htx := List.replicate 16 7 } }, by decide +kernel⟩,
    ⟨15, 0, { src := 1, bytes := [] }, [], { laneAt 15 5 [] {} with mac := { ports := [(15, { tx := [{ src := 1, bytes := [] }] })] } }, by decide +kernel⟩,
    ⟨15, { mac := { ports := [(15, { tsq := [0] })] } }, by decide +kernel⟩,
    ⟨{ port := 15, bytes := [1] }, [], { mac := { hrx := [{ port := 15, bytes := [1] }] } }, by decide +kernel⟩,
    ⟨15, 0, with' [(R.MAC_PORT_ESMC_CFG_ESMC_EN 15, 1)], by decide +kernel⟩,
    ⟨15, 0, with' [(R.MAC_PORT_ESMC_CFG_ESMC_EN 15, 1), (R.MAC_PORT_ESMC_STAT_SSM_SENT 15, 2), (R.MAC_PORT_ESMC_STAT_ESSM_SENT 15, 1)], by decide +kernel⟩⟩

theorem test_witness_SubmitQueuesTheFrame :
    ∃ (k : Fin 16) (s : State), s.pwr.rst = none ∧ (let len := s.get R.MAC_HTX_DESC_W0_LEN; s.get R.MAC_HTX_DESC_W0_PORT = k ∧ s.mac.htx.length = (len + 3) / 4 * 4 ∧ len + 4 ≤ s.get (R.MAC_PORT_CFG_MAX_LEN k) + 4 * frameTags (s.mac.htx.take len) ∧ lanePrl s k = false ∧ htxUnits len ≤ htxFree s ∧ s.flag R.MAC_HTX_DESC_W0_FU = false ∧ s.flag R.MAC_HTX_DESC_W0_TS_REQ = false ∧ s.flag R.MAC_HTX_DESC_W0_ONESTEP = false ∧ laneActive s k = true) :=
  ⟨15, { laneAt 15 5 [(R.MAC_HTX_DESC_W0_PORT, 15), (R.MAC_HTX_DESC_W0_LEN, 15)] {} with mac := { htx := List.replicate 16 7 } }, by decide +kernel⟩

theorem test_witness_ReceiveBufferIsReadInOrder :
    ∃ (f : RxFrame) (r : List RxFrame) (s : State), s.pwr.rst = none ∧ s.mac.hrx = f :: r ∧ domOn s (4 + f.port / 4) = true ∧ s.mac.hrxPos ≤ f.bytes.length :=
  ⟨{ port := 15, bytes := [1, 2, 3, 4, 5] }, [], { mac := { hrx := [{ port := 15, bytes := [1, 2, 3, 4, 5] }], hrxPos := 1 } }, by decide +kernel⟩

theorem test_witness_MalletRequestsComplete :
    (∃ (m : Fin 8) (f : MalFrame) (r : List MalFrame) (s : State), s.pwr.rst = none ∧ (s.mal m).q = f :: r ∧ f.wait = none ∧ unitDown s (.mallet m) = false ∧ domOn s 2 = true ∧ frameKind f.f.bytes = 3) ∧
    (∃ (m : Fin 8) (f : MalFrame) (r : List MalFrame) (s : State), s.pwr.rst = none ∧ (s.mal m).q = f :: r ∧ f.wait = none ∧ unitDown s (.mallet m) = false ∧ domOn s 2 = true ∧ frameKind f.f.bytes = 6) ∧
    (∃ (m : Fin 8) (f : MalFrame) (r : List MalFrame) (s : State), s.pwr.rst = none ∧ (s.mal m).q = f :: r ∧ f.wait = none ∧ unitDown s (.mallet m) = false ∧ domOn s 2 = true ∧ frameKind f.f.bytes = 4) ∧
    (∃ (m : Fin 8) (f : MalFrame) (r : List MalFrame) (s : State), s.pwr.rst = none ∧ (s.mal m).q = f :: r ∧ f.wait = none ∧ unitDown s (.mallet m) = false ∧ domOn s 2 = true ∧ frameKind f.f.bytes = 5) ∧
    (∃ (m : Fin 8) (w : Nat) (f : MalFrame) (r : List MalFrame) (s : State), s.pwr.rst = none ∧ (s.mal m).q = f :: r ∧ f.wait = some w ∧ w < s.strokes ∧ frameKind f.f.bytes = 3) ∧
    (∃ (m : Fin 8) (w : Nat) (f : MalFrame) (r : List MalFrame) (s : State), s.pwr.rst = none ∧ (s.mal m).q = f :: r ∧ f.wait = some w ∧ w < s.strokes ∧ frameKind f.f.bytes = 6) ∧
    (∃ (m : Fin 8) (w : Nat) (f : MalFrame) (r : List MalFrame) (s : State), s.pwr.rst = none ∧ (s.mal m).q = f :: r ∧ f.wait = some w ∧ w < s.strokes ∧ frameKind f.f.bytes = 4) ∧
    (∃ (m : Fin 8) (w : Nat) (f : MalFrame) (r : List MalFrame) (s : State), s.pwr.rst = none ∧ (s.mal m).q = f :: r ∧ f.wait = some w ∧ w < s.strokes ∧ frameKind f.f.bytes = 5) ∧
    (∃ (m : Fin 8) (dt w : Nat) (f : MalFrame) (r : List MalFrame) (s : State), s.pwr.rst = none ∧ (s.mal m).q = f :: r ∧ f.wait = some w ∧ w < s.strokes ∧ (let u := s.tick dt; isPtp 1 f.f.bytes = true ∧ ptpParse u f.f.port f.f.bytes = 0)) ∧
    (∃ (m : Fin 8) (dt w : Nat) (f : MalFrame) (r : List MalFrame) (s : State), s.pwr.rst = none ∧ (s.mal m).q = f :: r ∧ f.wait = some w ∧ w < s.strokes ∧ (let u := s.tick dt; isPtp 12 f.f.bytes = true ∧ ptpParse u f.f.port f.f.bytes = 0)) ∧
    (∃ (m : Fin 8) (bf dt w : Nat) (f : MalFrame) (l : List MalFrame) (r : (Nat × Bool) × Nat) (s : State), s.pwr.rst = none ∧ (s.mal m).q = f :: l ∧ f.wait = some w ∧ w < s.strokes ∧ frameKind f.f.bytes = 4 ∧ (let u := s.tick dt; let b := f.f.bytes; let a := sub b (etAt b + 2) 28; let frame := ethFrame (sub b 6 6) (portAddr u f.f.port) (sub b 12 (4 * frameTags b)) 0x0806 (arpBody u f.f.port 2 (sub a 24 4) (sub a 8 6) (sub a 14 4)); s.flag R.TSV_CTL_ARP_EN = true ∧ be16 a 6 = 1 ∧ reserve u f.f.port bf (lineLen frame.length) = some r)) ∧
    (∃ (j : Fin 8) (dt : Nat) (s : State), s.pwr.rst = none ∧ ntsState (s.tick dt) j = 3 ∧ s.tsv.expired.contains j.val = false) :=
  ⟨⟨7, inMal (ipFr 17 [0, 0, 0, 123, 0, 8, 0, 0]), [], malAt (inMal (ipFr 17 [0, 0, 0, 123, 0, 8, 0, 0])) {}, by decide +kernel⟩,
    ⟨7, inMal (ipFr 17 ([0, 0, 0, 123, 0, 88, 0, 0, 0x23] ++ List.replicate 47 0 ++ [1, 4, 0, 32] ++ List.replicate 28 0)), [], malAt (inMal (ipFr 17 ([0, 0, 0, 123, 0, 88, 0, 0, 0x23] ++ List.replicate 47 0 ++ [1, 4, 0, 32] ++ List.replicate 28 0))) {}, by decide +kernel⟩,
    ⟨7, inMal (List.replicate 12 0 ++ [8, 6]), [], malAt (inMal (List.replicate 12 0 ++ [8, 6])) {}, by decide +kernel⟩,
    ⟨7, inMal (ipFr 1 []), [], malAt (inMal (ipFr 1 [])) {}, by decide +kernel⟩,
    ⟨7, 0, inMal (ipFr 17 [0, 0, 0, 123, 0, 8, 0, 0]) (some 0), [], malAt (inMal (ipFr 17 [0, 0, 0, 123, 0, 8, 0, 0]) (some 0)) {}, by decide +kernel⟩,
    ⟨7, 0, inMal (ipFr 17 ([0, 0, 0, 123, 0, 88, 0, 0, 0x23] ++ List.replicate 47 0 ++ [1, 4, 0, 32] ++ List.replicate 28 0)) (some 0), [], malAt (inMal (ipFr 17 ([0, 0, 0, 123, 0, 88, 0, 0, 0x23] ++ List.replicate 47 0 ++ [1, 4, 0, 32] ++ List.replicate 28 0)) (some 0)) {}, by decide +kernel⟩,
    ⟨7, 0, inMal (List.replicate 12 0 ++ [8, 6]) (some 0), [], malAt (inMal (List.replicate 12 0 ++ [8, 6]) (some 0)) {}, by decide +kernel⟩,
    ⟨7, 0, inMal (ipFr 1 []) (some 0), [], malAt (inMal (ipFr 1 []) (some 0)) {}, by decide +kernel⟩,
    ⟨7, 0, 0, inMal (ptpFr 1 4 (List.replicate 10 0)) (some 0), [], malAt (inMal (ptpFr 1 4 (List.replicate 10 0)) (some 0)) {}, by decide +kernel⟩,
    ⟨7, 0, 0, inMal (sigFr 7 [0, 0]) (some 0), [], malAt (inMal (sigFr 7 [0, 0]) (some 0)) {}, by decide +kernel⟩,
    ⟨7, 0, 0, 0, inMal (List.replicate 12 0 ++ [8, 6, 0, 1, 8, 0, 6, 4, 0, 1] ++ List.replicate 20 0) (some 0), [], ((1024000, true), 1076428), malAt (inMal (List.replicate 12 0 ++ [8, 6, 0, 1, 8, 0, 6, 4, 0, 1] ++ List.replicate 20 0) (some 0)) {} [(R.TSV_CTL_ARP_EN, 1)], by decide +kernel⟩,
    ⟨7, 0, { with' [(R.TSV_NTS_KEY_STAT_EN 7, 1)] with now := 500000000, key := { slots := [(0, { state := 1 }), (4, { state := 1, kind := 6, role := 7 })] } }, by decide +kernel⟩⟩

theorem test_witness_PtpMessagesReceivedComplete :
    (∃ (m : Fin 8) (dt : Nat) (f : MalFrame) (s w : State), ∃ n, s.pwr.rst = none ∧ ptpReady m f (s.tick dt) w ∧ (let k := f.f.port; let who := clientOf w k f.f.bytes; isPtp 0 f.f.bytes = true ∧ who = some n)) ∧
    (∃ (m : Fin 8) (dt : Nat) (f : MalFrame) (s w : State), ∃ n, s.pwr.rst = none ∧ ptpReady m f (s.tick dt) w ∧ (let k := f.f.port; let msg := ptpOf f.f.bytes; let who := clientOf w k f.f.bytes; isPtp 8 f.f.bytes = true ∧ who = some n ∧ (let u := heard n w; (u.sess n).rxSync = some (msgSeq msg) ∧ (u.sess n).t2 ≠ none ∧ (u.sess n).t1 = none))) ∧
    (∃ (m : Fin 8) (dt : Nat) (f : MalFrame) (s w : State), ∃ n, s.pwr.rst = none ∧ ptpReady m f (s.tick dt) w ∧ (let k := f.f.port; let msg := ptpOf f.f.bytes; let who := clientOf w k f.f.bytes; isPtp 9 f.f.bytes = true ∧ who = some n ∧ (let u := heard n w; sub msg 44 10 = portId u (u.sess n).port ∧ msgSeq msg = (u.sess n).dreqId ∧ (u.sess n).t3 ≠ none))) ∧
    (∃ (m : Fin 8) (dt : Nat) (f : MalFrame) (s w : State), ∃ n, s.pwr.rst = none ∧ ptpReady m f (s.tick dt) w ∧ (let k := f.f.port; let who := clientOf w k f.f.bytes; isPtp 11 f.f.bytes = true ∧ who = some n)) ∧
    (∃ (m : Fin 8) (dt : Nat) (f : MalFrame) (s w : State), s.pwr.rst = none ∧ ptpReady m f (s.tick dt) w ∧ (let k := f.f.port; let who := clientOf w k f.f.bytes; isPtp 11 f.f.bytes = true ∧ who = none ∧ sessOf w k f.f.bytes = none)) ∧
    (∃ (m : Fin 8) (bf dt : Nat) (f : MalFrame) (s w : State), ∃ r, ∃ n, s.pwr.rst = none ∧ ptpReady m f (s.tick dt) w ∧ (let k := f.f.port; let msg := ptpOf f.f.bytes; isPtp 1 f.f.bytes = true ∧ reEpochs w = false ∧ tbit (msg.getD 6 0) 2 = true ∧ sessOf w k f.f.bytes = some n ∧ (w.sess n).role = 0 ∧ granted w n 9 = true ∧ (let u := sealNote k (some n) w; sealGate u k (some n) ≤ 1 ∧ reserve u k bf (drespLen u k (some n)) = some r))) ∧
    (∃ (m : Fin 8) (bf dt : Nat) (f : MalFrame) (s w : State), ∃ r, s.pwr.rst = none ∧ ptpReady m f (s.tick dt) w ∧ (let k := f.f.port; let msg := ptpOf f.f.bytes; isPtp 1 f.f.bytes = true ∧ reEpochs w = false ∧ tbit (msg.getD 6 0) 2 = false ∧ w.flag (R.TSV_PORT_CFG_MC_EN k) = true ∧ isMaster w k = true ∧ (let u := sealNote k none w; sealGate u k none ≤ 1 ∧ reserve u k bf (drespLen u k none) = some r))) :=
  ⟨⟨7, 0, inMal (ptpFr 0 4 (List.replicate 10 0)), malAt (inMal (ptpFr 0 4 (List.replicate 10 0))) (peer 1 2), readyOut (inMal (ptpFr 0 4 (List.replicate 10 0))) (malAt (inMal (ptpFr 0 4 (List.replicate 10 0))) (peer 1 2)), 4095, rfl, ready_of (by decide +kernel) (by decide +kernel), by decide +kernel⟩,
    ⟨7, 0, inMal (ptpFr 8 4 (List.replicate 10 0)), malAt (inMal (ptpFr 8 4 (List.replicate 10 0))) (peer 1 2 { rxSync := some 0, t2 := some (0, false) }), readyOut (inMal (ptpFr 8 4 (List.replicate 10 0))) (malAt (inMal (ptpFr 8 4 (List.replicate 10 0))) (peer 1 2 { rxSync := some 0, t2 := some (0, false) })), 4095, rfl, ready_of (by decide +kernel) (by decide +kernel), by decide +kernel⟩,
    ⟨7, 0, inMal (ptpFr 9 4 (List.replicate 10 0 ++ List.replicate 9 0 ++ [16])), malAt (inMal (ptpFr 9 4 (List.replicate 10 0 ++ List.replicate 9 0 ++ [16]))) (peer 1 2 { t3 := some (0, false) }), readyOut (inMal (ptpFr 9 4 (List.replicate 10 0 ++ List.replicate 9 0 ++ [16]))) (malAt (inMal (ptpFr 9 4 (List.replicate 10 0 ++ List.replicate 9 0 ++ [16]))) (peer 1 2 { t3 := some (0, false) })), 4095, rfl, ready_of (by decide +kernel) (by decide +kernel), by decide +kernel⟩,
    ⟨7, 0, inMal (ptpFr 11 4 (List.replicate 30 0)), malAt (inMal (ptpFr 11 4 (List.replicate 30 0))) (peer 1 2), readyOut (inMal (ptpFr 11 4 (List.replicate 30 0))) (malAt (inMal (ptpFr 11 4 (List.replicate 30 0))) (peer 1 2)), 4095, rfl, ready_of (by decide +kernel) (by decide +kernel), by decide +kernel⟩,
    ⟨7, 0, inMal (ptpFr 11 0 (List.replicate 30 0)), malAt (inMal (ptpFr 11 0 (List.replicate 30 0))) ({}), readyOut (inMal (ptpFr 11 0 (List.replicate 30 0))) (malAt (inMal (ptpFr 11 0 (List.replicate 30 0))) ({})), rfl, ready_of (by decide +kernel) (by decide +kernel), by decide +kernel⟩,
    ⟨7, 0, 0, inMal (ptpFr 1 4 (List.replicate 10 0)), malAt (inMal (ptpFr 1 4 (List.replicate 10 0))) (peer 0 2 { dresp := lasting }), readyOut (inMal (ptpFr 1 4 (List.replicate 10 0))) (malAt (inMal (ptpFr 1 4 (List.replicate 10 0))) (peer 0 2 { dresp := lasting })), ((1024000, true), 1082982), 4095, rfl, ready_of (by decide +kernel) (by decide +kernel), by decide +kernel⟩,
    ⟨7, 0, 0, inMal (ptpFr 1 0 (List.replicate 10 0)), malAt (inMal (ptpFr 1 0 (List.replicate 10 0))) ({}) [(R.TSV_PORT_CFG_MC_EN 15, 1), (R.TSV_PORT_STAT_PORT_STATE 15, 6)], readyOut (inMal (ptpFr 1 0 (List.replicate 10 0))) (malAt (inMal (ptpFr 1 0 (List.replicate 10 0))) ({}) [(R.TSV_PORT_CFG_MC_EN 15, 1), (R.TSV_PORT_STAT_PORT_STATE 15, 6)]), ((1024000, true), 1082982), rfl, ready_of (by decide +kernel) (by decide +kernel), by decide +kernel⟩⟩

theorem test_witness_UnicastNegotiationCompletes :
    (∃ (m : Fin 8) (bf dt tlvType : Nat) (f : MalFrame) (d : List Nat) (s w : State), ∃ n r, s.pwr.rst = none ∧ ptpReady m f (s.tick dt) w ∧ (let k := f.f.port; let msg := ptpOf f.f.bytes; let who := sessOf w k f.f.bytes; let ty := d.headD 0 / 16; let log := sbyte (d.getD 1 0); isPtp 12 f.f.bytes = true ∧ sigTlvs msg = [(tlvType, d)] ∧ tlvType = 4 ∧ grantOk w k ty log (some n) = true ∧ (who = some n ∨ who = none ∧ sessFreeIdx w = some n) ∧ sealGate w k who ≤ 1 ∧ reserve w k bf (sigLineLen w k f.f 12) = some r)) ∧
    (∃ (m : Fin 8) (bf dt tlvType : Nat) (f : MalFrame) (d : List Nat) (s w : State), ∃ n r, s.pwr.rst = none ∧ ptpReady m f (s.tick dt) w ∧ (let k := f.f.port; let msg := ptpOf f.f.bytes; let who := sessOf w k f.f.bytes; isPtp 12 f.f.bytes = true ∧ sigTlvs msg = [(tlvType, d)] ∧ tlvType = 6 ∧ who = some n ∧ sealGate w k who ≤ 1 ∧ reserve w k bf (sigLineLen w k f.f 6) = some r)) ∧
    (∃ (m : Fin 8) (dt tlvType : Nat) (f : MalFrame) (d : List Nat) (s w : State), ∃ n, s.pwr.rst = none ∧ ptpReady m f (s.tick dt) w ∧ (let k := f.f.port; let msg := ptpOf f.f.bytes; let who := sessOf w k f.f.bytes; isPtp 12 f.f.bytes = true ∧ sigTlvs msg = [(tlvType, d)] ∧ tlvType = 7 ∧ who = some n)) ∧
    (∃ (m : Fin 8) (dt tlvType : Nat) (f : MalFrame) (d : List Nat) (s w : State), ∃ n, s.pwr.rst = none ∧ ptpReady m f (s.tick dt) w ∧ (let k := f.f.port; let msg := ptpOf f.f.bytes; let who := sessOf w k f.f.bytes; let ty := d.headD 0 / 16; isPtp 12 f.f.bytes = true ∧ sigTlvs msg = [(tlvType, d)] ∧ tlvType = 5 ∧ who = some n ∧ (w.sess n).role = 1 ∧ grantTypes.contains ty = true ∧ ofBe (sub d 2 4) ≠ 0 ∧ (w.sess n).st = 2)) ∧
    (∃ (m : Fin 8) (dt tlvType : Nat) (f : MalFrame) (d : List Nat) (s w : State), ∃ n, s.pwr.rst = none ∧ ptpReady m f (s.tick dt) w ∧ (let k := f.f.port; let msg := ptpOf f.f.bytes; let who := sessOf w k f.f.bytes; let ty := d.headD 0 / 16; isPtp 12 f.f.bytes = true ∧ sigTlvs msg = [(tlvType, d)] ∧ tlvType = 5 ∧ who = some n ∧ (w.sess n).role = 1 ∧ grantTypes.contains ty = true ∧ ofBe (sub d 2 4) ≠ 0 ∧ (w.sess n).st = 3)) ∧
    (∃ (m : Fin 8) (dt tlvType : Nat) (f : MalFrame) (d : List Nat) (s w : State), ∃ n, s.pwr.rst = none ∧ ptpReady m f (s.tick dt) w ∧ (let k := f.f.port; let msg := ptpOf f.f.bytes; let who := sessOf w k f.f.bytes; let ty := d.headD 0 / 16; let log := sbyte (d.getD 1 0); isPtp 12 f.f.bytes = true ∧ sigTlvs msg = [(tlvType, d)] ∧ tlvType = 5 ∧ who = some n ∧ (w.sess n).role = 1 ∧ grantTypes.contains ty = true ∧ ofBe (sub d 2 4) ≠ 0 ∧ (let dur := ofBe (sub d 2 4); let v := setGrant { w.sess n with lastRx := w.strokes } ty (some { log := log, until' := w.now + dur * secCounts, dur := dur }); let u := w.setSess n v; (w.sess n).st = 1 ∧ grantTypes.all (fun x => granted u n x) = false))) ∧
    (∃ (m : Fin 8) (dt tlvType : Nat) (f : MalFrame) (d : List Nat) (s w : State), ∃ n, s.pwr.rst = none ∧ ptpReady m f (s.tick dt) w ∧ (let k := f.f.port; let msg := ptpOf f.f.bytes; let who := sessOf w k f.f.bytes; let ty := d.headD 0 / 16; let log := sbyte (d.getD 1 0); isPtp 12 f.f.bytes = true ∧ sigTlvs msg = [(tlvType, d)] ∧ tlvType = 5 ∧ who = some n ∧ (w.sess n).role = 1 ∧ grantTypes.contains ty = true ∧ ofBe (sub d 2 4) ≠ 0 ∧ (let dur := ofBe (sub d 2 4); let v := setGrant { w.sess n with lastRx := w.strokes } ty (some { log := log, until' := w.now + dur * secCounts, dur := dur }); let u := w.setSess n v; (w.sess n).st = 1 ∧ grantTypes.all (fun x => granted u n x) = true))) :=
  ⟨⟨7, 0, 0, 4, inMal (sigFr 4 [0xB0, 0, 0, 0, 1, 44]), [0xB0, 0, 0, 0, 1, 44], malAt (inMal (sigFr 4 [0xB0, 0, 0, 0, 1, 44])) (peer 0 2), readyOut (inMal (sigFr 4 [0xB0, 0, 0, 0, 1, 44])) (malAt (inMal (sigFr 4 [0xB0, 0, 0, 0, 1, 44])) (peer 0 2)), 4095, ((1024000, true), 1089536), rfl, ready_of (by decide +kernel) (by decide +kernel), by decide +kernel⟩,
    ⟨7, 0, 0, 6, inMal (sigFr 6 [0xB0, 0]), [0xB0, 0], malAt (inMal (sigFr 6 [0xB0, 0])) (peer 0 2), readyOut (inMal (sigFr 6 [0xB0, 0])) (malAt (inMal (sigFr 6 [0xB0, 0])) (peer 0 2)), 4095, ((1024000, true), 1082982), rfl, ready_of (by decide +kernel) (by decide +kernel), by decide +kernel⟩,
    ⟨7, 0, 7, inMal (sigFr 7 [0xB0, 0]), [0xB0, 0], malAt (inMal (sigFr 7 [0xB0, 0])) (peer 0 2), readyOut (inMal (sigFr 7 [0xB0, 0])) (malAt (inMal (sigFr 7 [0xB0, 0])) (peer 0 2)), 4095, rfl, ready_of (by decide +kernel) (by decide +kernel), by decide +kernel⟩,
    ⟨7, 0, 5, inMal (sigFr 5 [0xB0, 0, 0, 0, 1, 44, 0, 1]), [0xB0, 0, 0, 0, 1, 44, 0, 1], malAt (inMal (sigFr 5 [0xB0, 0, 0, 0, 1, 44, 0, 1])) (peer 1 2), readyOut (inMal (sigFr 5 [0xB0, 0, 0, 0, 1, 44, 0, 1])) (malAt (inMal (sigFr 5 [0xB0, 0, 0, 0, 1, 44, 0, 1])) (peer 1 2)), 4095, rfl, ready_of (by decide +kernel) (by decide +kernel), by decide +kernel⟩,
    ⟨7, 0, 5, inMal (sigFr 5 [0xB0, 0, 0, 0, 1, 44, 0, 1]), [0xB0, 0, 0, 0, 1, 44, 0, 1], malAt (inMal (sigFr 5 [0xB0, 0, 0, 0, 1, 44, 0, 1])) (peer 1 3), readyOut (inMal (sigFr 5 [0xB0, 0, 0, 0, 1, 44, 0, 1])) (malAt (inMal (sigFr 5 [0xB0, 0, 0, 0, 1, 44, 0, 1])) (peer 1 3)), 4095, rfl, ready_of (by decide +kernel) (by decide +kernel), by decide +kernel⟩,
    ⟨7, 0, 5, inMal (sigFr 5 [0xB0, 0, 0, 0, 1, 44, 0, 1]), [0xB0, 0, 0, 0, 1, 44, 0, 1], malAt (inMal (sigFr 5 [0xB0, 0, 0, 0, 1, 44, 0, 1])) (peer 1 1), readyOut (inMal (sigFr 5 [0xB0, 0, 0, 0, 1, 44, 0, 1])) (malAt (inMal (sigFr 5 [0xB0, 0, 0, 0, 1, 44, 0, 1])) (peer 1 1)), 4095, rfl, ready_of (by decide +kernel) (by decide +kernel), by decide +kernel⟩,
    ⟨7, 0, 5, inMal (sigFr 5 [0xB0, 0, 0, 0, 1, 44, 0, 1]), [0xB0, 0, 0, 0, 1, 44, 0, 1], malAt (inMal (sigFr 5 [0xB0, 0, 0, 0, 1, 44, 0, 1])) (peer 1 1 { sync := lasting, dresp := lasting }), readyOut (inMal (sigFr 5 [0xB0, 0, 0, 0, 1, 44, 0, 1])) (malAt (inMal (sigFr 5 [0xB0, 0, 0, 0, 1, 44, 0, 1])) (peer 1 1 { sync := lasting, dresp := lasting })), 4095, rfl, ready_of (by decide +kernel) (by decide +kernel), by decide +kernel⟩⟩

theorem test_witness_PtpSessionCommandsComplete :
    (∃ (k : Fin 16) (n : Fin 4096) (bf dt : Nat) (r : (Nat × Bool) × Nat) (s : State), s.pwr.rst = none ∧ ptpOn s k = true ∧ isMaster s k = true ∧ reEpochs (s.tick dt) = false ∧ (s.sess n).st = 2 ∧ (s.sess n).role = 0 ∧ (s.sess n).port = k ∧ granted (s.tick dt) n 0 = true ∧ (s.sess n).nextRaw ≤ (s.tick dt).now ∧ (let u := sealNote k (some n.val) (s.tick dt); sealGate u k (some n.val) ≤ 1 ∧ reserve u k bf (syncLen u k (some n.val)) = some r)) ∧
    (∃ (k : Fin 16) (bf dt : Nat) (r : (Nat × Bool) × Nat) (s : State), s.pwr.rst = none ∧ ptpOn s k = true ∧ isMaster s k = true ∧ reEpochs (s.tick dt) = false ∧ s.flag (R.TSV_PORT_CFG_MC_EN k) = true ∧ tget 0 s.tsv.next (4 * k.val + 1) ≤ (s.tick dt).now ∧ (let u := sealNote k none (s.tick dt); sealGate u k none ≤ 1 ∧ reserve u k bf (syncLen u k none) = some r)) ∧
    (∃ (k : Fin 16) (dt e : Nat) (l : List Nat) (d : FuDue) (s : State), s.pwr.rst = none ∧ (s.port k).tsq = e :: l ∧ tbit e 16 = false ∧ tbit e 20 = true ∧ tbit e 18 = false ∧ s.tsv.fus.find? (fun d => d.port == k.val && d.tag == e % 65536) = some d ∧ (let u := tsqPop k (s.tick dt); let u := u.setTsv { s.tsv with fus := s.tsv.fus.filter (fun d => !(d.port == k.val && d.tag == e % 65536)) }; let v := sealNote d.port d.sess u; reEpochs u = false ∧ sealGate v d.port d.sess ≤ 1)) ∧
    (∃ (k : Fin 16) (e : Nat) (l : List Nat) (s : State), s.pwr.rst = none ∧ (s.port k).tsq = e :: l ∧ tbit e 16 = true ∧ (let gap := (e % 65536, e / 2 ^ 32 % 65536); let hit := s.tsv.fus.filter (fun d => d.port == k.val && inRun gap d.tag); hit ≠ [])) ∧
    (∃ (k : Fin 16) (n : Fin 4096) (dt : Nat) (s : State), s.pwr.rst = none ∧ ptpOn s k = true ∧ isMaster s k = true ∧ (s.sess n).st = 2 ∧ (s.sess n).role = 0 ∧ (s.sess n).port = k ∧ granted (s.tick dt) n 11 = true ∧ (s.sess n).nextAnn ≤ (s.tick dt).now ∧ (let log := sbyte ((s.sess n).logs.getD 0 0); let r := announceMsg k (some n.val) (s.sess n).annSeq log (s.tick dt); let v : Sess := { s.sess n with annSeq := ((s.sess n).annSeq + 1) % 65536, nextAnn := max ((s.sess n).nextAnn + logCounts log) r.2.now }; let u := sealNote k (some n.val) (r.2.setSess n v); sealGate u k (some n.val) ≤ 1)) ∧
    (∃ (k : Fin 16) (dt : Nat) (s : State), s.pwr.rst = none ∧ ptpOn s k = true ∧ isMaster s k = true ∧ s.flag (R.TSV_PORT_CFG_MC_EN k) = true ∧ tget 0 s.tsv.next (4 * k.val) ≤ (s.tick dt).now ∧ (let log := s.getI (R.TSV_PORT_LOG_ANN_LOG k); let q := portSeq k 0 (s.tick dt); let r := announceMsg k none q.1 log q.2; let u := sealNote k none (r.2.setTsv { r.2.tsv with next := tset 0 r.2.tsv.next (4 * k) (max (tget 0 s.tsv.next (4 * k.val) + logCounts log) r.2.now) }); sealGate u k none ≤ 1)) ∧
    (∃ (n : Fin 4096) (bf dt : Nat) (r : (Nat × Bool) × Nat) (s : State), s.pwr.rst = none ∧ (let v := s.sess n; let u := sealNote v.port (some n.val) (s.tick dt); ptpOn s v.port = true ∧ v.role ≠ 0 ∧ (v.st = 2 ∨ v.st = 3) ∧ v.nextRaw ≤ (s.tick dt).now ∧ (v.role = 2 ∨ granted (s.tick dt) n 9 = true) ∧ sealGate u v.port (some n.val) ≤ 1 ∧ reserve u v.port bf (dreqLen u v.port n) = some r)) ∧
    (∃ (n : Fin 4096) (dt : Nat) (s : State), s.pwr.rst = none ∧ (let l := grantTypes.filter (fun ty => (grantOf (s.sess n) ty).elim false (fun g => decide (4 * (g.until' - (s.tick dt).now) ≤ g.dur * secCounts))); (s.sess n).st = 2 ∧ (s.sess n).role = 1 ∧ l ≠ [])) ∧
    (∃ (n : Fin 4096) (dt : Nat) (s : State), s.pwr.rst = none ∧ ((s.sess n).st = 2 ∨ (s.sess n).st = 3) ∧ (s.sess n).role = 0 ∧ grantTypes.all (fun ty => !granted (s.tick dt) n ty) = true) ∧
    (∃ (n : Fin 4096) (dt : Nat) (s : State), s.pwr.rst = none ∧ ((s.sess n).st = 2 ∨ (s.sess n).st = 3) ∧ (s.sess n).role = 1 ∧ grantTypes.any (fun ty => !granted (s.tick dt) n ty) = true) ∧
    (∃ (n : Fin 4096) (dt : Nat) (s : State), s.pwr.rst = none ∧ (s.sess n).st = 1 ∧ (s.sess n).since + 3 * secCounts ≤ (s.tick dt).now) ∧
    (∃ (n : Fin 4096) (dt : Nat) (s : State), s.pwr.rst = none ∧ (s.sess n).st = 4 ∧ (s.sess n).since + secCounts ≤ (s.tick dt).now) ∧
    (∃ (n : Fin 4096) (dt : Nat) (s : State), s.pwr.rst = none ∧ (s.sess n).role ≠ 0 ∧ 1 ≤ (s.sess n).st ∧ (s.sess n).st ≤ 3 ∧ (s.sess n).los = false ∧ (let log := if (s.sess n).role = 2 then s.getI (R.TSV_PORT_LOG_SYNC_LOG (s.sess n).port) else sbyte ((s.sess n).logs.getD 1 0); (annOut (s.tick dt) (s.sess n) = true ∨ (s.sess n).syncAt + 3 * logCounts log ≤ (s.tick dt).now))) ∧
    (∃ (dt : Nat) (s : State), s.pwr.rst = none ∧ (s.sess (s.get R.TSV_SESS_IDX_IDX)).st = 0 ∧ (let v := sessFrom (s.tick dt) (sessWords s); v.role = 1)) ∧
    (∃ (dt : Nat) (s : State), s.pwr.rst = none ∧ (s.sess (s.get R.TSV_SESS_IDX_IDX)).st = 0 ∧ (let v := sessFrom (s.tick dt) (sessWords s); v.role = 2)) ∧
    (∃ s : State, s.pwr.rst = none ∧ (s.sess (s.get R.TSV_SESS_IDX_IDX)).st ≠ 0) ∧
    (∃ s : State, s.pwr.rst = none ∧ unitDown s (taskUnit .bmca) = false ∧ taskRuns s .bmca) :=
  ⟨⟨15, 4095, 0, 0, ((1024000, true), 1076428), { with' [(R.TSV_CTL_PTP_EN, 1), (R.TSV_PORT_CFG_PTP_EN 15, 1), (R.TSV_PORT_STAT_PORT_STATE 15, 6)] with strokes := 1, tsv := { sess := [(4095, peer 0 2 { sync := lasting })] } }, by decide +kernel⟩,
    ⟨15, 0, 0, ((1024000, true), 1076428), { with' [(R.TSV_CTL_PTP_EN, 1), (R.TSV_PORT_CFG_PTP_EN 15, 1), (R.TSV_PORT_STAT_PORT_STATE 15, 6), (R.TSV_PORT_CFG_MC_EN 15, 1)] with strokes := 1 }, by decide +kernel⟩,
    ⟨15, 0, 2 ^ 20, [], { tag := 0, port := 15, sess := none, frame := [] }, { mac := { ports := [(15, { tsq := [2 ^ 20] })] }, tsv := { fus := [{ tag := 0, port := 15, sess := none, frame := [] }] } }, by decide +kernel⟩,
    ⟨15, 2 ^ 32 + 2 ^ 16, [], { mac := { ports := [(15, { tsq := [2 ^ 32 + 2 ^ 16] })] }, tsv := { fus := [{ tag := 0, port := 15, sess := none, frame := [] }] } }, by decide +kernel⟩,
    ⟨15, 4095, 0, { with' [(R.TSV_CTL_PTP_EN, 1), (R.TSV_PORT_CFG_PTP_EN 15, 1), (R.TSV_PORT_STAT_PORT_STATE 15, 6)] with strokes := 1, tsv := { sess := [(4095, peer 0 2 { ann := lasting })] } }, by decide +kernel⟩,
    ⟨15, 0, { with' [(R.TSV_CTL_PTP_EN, 1), (R.TSV_PORT_CFG_PTP_EN 15, 1), (R.TSV_PORT_STAT_PORT_STATE 15, 6), (R.TSV_PORT_CFG_MC_EN 15, 1)] with strokes := 1 }, by decide +kernel⟩,
    ⟨4095, 0, 0, ((1024000, true), 1076428), { with' [(R.TSV_CTL_PTP_EN, 1), (R.TSV_PORT_CFG_PTP_EN 15, 1)] with strokes := 1, tsv := { sess := [(4095, peer 1 2 { dresp := lasting })] } }, by decide +kernel⟩,
    ⟨4095, 0, { tsv := { sess := [(4095, peer 1 2 { dresp := some { log := 0, until' := 1, dur := 300 } })] } }, by decide +kernel⟩,
    ⟨4095, 0, { tsv := { sess := [(4095, peer 0 2)] } }, by decide +kernel⟩,
    ⟨4095, 0, { tsv := { sess := [(4095, peer 1 2)] } }, by decide +kernel⟩,
    ⟨4095, 0, { now := 750000000, tsv := { sess := [(4095, peer 1 1)] } }, by decide +kernel⟩,
    ⟨4095, 0, { now := 250000000, tsv := { sess := [(4095, peer 1 4)] } }, by decide +kernel⟩,
    ⟨4095, 0, { now := 750000000, tsv := { sess := [(4095, peer 1 2)] } }, by decide +kernel⟩,
    ⟨0, with' [(R.TSV_SESS_W_ENTRY 0, 8)], by decide +kernel⟩,
    ⟨0, with' [(R.TSV_SESS_W_ENTRY 0, 16)], by decide +kernel⟩,
    ⟨{ with' [(R.TSV_SESS_IDX_IDX, 4095)] with tsv := { sess := [(4095, peer 1 2)] } }, by decide +kernel⟩,
    ⟨{ gen := { tasks := [(4, { idle := false })] } }, rfl, rfl, rfl, rfl, nofun⟩⟩

theorem test_witness_SessionReadCopiesTheEntry :
    ∃ s : State, s.pwr.rst = none :=
  ⟨State.reset, by decide +kernel⟩

theorem test_witness_CancelledSessionGoesFree :
    ∃ (n : Fin 4096) (dt : Nat) (s : State), s.pwr.rst = none ∧ (s.sess n).st = 4 ∧ (s.sess n).since + secCounts ≤ (s.tick dt).now :=
  ⟨4095, 0, { now := 250000000, tsv := { sess := [(4095, peer 0 4)] } }, by decide +kernel⟩

theorem test_witness_KeyCommandsComplete :
    (∃ s : State, s.pwr.rst = none ∧ s.key.remaskAt + remaskPer s < s.strokes) ∧
    (∃ s : State, s.pwr.rst = none ∧ s.get R.KEY_STAT_TXN_STATE = 0) ∧
    (∃ (j : Iface) (s : State), s.pwr.rst = none ∧ (let u := s.put R.KEY_STG_OP_OP 1; (stageCheck u j 1).1 = 0)) ∧
    (Config.aesSivOpens (toBytes (keyBytes (kslot (stagedSlots wrapped) (stgSlot wrapped (stagedSlots wrapped)).parent).key)) [toBytes (wrapAd (stgSlot wrapped (stagedSlots wrapped)))] (toBytes (stgData wrapped 12)) = true → ∃ (j : Iface) (s : State), s.pwr.rst = none ∧ (let v := stageFloor j 2 (s.put R.KEY_STG_OP_OP 2); (stageCheck v j 2).1 = 0)) ∧
    (∃ (j : Iface) (s : State), s.pwr.rst = none ∧ (let w := s.put R.KEY_STG_OP_OP 3; (stageCheck w j 3).1 = 0)) ∧
    (∃ (j : Iface) (s : State), s.pwr.rst = none ∧ keyOwns s j = true ∧ s.key.staged.length < 16 ∧ (let slot := s.get R.KEY_STG_OP_SLOT; let c := kslot (stagedSlots s) slot; 2 ≤ slot ∧ c.state ≠ 0)) ∧
    (∃ (j : Iface) (s : State), s.pwr.rst = none ∧ keyOwns s j = true ∧ s.key.staged.length < 16 ∧ (let slot := s.get R.KEY_STG_OP_SLOT; let c := kslot (stagedSlots s) slot; let uses := s.get R.KEY_STG_USES_USE_MAX; c.useMax ≠ 0 ∧ uses ≤ c.uses)) ∧
    (∃ (j : Iface) (s : State), s.pwr.rst = none ∧ keyOwns s j = true ∧ s.key.staged.length < 16 ∧ (let slot := s.get R.KEY_STG_OP_SLOT; let c := kslot (stagedSlots s) slot; c.state = 3)) ∧
    (∃ (j : Iface) (s : State), s.pwr.rst = none ∧ keyOwns s j = true ∧ nvmSlots s.key.slots s.key.staged ≠ []) ∧
    (∃ (j : Iface) (s : State), s.pwr.rst = none ∧ keyOwns s j = true ∧ nvmSlots s.key.slots s.key.staged = []) ∧
    (∃ (j : Iface) (s : State), s.pwr.rst = none ∧ keyOwns s j = true) ∧
    (∃ (dt : Nat) (s : State), s.pwr.rst = none ∧ s.get R.KEY_STAT_TXN_STATE = 1 ∧ s.key.since + s.get R.KEY_CTL_TXN_MAX * msCounts ≤ (s.tick dt).now) ∧
    (∃ s : State, s.get R.KEY_STAT_TXN_STATE = 2 ∧ s.flag R.KEY_STAT_COMPACTING = false ∧ s.key.floorDue = []) ∧
    (∃ s : State, s.pwr.rst = none ∧ s.get R.KEY_STAT_TXN_STATE = 2) ∧
    (∃ s : State, s.pwr.rst = none ∧ s.flag R.KEY_STAT_COMPACTING = true) ∧
    (∃ (k : Fin 64) (s : State), s.pwr.rst = none ∧ s.key.floorDue.contains k.val = true) ∧
    (∃ s : State, s.pwr.rst = none ∧ 2 ^ 20 ≤ s.key.rngCnt) ∧
    (∃ (j : Iface) (s : State), s.pwr.rst = none ∧ (let u := (s.put (R.KEY_ATT_STAT_DONE.ifc j) 0).put (R.KEY_ATT_STAT_NOKEY.ifc j) 0; let u := (List.range 8).foldl (fun u w => u.put ((R.KEY_ATT_RESP_W0_RESP.word w).ifc j) 0) u; keyGate u 3 2 1 ≠ 1 ∧ ((u.slot 3).priv = 2 → isCust u j = true) ∧ u.get R.GEN_LC_STATE ≠ 4)) ∧
    (∃ (j : Iface) (msg : List Nat) (s : State), s.pwr.rst = none ∧ tget none s.key.att j.num = some msg ∧ s.key.floorDue.contains 3 = false) :=
  ⟨⟨{ strokes := 81 }, by decide +kernel⟩,
    ⟨State.reset, by decide +kernel⟩,
    ⟨.i2c, staging [], by decide +kernel⟩,
    wrapped_import,
    ⟨.i2c, staging [], by decide +kernel⟩,
    ⟨.i2c, staging [(R.KEY_STG_OP_SLOT, 4)], by decide +kernel⟩,
    ⟨.i2c, staging [(R.KEY_STG_OP_SLOT, 4), (R.KEY_STG_USES_USE_MAX, 9)], by decide +kernel⟩,
    ⟨.i2c, staging [(R.KEY_STG_OP_SLOT, 5)], by decide +kernel⟩,
    ⟨.i2c, staging [] { staged := [{ op := 6, slot := 4, new := {}, val := 0 }] }, by decide +kernel⟩,
    ⟨.i2c, staging [], by decide +kernel⟩,
    ⟨.i2c, staging [], by decide +kernel⟩,
    ⟨0, { staging [] with now := 2 ^ 40 }, by decide +kernel⟩,
    ⟨with' [(R.KEY_STAT_TXN_STATE, 2)], by decide +kernel⟩,
    ⟨with' [(R.KEY_STAT_TXN_STATE, 2)], by decide +kernel⟩,
    ⟨with' [(R.KEY_STAT_COMPACTING, 1)], by decide +kernel⟩,
    ⟨63, { key := { floorDue := [63] } }, by decide +kernel⟩,
    ⟨{ key := { rngCnt := 2 ^ 20 } }, by decide +kernel⟩,
    ⟨.inband, { key := { slots := [(0, { state := 1 }), (3, { state := 1, ops := 4, priv := 1 })] } }, by decide +kernel⟩,
    ⟨.inband, [1], { key := { att := [(2, some [1])] } }, by decide +kernel⟩⟩

theorem test_witness_RemaskKeepsEveryKey :
    ∃ s : State, s.pwr.rst = none ∧ s.key.remaskAt + remaskPer s < s.strokes :=
  ⟨{ strokes := 81 }, by decide +kernel⟩

theorem test_witness_AbortLeavesTheStore :
    ∃ (j : Iface) (s : State), s.pwr.rst = none ∧ s.get R.KEY_STAT_TXN_STATE = 1 ∧ s.get R.KEY_STAT_TXN_OWNER = j.num :=
  ⟨.inband, with' [(R.KEY_STAT_TXN_STATE, 1), (R.KEY_STAT_TXN_OWNER, 2)], by decide +kernel⟩

theorem test_witness_PorarirCommandsComplete :
    (∃ (l : Fin 16) (dt : Nat) (s : State), s.pwr.rst = none ∧ (let settled := prlSync (s.tick dt); lanePrl settled l = true ∧ 2 ≤ laneStage settled l ∧ laneStage settled l ≤ 5)) ∧
    (∃ (l : Fin 16) (b : List Byte) (wf : BitVec 48) (dt : Nat) (s : State), s.pwr.rst = none ∧ (let settled := prlSync (s.tick dt); lanePrl settled l = true ∧ 2 ≤ laneStage settled l ∧ laneStage settled l ≤ 5 ∧ cellOk (cellBytes b) = true ∧ (let c := cellBytes b; let p := lanePath l; c.getD 0 0 = 1 ∧ laneActive settled l = true ∧ isPath settled p = true ∧ (let st := wordStamp (settled.lane l).rx (laneRate settled l) wf.toNat 0; pathExchange settled p c st = none)))) ∧
    (∃ (l : Fin 16) (b : List Byte) (wf : BitVec 48) (dt : Nat) (s : State), ∃ r, s.pwr.rst = none ∧ (let settled := prlSync (s.tick dt); lanePrl settled l = true ∧ 2 ≤ laneStage settled l ∧ laneStage settled l ≤ 5 ∧ cellOk (cellBytes b) = true ∧ (let c := cellBytes b; let p := lanePath l; c.getD 0 0 = 1 ∧ laneActive settled l = true ∧ isPath settled p = true ∧ (let st := wordStamp (settled.lane l).rx (laneRate settled l) wf.toNat 0; pathExchange settled p c st = some r)))) ∧
    (∃ (l : Fin 16) (b : List Byte) (dt : Nat) (s : State), s.pwr.rst = none ∧ (let settled := prlSync (s.tick dt); lanePrl settled l = true ∧ 2 ≤ laneStage settled l ∧ laneStage settled l ≤ 5 ∧ cellOk (cellBytes b) = true ∧ (let c := cellBytes b; let p := lanePath l; let o := settled.path p; c.getD 0 0 = 2 ∧ laneActive settled l = true ∧ isPath settled p = true ∧ (let good := o.part.any (fun r => decide (be16 c 4 = r.1 ∧ c.getD 6 0 = r.2.1 + 8 * r.2.2)); good = false ∧ o.st ≠ 0)))) ∧
    (∃ (l : Fin 16) (b : List Byte) (dt : Nat) (s : State), s.pwr.rst = none ∧ (let settled := prlSync (s.tick dt); lanePrl settled l = true ∧ 2 ≤ laneStage settled l ∧ laneStage settled l ≤ 5 ∧ cellOk (cellBytes b) = true ∧ (let c := cellBytes b; let p := lanePath l; let o := settled.path p; c.getD 0 0 = 2 ∧ laneActive settled l = true ∧ isPath settled p = true ∧ (let good := o.part.any (fun r => decide (be16 c 4 = r.1 ∧ c.getD 6 0 = r.2.1 + 8 * r.2.2)); good = true ∧ o.st ≠ 0)))) ∧
    (∃ (l : Fin 16) (b : List Byte) (dt : Nat) (s : State), s.pwr.rst = none ∧ (let settled := prlSync (s.tick dt); lanePrl settled l = true ∧ 2 ≤ laneStage settled l ∧ laneStage settled l ≤ 5 ∧ cellOk (cellBytes b) = true ∧ (let c := cellBytes b; let p := lanePath l; let o := settled.path p; c.getD 0 0 = 2 ∧ laneActive settled l = true ∧ isPath settled p = true ∧ (let good := o.part.any (fun r => decide (be16 c 4 = r.1 ∧ c.getD 6 0 = r.2.1 + 8 * r.2.2)); good = true ∧ o.st = 0)))) ∧
    (∃ (l : Fin 16) (b : List Byte) (dt : Nat) (s : State), s.pwr.rst = none ∧ (let settled := prlSync (s.tick dt); lanePrl settled l = true ∧ 2 ≤ laneStage settled l ∧ laneStage settled l ≤ 5 ∧ cellOk (cellBytes b) = true ∧ (let c := cellBytes b; c.getD 0 0 = 3 ∧ laneStage settled l = 2))) ∧
    (∃ (l : Fin 16) (b : List Byte) (dt : Nat) (s : State), s.pwr.rst = none ∧ (let settled := prlSync (s.tick dt); lanePrl settled l = true ∧ 2 ≤ laneStage settled l ∧ laneStage settled l ≤ 5 ∧ cellOk (cellBytes b) = true ∧ (let c := cellBytes b; let p := lanePath l; let o := settled.path p; c.getD 0 0 = 4 ∧ laneStage settled l = 4 ∧ isPath settled p = true ∧ o.part = none ∧ o.exch.any (fun e => e.2 == 0) = false ∧ exchBad settled p c = 0))) ∧
    (∃ (l : Fin 16) (b : List Byte) (dt : Nat) (s : State), s.pwr.rst = none ∧ (let settled := prlSync (s.tick dt); lanePrl settled l = true ∧ 2 ≤ laneStage settled l ∧ laneStage settled l ≤ 5 ∧ cellOk (cellBytes b) = true ∧ (let c := cellBytes b; let p := lanePath l; let o := settled.path p; 8 ≤ c.getD 0 0 ∧ laneActive settled l = true ∧ isPath settled p = true ∧ (let kind := c.getD 0 0 - 8; let r := asmStep (tget none o.asm kind) (be16 c 2) (c.getD 1 0 % 16) (tbit (c.getD 1 0) 4) (sub c 4 56); r.2.2 = none)))) ∧
    (∃ (l : Fin 16) (b : List Byte) (dt : Nat) (s : State), ∃ m, s.pwr.rst = none ∧ (let settled := prlSync (s.tick dt); lanePrl settled l = true ∧ 2 ≤ laneStage settled l ∧ laneStage settled l ≤ 5 ∧ cellOk (cellBytes b) = true ∧ (let c := cellBytes b; let p := lanePath l; let o := settled.path p; 8 ≤ c.getD 0 0 ∧ laneActive settled l = true ∧ isPath settled p = true ∧ (let kind := c.getD 0 0 - 8; let r := asmStep (tget none o.asm kind) (be16 c 2) (c.getD 1 0 % 16) (tbit (c.getD 1 0) 4) (sub c 4 56); r.2.2 = some m)))) ∧
    (∃ (k : Fin 8) (h : Fin 2) (dt n : Nat) (s : State), s.pwr.rst = none ∧ (let settled := prlSync (s.tick dt); (settled.path (2 * k + h)).st ≠ 0 ∧ (settled.path (2 * k + h)).tollAt = some n ∧ n + tollSpan settled ≤ settled.now)) ∧
    (∃ (k : Fin 8) (s : State), s.pwr.rst = none ∧ pairState s k = 2) ∧
    (∃ (kind : Fin 3) (k : Fin 8) (b : List Byte) (s : State), s.pwr.rst = none ∧ 1 ≤ b.length ∧ b.length ≤ 894 ∧ (let o := s.pair k; let q := tget [] o.qs kind.val; q.length < 32)) ∧
    (∃ (kind : Fin 3) (k : Fin 8) (b : List Byte) (s : State), s.pwr.rst = none ∧ 1 ≤ b.length ∧ b.length ≤ 894 ∧ (let o := s.pair k; let q := tget [] o.qs kind.val; 32 ≤ q.length)) ∧
    (∃ s : State, s.pwr.rst = none ∧ unitDown s (taskUnit .election) = false ∧ taskRuns s .election) ∧
    (∃ (dt : Nat) (s : State), ∃ e rest, s.pwr.rst = none ∧ (let ended := s.dom.table.filter (fun e => decide (e.until' ≤ (s.tick dt).now)); s.dom.table = e :: rest ∧ ended = [e] ∧ e.pending ≠ 0)) ∧
    (∃ (dt : Nat) (s : State), ∃ e rest, s.pwr.rst = none ∧ (let ended := s.dom.table.filter (fun e => decide (e.until' ≤ (s.tick dt).now)); s.dom.table = e :: rest ∧ ended = [e] ∧ e.pending = 0)) :=
  ⟨⟨0, 0, pathAt 2 {}, by decide +kernel⟩,
    ⟨0, cellOf 1 0 [], 0, 0, pathAt 5 {}, by decide +kernel⟩,
    ⟨0, cellOf 1 0 [], 1, 0, { pathAt 5 { sent := [(0, 0, false)] } with lan := { lanes := [(0, { rx := [(4096, 0, false), (8192, 1, false)] })] } }, ({ stroke := 0, theta := 133120, t4 := -17039360, raw := 1152921504606580736, span := -17039360 }, -8519680), by decide +kernel⟩,
    ⟨0, cellOf 2 0 [0, 1, 0], 0, pathAt 5 { st := 2 }, by decide +kernel⟩,
    ⟨0, cellOf 2 0 [0, 1, 0], 0, pathAt 5 { st := 2, part := some (1, 0, 0) }, by decide +kernel⟩,
    ⟨0, cellOf 2 0 [0, 1, 0], 0, pathAt 5 { part := some (1, 0, 0) }, by decide +kernel⟩,
    ⟨0, cellOf 3 0 [], 0, pathAt 2 {}, by decide +kernel⟩,
    ⟨0, cellOf 4 0 [1, 1, 0, 1, 0, 0, 0, 1], 0, pathAt 4 {}, by decide +kernel⟩,
    ⟨0, cellOf 10 0 [0, 1, 7], 0, pathAt 5 {}, by decide +kernel⟩,
    ⟨0, cellOf 8 16 [0, 1, 7], 0, pathAt 5 {}, [7], by decide +kernel⟩,
    ⟨0, 0, 0, 0, { pathAt 5 { st := 4, tollAt := some 0 } with now := 2 ^ 40 }, by decide +kernel⟩,
    ⟨7, { prl := { paths := [(14, { st := 3 }), (15, { st := 4 })] } }, by decide +kernel⟩,
    ⟨2, 7, [1], State.reset, by decide +kernel⟩,
    ⟨2, 7, [1], { prl := { pairs := [(7, { qs := [(2, List.replicate 32 { seq := 0, bytes := [1] })] })] } }, by decide +kernel⟩,
    ⟨{ gen := { tasks := [(5, { idle := false })] } }, rfl, rfl, rfl, rfl, nofun⟩,
    ⟨0, { dom := { table := [{ subject := 0, code := 0, until' := 0, pending := 1, wh := 0 }] } }, { subject := 0, code := 0, until' := 0, pending := 1, wh := 0 }, [], by decide +kernel⟩,
    ⟨0, { dom := { table := [{ subject := 0, code := 0, until' := 0, pending := 0, wh := 0 }] } }, { subject := 0, code := 0, until' := 0, pending := 0, wh := 0 }, [], by decide +kernel⟩⟩

theorem test_witness_CorruptCellIsDropped :
    ∃ (l : Fin 16) (b : List Byte) (dt : Nat) (s : State), s.pwr.rst = none ∧ (let settled := prlSync (s.tick dt); lanePrl settled l = true ∧ 2 ≤ laneStage settled l ∧ laneStage settled l ≤ 5 ∧ cellOk (cellBytes b) = false) :=
  ⟨0, [0], 0, pathAt 5 {}, by decide +kernel⟩

theorem test_witness_DatasetsCompareFieldByField :
    (∃ n n' : BitVec 16, n ≠ n') ∧
    (∃ (f : Nat × DomRoute → Nat) (l : List (Nat × DomRoute)) (r x : Nat × DomRoute), leastBy f l = some r ∧ x ∈ l) :=
  ⟨⟨0, 1, by decide +kernel⟩,
    ⟨(·.1), [(3, ⟨[], 0, 0⟩), (2, ⟨[], 0, 0⟩)], (2, ⟨[], 0, 0⟩), (3, ⟨[], 0, 0⟩), by decide +kernel⟩⟩

theorem test_witness_TimeCellCarriesSteps :
    ∃ (l : Fin 16) (dt : Nat) (s : State), s.pwr.rst = none ∧ (let settled := prlSync (s.tick dt); lanePrl settled l = true ∧ laneStage settled l = 5 ∧ isPath settled (lanePath l) = true ∧ settled.gen.edgeNow + 500 ≤ settled.now ∧ (settled.path (lanePath l)).timeAt ≠ some settled.strokes) :=
  ⟨0, 0, { pathAt 5 {} with now := 500, strokes := 1 }, by decide +kernel⟩

theorem test_witness_FaultCommandsComplete :
    (∃ (src : Fin 320) (dt : Nat) (s : State), ∃ sh, s.pwr.rst = none ∧ src.val ≤ 266 ∧ detectorHeld (s.tick dt) src = false ∧ (let u := pmcCount 352 ((s.tick dt).addSat (R.FLT_SRC_RAISE_CNT src) 1); let covers := u.flt.shadows.find? (fun sh => sh.covers.contains src.val && shadowLive u sh); covers = some sh)) ∧
    (∃ (src : Fin 320) (dt : Nat) (s : State), s.pwr.rst = none ∧ src.val ≤ 266 ∧ detectorHeld (s.tick dt) src = false ∧ (let u := pmcCount 352 ((s.tick dt).addSat (R.FLT_SRC_RAISE_CNT src) 1); let covers := u.flt.shadows.find? (fun sh => sh.covers.contains src.val && shadowLive u sh); covers = none ∧ fltKind src = 2 ∧ src.val < 250)) ∧
    (∃ (src : Fin 320) (dt : Nat) (s : State), s.pwr.rst = none ∧ src.val ≤ 266 ∧ detectorHeld (s.tick dt) src = false ∧ (let u := pmcCount 352 ((s.tick dt).addSat (R.FLT_SRC_RAISE_CNT src) 1); let covers := u.flt.shadows.find? (fun sh => sh.covers.contains src.val && shadowLive u sh); covers = none ∧ fltKind src = 2 ∧ 250 ≤ src.val)) ∧
    (∃ (src : Fin 320) (dt : Nat) (s : State), s.pwr.rst = none ∧ src.val ≤ 266 ∧ detectorHeld (s.tick dt) src = false ∧ (let u := pmcCount 352 ((s.tick dt).addSat (R.FLT_SRC_RAISE_CNT src) 1); let covers := u.flt.shadows.find? (fun sh => sh.covers.contains src.val && shadowLive u sh); covers = none ∧ fltKind src ≠ 2)) ∧
    (∃ (u : HwUnit) (dt : Nat) (s : State), s.pwr.rst = none ∧ s.flt.resetting.any (fun r => r.1 == u && decide (r.2 ≤ (s.tick dt).now)) = true ∧ (u = .recorder → s.flag R.REC_STAT_FLUSHING = false) ∧ unitOff s u = false ∧ unitHeld s u = false) ∧
    (∃ (dt : Nat) (q : Nat × Nat) (s : State), s.pwr.rst = none ∧ s.flt.chipReq = some q ∧ (s.flag R.REC_STAT_FLUSHING = false ∨ q.2 ≤ (s.tick dt).now)) ∧
    (∃ (dt n : Nat) (s : State), s.pwr.rst = none ∧ s.flt.errnUntil = some n ∧ n ≤ (s.tick dt).now ∧ errnHeld s = false) ∧
    (∃ (dt n : Nat) (s : State), s.pwr.rst = none ∧ s.flt.errnUntil = some n ∧ n ≤ (s.tick dt).now ∧ errnHeld s = true) :=
  ⟨⟨0, 0, { flt := { shadows := [{ unit := .recorder, covers := [0], until' := none, link := 0 }] } }, { unit := .recorder, covers := [0], until' := none, link := 0 }, by decide +kernel⟩,
    ⟨225, 0, State.reset, by decide +kernel⟩,
    ⟨250, 0, State.reset, by decide +kernel⟩,
    ⟨266, 0, State.reset, by decide +kernel⟩,
    ⟨.lane 15, 0, { flt := { resetting := [(.lane 15, 0)] } }, rfl, by decide +kernel, nofun, by decide +kernel, by decide +kernel⟩,
    ⟨0, (0, 0), { flt := { chipReq := some (0, 0) } }, by decide +kernel⟩,
    ⟨0, 0, { flt := { errnUntil := some 0 } }, by decide +kernel⟩,
    ⟨0, 0, { with' [(R.FLT_SRC_REACT 0, 6), ((R.FLT_LATCH_LATCHED 0).bitAt 0, 1)] with flt := { errnUntil := some 0 } }, by decide +kernel⟩⟩

theorem test_witness_RecorderCommandsComplete :
    (∃ s : State, s.flag R.REC_STAT_FLUSHING = true) ∧
    (∃ s : State, s.pwr.rst = none ∧ s.flag R.REC_STAT_FLUSHING = false) ∧
    (∃ s : State, s.pwr.rst = none ∧ s.flag R.REC_STAT_FLUSHING = true) ∧
    (∃ (j : Iface) (s : State), s.pwr.rst = none ∧ tget 0 s.rcd.rdBusy j.num ≠ 0) ∧
    (∃ (dt : Nat) (s : State), s.pwr.rst = none ∧ (let old := s.get R.REC_STAT_PHASE; let new := recPhase (s.tick dt); old = new)) ∧
    (∃ (dt : Nat) (s : State), s.pwr.rst = none ∧ (let old := s.get R.REC_STAT_PHASE; let new := recPhase (s.tick dt); old ≠ new)) :=
  ⟨⟨with' [(R.REC_STAT_FLUSHING, 1)], by decide +kernel⟩,
    ⟨State.reset, by decide +kernel⟩,
    ⟨with' [(R.REC_STAT_FLUSHING, 1)], by decide +kernel⟩,
    ⟨.inband, { rcd := { rdBusy := [(2, 1)] } }, by decide +kernel⟩,
    ⟨0, with' [(R.REC_STAT_PHASE, 1)], by decide +kernel⟩,
    ⟨0, with' [(R.REC_STAT_PHASE, 0)], by decide +kernel⟩⟩

theorem test_witness_FaultClearWaitsForTheEdge :
    ∃ s : State, s.pwr.rst = none :=
  ⟨State.reset, by decide +kernel⟩

theorem test_witness_EraseFixedLeavesRoll :
    ∃ s : State, s.pwr.rst = none :=
  ⟨State.reset, by decide +kernel⟩

theorem test_witness_InterruptCommandsComplete :
    (∃ (src : Fin 256) (s : State), s.pwr.rst = none ∧ 1 ≤ src.val ∧ src.val ≤ 254 ∧ s.flag (R.IRQ_SRC_EN src) = true ∧ irqPend s src = true) ∧
    (∃ (src : Fin 256) (s : State), s.pwr.rst = none ∧ 1 ≤ src.val ∧ src.val ≤ 254 ∧ s.flag (R.IRQ_SRC_EN src) = true ∧ irqPend s src = false) ∧
    (∃ (m : Master) (t : Fin 6) (s : State), ∃ src, s.pwr.rst = none ∧ m ≠ .recorder ∧ (isHost m = true → t.val < 4) ∧ (s.tgt t).st ≠ .service ∧ irqLowest s t = some src) ∧
    (∃ (m : Master) (t : Fin 6) (s : State), s.pwr.rst = none ∧ m ≠ .recorder ∧ (isHost m = true → t.val < 4) ∧ (s.tgt t).st ≠ .service ∧ (let g := s.tgt t; irqLowest s t = none ∧ g.st = .asserted)) ∧
    (∃ (m : Master) (t : Fin 6) (s : State), s.pwr.rst = none ∧ (m = .recorder ∨ (s.tgt t).st = .service ∨ (isHost m = true ∧ 4 ≤ t.val) ∨ (irqLowest s t = none ∧ (s.tgt t).st ≠ .asserted))) ∧
    (∃ (t : Fin 6) (id : BitVec 8) (s : State), s.pwr.rst = none ∧ (let g := s.tgt t; let u := s.setTgt t { g with st := .idle, active := 0, count := 0 }; g.st = .service ∧ g.active = id.toNat ∧ irqLowest u t = none)) ∧
    (∃ (t : Fin 6) (id : BitVec 8) (s : State), s.pwr.rst = none ∧ (let g := s.tgt t; let u := s.setTgt t { g with st := .idle, active := 0, count := 0 }; g.st = .service ∧ g.active = id.toNat ∧ irqLowest u t ≠ none)) ∧
    (∃ (t : Fin 6) (id : BitVec 8) (s : State), s.pwr.rst = none ∧ (let g := s.tgt t; (g.st ≠ .service ∨ g.active ≠ id.toNat) ∧ id ≠ 0 ∧ id ≠ 255)) ∧
    (∃ (src : Fin 256) (s : State), s.pwr.rst = none ∧ 1 ≤ src.val ∧ src.val ≤ 195) ∧
    (∃ (src : Fin 256) (en : Bool) (dt : Nat) (s : State), s.pwr.rst = none ∧ 1 ≤ src.val ∧ src.val ≤ 215 ∧ (src.val ≤ 195 ∨ 200 ≤ src.val) ∧ (let v := (s.tick dt).putB (R.IRQ_SRC_EN src) en; irqPend v src = false)) ∧
    (∃ (src : Fin 256) (en : Bool) (dt : Nat) (s : State), s.pwr.rst = none ∧ 1 ≤ src.val ∧ src.val ≤ 215 ∧ (src.val ≤ 195 ∨ 200 ≤ src.val) ∧ (let v := (s.tick dt).putB (R.IRQ_SRC_EN src) en; irqPend v src = true ∧ en = true ∧ s.flag (R.IRQ_SRC_EN src) = false)) ∧
    (∃ (src : Fin 256) (en : Bool) (dt : Nat) (s : State), s.pwr.rst = none ∧ 1 ≤ src.val ∧ src.val ≤ 215 ∧ (src.val ≤ 195 ∨ 200 ≤ src.val) ∧ (let v := (s.tick dt).putB (R.IRQ_SRC_EN src) en; irqPend v src = true ∧ (en = false ∨ s.flag (R.IRQ_SRC_EN src) = true))) ∧
    (∃ (t : Fin 6) (dt due : Nat) (s : State), s.pwr.rst = none ∧ (s.tgt t).st = .gather ∧ tgtDue (s.tick dt) t = some due ∧ s.flag (R.IRQ_TGT_CFG_SLEEP t) = false) ∧
    (∃ (t : Fin 6) (dt due : Nat) (s : State), s.pwr.rst = none ∧ (s.tgt t).st = .gather ∧ tgtDue (s.tick dt) t = some due ∧ s.flag (R.IRQ_TGT_CFG_SLEEP t) = true) ∧
    (∃ (src : Fin 256) (dt d : Nat) (s : State), s.pwr.rst = none ∧ (let t := s.get (R.IRQ_SRC_TARGET src); tget none s.irq.heldFrom src.val = some d ∧ s.flag (R.IRQ_TGT_CFG_SLEEP t) = true ∧ s.flag (R.IRQ_SRC_FB_EN src) = true ∧ irqDeliv s t src = true ∧ d + s.get (R.IRQ_TGT_SLEEP_LAT_SLEEP_LAT t) * 250 ≤ (s.tick dt).now ∧ s.flag (R.IRQ_TGT_CFG_SLEEP (s.get (R.IRQ_SRC_FB src))) = false)) :=
  ⟨⟨33, with' [(R.IRQ_SRC_EN 33, 1), ((R.IRQ_PEND_PEND 1).bitAt 1, 1)], by decide +kernel⟩,
    ⟨254, with' [(R.IRQ_SRC_EN 254, 1)], by decide +kernel⟩,
    ⟨.spi, 3, with' [(R.IRQ_SRC_EN 33, 1), ((R.IRQ_PEND_PEND 1).bitAt 1, 1), (R.IRQ_SRC_TARGET 33, 3)], 33, by decide +kernel⟩,
    ⟨.solverA, 5, { irq := { tgts := [(5, { st := .asserted })] } }, by decide +kernel⟩,
    ⟨.recorder, 0, State.reset, by decide +kernel⟩,
    ⟨5, 9, { irq := { tgts := [(5, { st := .service, active := 9 })] } }, by decide +kernel⟩,
    ⟨3, 9, { with' [(R.IRQ_SRC_EN 33, 1), ((R.IRQ_PEND_PEND 1).bitAt 1, 1), (R.IRQ_SRC_TARGET 33, 3)] with irq := { tgts := [(3, { st := .service, active := 9 })] } }, by decide +kernel⟩,
    ⟨5, 254, State.reset, by decide +kernel⟩,
    ⟨195, State.reset, by decide +kernel⟩,
    ⟨215, true, 0, State.reset, by decide +kernel⟩,
    ⟨33, true, 0, with' [((R.IRQ_PEND_PEND 1).bitAt 1, 1)], by decide +kernel⟩,
    ⟨33, false, 0, with' [((R.IRQ_PEND_PEND 1).bitAt 1, 1)], by decide +kernel⟩,
    ⟨5, 0, 0, { with' [(R.IRQ_TGT_CFG_COAL_TIME 5, 0)] with irq := { tgts := [(5, { st := .gather })] } }, by decide +kernel⟩,
    ⟨5, 0, 0, { with' [(R.IRQ_TGT_CFG_COAL_TIME 5, 0), (R.IRQ_TGT_CFG_SLEEP 5, 1)] with irq := { tgts := [(5, { st := .gather })] } }, by decide +kernel⟩,
    ⟨33, 0, 0, { with' [(R.IRQ_SRC_EN 33, 1), ((R.IRQ_PEND_PEND 1).bitAt 1, 1), (R.IRQ_SRC_TARGET 33, 3), (R.IRQ_TGT_CFG_SLEEP 3, 1), (R.IRQ_SRC_FB_EN 33, 1), (R.IRQ_SRC_FB 33, 2), (R.IRQ_TGT_SLEEP_LAT_SLEEP_LAT 3, 0)] with irq := { heldFrom := [(33, some 0)] } }, by decide +kernel⟩⟩

theorem test_witness_ClaimTakesTheLowestSource :
    ∃ (m : Master) (t : Fin 6) (src : Fin 256) (s : State), s.pwr.rst = none ∧ m ≠ .recorder ∧ (isHost m = true → t.val < 4) ∧ (s.tgt t).st ≠ .service ∧ 1 ≤ src.val ∧ src.val ≤ 255 ∧ irqDeliv s t src = true ∧ (∀ k, 1 ≤ k → k < src.val → irqDeliv s t k = false) :=
  ⟨.spi, 3, 1, with' [(R.IRQ_SRC_EN 1, 1), ((R.IRQ_PEND_PEND 0).bitAt 1, 1), (R.IRQ_SRC_TARGET 1, 3)], rfl, nofun, by decide +kernel, by decide +kernel, by decide +kernel, by decide +kernel, by decide +kernel, fun k h1 h2 => absurd h2 (by omega)⟩

theorem test_witness_SnapshotCopiesEveryCounter :
    ∃ s : State, s.pwr.rst = none :=
  ⟨State.reset, by decide +kernel⟩

theorem test_witness_PowerCommandsComplete :
    (∃ (d : Fin 12) (s : State), s.pwr.rst = none ∧ tget 0 s.pwr.changing d.val = 1) ∧
    (∃ (d : Fin 12) (dt : Nat) (s : State), s.pwr.rst = none ∧ 2 ≤ tget 0 s.pwr.changing d.val ∧ domQuiet (s.tick dt) d = true) ∧
    (∃ s : State, s.pwr.rtcRun = false) ∧
    (∃ s : State, s.pwr.rst = none ∧ s.flag R.ETM_CTL_RTC_SYNC_EN = false) ∧
    (∃ s : State, s.pwr.rst = none ∧ s.flag R.PWR_RTC_STAT_RTC_VALID = true) ∧
    (∃ s : State, s.flag R.PWR_STAT_PFAIL = true) ∧
    (∃ (dt n : Nat) (s : State), s.pwr.rearm = some n ∧ s.flag R.PWR_STAT_PFAIL = true ∧ n + s.get R.PWR_PFAIL_CFG_REARM * msCounts ≤ (s.tick dt).up) ∧
    (∃ s : State, s.flag R.PWR_STAT_BACKUP = false ∧ s.pwr.rst = none) ∧
    (∃ s : State, s.flag R.PWR_STAT_BACKUP = false ∧ s.pwr.rst ≠ none) ∧
    (∃ s : State, s.flag R.PWR_STAT_BACKUP = true ∧ s.flag R.PWR_SPLL_STAT_LOCK = true) ∧
    (∃ s : State, s.flag R.PWR_STAT_BACKUP = true ∧ s.flag R.PWR_SPLL_STAT_LOCK = false) ∧
    (∃ s : State, s.pwr.rst = none ∧ s.now = s.gen.edgeNow ∧ spllReady s = true) ∧
    (∃ s : State, s.pwr.rst = none ∧ s.flag R.PWR_STAT_BACKUP = true) ∧
    (∃ s : State, s.pwr.vddioH = true) :=
  ⟨⟨11, { pwr := { changing := [(11, 1)] } }, by decide +kernel⟩,
    ⟨11, 0, { pwr := { changing := [(11, 2)] } }, by decide +kernel⟩,
    ⟨State.reset, by decide +kernel⟩,
    ⟨with' [(R.ETM_CTL_RTC_SYNC_EN, 0)], by decide +kernel⟩,
    ⟨with' [(R.PWR_RTC_STAT_RTC_VALID, 1)], by decide +kernel⟩,
    ⟨with' [(R.PWR_STAT_PFAIL, 1)], by decide +kernel⟩,
    ⟨0, 0, { with' [(R.PWR_STAT_PFAIL, 1)] with up := 2 ^ 50, pwr := { rearm := some 0 } }, by decide +kernel⟩,
    ⟨State.reset, by decide +kernel⟩,
    ⟨{ pwr := { rst := some { kind := .por } } }, by decide +kernel⟩,
    ⟨with' [(R.PWR_STAT_BACKUP, 1), (R.PWR_SPLL_STAT_LOCK, 1)], by decide +kernel⟩,
    ⟨with' [(R.PWR_STAT_BACKUP, 1), (R.PWR_SPLL_STAT_LOCK, 0)], by decide +kernel⟩,
    ⟨with' [(R.PWR_STAT_BACKUP, 1), (R.PWR_SPLL_STAT_SPLL_STABLE, 0), (R.PWR_SPLL_CFG_AUTO_RET, 1)], by decide +kernel⟩,
    ⟨with' [(R.PWR_STAT_BACKUP, 1)], by decide +kernel⟩,
    ⟨State.reset, by decide +kernel⟩⟩

theorem test_witness_ResetCommandsComplete :
    (∃ s : State, s.pwr.rst ≠ none) ∧
    (∃ (t : Nat) (r : RstSt) (s : State), s.pwr.rst = some r ∧ r.kind ≠ .por ∧ (r.kind = .fault ∨ s.flag R.REC_STAT_FLUSHING = false ∨ 12 * msCounts ≤ t)) ∧
    (∃ (t n : Nat) (locked : Bool) (r : RstSt) (s : State), s.pwr.rst = some r ∧ r.kind = .por ∧ r.rails = some n ∧ msCounts ≤ t ∧ (locked = true ∨ 21 * msCounts ≤ t)) ∧
    (∃ (target : BitVec 3) (confirm : BitVec 8) (s : State), s.pwr.rst = none ∧ lcResult s target.toNat confirm.toNat = 0) ∧
    (∃ (tgt : Nat) (s : State), s.pwr.lcReq = some tgt ∧ lcReady s = true) :=
  ⟨⟨{ pwr := { rst := some { kind := .por } } }, by decide +kernel⟩,
    ⟨0, { kind := .fault }, { pwr := { rst := some { kind := .fault } } }, by decide +kernel⟩,
    ⟨msCounts, 0, true, { kind := .por, rails := some 0 }, { pwr := { rst := some { kind := .por, rails := some 0 } } }, by decide +kernel⟩,
    ⟨2, 0xC5, with' [(R.GEN_LC_STATE, 1)], by decide +kernel⟩,
    ⟨2, { pwr := { lcReq := some 2 } }, by decide +kernel⟩⟩

theorem test_witness_ResetGatesTheBlock :
    ∃ s : State, s.pwr.rst ≠ none :=
  ⟨{ pwr := { rst := some { kind := .por } } }, by decide +kernel⟩

theorem test_witness_LifeCycleRequestIsJudged :
    ∃ s : State, s.pwr.rst = none :=
  ⟨State.reset, by decide +kernel⟩

theorem test_witness_FiveTmsEdgesResetTheTap :
    ∃ s : State, s.jtag.tap < 16 :=
  ⟨State.reset, by decide +kernel⟩

theorem test_witness_StartUpCommandsComplete :
    (∃ s : State, s.pwr.rst = none ∧ s.get R.CFG_STAT_STATE = 0) ∧
    (∃ (img : List Byte) (slot : Nat) (r : List Nat) (s : State), s.pwr.rst = none ∧ s.get R.CFG_STAT_STATE = 1 ∧ s.cfg.cands = slot :: r ∧ (let b := img.map (·.toNat); imgReason s b = 0)) ∧
    (∃ (img : List Byte) (slot : Nat) (r : List Nat) (s : State), s.pwr.rst = none ∧ s.get R.CFG_STAT_STATE = 1 ∧ s.cfg.cands = slot :: r ∧ (let b := img.map (·.toNat); imgReason s b ≠ 0)) ∧
    (∃ s : State, s.pwr.rst = none ∧ s.get R.CFG_STAT_STATE = 2 ∧ s.cfg.waitTo ≠ 0 ∧ s.cfg.waitTo ≤ s.strokes) ∧
    (∃ s : State, s.pwr.rst = none ∧ s.get R.CFG_STAT_STATE = 2 ∧ s.cfg.waitTo = 0 ∧ s.cfg.recs = []) ∧
    (∃ s : State, s.pwr.rst = none ∧ s.get R.CFG_STAT_STATE = 3 ∧ s.cfg.runDue = false ∧ s.gen.waiting = []) ∧
    (∃ s : State, s.pwr.rst = none ∧ s.flag R.CFG_STAT_LOCKED = false) ∧
    (∃ s : State, s.pwr.rst = none ∧ (let h := s.get R.CFG_NVM_CFG_LEARN_HRS * 3600 * 8000; let n := s.strokes - 1; h ≠ 0 ∧ s.cfg.learnAt + h ≤ n ∧ s.cfg.fullDue = false)) ∧
    (∃ s : State, s.pwr.rst = none ∧ (let h := s.get R.CFG_NVM_CFG_LEARN_HRS * 3600 * 8000; let n := s.strokes - 1; (h = 0 ∨ n < s.cfg.learnAt + h) ∧ s.cfg.fullDue = true ∧ s.flag R.CFG_NVM_CFG_ON_FULL = true)) ∧
    (∃ s : State, s.pwr.rst = none ∧ (let h := s.get R.CFG_NVM_CFG_LEARN_HRS * 3600 * 8000; let n := s.strokes - 1; h ≠ 0 ∧ s.cfg.learnAt + h ≤ n ∧ s.cfg.fullDue = true ∧ s.flag R.CFG_NVM_CFG_ON_FULL = true)) ∧
    (∃ s : State, s.pwr.rst = none ∧ s.get R.CFG_NVM_STAT_NVM_STATE = 0 ∧ s.get R.CFG_NVM_STAT_PEND ≠ 0 ∧ cfgRuns s = true) ∧
    (∃ s : State, s.pwr.rst = none ∧ s.get R.CFG_NVM_STAT_NVM_STATE = 1 ∧ s.cfg.capDue = false) ∧
    (∃ s : State, s.pwr.rst = none ∧ s.get R.CFG_NVM_STAT_NVM_STATE = 2) ∧
    (∃ (c : NvmCopy) (s : State), s.pwr.rst = none ∧ s.get R.CFG_NVM_STAT_NVM_STATE = 3 ∧ s.cfg.cap = some c) ∧
    (∃ (yielded dt : Nat) (s : State), s.pwr.rst = none ∧ (s.get R.CFG_NVM_STAT_NVM_STATE = 1 ∨ s.get R.CFG_NVM_STAT_NVM_STATE = 2) ∧ s.cfg.timer + yielded + s.get R.CFG_NVM_CFG_NVM_TMO * msCounts ≤ (s.tick dt).up) ∧
    (∃ s : State, s.pwr.rst = none ∧ s.cfg.ovl.length < 8000) ∧
    (∃ (k : Fin 4) (s : State), s.pwr.rst = none ∧ (let u := s.put R.CFG_IK_CMD_IDX k; (u.get R.GEN_LC_STATE = 1 ∨ u.get R.GEN_LC_STATE = 2) ∧ tbit (u.get R.CFG_IK_STAT_ENROLLED) k = false)) ∧
    (∃ (k : Fin 4) (s : State), s.pwr.rst = none ∧ (let u := s.put R.CFG_IK_CMD_IDX k; u.get R.GEN_LC_STATE ≠ 4 ∧ tbit (u.get R.CFG_IK_STAT_ENROLLED) k = true)) ∧
    (∃ (v : BitVec 32) (s : State), s.pwr.rst = none ∧ s.get R.CFG_MIN_SEQ_MIN_SEQ < v.toNat) :=
  ⟨⟨with' [(R.CFG_STAT_STATE, 0)], by decide +kernel⟩,
    ⟨image, 0, [], { with' [(R.CFG_STAT_STATE, 1), (R.GEN_LC_STATE, 1)] with cfg := { cands := [0] } }, by decide +kernel⟩,
    ⟨[], 1, [], { with' [(R.CFG_STAT_STATE, 1)] with cfg := { cands := [1] } }, by decide +kernel⟩,
    ⟨{ with' [(R.CFG_STAT_STATE, 2)] with strokes := 1, cfg := { waitTo := 1 } }, by decide +kernel⟩,
    ⟨with' [(R.CFG_STAT_STATE, 2)], by decide +kernel⟩,
    ⟨with' [(R.CFG_STAT_STATE, 3)], by decide +kernel⟩,
    ⟨State.reset, by decide +kernel⟩,
    ⟨{ with' [(R.CFG_NVM_CFG_LEARN_HRS, 1)] with strokes := 28800001 }, by decide +kernel⟩,
    ⟨{ with' [(R.CFG_NVM_CFG_LEARN_HRS, 1), (R.CFG_NVM_CFG_ON_FULL, 1)] with cfg := { fullDue := true } }, by decide +kernel⟩,
    ⟨{ with' [(R.CFG_NVM_CFG_LEARN_HRS, 1), (R.CFG_NVM_CFG_ON_FULL, 1)] with strokes := 28800001, cfg := { fullDue := true } }, by decide +kernel⟩,
    ⟨with' [(R.CFG_STAT_STATE, 4), (R.CFG_NVM_STAT_PEND, 1)], by decide +kernel⟩,
    ⟨with' [(R.CFG_NVM_STAT_NVM_STATE, 1)], by decide +kernel⟩,
    ⟨with' [(R.CFG_NVM_STAT_NVM_STATE, 2)], by decide +kernel⟩,
    ⟨{ seq := 0 }, { with' [(R.CFG_NVM_STAT_NVM_STATE, 3)] with cfg := { cap := some { seq := 0 } } }, by decide +kernel⟩,
    ⟨0, 0, { with' [(R.CFG_NVM_STAT_NVM_STATE, 1)] with up := 2 ^ 50 }, by decide +kernel⟩,
    ⟨State.reset, by decide +kernel⟩,
    ⟨3, with' [(R.GEN_LC_STATE, 2)], by decide +kernel⟩,
    ⟨3, with' [(R.GEN_LC_STATE, 3), (R.CFG_IK_STAT_ENROLLED, 8)], by decide +kernel⟩,
    ⟨1, State.reset, by decide +kernel⟩⟩

theorem test_witness_HostCommandsComplete :
    (∃ (a : BitVec 24) (s : State), s.pwr.rst = none ∧ a.toNat % 4 = 0) ∧
    (∃ (dev : BitVec 7) (s : State), s.pwr.rst = none ∧ dev.toNat ≠ i2cAddr s) ∧
    (∃ (op : Byte) (s : State), s.pwr.rst = none ∧ op.toNat ≠ 0x02 ∧ op.toNat ≠ 0x0B ∧ op.toNat ≠ 0x32 ∧ op.toNat ≠ 0x6B ∧ op.toNat ≠ 0x05) ∧
    (∃ (j : Iface) (dt : Nat) (s : State), s.pwr.rst = none ∧ (let u := hstTouch j (custSettle (s.tick dt)); newServed u j = true)) ∧
    (∃ (j : Iface) (dt : Nat) (s : State), s.pwr.rst = none ∧ (let u := hstTouch j (custSettle (s.tick dt)); tget [] u.hst.chal j.num ≠ [] ∧ keyGate u 2 3 1 ≠ 1 ∧ (let resp := (List.range 8).flatMap (fun w => leBytes 4 (u.get ((R.HST_RESP_W0_RESP.word w).ifc j))); hmacOf (u.slot 2).key (custMsg u j 0) = resp))) ∧
    (∃ (j : Iface) (dt : Nat) (s : State), s.pwr.rst = none ∧ (let u := hstTouch j (custSettle (s.tick dt)); tget [] u.hst.chal j.num ≠ [] ∧ keyGate u 2 3 1 ≠ 1 ∧ (let resp := (List.range 8).flatMap (fun w => leBytes 4 (u.get ((R.HST_RESP_W0_RESP.word w).ifc j))); hmacOf (u.slot 2).key (custMsg u j 0) ≠ resp))) ∧
    (∃ (j : Iface) (dt : Nat) (s : State), s.pwr.rst = none ∧ (let u := hstTouch j (custSettle (s.tick dt)); ks2Usable u = false ∧ (u.get R.GEN_LC_STATE = 1 ∨ u.get R.GEN_LC_STATE = 2) ∧ j ≠ .inband)) ∧
    (∃ (j : Iface) (dt : Nat) (s : State), s.pwr.rst = none ∧ s.get R.HST_MGMT_CFG_CUST_TMO ≠ 0 ∧ tget 0 s.hst.last j.num + s.get R.HST_MGMT_CFG_CUST_TMO * 600 * secCounts ≤ (s.tick dt).now) ∧
    (∃ (j : Iface) (dt : Nat) (s : State), s.pwr.rst = none ∧ newServed (s.tick dt) j = true) ∧
    (∃ (dt slot : Nat) (r : MgmtReq) (l : List MgmtReq) (s : State), s.pwr.rst = none ∧ s.hst.reqs = r :: l ∧ (let u := (s.tick dt).setHst { s.hst with reqs := l }; let b := r.msg; let n := ofBe ((b.drop 2).take 2); b.getD 0 0 = 1 ∧ b.getD 1 0 = 1 ∧ 32 + n ≤ b.length ∧ mgmtKey u (ofBe ((b.drop 4).take 4)) = some slot ∧ keyGate u slot 3 1 ≠ 1 ∧ (hmacOf (u.slot slot).key (b.take (16 + n))).take 16 = (b.drop (16 + n)).take 16)) :=
  ⟨⟨0xFFFFFC, State.reset, by decide +kernel⟩,
    ⟨0, State.reset, by decide +kernel⟩,
    ⟨0, State.reset, by decide +kernel⟩,
    ⟨.inband, 0, State.reset, by decide +kernel⟩,
    right_response,
    wrong_response,
    ⟨.i2c, 0, with' [(R.GEN_LC_STATE, 1)], by decide +kernel⟩,
    ⟨.inband, 0, { with' [(R.HST_MGMT_CFG_CUST_TMO, 1)] with now := 2 ^ 40 }, by decide +kernel⟩,
    ⟨.inband, 0, State.reset, by decide +kernel⟩,
    sealed_request⟩

theorem test_witness_UnalignedTransactionIsRefused :
    ∃ (a : BitVec 24) (s : State), s.pwr.rst = none ∧ a.toNat % 4 ≠ 0 :=
  ⟨1, State.reset, by decide +kernel⟩

theorem test_witness_UnmappedWriteIsRefused :
    ∃ (a : BitVec 24) (s : State), s.pwr.rst = none ∧ a.toNat % 4 = 0 ∧ mapped a.toNat = false ∧ ks2Usable s = true :=
  ⟨0xFFFFFC, running [], by decide +kernel⟩

theorem test_witness_MinSeqOnlyRises :
    ∃ s : State, s.pwr.rst = none :=
  ⟨State.reset, by decide +kernel⟩

theorem test_witness_StepRunsTheFrontCommand :
    (∃ s : State, ∃ c rest, s.pending = c :: rest) ∧
    (∃ s : State, s.pending = []) :=
  ⟨⟨{ pending := [.pinReset 0] }, .pinReset 0, [], by decide +kernel⟩,
    ⟨State.reset, by decide +kernel⟩⟩

theorem test_witness_StepKeepsTheQueueWellFormed :
    ∃ s t : State, ∃ c ∈ t.pending, (∀ c ∈ s.pending, c.wf = true) ∧ step s = .next t :=
  ⟨{ pending := [.i2cRead 0 0 1 false 0, .pinReset 0] }, { pending := [.pinReset 0] }, .pinReset 0, List.mem_singleton.mpr rfl, by decide +kernel, rfl⟩

theorem test_witness_FieldsReadBackWhatIsWritten :
    (∃ f g : Fld, f.lo ≤ f.hi ∧ f.hi < 32 ∧ g.lo ≤ g.hi ∧ g.hi < 32) ∧
    (∃ f g : Fld, f.lo ≤ f.hi ∧ f.hi < 32 ∧ g.lo ≤ g.hi ∧ g.hi < 32 ∧ (f.addr ≠ g.addr ∨ f.hi < g.lo ∨ g.hi < f.lo)) ∧
    (∃ (f g : Fld) (s : State), f.lo ≤ f.hi ∧ f.hi < 32 ∧ g.lo ≤ g.hi ∧ g.hi < 32 ∧ twf resetWord s.regs = true) :=
  ⟨⟨⟨0x10, 3, 0⟩, ⟨0x10, 31, 4⟩, by decide +kernel⟩,
    ⟨⟨0x10, 3, 0⟩, ⟨0x10, 31, 4⟩, by decide +kernel⟩,
    ⟨⟨0x10, 3, 0⟩, ⟨0x10, 31, 4⟩, State.reset, by decide +kernel⟩⟩

end Sys2Proof.Tests
end

section
/-! Datasets (16 R412): the order of their keys is the lexicographic order of the fields, and the best of a list of routes is a least one of it. -/

namespace Sys2Proof.Machine

/-! ## The key of a dataset -/

/-- A number cut at a base m compares by its upper part first, then by what lies below m. -/
theorem mul_add_lt_mul_add_iff {m lo lo' : Nat} (hi hi' : Nat) (h : lo < m) (h' : lo' < m) :
    hi * m + lo < hi' * m + lo' ↔ hi < hi' ∨ (hi = hi' ∧ lo < lo') := by
  rcases lt_trichotomy hi hi' with hlt | rfl | hgt
  · have := Nat.mul_le_mul_right m (Nat.succ_le_of_lt hlt)
    rw [Nat.succ_mul] at this
    omega
  · omega
  · have := Nat.mul_le_mul_right m (Nat.succ_le_of_lt hgt)
    rw [Nat.succ_mul] at this
    omega

theorem mul_add_eq_mul_add_iff {m lo lo' : Nat} (hi hi' : Nat) (h : lo < m) (h' : lo' < m) :
    hi * m + lo = hi' * m + lo' ↔ hi = hi' ∧ lo = lo' := by
  have hlt := mul_add_lt_mul_add_iff hi hi' h h'
  have hgt := mul_add_lt_mul_add_iff hi' hi h' h
  omega

section
variable (p p' c c' a a' q q' : BitVec 8) (v v' n n' : BitVec 16)

theorem dataKey_lt_iff :
    dataKey p.toNat c.toNat a.toNat v.toNat q.toNat n.toNat < dataKey p'.toNat c'.toNat a'.toNat v'.toNat q'.toNat n'.toNat ↔
      p < p' ∨ (p = p' ∧ (c < c' ∨ (c = c' ∧ (a < a' ∨ (a = a' ∧ (v < v' ∨ (v = v' ∧ (q < q' ∨ (q = q' ∧ n < n'))))))))) := by
  simp only [dataKey, mul_add_lt_mul_add_iff _ _ n.isLt n'.isLt, mul_add_lt_mul_add_iff _ _ q.isLt q'.isLt,
    mul_add_lt_mul_add_iff _ _ v.isLt v'.isLt, mul_add_lt_mul_add_iff _ _ a.isLt a'.isLt, mul_add_lt_mul_add_iff _ _ c.isLt c'.isLt,
    mul_add_eq_mul_add_iff _ _ q.isLt q'.isLt, mul_add_eq_mul_add_iff _ _ v.isLt v'.isLt,
    mul_add_eq_mul_add_iff _ _ a.isLt a'.isLt, mul_add_eq_mul_add_iff _ _ c.isLt c'.isLt, BitVec.lt_def, BitVec.toNat_inj,
    and_or_left, or_assoc, and_assoc]

/-- The node ID is the key's last field, so that two nodes' datasets differ (16 R412). -/
theorem dataKey_ne_of_node_ne (h : n ≠ n') :
    dataKey p.toNat c.toNat a.toNat v.toNat q.toNat n.toNat ≠ dataKey p'.toNat c'.toNat a'.toNat v'.toNat q'.toNat n'.toNat :=
  fun he => h (BitVec.eq_of_toNat_eq ((mul_add_eq_mul_add_iff _ _ n.isLt n'.isLt).mp he).2)

end

/-! ## The best of a list of routes -/

section
variable {f : Nat × DomRoute → Nat} {e r : Nat × DomRoute} {l : List (Nat × DomRoute)}

/-- The best of a list is its head, where the rest is empty or its best is no better, else the best of the rest. -/
theorem leastBy_cons_cases (h : leastBy f (e :: l) = some r) :
    (leastBy f l = none ∧ r = e) ∨ (∃ b, leastBy f l = some b ∧ f e ≤ f b ∧ r = e) ∨ (leastBy f l = some r ∧ f r < f e) := by
  simp only [leastBy] at h
  cases hl : leastBy f l with
  | none => exact .inl ⟨rfl, by simpa [hl] using h.symm⟩
  | some b =>
    by_cases hle : f e ≤ f b
    · exact .inr (.inl ⟨b, rfl, hle, by simpa [hl, hle] using h.symm⟩)
    · have hr : b = r := by simpa [hl, hle] using h
      exact .inr (.inr ⟨congrArg some hr, hr ▸ not_le.mp hle⟩)

theorem leastBy_eq_none_iff : leastBy f l = none ↔ l = [] := by
  cases l with
  | nil => simp [leastBy]
  | cons e l =>
    simp only [leastBy, reduceCtorEq, iff_false]
    cases leastBy f l with
    | none => simp
    | some b => by_cases hle : f e ≤ f b <;> simp [hle]

theorem leastBy_mem_and_le (h : leastBy f l = some r) : r ∈ l ∧ ∀ x ∈ l, f r ≤ f x := by
  induction l generalizing r with
  | nil => simp [leastBy] at h
  | cons e l ih =>
    rcases leastBy_cons_cases h with ⟨hl, rfl⟩ | ⟨b, hl, hle, rfl⟩ | ⟨hl, hlt⟩
    · simp [leastBy_eq_none_iff.mp hl]
    · refine ⟨List.mem_cons_self, fun x hx => ?_⟩
      rcases List.mem_cons.mp hx with rfl | hx
      · exact le_rfl
      · exact hle.trans ((ih hl).2 x hx)
    · refine ⟨List.mem_cons_of_mem _ (ih hl).1, fun x hx => ?_⟩
      rcases List.mem_cons.mp hx with rfl | hx
      · exact hlt.le
      · exact (ih hl).2 x hx

end

/-- Settles O35: each field lies below its base in the key, so the key's order is the fields'; the best of a list, by induction on it. -/
theorem datasetsCompareFieldByField : Obligations.DatasetsCompareFieldByField :=
  ⟨fun p p' c c' a a' q q' v v' n n' =>
      ⟨dataKey_lt_iff p p' c c' a a' q q' v v' n n', dataKey_ne_of_node_ne p p' c c' a a' q q' v v' n n'⟩,
    fun _ _ => ⟨leastBy_eq_none_iff, fun _ => leastBy_mem_and_le⟩⟩

end Sys2Proof.Machine
end

section
/-! The TIME cell that leaves at a cell boundary (15 R389, R393; 16 R415). -/

namespace Sys2Proof.Machine

/-! ## A cell's bytes (15 R388) -/

theorem beBytes_two (v : Nat) : beBytes 2 v = [v / 256 % 256, v % 256] := rfl

@[simp] theorem mkCell_kind (kind flags seq : Nat) (body : List Nat) : (mkCell kind flags seq body).getD 0 0 = kind := rfl

/-- A cell's body begins at byte 4: byte 7 is the body's fourth. -/
@[simp] theorem mkCell_seven (kind flags seq a b c d : Nat) (body : List Nat) :
    (mkCell kind flags seq (a :: b :: c :: d :: body)).getD 7 0 = d := rfl

theorem timeCell_kind (p wf : Nat) (s : State) : (timeCell p wf s).1.getD 0 0 = 1 := mkCell_kind _ _ _ _

theorem timeCell_hops (p wf : Nat) (s : State) : (timeCell p wf s).1.getD 7 0 = s.dom.steps := by
  simp only [timeCell, beBytes_two, List.cons_append, List.nil_append, mkCell_seven]

/-! ## The cell boundary -/

/-- A command that acts outside a reset completes with its effect. -/
theorem live_of_no_reset {s : State} (h : s.pwr.rst = none) (t : State) : live s t = .next { t with pending := s.pending } := by
  simp [live, done, h]

/-- The first duty of an ACTIVE lane in a Stroke is its TIME cell (15 R389). -/
theorem nextCell_time {l wf req : Nat} {ready : Bool} {s : State} (hs : laneStage s l = 5) (hp : isPath s (lanePath l) = true)
    (hn : s.gen.edgeNow + 500 ≤ s.now) (ht : (s.path (lanePath l)).timeAt ≠ some s.strokes) :
    nextCell l wf req ready s = timeCell (lanePath l) wf s := by
  simp [nextCell, hs, hp, hn, ht]

/-- A lane of mode PORARIR in the stages 2 TRAIN to 5 ACTIVE holds the cell that it sends. -/
theorem cellBoundary_cell {l wf req : Nat} {ready : Bool} {s : State} (hm : lanePrl (prlSync s) l = true)
    (h2 : 2 ≤ laneStage (prlSync s) l) (h5 : laneStage (prlSync s) l ≤ 5) :
    tget [] (cellBoundary l wf req ready s).prl.cells l = (nextCell l wf req ready (prlSync s)).1 := by
  simp [cellBoundary, hm, Nat.not_lt.mpr h2, Nat.not_lt.mpr h5]

/-- Settles O36: the cell that leaves is the TIME cell, whose body's fourth byte is STEPS. -/
theorem timeCellCarriesSteps : Obligations.TimeCellCarriesSteps := by
  intro l wf req ready dt s hr settled hm hs hp hn ht
  have hcell : tget [] (cellBoundary l wf.toNat req.toNat ready (s.tick dt)).prl.cells l = (timeCell (lanePath l) wf.toNat settled).1 := by
    rw [cellBoundary_cell hm (hs.ge.trans' (by decide)) hs.le, nextCell_time hs hp hn ht]
  refine ⟨_, live_of_no_reset hr _, ?_, ?_⟩
  · rw [hcell, timeCell_kind]
  · rw [hcell, timeCell_hops]

end Sys2Proof.Machine
end

section
/-! The counters' snapshot (18 R463): the copy of every counter into its SNAP word. -/

namespace Sys2Proof.Machine

/-! ## What stays when registers of one window are written -/

/-- t is s but for register words of window w. -/
def WindowOnly (w : Nat) (s t : State) : Prop :=
  t = { s with regs := t.regs } ∧ ∀ a, winOf a ≠ w → rdWord t a = rdWord s a

theorem WindowOnly.refl (w : Nat) (s : State) : WindowOnly w s s := ⟨rfl, fun _ _ => rfl⟩

theorem WindowOnly.trans {w : Nat} {s t u : State} (a : WindowOnly w s t) (b : WindowOnly w t u) : WindowOnly w s u := by
  refine ⟨?_, fun k h => (b.2 k h).trans (a.2 k h)⟩
  rw [b.1, a.1]

section
variable {w : Nat} {s t : State}

theorem WindowOnly.irq (h : WindowOnly w s t) : t.irq = s.irq := by rw [h.1]

theorem WindowOnly.pmc (h : WindowOnly w s t) : t.pmc = s.pmc := by rw [h.1]

theorem WindowOnly.edge (h : WindowOnly w s t) : t.edge = s.edge := by rw [h.1]

end

theorem windowOnly_put (s : State) (f : Fld) (v : Nat) : WindowOnly (winOf f.addr) s (s.put f v) :=
  ⟨rfl, fun _ h => rdWord_wrWord_other s _ fun e => h (congrArg winOf e)⟩

/-! ## The fields of the counters and of their snapshot -/

theorem fits_cnt (n : Nat) : Fits (R.PMC_CNT_CNT n) := ⟨Nat.zero_le 31, Nat.lt_succ_self 31⟩

theorem fits_snap (n : Nat) : Fits (R.PMC_SNAP_SNAP n) := ⟨Nat.zero_le 31, Nat.lt_succ_self 31⟩

theorem fits_snapDone : Fits R.PMC_STAT_SNAP_DONE := ⟨le_rfl, Nat.zero_lt_succ 31⟩

theorem apart_snap_cnt (m : Nat) {n : Nat} (h : n < 512) : Apart (R.PMC_SNAP_SNAP m) (R.PMC_CNT_CNT n) :=
  .inl (by simp only [R.PMC_SNAP_SNAP, R.PMC_CNT_CNT]; omega)

theorem apart_snap_snap {m n : Nat} (h : m ≠ n) : Apart (R.PMC_SNAP_SNAP m) (R.PMC_SNAP_SNAP n) :=
  .inl (by simp only [R.PMC_SNAP_SNAP]; omega)

theorem apart_snapDone_cnt (n : Nat) : Apart R.PMC_STAT_SNAP_DONE (R.PMC_CNT_CNT n) :=
  .inl (by simp only [R.PMC_STAT_SNAP_DONE, R.PMC_CNT_CNT]; omega)

theorem apart_snapDone_snap (n : Nat) : Apart R.PMC_STAT_SNAP_DONE (R.PMC_SNAP_SNAP n) :=
  .inl (by simp only [R.PMC_STAT_SNAP_DONE, R.PMC_SNAP_SNAP]; omega)

theorem winOf_snap {n : Nat} (h : n < 512) : winOf (R.PMC_SNAP_SNAP n).addr = 0x15 :=
  winOf_eq (by simp only [R.PMC_SNAP_SNAP]; omega) (by simp only [R.PMC_SNAP_SNAP]; omega) (by decide)

theorem winOf_snapDone : winOf R.PMC_STAT_SNAP_DONE.addr = 0x15 := by decide

/-! ## The copy -/

/-- The counters of a list copied in turn into their SNAP words. -/
def copyCounters (l : List Nat) (s : State) : State :=
  l.foldl (fun s n => s.put (R.PMC_SNAP_SNAP n) (s.get (R.PMC_CNT_CNT n))) s

theorem pmcSnapOp_eq (s : State) : pmcSnapOp s = (copyCounters (List.range 512) s).put R.PMC_STAT_SNAP_DONE 1 := rfl

theorem copyCounters_cons (m : Nat) (l : List Nat) (s : State) :
    copyCounters (m :: l) s = copyCounters l (s.put (R.PMC_SNAP_SNAP m) (s.get (R.PMC_CNT_CNT m))) := rfl

theorem copyCounters_windowOnly {l : List Nat} (hl : ∀ n ∈ l, n < 512) (s : State) : WindowOnly 0x15 s (copyCounters l s) := by
  induction l generalizing s with
  | nil => exact .refl _ s
  | cons m l ih =>
    obtain ⟨hm, hl⟩ := List.forall_mem_cons.mp hl
    have hput := windowOnly_put s (R.PMC_SNAP_SNAP m) (s.get (R.PMC_CNT_CNT m))
    rw [winOf_snap hm] at hput
    exact hput.trans (ih hl _)

/-- The copy leaves the counters. -/
theorem copyCounters_get_cnt (l : List Nat) (s : State) {n : Nat} (hn : n < 512) :
    (copyCounters l s).get (R.PMC_CNT_CNT n) = s.get (R.PMC_CNT_CNT n) := by
  induction l generalizing s with
  | nil => rfl
  | cons m l ih => rw [copyCounters_cons, ih, get_put_other _ _ _ _ (fits_snap m) (fits_cnt n) (apart_snap_cnt m hn)]

theorem copyCounters_get_snap_of_notMem {l : List Nat} {n : Nat} (h : n ∉ l) (s : State) :
    (copyCounters l s).get (R.PMC_SNAP_SNAP n) = s.get (R.PMC_SNAP_SNAP n) := by
  induction l generalizing s with
  | nil => rfl
  | cons m l ih =>
    obtain ⟨hm, hl⟩ := not_or.mp (mt List.mem_cons.mpr h)
    rw [copyCounters_cons, ih hl, get_put_other _ _ _ _ (fits_snap m) (fits_snap n) (apart_snap_snap (Ne.symm hm))]

/-- The copies made before and after a counter's own leave the counter and its SNAP word, and its own stores all 32 bits of it. -/
theorem copyCounters_get_snap {l : List Nat} {n : Nat} (hl : n ∈ l) (hn : n < 512) (s : State) :
    (copyCounters l s).get (R.PMC_SNAP_SNAP n) = s.get (R.PMC_CNT_CNT n) := by
  induction l generalizing s with
  | nil => cases hl
  | cons m l ih =>
    rw [copyCounters_cons]
    by_cases hmem : n ∈ l
    · rw [ih hmem, get_put_other _ _ _ _ (fits_snap m) (fits_cnt n) (apart_snap_cnt m hn)]
    · obtain rfl : n = m := (List.mem_cons.mp hl).resolve_right hmem
      rw [copyCounters_get_snap_of_notMem hmem, get_put_same _ _ _ (fits_snap n)]
      exact Nat.mod_eq_of_lt (get_lt s _)

/-! ## PMC_CTL.SNAP -/

theorem pmcSnapOp_windowOnly (s : State) : WindowOnly 0x15 s (pmcSnapOp s) := by
  have hcopy := copyCounters_windowOnly (l := List.range 512) (fun _ => List.mem_range.mp) s
  have hdone := windowOnly_put (copyCounters (List.range 512) s) R.PMC_STAT_SNAP_DONE 1
  rw [winOf_snapDone] at hdone
  rw [pmcSnapOp_eq]
  exact hcopy.trans hdone

theorem pmcSnapOp_get_snap (s : State) {n : Nat} (hn : n < 512) :
    (pmcSnapOp s).get (R.PMC_SNAP_SNAP n) = s.get (R.PMC_CNT_CNT n) := by
  rw [pmcSnapOp_eq, get_put_other _ _ _ _ fits_snapDone (fits_snap n) (apart_snapDone_snap n),
    copyCounters_get_snap (List.mem_range.mpr hn) hn]

theorem pmcSnapOp_get_cnt (s : State) {n : Nat} (hn : n < 512) :
    (pmcSnapOp s).get (R.PMC_CNT_CNT n) = s.get (R.PMC_CNT_CNT n) := by
  rw [pmcSnapOp_eq, get_put_other _ _ _ _ fits_snapDone (fits_cnt n) (apart_snapDone_cnt n), copyCounters_get_cnt _ _ hn]

theorem pmcSnapOp_get_snapDone (s : State) : (pmcSnapOp s).get R.PMC_STAT_SNAP_DONE = 1 := by
  rw [pmcSnapOp_eq, get_put_same _ _ _ fits_snapDone]
  rfl

/-- The outcome's state stands here as any u with these properties, so that no later comparison of states computes the 512 copies. -/
theorem exec_pmcSnap_spec (s : State) :
    ∃ u, exec .pmcSnap s = live s u ∧ WindowOnly 0x15 s u ∧ u.get R.PMC_STAT_SNAP_DONE = 1 ∧
      ∀ n < 512, u.get (R.PMC_SNAP_SNAP n) = s.get (R.PMC_CNT_CNT n) ∧ u.get (R.PMC_CNT_CNT n) = s.get (R.PMC_CNT_CNT n) :=
  ⟨pmcSnapOp s, rfl, pmcSnapOp_windowOnly s, pmcSnapOp_get_snapDone s,
    fun _ hn => ⟨pmcSnapOp_get_snap s hn, pmcSnapOp_get_cnt s hn⟩⟩

/-- Settles O43: the copies write SNAP words alone, so each reads its counter as it stood before the first of them. -/
theorem snapshotCopiesEveryCounter : Obligations.SnapshotCopiesEveryCounter := by
  intro s hr
  obtain ⟨u, hexec, honly, hdone, hcounters⟩ := exec_pmcSnap_spec s
  exact ⟨_, hexec.trans (live_of_no_reset hr u), hcounters, hdone, honly.2, honly.irq, honly.pmc, honly.edge⟩

end Sys2Proof.Machine
end

section
/-! Completion: a command answers its effect and keeps the queue (log entry 1); while a reset is in progress it leaves the state (log entry 61). -/

namespace Sys2Proof.Machine

/-! ## Every command -/

/-- Every command completes: exec answers a next state with the queue that it was given. -/
theorem exec_eq_done (c : Instr) (s : State) : ∃ t, exec c s = done s t := by
  cases c <;> exact ⟨_, rfl⟩

/-- While a reset is in progress a gated command leaves the state. -/
theorem live_of_reset {s : State} (h : s.pwr.rst ≠ none) (t : State) : live s t = .next s := by
  simp [live, done, h]

/-! ## Commands outside a reset -/

section
variable {c : Instr} {s t u : State}

theorem gives_of_done (h : exec c s = done s t) : gives c s t := h

theorem gives_of_live (hr : s.pwr.rst = none) (h : exec c s = live s t) : gives c s t := h.trans (live_of_no_reset hr t)

theorem gives_of_live_eq (hr : s.pwr.rst = none) (h : exec c s = live s u) (e : u = t) : gives c s t := gives_of_live hr (e ▸ h)

/-- A command whose condition holds has its effect. -/
theorem gives_of_live_if {p : Prop} [Decidable p] (hr : s.pwr.rst = none) (hp : p) (h : exec c s = live s (if p then t else u)) : gives c s t :=
  gives_of_live_eq hr h (if_pos hp)

/-- A command whose condition fails has its other effect. -/
theorem gives_of_live_ifNot {p : Prop} [Decidable p] (hr : s.pwr.rst = none) (hp : ¬ p) (h : exec c s = live s (if p then u else t)) :
    gives c s t :=
  gives_of_live_eq hr h (if_neg hp)

end

end Sys2Proof.Machine
end

section
/-! What single updates leave in the register file. -/

namespace Sys2Proof.Machine

theorem rdWord_put_other (s : State) (f : Fld) (v : Nat) {k : Nat} (h : k ≠ f.addr) : rdWord (s.put f v) k = rdWord s k :=
  rdWord_wrWord_other s _ h

theorem rdWord_addSat_other (s : State) (f : Fld) (n : Nat) {k : Nat} (h : k ≠ f.addr) : rdWord (s.addSat f n) k = rdWord s k :=
  rdWord_put_other s f _ h

theorem rdWord_put2_other (s : State) (lo hi : Fld) (v : Nat) {k : Nat} (h1 : k ≠ lo.addr) (h2 : k ≠ hi.addr) :
    rdWord (s.put2 lo hi v) k = rdWord s k := by
  rw [State.put2, rdWord_put_other _ _ _ h2, rdWord_put_other _ _ _ h1]

/-- An event's words: its own register, and the interrupt and counter windows. -/
theorem rdWord_raiseEvt_other (f : Fld) (src : Nat) (s : State) {k : Nat} (h : k ≠ f.addr) (h1 : winOf k ≠ 0x14) (h2 : winOf k ≠ 0x15) :
    rdWord (raiseEvt f src s) k = rdWord s k := by
  rw [(raiseEvt_only f src s).2 k h1 h2, rdWord_put_other s f 1 h]

theorem get_eq_of_rdWord {s t : State} {f : Fld} (h : rdWord t f.addr = rdWord s f.addr) : t.get f = s.get f := by
  rw [State.get, State.get, h]

/-- A field of another register reads as before. -/
theorem get_put_ne (s : State) (f : Fld) (v : Nat) {g : Fld} (h : g.addr ≠ f.addr) : (s.put f v).get g = s.get g :=
  get_eq_of_rdWord (rdWord_put_other s f v h)

theorem getE_eq_of_edge {s t : State} (h : t.edge = s.edge) (f : Fld) : t.getE f = s.getE f := by
  rw [State.getE, State.getE, h]

end Sys2Proof.Machine
end

section
/-! The queue and the gate of a reset (log entries 1 and 61), reset (log entry 6), and the laws of fields (00 R7, R8). -/

namespace Sys2Proof.Machine

/-! ## The queue (log entry 1) -/

theorem step_of_cons {s : State} {c : Instr} {rest : List Instr} (h : s.pending = c :: rest) : step s = exec c { s with pending := rest } := by
  rw [step, h]

theorem step_of_nil {s : State} (h : s.pending = []) : step s = .next s := by rw [step, h]

/-- Settles O55. -/
theorem stepRunsTheFrontCommand : Obligations.StepRunsTheFrontCommand :=
  fun _ => ⟨fun _ _ => step_of_cons, step_of_nil⟩

/-- A step never stops the block, and takes the queue's front and nothing else from it. -/
theorem step_drops_front (s : State) : ∃ t, step s = .next t ∧ t.pending = s.pending.drop 1 := by
  cases h : s.pending with
  | nil => exact ⟨s, step_of_nil h, h⟩
  | cons c rest =>
    obtain ⟨t, ht⟩ := exec_eq_done c { s with pending := rest }
    exact ⟨_, (step_of_cons h).trans ht, rfl⟩

/-- Settles O56, by induction on the number of steps. -/
theorem queueRunsFirstInFirstOut : Obligations.QueueRunsFirstInFirstOut := by
  intro n
  induction n with
  | zero => exact fun s => ⟨s, rfl, rfl⟩
  | succ n ih =>
    intro s
    obtain ⟨t, hstep, hfront⟩ := step_drops_front s
    obtain ⟨u, hrun, hleft⟩ := ih t
    refine ⟨u, ?_, ?_⟩
    · rw [State.afterSteps, hstep]
      exact hrun
    · rw [hleft, hfront, List.drop_drop, Nat.add_comm]

/-! ## The gate (log entry 61) -/

/-- Settles O46: all but the commands named go through live, which leaves the state while a reset is in progress. -/
theorem resetGatesTheBlock : Obligations.ResetGatesTheBlock := by
  intro c s h
  cases c
  case commitDone | flushDone | nvmSealDone | xtalStop | xtalRestart | pfail | pfailClr | pfailNRise | porRise | brownout | pinReset | resetRelease
    | porRelease | syspllLoss | lcOtpWritten | vbatFall | vbatRise | bankRailLow | bankRailRestored | tckEdge => trivial
  all_goals exact live_of_reset h _

/-! ## Reset and fields -/

/-- Settles O59: reset lists no register, so each reads its reset word. -/
theorem resetLeavesTheBlockEmpty : Obligations.ResetLeavesTheBlockEmpty :=
  ⟨rfl, rfl, rfl, rfl, rfl, rfl, rfl, rfl, rfl, fun _ => rfl, rfl, rfl, rfl⟩

/-- Settles O58, by the laws of register fields. -/
theorem fieldsReadBackWhatIsWritten : Obligations.FieldsReadBackWhatIsWritten :=
  fun f g v s hf hf' hg hg' => ⟨get_put_same s f v ⟨hf, hf'⟩, get_put_other s f g v ⟨hf, hf'⟩ ⟨hg, hg'⟩, put_wf s f v⟩

end Sys2Proof.Machine
end
section
/-! The TAP (21 R545). -/

namespace Sys2Proof.Machine

theorem exec_tckRise (tms tdi : Bool) (pins : List Bool) (s : State) :
    exec (.tckEdge true tms tdi false pins) s = .next (tckRise tms tdi pins s) := rfl

theorem tckRise_tap (tms tdi : Bool) (pins : List Bool) (s : State) : (tckRise tms tdi pins s).jtag.tap = tapNext s.jtag.tap tms := by
  unfold tckRise
  dsimp only
  split <;> rfl

/-- Test-Logic-Reset selects IDCODE. -/
theorem tckRise_op {tms tdi : Bool} {pins : List Bool} {s : State} (h : tapNext s.jtag.tap tms = 0) : (tckRise tms tdi pins s).jtag.op = 1 := by
  unfold tckRise
  dsimp only
  split <;> exact if_pos h

/-- From every state of the TAP, five edges with TMS high lead to Test-Logic-Reset. -/
theorem tapNext_five : ∀ t < 16, tapNext (tapNext (tapNext (tapNext (tapNext t true) true) true) true) true = 0 := by decide

/-- Settles O48: each edge writes the TAP's own state alone. -/
theorem tckEdgeMovesTheTapAlone : Obligations.TckEdgeMovesTheTapAlone := by
  intro rise tms tdi pins s
  refine ⟨rfl, rfl, rfl, fun trst => ?_⟩
  cases trst with
  | true => exact ⟨_, rfl, rfl⟩
  | false => cases rise <;> exact ⟨_, rfl, rfl⟩

/-- Settles O49: the fifth edge's next state is Test-Logic-Reset. -/
theorem fiveTmsEdgesResetTheTap : Obligations.FiveTmsEdgesResetTheTap := by
  intro tdi pins s hs
  have h0 := tapNext_five _ hs
  refine ⟨_, _, _, _, _, exec_tckRise .., exec_tckRise .., exec_tckRise .., exec_tckRise .., exec_tckRise .., ?_, tckRise_op ?_⟩
  all_goals simpa only [tckRise_tap] using h0

end Sys2Proof.Machine
end

section
/-! The Stroke (01): its commands, the publication of a task's output, the hold. -/

namespace Sys2Proof.Machine

/-- Settles O1: each command's condition holds, so that its effect is the one given. -/
theorem strokeCommandsComplete : Obligations.StrokeCommandsComplete := by
  refine ⟨?_, ?_, ?_, ?_, ?_, ?_, ?_, ?_, ?_, ?_⟩
  · intro e s hr h0
    exact gives_of_live_eq hr rfl (congrArg custSettle (if_pos h0))
  · intro e s hr h0
    exact gives_of_live_eq hr rfl (congrArg custSettle (if_neg h0))
  · intro j a v dt s hr ha
    exact gives_of_live_if hr ha rfl
  · intro j a v dt s hr ha
    refine gives_of_live_eq hr rfl (if_neg (not_not.mpr ha) |>.trans ?_)
    simp only [Bool.false_eq_true, if_false, writeWords]
    rw [if_neg (not_le.mpr a.isLt)]
  · intro s hr hold hlong
    exact gives_of_live_if hr ⟨hold, hlong⟩ rfl
  · intro j s hr
    exact gives_of_live hr rfl
  · intro t s hr hA hidle hout hover hdue
    refine gives_of_live_eq hr rfl ?_
    simp [hA, hidle, hout, hover, hdue]
  · intro t s hr hB hidle hout hover hdue
    refine gives_of_live_eq hr rfl ?_
    simp [hB, hidle, hout, hover, hdue]
  · intro t s hr hstale
    exact gives_of_live_if hr hstale rfl
  · intro p s hr hdue
    refine gives_of_live_eq hr rfl ?_
    rw [hdue]

/-- The task output that waits as the only one. -/
theorem taskDue_iff (s : State) (t : SolverTask) : taskDue s t = true ↔ (taskSt s t).begun + taskPeriod t ≤ s.strokes := decide_eq_true_iff

/-- Settles O2: the jobs that are due run, the others stay. -/
theorem edgePublishesTheTaskOutput : Obligations.EdgePublishesTheTaskOutput := by
  intro o s hjobs
  refine ⟨fun hdue => ?_, fun hdue => ?_⟩
  · have hd : taskDue s o.task = true := (taskDue_iff s _).mpr hdue
    simp [tasksEdge, hjobs, hd]
  · have hd : taskDue s o.task = false := Bool.eq_false_iff.mpr fun h => absurd ((taskDue_iff s _).mp h) (not_le.mpr hdue)
    simp only [tasksEdge, hjobs, List.filter_cons, hd, List.filter_nil]
    simp [← hjobs]

end Sys2Proof.Machine
end

section
/-! The hold (01 R34 to R36): GEN_STROKE_CTL written through a host interface. -/

namespace Sys2Proof.Machine

/-! ## A host's access -/

/-- s with the access of interface j to address a noted and counted (18 R462, 20 R518). -/
def accessed (j : Iface) (a : Nat) (s : State) : State :=
  pmcAdd (7 + j.num) 1 (accCtx (hstTouch j s) (masterOf j) a) (hstTouch j s)

theorem custSettle_of_usable {s : State} (h : ks2Usable s = true) : custSettle s = s := if_pos h

theorem ifaceNum_lt (j : Iface) : j.num < 3 := by cases j <;> decide

theorem accessed_irqOnly (j : Iface) (a : Nat) (s : State) : IrqOnly (hstTouch j s) (accessed j a s) :=
  pmcAdd_only _ _ _ _ (by have := ifaceNum_lt j; omega)

theorem accessed_get (j : Iface) (a : Nat) (s : State) (f : Fld) (h1 : winOf f.addr ≠ 0x14) (h2 : winOf f.addr ≠ 0x15) :
    (accessed j a s).get f = s.get f :=
  (accessed_irqOnly j a s).get f h1 h2

/-- A word written by a host while KS_2 is usable: counted where it is mapped, then judged. -/
theorem hostWord_of_usable {j : Iface} {who : Option MgmtWho} {a v : Nat} {s : State} (hk : ks2Usable s = true) (ha : mapped a = true) :
    (hostWord j who a v s).2 = accDone j a (writeCode (.host j who) a v (accessed j a s)) := by
  simp [hostWord, custSettle_of_usable hk, ha, accessed]

/-- One aligned word, whole. -/
theorem hostWrite_one {j : Iface} {a v : Nat} {s : State} (h4 : a % 4 = 0) (ha : a < 2 ^ 24) :
    hostWrite j a [v] false s = (hostWord j none a v s).2 := by
  simp only [hostWrite, writeWords, h4, ne_eq, not_true_eq_false, if_false, Bool.false_eq_true, not_le.mpr ha]

theorem hostWrite_unaligned {j : Iface} {a : Nat} {l : List Nat} {part : Bool} {s : State} (h4 : a % 4 ≠ 0) :
    hostWrite j a l part s = accErr j 1 a (hstTouch j s) := if_pos h4

theorem accDone_zero (j : Iface) (a : Nat) (s : State) : accDone j a (0, s) = s := if_pos rfl

theorem accDone_of_ne {j : Iface} {a code : Nat} {s : State} (h : code ≠ 0) : accDone j a (code, s) = accErr j code a s := if_neg h

/-! ## GEN_STROKE_CTL -/

theorem writeCode_strokeCtl (r : Req) (v : Nat) (s : State) : writeCode r 0x00010C v s = holdWrite r v s := by
  have hm : mapped 0x00010C = true := by decide
  have ho : openEarly 0x00010C = true := by decide
  obtain ⟨d, hd⟩ : ∃ d, findReg 0x00010C = some d := ⟨_, rfl⟩
  simp [writeCode, hm, ho, hd, writeReg]

theorem hostWrite_strokeCtl {j : Iface} {v : Nat} {s : State} (hk : ks2Usable s = true) :
    hostWrite j 0x00010C [v] false s = accDone j 0x00010C (holdWrite (.host j none) v (accessed j 0x00010C s)) := by
  rw [hostWrite_one (by decide) (by decide), hostWord_of_usable hk (by decide), writeCode_strokeCtl]

section
variable {j : Iface} {v : Nat} {u : State}

theorem holdWrite_of_other (hv : tbit v 0 = false ∨ cfgRuns u = true) (ha : u.flag R.GEN_STROKE_CTL_HOLD_APPLY = true) (ho : ownsHold u j = false) :
    holdWrite (.host j none) v u = (5, u) := by
  have h0 : (tbit v 0 && !cfgRuns u) = false := by rcases hv with h | h <;> simp [h]
  simp [holdWrite, h0, holdOther, ha, ho]

/-- A Custodian's write that no other interface's hold stands against. -/
theorem holdWrite_of_custodian (hr : cfgRuns u = true) (hc : isCust u j = true)
    (ho : u.flag R.GEN_STROKE_CTL_HOLD_APPLY = true → ownsHold u j = true) :
    holdWrite (.host j none) v u =
      (0, if tbit v 1 then holdDrop u else if tbit v 0 then holdSet j u
        else if u.flag R.GEN_STROKE_CTL_HOLD_APPLY then holdApply u else u) := by
  have h1 : holdOther u (.host j none) = false := by
    cases h : u.flag R.GEN_STROKE_CTL_HOLD_APPLY <;> simp_all [holdOther]
  simp only [holdWrite, hr, h1, reqCust, hc, Req.iface]
  cases tbit v 1 <;> cases tbit v 0 <;> simp

end

section
variable {j : Iface} {v : Nat} {s : State}

theorem accessed_hold (j : Iface) (a : Nat) (s : State) :
    (accessed j a s).flag R.GEN_STROKE_CTL_HOLD_APPLY = s.flag R.GEN_STROKE_CTL_HOLD_APPLY ∧ ownsHold (accessed j a s) j = ownsHold s j ∧
      cfgRuns (accessed j a s) = cfgRuns s ∧ isCust (accessed j a s) j = isCust s j := by
  simp only [State.flag, ownsHold, cfgRuns, isCust]
  rw [accessed_get _ _ _ R.GEN_STROKE_CTL_HOLD_APPLY (by decide) (by decide), accessed_get _ _ _ R.GEN_STROKE_STAT_HOLD_OWNER (by decide) (by decide),
    accessed_get _ _ _ R.CFG_STAT_STATE (by decide) (by decide),
    accessed_get _ _ _ (R.HST_STAT_CUST.ifc j) (by cases j <;> decide) (by cases j <;> decide)]
  exact ⟨rfl, rfl, rfl, rfl⟩

/-- GEN_STROKE_CTL written by a Custodian whom no other interface's hold stands against. -/
theorem hostWrite_strokeCtl_of_custodian (hr : cfgRuns s = true) (hk : ks2Usable s = true) (hc : isCust s j = true)
    (ho : s.flag R.GEN_STROKE_CTL_HOLD_APPLY = true → ownsHold s j = true) :
    hostWrite j 0x00010C [v] false s =
      if tbit v 1 then holdDrop (accessed j 0x00010C s) else if tbit v 0 then holdSet j (accessed j 0x00010C s)
        else if s.flag R.GEN_STROKE_CTL_HOLD_APPLY then holdApply (accessed j 0x00010C s) else accessed j 0x00010C s := by
  obtain ⟨hflag, howns, hrun, hcust⟩ := accessed_hold j 0x00010C s
  rw [hostWrite_strokeCtl hk, holdWrite_of_custodian (hrun.trans hr) (hcust.trans hc) (by rwa [hflag, howns]), hflag, accDone_zero]

/-- GEN_STROKE_CTL written by an interface that does not own the hold. -/
theorem hostWrite_strokeCtl_of_other (hr : cfgRuns s = true) (hk : ks2Usable s = true) (ha : s.flag R.GEN_STROKE_CTL_HOLD_APPLY = true)
    (ho : ownsHold s j = false) : hostWrite j 0x00010C [v] false s = accErr j 5 0x00010C (accessed j 0x00010C s) := by
  obtain ⟨hflag, howns, hrun, -⟩ := accessed_hold j 0x00010C s
  rw [hostWrite_strokeCtl hk, holdWrite_of_other (.inr (hrun.trans hr)) (hflag.trans ha) (howns.trans ho), accDone_of_ne (by decide)]

end

/-- Settles O3: an access leaves the hold, privilege and start-up state, so GEN_STROKE_CTL is judged by the state before it. -/
theorem holdCommandsComplete : Obligations.HoldCommandsComplete := by
  intro j s hr hrun hk hc u
  have hflag : u.flag R.GEN_STROKE_CTL_HOLD_APPLY = s.flag R.GEN_STROKE_CTL_HOLD_APPLY := (accessed_hold j 0x00010C s).1
  refine ⟨fun ha => ?_, fun ha ho => ?_, fun ha ho => ?_⟩
  · refine gives_of_live_eq hr rfl ((hostWrite_strokeCtl_of_custodian hrun hk hc fun h => by simp [ha] at h).trans ?_)
    exact if_neg (hflag.trans ha ▸ Bool.false_ne_true)
  · have hw {v : Nat} := hostWrite_strokeCtl_of_custodian (v := v) hrun hk hc fun _ => ho
    refine ⟨gives_of_live_eq hr rfl (hw.trans ?_), gives_of_live_eq hr rfl (hw.trans ?_), gives_of_live_eq hr rfl (hw.trans ?_)⟩
    · exact if_pos (hflag.trans ha)
    · exact if_pos ha
    · rfl
  · have hw {v : Nat} := hostWrite_strokeCtl_of_other (v := v) hrun hk ha ho
    exact ⟨gives_of_live_eq hr rfl hw, gives_of_live_eq hr rfl hw, gives_of_live_eq hr rfl hw⟩

end Sys2Proof.Machine
end

section
/-! Engine time (02): its commands, and the alarm that fires. -/

namespace Sys2Proof.Machine

/-! ## Alarms -/

theorem almFire_of_not {s : State} {n : Nat} (h : almFires s n = false) : almFire n s = s := by simp [almFire, h]

theorem almFire_of_fires {s : State} {n : Nat} (h : almFires s n = true) : almFire n s = almNext n (almMark n (almShow n (almEdge n s))) := if_pos h

/-- Armed and due, an alarm that was due at its arming fires from the next cycle on (02 R63). -/
theorem almFires_of_due {s : State} {n : Nat} (ha : s.flag (R.ETM_ALM_CTL_ARM n) = true) (hd : almDue s n = true)
    (hl : tget false s.etm.almLate n = true → tget 0 s.etm.almAt n < s.now) : almFires s n = true := by
  cases h : tget false s.etm.almLate n <;> simp_all [almFires]

theorem tbit_eight_nine_of_clear {v : Nat} (h : v / 0x100 % 4 = 0) : tbit v 8 = false ∧ tbit v 9 = false := by
  simp only [tbit, beq_eq_false_iff_ne]
  omega

theorem almClear_of_clear {v : Nat} (h : v / 0x100 % 4 = 0) (n : Nat) (s : State) : almClear n v s = s := by
  obtain ⟨h8, h9⟩ := tbit_eight_nine_of_clear h
  simp [almClear, h8, h9]

/-- A leap that is due moves the offset by its sign and is over (02 R70). -/
theorem utcAt_of_due {c : UtcData} {sec : Nat} (hl : c.leap ≠ 0) (ht : c.leapTai ≤ sec) :
    utcAt c sec = { c with offset := c.offset + (if c.leap = 1 then 1 else -1), leap := 0 } := if_pos ⟨hl, ht⟩

theorem utcAt_ne_of_due {c : UtcData} {sec : Nat} (hl : c.leap ≠ 0) (ht : c.leapTai ≤ sec) : utcAt c sec ≠ c := by
  rw [utcAt_of_due hl ht]
  exact fun h => hl (congrArg UtcData.leap h).symm

/-- Settles O4: each command under the condition that lets it act. -/
theorem engineTimeCommandsComplete : Obligations.EngineTimeCommandsComplete := by
  refine ⟨?_, ?_, ?_, ?_, ?_, ?_, ?_, ?_, ?_, ?_, ?_, ?_, ?_⟩
  · exact fun i dt s hr => gives_of_live hr rfl
  · exact fun i dt s hr => gives_of_live hr rfl
  · exact fun abs s hr => gives_of_live hr rfl
  · exact fun s hr hrun => gives_of_live_if hr hrun rfl
  · exact fun s hr hmuf => gives_of_live_if hr hmuf rfl
  · exact fun s hr hst ht => gives_of_live_if hr ⟨hst, ht⟩ rfl
  · exact fun s hr hst ht => gives_of_live_if hr ⟨hst, ht⟩ rfl
  · intro n v dt s hr hf hw
    refine ⟨gives_of_live_eq hr rfl ?_, gives_of_live_eq hr rfl ?_, gives_of_live_eq hr rfl ?_, fun hv => gives_of_live_eq hr rfl ?_⟩
    · simp [almWrite, almFire_of_not hf, hw]
    · simp [almWrite, almFire_of_not hf, hw]
    · simp [almWrite, almFire_of_not hf]
    · simp [almWrite, almClear_of_clear hv, almFire_of_not hf]
  · intro n v dt s hr hw hf
    refine gives_of_live_eq hr rfl ?_
    simp [almWrite, almFire_of_not hf, hw]
  · intro n dt s hr ha hd hl u w w'
    exact gives_of_live_eq hr rfl (almFire_of_fires (almFires_of_due ha hd hl))
  · exact fun i dt s hr => ⟨gives_of_live hr rfl, gives_of_live hr rfl⟩
  · intro i r s hr hres
    refine gives_of_live_eq hr rfl ?_
    rw [convDone, hres]
  · intro s hr hl ht c seen u
    refine gives_of_live_eq hr rfl ?_
    rw [leapApply, if_neg (utcAt_ne_of_due hl ht), utcAt_of_due hl ht]

/-! ## The alarm that fires -/

section
variable (n : Nat) (u : State)

/-- The fields of an alarm's CTL and its target. -/
theorem fits_alarm : Fits (R.ETM_ALM_CTL_FIRED n) ∧ Fits (R.ETM_ALM_CTL_LATE n) ∧ Fits (R.ETM_ALM_CTL_ARM n) ∧ Fits (R.ETM_ALM_CTL_PERIODIC n) ∧
    Fits (R.ETM_ALM_TGT_LO_TGT_LO n) ∧ Fits (R.ETM_ALM_TGT_HI_TGT_HI n) ∧ Fits (R.ETM_ALM_PERIOD_PERIOD n) := by
  simp [Fits, R.ETM_ALM_CTL_FIRED, R.ETM_ALM_CTL_LATE, R.ETM_ALM_CTL_ARM, R.ETM_ALM_CTL_PERIODIC, R.ETM_ALM_TGT_LO_TGT_LO, R.ETM_ALM_TGT_HI_TGT_HI,
    R.ETM_ALM_PERIOD_PERIOD]

/-- The four words of an alarm lie in ETM's window. -/
theorem winOf_alarm {n k : Nat} (h : n < 8) (hk : 0x020100 + 0x10 * n ≤ k) (hk' : k ≤ 0x02010C + 0x10 * n) : winOf k = 0x02 :=
  winOf_eq (by omega) (by omega) (by decide)

/-- An alarm that shows its firing writes its CTL alone. -/
theorem rdWord_almShow_other {k : Nat} (hk : k ≠ 0x02010C + 0x10 * n) (h1 : winOf k ≠ 0x14) (h2 : winOf k ≠ 0x15) :
    rdWord (almShow n u) k = rdWord u k := by
  unfold almShow
  dsimp only
  split
  · rw [rdWord_put_other _ _ _ hk, rdWord_raiseEvt_other _ _ _ hk h1 h2]
  · exact rdWord_raiseEvt_other _ _ _ hk h1 h2

/-- A field that FIRED and LATE share no bit with reads as before. -/
theorem almShow_get_other {g : Fld} (hg : Fits g) (ha : Apart (R.ETM_ALM_CTL_FIRED n) g) (hb : Apart (R.ETM_ALM_CTL_LATE n) g)
    (h : winOf g.addr = 0x02) : (almShow n u).get g = u.get g := by
  obtain ⟨hF, hL, -⟩ := fits_alarm n
  have hr : (raiseEvt (R.ETM_ALM_CTL_FIRED n) (12 + n) u).get g = u.get g := raiseEvt_get_other _ _ _ _ hF hg ha (by simp [h]) (by simp [h])
  unfold almShow
  dsimp only
  split
  · rw [get_put_other _ _ _ _ hL hg hb, hr]
  · exact hr

theorem almShow_fired (h : n < 8) : (almShow n u).get (R.ETM_ALM_CTL_FIRED n) = 1 := by
  obtain ⟨hF, hL, -⟩ := fits_alarm n
  have hw : winOf (R.ETM_ALM_CTL_FIRED n).addr = 0x02 := winOf_alarm h (by simp [R.ETM_ALM_CTL_FIRED]) (by simp [R.ETM_ALM_CTL_FIRED])
  have hr : (raiseEvt (R.ETM_ALM_CTL_FIRED n) (12 + n) u).get (R.ETM_ALM_CTL_FIRED n) = 1 :=
    raiseEvt_get_same _ _ _ hF (by simp [hw]) (by simp [hw])
  unfold almShow
  dsimp only
  split
  · rw [get_put_other _ _ _ _ hL hF (by simp [Apart, R.ETM_ALM_CTL_FIRED, R.ETM_ALM_CTL_LATE]), hr]
  · exact hr

theorem almShow_late (h : n < 8) :
    (almShow n u).get (R.ETM_ALM_CTL_LATE n) = if tget false u.etm.almLate n then 1 else u.get (R.ETM_ALM_CTL_LATE n) := by
  obtain ⟨hF, hL, -⟩ := fits_alarm n
  have hw : winOf (R.ETM_ALM_CTL_LATE n).addr = 0x02 := winOf_alarm h (by simp [R.ETM_ALM_CTL_LATE]) (by simp [R.ETM_ALM_CTL_LATE])
  unfold almShow
  dsimp only
  split
  · rw [get_put_same _ _ _ hL]
    rfl
  · exact raiseEvt_get_other _ _ _ _ hF hL (by simp [Apart, R.ETM_ALM_CTL_FIRED, R.ETM_ALM_CTL_LATE]) (by simp [hw]) (by simp [hw])

/-- An alarm that moves on writes its target or disarms. -/
theorem rdWord_almNext_other (s : State) {k : Nat} (h0 : k ≠ 0x020100 + 0x10 * n) (h1 : k ≠ 0x020104 + 0x10 * n) (h3 : k ≠ 0x02010C + 0x10 * n) :
    rdWord (almNext n s) k = rdWord s k := by
  unfold almNext
  dsimp only
  split
  · exact rdWord_put2_other _ _ _ _ h0 h1
  · exact rdWord_put_other _ _ _ h3

/-- A bit of CTL other than ARM reads as before. -/
theorem almNext_get_ctl (s : State) {g : Fld} (hg : Fits g) (ha : g.addr = 0x02010C + 0x10 * n) (hlo : 0 < g.lo) :
    (almNext n s).get g = s.get g := by
  unfold almNext
  dsimp only
  split
  · refine get_eq_of_rdWord (rdWord_put2_other _ _ _ _ ?_ ?_)
    all_goals simp only [R.ETM_ALM_TGT_LO_TGT_LO, R.ETM_ALM_TGT_HI_TGT_HI]; omega
  · exact get_put_other _ _ _ _ (fits_alarm n).2.2.1 hg (.inr (.inl hlo))

/-- A target written reads back in its 48 bits. -/
theorem almTgt_put2 (s : State) (x : Nat) :
    almTgt (s.put2 (R.ETM_ALM_TGT_LO_TGT_LO n) (R.ETM_ALM_TGT_HI_TGT_HI n) x) n = x % 2 ^ 48 := by
  obtain ⟨-, -, -, -, hlo, hhi, -⟩ := fits_alarm n
  rw [almTgt, State.get2, State.put2, get_put_same _ _ _ hhi, get_put_other _ _ _ _ hhi hlo, get_put_same _ _ _ hlo]
  · simp only [R.ETM_ALM_TGT_LO_TGT_LO, R.ETM_ALM_TGT_HI_TGT_HI]
    omega
  · exact .inl (by simp only [R.ETM_ALM_TGT_LO_TGT_LO, R.ETM_ALM_TGT_HI_TGT_HI]; omega)

theorem almTgt_of_rdWord {s t : State} (h0 : rdWord t (0x020100 + 0x10 * n) = rdWord s (0x020100 + 0x10 * n))
    (h1 : rdWord t (0x020104 + 0x10 * n) = rdWord s (0x020104 + 0x10 * n)) : almTgt t n = almTgt s n := by
  rw [almTgt, almTgt, State.get2, State.get2, get_eq_of_rdWord (f := R.ETM_ALM_TGT_LO_TGT_LO n) h0,
    get_eq_of_rdWord (f := R.ETM_ALM_TGT_HI_TGT_HI n) h1]

end

/-- Alarm n at the state u, in which the Clapper has its edge, fires: t. -/
def almFired (n : Nat) (u : State) : State := almNext n (almMark n (almShow n u))

theorem almFired_regs_other {n : Nat} (u : State) {k : Nat} (h0 : k ≠ 0x020100 + 0x10 * n) (h1 : k ≠ 0x020104 + 0x10 * n) (h3 : k ≠ 0x02010C + 0x10 * n)
    (hi : winOf k ≠ 0x14) (hp : winOf k ≠ 0x15) : rdWord (almFired n u) k = rdWord u k :=
  (rdWord_almNext_other n _ h0 h1 h3).trans (rdWord_almShow_other n u h3 hi hp)

section
variable {n : Nat} (h : n < 8) (u : State)
include h

theorem almFired_fired : (almFired n u).get (R.ETM_ALM_CTL_FIRED n) = 1 :=
  (almNext_get_ctl n _ (fits_alarm n).1 rfl (Nat.succ_pos 7)).trans (almShow_fired n u h)

theorem almFired_late : (almFired n u).get (R.ETM_ALM_CTL_LATE n) = if tget false u.etm.almLate n then 1 else u.get (R.ETM_ALM_CTL_LATE n) :=
  (almNext_get_ctl n _ (fits_alarm n).2.1 rfl (Nat.succ_pos 8)).trans (almShow_late n u h)

/-- Showing the firing leaves what the alarm moves on by: its bits of CTL, its period and its target. -/
theorem almShow_next : (almMark n (almShow n u)).get (R.ETM_ALM_PERIOD_PERIOD n) = u.get (R.ETM_ALM_PERIOD_PERIOD n) ∧
    (almMark n (almShow n u)).flag (R.ETM_ALM_CTL_PERIODIC n) = u.flag (R.ETM_ALM_CTL_PERIODIC n) ∧
    (almMark n (almShow n u)).get (R.ETM_ALM_CTL_ARM n) = u.get (R.ETM_ALM_CTL_ARM n) ∧
    almTgt (almMark n (almShow n u)) n = almTgt u n := by
  have hw {k : Nat} (hk : 0x020100 + 0x10 * n ≤ k) (hk' : k ≤ 0x02010C + 0x10 * n) := winOf_alarm h hk hk'
  have hword {k : Nat} (hk : 0x020100 + 0x10 * n ≤ k) (hk' : k < 0x02010C + 0x10 * n) : rdWord (almShow n u) k = rdWord u k :=
    rdWord_almShow_other n u (by omega) (by rw [hw hk hk'.le]; decide) (by rw [hw hk hk'.le]; decide)
  obtain ⟨-, -, hA, hP, -⟩ := fits_alarm n
  have hctl {g : Fld} (hg : Fits g) (ha : g.addr = 0x02010C + 0x10 * n) (hhi : g.hi < 8) : (almShow n u).get g = u.get g :=
    almShow_get_other n u hg (.inr (.inr hhi)) (.inr (.inr (Nat.lt_succ_of_lt hhi))) (hw (by omega) ha.le)
  exact ⟨get_eq_of_rdWord (hword (k := 0x020108 + 0x10 * n) (by omega) (by omega)),
    congrArg (· == 1) (hctl hP rfl (by simp [R.ETM_ALM_CTL_PERIODIC])), hctl hA rfl (by simp [R.ETM_ALM_CTL_ARM]),
    almTgt_of_rdWord n (hword (by omega) (by omega)) (hword (by omega) (by omega))⟩

/-- A periodic alarm with a period stays armed and moves its target on. -/
theorem almFired_periodic (hp : u.flag (R.ETM_ALM_CTL_PERIODIC n) = true) (hz : u.get (R.ETM_ALM_PERIOD_PERIOD n) ≠ 0) :
    (almFired n u).get (R.ETM_ALM_CTL_ARM n) = u.get (R.ETM_ALM_CTL_ARM n) ∧
      almTgt (almFired n u) n = (almTgt u n + u.get (R.ETM_ALM_PERIOD_PERIOD n)) % 2 ^ 48 := by
  obtain ⟨hper, hflag, harm, htgt⟩ := almShow_next h u
  have hgo : almFired n u = (almMark n (almShow n u)).put2 (R.ETM_ALM_TGT_LO_TGT_LO n) (R.ETM_ALM_TGT_HI_TGT_HI n)
      ((almTgt u n + u.get (R.ETM_ALM_PERIOD_PERIOD n)) % 2 ^ 48) := by
    rw [almFired, almNext, hper, hflag, htgt]
    exact if_pos ⟨hp, hz⟩
  rw [hgo, almTgt_put2, Nat.mod_mod]
  refine ⟨(get_eq_of_rdWord (rdWord_put2_other _ _ _ _ ?_ ?_)).trans harm, rfl⟩
  all_goals simp only [R.ETM_ALM_CTL_ARM, R.ETM_ALM_TGT_LO_TGT_LO, R.ETM_ALM_TGT_HI_TGT_HI]; omega

/-- Any other alarm disarms and keeps its target. -/
theorem almFired_single (hp : u.flag (R.ETM_ALM_CTL_PERIODIC n) = false ∨ u.get (R.ETM_ALM_PERIOD_PERIOD n) = 0) :
    (almFired n u).get (R.ETM_ALM_CTL_ARM n) = 0 ∧ almTgt (almFired n u) n = almTgt u n := by
  obtain ⟨hper, hflag, -, htgt⟩ := almShow_next h u
  have hgo : almFired n u = (almMark n (almShow n u)).put (R.ETM_ALM_CTL_ARM n) 0 := by
    rw [almFired, almNext, hper, hflag]
    exact if_neg (by rcases hp with hp | hp <;> simp [hp])
  rw [hgo, get_put_same _ _ _ (fits_alarm n).2.2.1]
  refine ⟨Nat.zero_mod _, (almTgt_of_rdWord n (rdWord_put_other _ _ _ ?_) (rdWord_put_other _ _ _ ?_)).trans htgt⟩
  all_goals simp only [R.ETM_ALM_CTL_ARM]; omega

end

/-- Firing changes ETM, IRQ and PMC alone. -/
theorem almFired_blocks (n : Nat) (u : State) : (almFired n u).clp = u.clp ∧ (almFired n u).edge = u.edge ∧ (almFired n u).tch = u.tch := by
  have hshow : (almShow n u).clp = u.clp ∧ (almShow n u).edge = u.edge ∧ (almShow n u).tch = u.tch := by
    unfold almShow
    dsimp only
    split <;> simp
  have hmark (s : State) : (almMark n s).clp = s.clp ∧ (almMark n s).edge = s.edge ∧ (almMark n s).tch = s.tch := ⟨rfl, rfl, rfl⟩
  have hnext (s : State) : (almNext n s).clp = s.clp ∧ (almNext n s).edge = s.edge ∧ (almNext n s).tch = s.tch := by
    unfold almNext
    dsimp only
    split
    · exact ⟨put2_clp _ _ _ _, put2_edge _ _ _ _, put2_tch _ _ _ _⟩
    · exact ⟨put_clp _ _ _, put_edge _ _ _, put_tch _ _ _⟩
  simp only [almFired, hnext, hmark, hshow, and_self]

/-- Settles O5: what firing sets is not written again as the alarm moves on. -/
theorem alarmFiresAtItsTarget : Obligations.AlarmFiresAtItsTarget := by
  intro n dt s hr ha hd hl u
  have hfires : almFires (s.tick dt) n = true := almFires_of_due ha (decide_eq_true hd) hl
  have hexec : exec (.alarmFire n dt) s = live s (almFired n u) := congrArg (live s) (almFire_of_fires hfires)
  have hn : n.val < 8 := n.isLt
  have hfired := almFired_fired hn u
  have hlate := almFired_late hn u
  have hperiodic := almFired_periodic hn u
  have hsingle := almFired_single hn u
  have hblocks := almFired_blocks n u
  have hregs {k : Nat} := almFired_regs_other (n := n) u (k := k)
  generalize almFired n u = t at *
  refine ⟨_, hexec.trans (live_of_no_reset hr t), hfired, fun h => hlate.trans (if_pos h), fun h => hlate.trans (by simp [h]), hperiodic, hsingle,
    fun k hk h1 h2 => ?_, fun m hm => ?_, hblocks⟩
  · have hk' {j : Nat} (hj : 0x020100 + 0x10 * n.val ≤ j) (hj' : j ≤ 0x02010C + 0x10 * n.val) : k ≠ j :=
      fun e => hk (e ▸ winOf_alarm hn hj hj')
    exact hregs (hk' (by omega) (by omega)) (hk' (by omega) (by omega)) (hk' (by omega) (by omega)) h1 h2
  · have hmn : m.val ≠ n.val := fun e => hm (Fin.ext e)
    have hw : winOf (0x02010C + 0x10 * m.val) = 0x02 := winOf_alarm m.isLt (by omega) le_rfl
    exact hregs (by omega) (by omega) (by omega) (by rw [hw]; decide) (by rw [hw]; decide)

end Sys2Proof.Machine
end

section
/-! The Clapper (03): its commands, and the edge that is stamped. -/

namespace Sys2Proof.Machine

/-! ## An edge that arrives (03 R80 to R86) -/

/-- An edge of a live source at a channel that is on goes to the path or paths whose source it is. -/
theorem edgeArrive_of_live {n src code : Nat} {fall : Bool} {s : State} (hl : srcLive s src = true) (hm : s.get (R.CLP_CH_CFG_MODE n) ≠ 0)
    (hs : src ≠ 0x3F) :
    edgeArrive n src fall code s =
      let t := if s.get (R.CLP_CH_SRC_START_SRC n) = src then pathEdge n src 0 fall code s else s
      if t.get (R.CLP_CH_SRC_STOP_SRC n) = src then pathEdge n src 1 fall code t else t := by
  simp [edgeArrive, hl, hm, hs]

theorem exec_edgeArrival {n : Fin 24} {src : Fin 64} {fall : Bool} {code : BitVec 11} {dt : Nat} {s : State} (h : src.val < 0x20 ∨ 0x27 < src.val) :
    exec (.edgeArrival n src fall code dt) s = live s (edgeArrive n src fall code.toNat (s.tick dt)) :=
  congrArg (live s) (if_neg (by omega))

/-- An edge at a path writes at most the channel's MISS. -/
theorem rdWord_pathEdge_other (n src path code : Nat) (fall : Bool) (s : State) {k : Nat} (h : k ≠ (R.CLP_CH_MISS_DEAD n).addr) :
    rdWord (pathEdge n src path fall code s) k = rdWord s k := by
  unfold pathEdge
  extract_lets c p pr setP q st at' dead c'
  split
  · rfl
  · split
    · rfl
    · split
      · exact rdWord_addSat_other _ _ _ h
      · rfl

theorem pathEdge_stopSrc (n src path code : Nat) (fall : Bool) (s : State) :
    (pathEdge n src path fall code s).get (R.CLP_CH_SRC_STOP_SRC n) = s.get (R.CLP_CH_SRC_STOP_SRC n) :=
  get_eq_of_rdWord (rdWord_pathEdge_other _ _ _ _ _ _ (by simp only [R.CLP_CH_SRC_STOP_SRC, R.CLP_CH_MISS_DEAD]; omega))

/-! ## The stamp that is passed on (03 R86, R92) -/

/-- The start path's first stamp goes where the stop path has none, has a later one, or must wait outside START_STOP. -/
theorem deliver_start {n : Nat} {x : Stamp} {l : List Stamp} {s : State} (hbuf : (s.ch n).start.buf = x :: l) (hready : pathReady s (s.ch n).start = true)
    (h : (s.ch n).stop.buf = [] ∨ (∃ y r, (s.ch n).stop.buf = y :: r ∧ rawfDiff x.dlv y.dlv ≤ 0)
      ∨ (pathReady s (s.ch n).stop = false ∧ s.get (R.CLP_CH_CFG_MODE n) ≠ 2)) :
    deliver n s = passStart n x (s.setCh n { s.ch n with start := { (s.ch n).start with buf := l, outAt := some s.now } }) := by
  unfold deliver
  cases hs : (s.ch n).stop.buf with
  | nil => simp [hbuf, hs, hready]
  | cons y r =>
    rcases h with h | ⟨y', r', h, hle⟩ | ⟨hb, hm⟩
    · simp [hs] at h
    · obtain ⟨rfl, rfl⟩ := List.cons.inj (hs.symm.trans h)
      simp [hbuf, hs, hready, hle]
    · simp [hbuf, hs, hready, hb, hm]

/-- The stop path's first stamp goes where the start path has none, has a later one, or must wait outside START_STOP. -/
theorem deliver_stop {n : Nat} {y : Stamp} {r : List Stamp} {s : State} (hbuf : (s.ch n).stop.buf = y :: r) (hready : pathReady s (s.ch n).stop = true)
    (h : (s.ch n).start.buf = [] ∨ (∃ x l, (s.ch n).start.buf = x :: l ∧ 0 < rawfDiff x.dlv y.dlv)
      ∨ (pathReady s (s.ch n).start = false ∧ s.get (R.CLP_CH_CFG_MODE n) ≠ 2)) :
    deliver n s = ssStop n y (s.setCh n { s.ch n with stop := { (s.ch n).stop with buf := r, outAt := some s.now } }) := by
  unfold deliver
  cases hs : (s.ch n).start.buf with
  | nil => simp [hbuf, hs, hready]
  | cons x l =>
    rcases h with h | ⟨x', l', h, hlt⟩ | ⟨ha, hm⟩
    · simp [hs] at h
    · obtain ⟨rfl, rfl⟩ := List.cons.inj (hs.symm.trans h)
      simp [hbuf, hs, hready, hlt]
    · simp [hbuf, hs, hready, ha, hm]

/-! ## The edge that is stamped (03 R72, R86) -/

@[simp] theorem ch_setCh_same (s : State) (n : Nat) (c : ClpCh) : (s.setCh n c).ch n = c := tget_tset_same _ _ _ _

theorem ch_setCh_other (s : State) {n m : Nat} (c : ClpCh) (h : m ≠ n) : (s.setCh n c).ch m = s.ch m := tget_tset_other _ _ _ _ h

/-- A stamp enters one of the two windows of the snapshot, and nothing else of its channel. -/
theorem snapAdd_fields (s : State) (st : Stamp) (c : ClpCh) :
    (snapAdd s st c).start = c.start ∧ (snapAdd s st c).stop = c.stop ∧ (snapAdd s st c).queue = c.queue ∧ (snapAdd s st c).stat = c.stat ∧
      (snapAdd s st c).cur ++ (snapAdd s st c).nxt =
        if 0 < rawDiff (s.nextEdge - 64) (st.arr / 4096) then c.cur ++ [st] ++ c.nxt else c.cur ++ (c.nxt ++ [st]) := by
  unfold snapAdd
  split
  · exact ⟨rfl, rfl, rfl, rfl, rfl⟩
  · exact ⟨rfl, rfl, rfl, rfl, rfl⟩

/-- A channel whose start path, with prescaler exponent pr, takes the stamp st at the instant at'. -/
def startStamped (pr at' : Nat) (st : Stamp) (c : ClpCh) : ClpCh :=
  { c with start := { c.start with presc := (c.start.presc + 1) % 2 ^ pr, last := some at', buf := c.start.buf ++ [st], miss := false } }

/-- A selected edge at the start path, past the prescaler and the dead time and with room in the buffer. -/
theorem pathEdge_start_stamped {n src code : Nat} {fall : Bool} {s : State} (hsel : edgeSel s n (s.get (R.CLP_CH_CFG_PRESC n)) fall = true)
    (hpresc : s.get (R.CLP_CH_CFG_PRESC n) = 0 ∨ (s.ch n).start.presc = 0) (hroom : (s.ch n).start.buf.length < 16)
    (hdead : ∀ a, (s.ch n).start.last = some a → a + 8192 ≤ s.now * 4096 + (mkStamp s n src 0 fall (s.ch n).start.miss code).arr % 4096) :
    let st := mkStamp s n src 0 fall (s.ch n).start.miss code
    pathEdge n src 0 fall code s =
      s.setCh n (snapAdd s st (startStamped (s.get (R.CLP_CH_CFG_PRESC n)) (s.now * 4096 + st.arr % 4096) st (s.ch n))) := by
  intro st
  have hp : ¬ (s.get (R.CLP_CH_CFG_PRESC n) ≠ 0 ∧ (s.ch n).start.presc ≠ 0) := by tauto
  unfold pathEdge
  simp only [if_true, hsel, hp, Bool.not_true, Bool.false_eq_true, if_false]
  refine if_neg ?_
  simp only [Bool.or_eq_true, decide_eq_true_eq, not_or, not_le]
  refine ⟨?_, hroom⟩
  cases h : (s.ch n).start.last with
  | none => exact Bool.false_ne_true
  | some a => simpa using hdead a h

/-- Settles O7: the stamped edge writes its channel alone. -/
theorem edgeIsStampedIntoBufferAndSnapshot : Obligations.EdgeIsStampedIntoBufferAndSnapshot := by
  intro n src fall code dt s hr hl hm hne hrange hstart hstop hsel hpresc hroom st at' hdead
  have hstamp := pathEdge_start_stamped (s := s.tick dt) (src := src) (code := code.toNat) hsel hpresc hroom hdead
  have hgo : edgeArrive n src fall code.toNat (s.tick dt) = pathEdge n src 0 fall code.toNat (s.tick dt) := by
    rw [edgeArrive_of_live hl hm hne]
    simp [hstart, hstop, pathEdge_stopSrc]
  have hgives := gives_of_live_eq hr (exec_edgeArrival hrange) (hgo.trans hstamp)
  obtain ⟨h1, h2, h3, h4, h5⟩ := snapAdd_fields (s.tick dt) st (startStamped (s.get (R.CLP_CH_CFG_PRESC n)) at' st (s.ch n))
  generalize hc : snapAdd (s.tick dt) st (startStamped (s.get (R.CLP_CH_CFG_PRESC n)) at' st (s.ch n)) = c at h1 h2 h3 h4 h5
  replace hgives : gives _ s ((s.tick dt).setCh n c) := hc ▸ hgives
  have hsame : ((s.tick dt).setCh n c).ch n = c := ch_setCh_same _ _ _
  have hother (m : Fin 24) (h : m ≠ n) : ((s.tick dt).setCh n c).ch m = s.ch m := ch_setCh_other _ _ fun e => h (Fin.ext e)
  have hregs : ((s.tick dt).setCh n c).regs = s.regs ∧ ((s.tick dt).setCh n c).irq = s.irq := ⟨rfl, rfl⟩
  generalize (s.tick dt).setCh n c = t at hgives hsame hother hregs
  obtain rfl : t.ch n = c := hsame
  exact ⟨_, hgives, congrArg ClpPath.buf h1, congrArg ClpPath.last h1, congrArg ClpPath.miss h1, congrArg ClpPath.presc h1, h5, h3, h2, h4,
    hother, hregs.1, hregs.2, rfl⟩

/-! ## The commands -/

/-- Settles O6. -/
theorem clapperCommandsComplete : Obligations.ClapperCommandsComplete := by
  refine ⟨?_, ?_, ?_, ?_, ?_, ?_, ?_, ?_, ?_, ?_, ?_⟩
  · intro n src fall code dt s hr hl hm hne hrange
    have hgo := edgeArrive_of_live (n := n) (fall := fall) (code := code.toNat) hl hm hne
    refine ⟨fun ha hb => ?_, fun ha hb => ?_, fun ha hb => ?_⟩
    all_goals
      refine gives_of_live_eq hr (exec_edgeArrival hrange) (hgo.trans ?_)
      simp [ha, hb, pathEdge_stopSrc]
  · intro n dt x l s hr u hbuf hready hstop
    exact gives_of_live_eq hr rfl (deliver_start (s := u) hbuf hready hstop)
  · intro n dt y r s hr u hbuf hready hstart
    exact gives_of_live_eq hr rfl (deliver_stop (s := u) hbuf hready hstart)
  · intro n dt s hr hss hpost hlate u
    exact gives_of_live_if hr ⟨hss, hpost, hlate⟩ rfl
  · intro conv s hr lim due t t' u hdue
    have hgo : (due 0 || due 1) = true := by simpa using hdue
    refine ⟨fun h => ?_, fun h => ?_⟩
    · exact gives_of_live_eq hr rfl ((if_pos hgo).trans (if_pos (by simpa using h)))
    · exact gives_of_live_eq hr rfl ((if_pos hgo).trans (if_neg (by simpa using h)))
  · exact fun dt s hr hwarm => gives_of_live_if hr hwarm rfl
  · intro j n dt s hr v
    refine ⟨fun h => ?_, fun e l hq hd => ?_⟩
    · refine gives_of_live_eq hr rfl (congrArg Prod.snd (if_pos ?_))
      rcases h with h | h
      · simp [show ((s.tick dt).ch n).queue = [] from h]
      · simp [show domOn (s.tick dt) 10 = false from h]
    · refine gives_of_live_eq hr rfl ((congrArg Prod.snd (if_neg ?_)).trans ?_)
      · simp [show ((s.tick dt).ch n).queue = e :: l from hq, show domOn (s.tick dt) 10 = true from hd]
      · simp only [show ((s.tick dt).ch n) = s.ch n from rfl, hq, List.tail_cons]
        rfl
  · exact fun n s hr hss hm => gives_of_live_if hr ⟨hss, hm⟩ rfl
  · exact fun n s hr => ⟨gives_of_live hr rfl, gives_of_live hr rfl, gives_of_live hr rfl, gives_of_live hr rfl⟩
  · exact fun s hr => gives_of_live hr rfl
  · exact fun j n s hr => gives_of_live hr rfl
end Sys2Proof.Machine
end

section
/-! The reference monitors (04): their commands, and the monitor that becomes VALID. -/

namespace Sys2Proof.Machine

/-! ## A monitor's transition (04 R125) -/

section
variable {m : Nat}

/-- The registers that a monitor's transition shows: its state, the state in the summary, its time, its count and its CHG bit. -/
theorem fits_monGo (h : m < 32) : Fits (R.RMON_MON_STAT_STATE m) ∧ Fits (monStateFld m) ∧ Fits (R.RMON_MON_STATE_TIME_STATE_TIME m) ∧
    Fits (R.RMON_MON_COUNTS_TRANS_CNT m) ∧ Fits (R.RMON_CHG_CHG.bitAt m) := by
  simp only [Fits, R.RMON_MON_STAT_STATE, monStateFld, R.RMON_MON_STATE_TIME_STATE_TIME, R.RMON_MON_COUNTS_TRANS_CNT, R.RMON_CHG_CHG, Fld.bitAt]
  omega

/-- Their addresses, within RMON's window. -/
theorem addr_monGo : (R.RMON_MON_STAT_STATE m).addr = 0x04104C + 0x80 * m ∧ (monStateFld m).addr = 0x040000 + 4 * (m / 16) ∧
    (R.RMON_MON_STATE_TIME_STATE_TIME m).addr = 0x041068 + 0x80 * m ∧ (R.RMON_MON_COUNTS_TRANS_CNT m).addr = 0x041064 + 0x80 * m ∧
    (R.RMON_CHG_CHG.bitAt m).addr = 0x040008 := ⟨rfl, rfl, rfl, rfl, rfl⟩

theorem winOf_monitors {k : Nat} (h : 0x040000 ≤ k) (h' : k < 0x050000) : winOf k = 0x04 := winOf_eq h h' (by decide)

/-- A monitor in another state shows the new one, before its event and its record. -/
def monShown (m new : Nat) (s : State) : State :=
  (((s.put (R.RMON_MON_STAT_STATE m) new).put (monStateFld m) new).put (R.RMON_MON_STATE_TIME_STATE_TIME m) 0).addSat (R.RMON_MON_COUNTS_TRANS_CNT m) 1

theorem monGo_of_ne {new : Nat} {s : State} (h : s.get (R.RMON_MON_STAT_STATE m) ≠ new) :
    ∃ l, monGo m new s = logRec 0x158 l (raiseEvt (R.RMON_CHG_CHG.bitAt m) (48 + m) (monShown m new s)) := ⟨_, if_neg h⟩

end

section
variable {m : Nat} (hm : m < 32) (new : Nat) (s : State)
include hm

theorem monShown_get : (monShown m new s).get (R.RMON_MON_STAT_STATE m) = new % 4 ∧ (monShown m new s).get (monStateFld m) = new % 4 ∧
    (monShown m new s).get (R.RMON_MON_STATE_TIME_STATE_TIME m) = 0 ∧
    (monShown m new s).get (R.RMON_MON_COUNTS_TRANS_CNT m) = satW 16 (s.get (R.RMON_MON_COUNTS_TRANS_CNT m) + 1) := by
  obtain ⟨f1, f2, f3, f4, -⟩ := fits_monGo hm
  obtain ⟨a1, a2, a3, a4, -⟩ := addr_monGo (m := m)
  have hsat (n : Nat) : satW 16 n % 2 ^ 16 = satW 16 n := Nat.mod_eq_of_lt (by unfold satW; split <;> omega)
  refine ⟨?_, ?_, ?_, ?_⟩
  · rw [monShown, State.addSat, get_put_ne _ _ _ (by omega), get_put_ne _ _ _ (by omega), get_put_ne _ _ _ (by omega), get_put_same _ _ _ f1]
    rfl
  · rw [monShown, State.addSat, get_put_ne _ _ _ (by omega), get_put_ne _ _ _ (by omega), get_put_same _ _ _ f2]
    simp [monStateFld]
  · rw [monShown, State.addSat, get_put_ne _ _ _ (by omega), get_put_same _ _ _ f3]
    rfl
  · rw [monShown, State.addSat, get_put_same _ _ _ f4, get_put_ne _ _ _ (by omega), get_put_ne _ _ _ (by omega), get_put_ne _ _ _ (by omega)]
    exact hsat _

omit hm in
theorem rdWord_monShown_other {k : Nat} (h1 : k ≠ 0x04104C + 0x80 * m) (h2 : k ≠ 0x040000 + 4 * (m / 16)) (h3 : k ≠ 0x041068 + 0x80 * m)
    (h4 : k ≠ 0x041064 + 0x80 * m) : rdWord (monShown m new s) k = rdWord s k := by
  rw [monShown, rdWord_addSat_other _ _ _ h4, rdWord_put_other _ _ _ h3, rdWord_put_other _ _ _ h2, rdWord_put_other _ _ _ h1]

variable {s new}

omit hm in
/-- The event and the record leave what is shown. -/
theorem monGo_get_shown (h : s.get (R.RMON_MON_STAT_STATE m) ≠ new) {g : Fld} (hg : 0x040000 ≤ g.addr) (hg' : g.addr < 0x050000)
    (hc : g.addr ≠ 0x040008) : (monGo m new s).get g = (monShown m new s).get g := by
  obtain ⟨l, hgo⟩ := monGo_of_ne h
  have hw := winOf_monitors hg hg'
  rw [hgo, logRec_get _ _ _ _ (by simp [hw]) (by simp [hw]) (by simp [hw])]
  exact get_eq_of_rdWord (rdWord_raiseEvt_other _ _ _ hc (by simp [hw]) (by simp [hw]))

theorem monGo_chg (h : s.get (R.RMON_MON_STAT_STATE m) ≠ new) : (monGo m new s).get (R.RMON_CHG_CHG.bitAt m) = 1 := by
  obtain ⟨l, hgo⟩ := monGo_of_ne h
  have hw : winOf (R.RMON_CHG_CHG.bitAt m).addr = 0x04 :=
    winOf_monitors (k := 0x040008) (by decide) (by decide)
  rw [hgo, logRec_get _ _ _ _ (by simp [hw]) (by simp [hw]) (by simp [hw])]
  exact raiseEvt_get_same _ _ _ (fits_monGo hm).2.2.2.2 (by simp [hw]) (by simp [hw])

omit hm in
theorem rdWord_monGo_other (h : s.get (R.RMON_MON_STAT_STATE m) ≠ new) {k : Nat} (h1 : k ≠ 0x04104C + 0x80 * m) (h2 : k ≠ 0x040000 + 4 * (m / 16))
    (h3 : k ≠ 0x041068 + 0x80 * m) (h4 : k ≠ 0x041064 + 0x80 * m) (h5 : k ≠ 0x040008) (hr : winOf k ≠ 0x13) (hi : winOf k ≠ 0x14)
    (hp : winOf k ≠ 0x15) : rdWord (monGo m new s) k = rdWord s k := by
  obtain ⟨l, hgo⟩ := monGo_of_ne h
  rw [hgo, (logRec_only _ _ _).2 k hr hi hp, rdWord_raiseEvt_other _ _ _ h5 hi hp, rdWord_monShown_other new s h1 h2 h3 h4]

omit hm in
theorem monGo_blocks (h : s.get (R.RMON_MON_STAT_STATE m) ≠ new) :
    (monGo m new s).rmon = s.rmon ∧ (monGo m new s).sel = s.sel ∧ (monGo m new s).clp = s.clp := by
  obtain ⟨l, hgo⟩ := monGo_of_ne h
  have hshown : (monShown m new s).rmon = s.rmon ∧ (monShown m new s).sel = s.sel ∧ (monShown m new s).clp = s.clp := ⟨rfl, rfl, rfl⟩
  rw [hgo, logRec_rmon, logRec_sel, logRec_clp, raiseEvt_rmon, raiseEvt_sel, raiseEvt_clp]
  exact hshown

end

/-! ## The commands -/

/-- Settles O8. -/
theorem monitorCommandsComplete : Obligations.MonitorCommandsComplete := by
  refine ⟨?_, ?_, ?_, ?_⟩
  · exact fun m s hr hold hrun hinv => gives_of_live_if hr ⟨hold, hrun, by simp [hinv]⟩ rfl
  · exact fun m s hr hst hh hs hval hfull hold => gives_of_live_if hr ⟨hst, hh, hs, hval, hfull, by simp [hold]⟩ rfl
  · exact fun m s hr hst hh hs hclr hold => gives_of_live_if hr ⟨hst, hh, hs, hclr, by simp [hold]⟩ rfl
  · exact fun m s hr hsrc hql hlong => gives_of_live_if hr ⟨hsrc, hql, hlong⟩ rfl

/-- Settles O9: the transition's registers are written once each, and publication copies the state's words. -/
theorem validationMakesMonitorValid : Obligations.ValidationMakesMonitorValid := by
  intro m s hr hst hh hs hval hfull hold
  have hm : m.val < 32 := m.isLt
  have hne : s.get (R.RMON_MON_STAT_STATE m) ≠ 2 := by rw [hst]; decide
  have hgives := (monitorCommandsComplete.2.1 m s hr hst hh hs hval hfull hold)
  obtain ⟨g1, g2, g3, g4⟩ := monShown_get hm 2 s
  have hget {g : Fld} := monGo_get_shown hne (g := g)
  have hchg := monGo_chg hm hne
  have hregs {k : Nat} := rdWord_monGo_other hne (k := k)
  have hblocks := monGo_blocks hne
  generalize monGo m 2 s = t at *
  have hE : (t.repub [(R.RMON_MON_STAT_STATE m).addr, (monStateFld m).addr]).getE (R.RMON_MON_STAT_STATE m) = t.get (R.RMON_MON_STAT_STATE m) :=
    (getE_repub _ _ _).trans (if_pos List.mem_cons_self)
  obtain ⟨a1, a2, a3, a4, -⟩ := addr_monGo (m := m)
  have e1 := (hget (by omega) (by omega) (by omega)).trans g1
  refine ⟨_, hgives, e1, hE.trans e1, (hget (by omega) (by omega) (by omega)).trans g2, (hget (by omega) (by omega) (by omega)).trans g3,
    (hget (by omega) (by omega) (by omega)).trans g4, hchg, fun n hn w hw => ?_, fun k h4 h13 h14 h15 => ?_, hblocks⟩
  · have hnm : n.val ≠ m.val := fun e => hn (Fin.ext e)
    have hwin := winOf_monitors (k := 0x041000 + 0x80 * n.val + 4 * w) (by omega) (by omega)
    exact hregs (by omega) (by omega) (by omega) (by omega) (by omega) (by simp [hwin]) (by simp [hwin]) (by simp [hwin])
  · have hk {j : Nat} (h : 0x040000 ≤ j) (h' : j < 0x050000) : k ≠ j := fun e => h4 (e ▸ winOf_monitors h h')
    exact hregs (hk (by omega) (by omega)) (hk (by omega) (by omega)) (hk (by omega) (by omega)) (hk (by omega) (by omega))
      (hk (by omega) (by omega)) h13 h14 h15

end Sys2Proof.Machine
end

section
/-! Selection and the Carillon (05), the bound and the oscillator model (06), the timing channels (07). -/

namespace Sys2Proof.Machine

/-! ## A Solver task's output (01 R28) -/

/-- An output of a running task whose pair is up waits for its edge. -/
theorem taskHand_of_runs {o : SolverOut} {s : State} (hu : unitDown s (taskUnit o.task) = false) (ht : taskRuns s o.task) :
    taskHand o s = { s with gen := { s.gen with jobs := s.gen.jobs ++ [o] } } := by
  obtain ⟨hidle, hout, hjobs⟩ := ht
  have hany : s.gen.jobs.any (fun x => x.task == o.task) = false := by simpa using hjobs
  simp [taskHand, hu, hidle, hout, hany]

/-! ## A write that waits for the edge (01 R32, R34; log entry 17) -/

section
variable {r : Req} {key val mask : Nat} {d : RegDesc} {s : State}

/-- A write of fields alone, held by no one, waits. The registers of the channels, the APLLs, the outputs and the GNSS blocks start no action. -/
theorem writeGo_waits (hs : strokeReg key d = true) (hlo : 0x070020 < key) (hhi : key < 0x0C0000)
    (hh : s.flag R.GEN_STROKE_CTL_HOLD_APPLY = false) :
    writeGo r key key d { val := val, mask := mask } s =
      if mask = 0 then s else { s with gen := { s.gen with waiting := s.gen.waiting ++ [{ key := key, val := val, mask := mask }] } } := by
  have h1 : ¬ (0x020100 ≤ key ∧ key < 0x020180) := by omega
  have h2 : stepArg key = false := by simp [stepArg]; omega
  have h3 : ¬ (key = 0x070020 ∧ mask ≠ 0) := by omega
  have h4 : key ≠ 0x120010 := by omega
  have h5 (t : State) : runAct r key 0 t = t := if_pos ⟨rfl, by omega, by omega⟩
  simp only [writeGo, h1, if_false, clearNow, if_true, hs, hh, Bool.false_eq_true, false_and, writeWaits, h2, h3, h4, h5]

/-- A write of fields alone enters the hold buffer while a hold stands. -/
theorem writeGo_held {j : Iface} (hs : strokeReg key d = true) (hlo : 0x070020 < key) (hh : s.flag R.GEN_STROKE_CTL_HOLD_APPLY = true) :
    writeGo (.host j none) key key d { val := val, mask := mask } s =
      if mask = 0 then s else pmcAdd 6 1 {} { s with gen := { s.gen with held := s.gen.held ++
        [{ key := key, val := val, mask := mask, act := some (j, 0) }] } } := by
  have h1 : ¬ (0x020100 ≤ key ∧ key < 0x020180) := by omega
  simp [writeGo, h1, clearNow, hs, hh, Req.iface]

end

/-- A row that writes a Stroke-read register takes its course as the write of a Custodian. -/
theorem writeIsQueued_of_rowWrite {c : Instr} {f : Fld} {v : Nat} {s : State} (hr : s.pwr.rst = none) (hx : exec c s = live s (rowWrite f v s))
    (hlo : 0x070020 < f.addr) (hhi : f.addr < 0x0C0000) : writeIsQueued c f v s := by
  intro d hd hs m p w
  obtain ⟨j, hgo⟩ : ∃ j, rowWrite f v s =
      if s.flag R.GEN_STROKE_CTL_HOLD_APPLY = true ∧ 256 ≤ s.gen.held.length ∧ w.mask ≠ 0 then raiseEvt R.GEN_STROKE_STAT_HOLD_OVERFLOW 21 s
      else writeGo (.host j none) f.addr f.addr d { val := w.val, mask := w.mask } s := by
    rw [rowWrite, hd]
    exact ⟨_, rfl⟩
  refine ⟨fun h0 => ?_, fun h0 hh => ?_, fun h0 hh hroom => ⟨j, ?_⟩, fun h0 hh hfull => ?_⟩
  all_goals refine gives_of_live_eq hr hx (hgo.trans ?_)
  · rw [if_neg fun h => h.2.2 h0]
    cases hh : s.flag R.GEN_STROKE_CTL_HOLD_APPLY with
    | false => exact (writeGo_waits hs hlo hhi hh).trans (if_pos h0)
    | true => exact (writeGo_held hs hlo hh).trans (if_pos h0)
  · rw [if_neg (by simp [hh])]
    exact (writeGo_waits hs hlo hhi hh).trans (if_neg h0)
  · rw [if_neg fun h => absurd h.2.1 (not_le.mpr hroom)]
    exact (writeGo_held hs hlo hh).trans (if_neg h0)
  · exact if_pos ⟨hh, hfull, h0⟩

/-! ## The commands -/

/-- Settles O10. -/
theorem selectionCommandsComplete : Obligations.SelectionCommandsComplete := by
  refine ⟨?_, ?_, ?_, ?_, ?_⟩
  · exact fun c k s hr hw => gives_of_live_if hr hw rfl
  · exact fun s hr hu ht => gives_of_live_eq hr rfl (taskHand_of_runs hu ht)
  · intro m s hr hdue hroom
    exact gives_of_live_eq hr rfl (if_pos (by simp [hdue, hroom]))
  · exact fun m s hr hc ht hn => gives_of_live_if hr ⟨hc, ht, hn⟩ rfl
  · exact fun m s hr => gives_of_live hr rfl

theorem holdMaxExpire_of_due {k : Nat} {s : State} (hk : k ≠ 0) (h0 : s.get R.BND_CTL_HOLD_MAX ≠ 0) (hb : 2 ≤ (s.bset k).basis)
    (hl : s.get R.BND_CTL_HOLD_MAX * 28800000 < s.get (R.BND_SET_HOLD_TAU_HOLD_TAU k)) :
    let u := s.setBset k { s.bset k with sticky := (s.bset k).sticky ||| 64 }
    holdMaxExpire k s = (bndPublish k (bndOf u k).1 (bndOf u k).2.1 (u.get (R.BND_SET_STAT_UNB_CAUSE k) ||| 64) u).repub
      ((List.range 5).map (fun w => 0x061000 + 0x100 * k + 4 * w)) := by
  simp [holdMaxExpire, hk, h0, hb, hl]

theorem holdMaxExpire_engine_of_due {s : State} (h0 : s.get R.BND_CTL_HOLD_MAX ≠ 0) (hb : 2 ≤ (s.bset 0).basis)
    (hl : s.get R.BND_CTL_HOLD_MAX * 28800000 < s.get (R.BND_SET_HOLD_TAU_HOLD_TAU 0)) :
    let u := s.setBset 0 { s.bset 0 with sticky := (s.bset 0).sticky ||| 64 }
    holdMaxExpire 0 s = (List.range 9).foldl (fun v j => if j = 0 || engSet v j then
      (bndPublish j (bndOf v j).1 (bndOf v j).2.1 (v.get (R.BND_SET_STAT_UNB_CAUSE j) ||| 64) v).repub
        ((List.range 5).map (fun w => 0x061000 + 0x100 * j + 4 * w)) else v) u := by
  simp [holdMaxExpire, h0, hb, hl]

/-- A channel goes to a state other than HOLDOVER: the change is one event. -/
theorem tchGo_of_ne {c st : Nat} {s : State} (h : s.get (R.TCH_CH_STAT_STATE c) ≠ st) (h4 : st ≠ 4) :
    tchGo c st s = raiseEvt (R.TCH_EVT_STATE_CHG.bitAt c) (22 + c) (s.put (R.TCH_CH_STAT_STATE c) st) := by
  rw [tchGo, if_neg h]
  exact if_neg h4

theorem exec_tchLocked {c : Fin 8} {s : State} (hst : s.get (R.TCH_CH_STAT_STATE c) = 2) (hn : 0 < (s.tc c).lockN)
    (hc : s.getE (R.TCH_CH_LOCK_CNT_LOCK_CNT c) ≤ (s.tc c).lockN) :
    exec (.tchLocked c) s = live s (tchRepub c (raiseEvt (R.TCH_EVT_STATE_CHG.bitAt c) (22 + c)
      ((s.setTc c { s.tc c with lockN := 0 }).put (R.TCH_CH_STAT_STATE c) 3))) := by
  have hne : (s.setTc c { s.tc c with lockN := 0 }).get (R.TCH_CH_STAT_STATE c) ≠ 3 := by
    rw [show (s.setTc c { s.tc c with lockN := 0 }).get (R.TCH_CH_STAT_STATE c) = s.get (R.TCH_CH_STAT_STATE c) from rfl, hst]
    decide
  rw [← tchGo_of_ne hne (by decide)]
  exact congrArg (live s) (if_pos ⟨hst, hn, hc⟩)

/-- Settles O11. -/
theorem servoCommandsComplete : Obligations.ServoCommandsComplete := by
  refine ⟨?_, ?_, ?_, ?_, ?_, ?_, ?_, ?_, ?_, ?_⟩
  · exact fun k s hr hk h0 hb hl => gives_of_live_eq hr rfl (holdMaxExpire_of_due hk h0 hb hl)
  · exact fun s hr h0 hb hl => gives_of_live_eq hr rfl (holdMaxExpire_engine_of_due h0 hb hl)
  · exact fun t0 s hr hu ht => gives_of_live_eq hr rfl (taskHand_of_runs hu ht)
  · exact fun s hr => gives_of_live hr rfl
  · exact fun c s hr hf hst => gives_of_live_if hr ⟨hf, hst⟩ rfl
  · exact fun c s hr hst hn hc => gives_of_live hr (exec_tchLocked hst hn hc)
  · exact fun c s hr hl => gives_of_live_if hr hl rfl
  · intro c mode s hr
    refine ⟨fun hc => writeIsQueued_of_rowWrite hr (congrArg (live s) (if_neg hc)) ?_ ?_, fun hc => gives_of_live_if hr hc rfl⟩
    all_goals simp only [R.TCH_CH_CTL_MODE]; omega
  · intro s hr hport hper hphase hk hst hfrz k stp q d code u
    refine gives_of_live_eq hr rfl (congrArg (fun t => ratesAgain (tchRepub 0 t)) ((if_neg ?_).trans (if_neg ?_)))
    · simp [hport, hper, hphase]
    · simp [hk, hst, hfrz]
  · exact fun v s hr => gives_of_live hr rfl

/-- Settles O13: each is a row that writes one register of windows 8 and 9. -/
theorem outputWritesWaitForTheEdge : Obligations.OutputWritesWaitForTheEdge := by
  intro s hr
  refine ⟨fun k => ⟨?_, ?_⟩, fun k p => ?_, fun k x => ?_, fun k p w v => ?_, fun k => ⟨?_, ?_⟩, fun k w v => ?_⟩
  all_goals refine writeIsQueued_of_rowWrite hr rfl ?_ ?_
  all_goals simp only [R.APL_APLL_CTL_EN, R.APL_APLL_CTL_PLAN_SEL, R.APL_APLL_CTL_FINE_TCH, R.OUT_CFG_EN]; omega

end Sys2Proof.Machine
end

section
/-! The channel that locks (07 R190). -/

namespace Sys2Proof.Machine

/-- What TCH_0's change of rate leaves as the channels that follow it publish theirs (07 R181): the other windows, the events, every channel's state, and the
published state of a channel that does not follow. -/
structure RateOnly (s t : State) : Prop where
  regs : ∀ k, winOf k ≠ 0x07 → rdWord t k = rdWord s k
  evt : rdWord t 0x070000 = rdWord s 0x070000
  state : ∀ e, t.get (R.TCH_CH_STAT_STATE e) = s.get (R.TCH_CH_STAT_STATE e)
  stateE : ∀ e, s.get (R.TCH_CH_STAT_STATE e) ≠ 5 → t.getE (R.TCH_CH_STAT_STATE e) = s.getE (R.TCH_CH_STAT_STATE e)
  bnd : t.bnd = s.bnd
  out : t.out = s.out
  sel : t.sel = s.sel

namespace RateOnly

theorem refl (s : State) : RateOnly s s := ⟨fun _ _ => rfl, rfl, fun _ => rfl, fun _ _ => rfl, rfl, rfl, rfl⟩

theorem trans {s t u : State} (a : RateOnly s t) (b : RateOnly t u) : RateOnly s u :=
  ⟨fun k h => (b.regs k h).trans (a.regs k h), b.evt.trans a.evt, fun e => (b.state e).trans (a.state e),
    fun e h => (b.stateE e (by rwa [a.state e])).trans (a.stateE e h), b.bnd.trans a.bnd, b.out.trans a.out, b.sel.trans a.sel⟩

theorem foldl {f : State → Nat → State} {l : List Nat} (h : ∀ s, ∀ d ∈ l, RateOnly s (f s d)) (s : State) : RateOnly s (l.foldl f s) := by
  induction l generalizing s with
  | nil => exact .refl s
  | cons d l ih => exact (h s d List.mem_cons_self).trans (ih (fun s d hd => h s d (List.mem_cons_of_mem _ hd)) _)

end RateOnly

/-! ## Publication -/

/-- The words that a channel publishes hold its own state and no other channel's. -/
theorem state_mem_tchPub (c e : Nat) :
    (R.TCH_CH_STAT_STATE e).addr ∈ (List.range 22).map (fun w => 0x071000 + 0x100 * c + 4 * w) ↔ e = c := by
  simp only [List.mem_map, List.mem_range, R.TCH_CH_STAT_STATE]
  refine ⟨fun ⟨w, hw, h⟩ => by omega, fun h => ⟨8, by omega, by omega⟩⟩

theorem getE_tchPub_same (c : Nat) (s : State) : (tchPub c s).getE (R.TCH_CH_STAT_STATE c) = s.get (R.TCH_CH_STAT_STATE c) :=
  (getE_repub _ _ _).trans (if_pos ((state_mem_tchPub c c).mpr rfl))

theorem getE_tchPub_other {c e : Nat} (h : e ≠ c) (s : State) : (tchPub c s).getE (R.TCH_CH_STAT_STATE e) = s.getE (R.TCH_CH_STAT_STATE e) :=
  (getE_repub _ _ _).trans (if_neg (mt (state_mem_tchPub c e).mp h))

/-! ## A rate that follows TCH_0's -/

/-- A rate written changes the channel's two words of RATE alone. -/
theorem put48_only (lo hi : Fld) (v : Int) (s : State) : (put48 lo hi v s).edge = s.edge ∧ (put48 lo hi v s).bnd = s.bnd ∧
    (put48 lo hi v s).out = s.out ∧ (put48 lo hi v s).sel = s.sel ∧
    ∀ k, k ≠ lo.addr → k ≠ hi.addr → rdWord (put48 lo hi v s) k = rdWord s k := by
  refine ⟨rfl, rfl, rfl, rfl, fun k h1 h2 => ?_⟩
  rw [put48, rdWord_wrWord_other _ _ h2, rdWord_wrWord_other _ _ h1]

theorem setTchRate_only (d : Nat) (v : Int) (s : State) : (setTchRate d v s).edge = s.edge ∧ (setTchRate d v s).bnd = s.bnd ∧
    (setTchRate d v s).out = s.out ∧ (setTchRate d v s).sel = s.sel ∧
    ∀ k, k ≠ 0x071024 + 0x100 * d → k ≠ 0x071028 + 0x100 * d → rdWord (setTchRate d v s) k = rdWord s k := by
  have h := put48_only (R.TCH_CH_RATE_LO_RATE d) (R.TCH_CH_RATE_HI_RATE d) v s
  unfold setTchRate
  dsimp only
  split <;> exact h

/-- A channel that follows TCH_0 takes its rate and publishes. -/
theorem rateOnly_follow {d : Nat} (hd : d < 8) (v : Int) {s : State} (h5 : s.get (R.TCH_CH_STAT_STATE d) = 5) :
    RateOnly s (tchPub d (setTchRate d v s)) := by
  obtain ⟨hedge, hbnd, hout, hsel, hregs⟩ := setTchRate_only d v s
  have hwin {k : Nat} (h : winOf k ≠ 0x07) {j : Nat} (hj : 0x070000 ≤ j) (hj' : j < 0x080000) : k ≠ j := fun e => h (e ▸ winOf_eq hj hj' (by decide))
  refine ⟨fun k hk => hregs k (hwin hk (by omega) (by omega)) (hwin hk (by omega) (by omega)), hregs _ (by omega) (by omega), fun e => ?_,
    fun e he => ?_, hbnd, hout, hsel⟩
  · refine get_eq_of_rdWord (hregs _ ?_ ?_)
    all_goals simp only [R.TCH_CH_STAT_STATE]; omega
  · have hne : e ≠ d := fun h => he (h ▸ h5)
    rw [getE_tchPub_other hne, getE_eq_of_edge hedge]

/-- A channel's publication: its own state as of the edge; for TCH_0 with the channels that follow its rate. -/
theorem tchRepub_spec (c : Nat) (s : State) : ∃ u, RateOnly u (tchRepub c s) ∧ u.regs = s.regs ∧ u.bnd = s.bnd ∧ u.out = s.out ∧ u.sel = s.sel ∧
    u.getE (R.TCH_CH_STAT_STATE c) = s.get (R.TCH_CH_STAT_STATE c) ∧
    (∀ e, e ≠ c → u.getE (R.TCH_CH_STAT_STATE e) = s.getE (R.TCH_CH_STAT_STATE e)) ∧ (c ≠ 0 → tchRepub c s = u) := by
  by_cases hc : c = 0
  · refine ⟨{ tchPub c s with etm := { (tchPub c s).etm with rate := (tchPub c s).etm.ratePub } }, ?_, rfl, rfl, rfl, rfl, getE_tchPub_same c s,
      fun e he => getE_tchPub_other he s, fun h => absurd hc h⟩
    rw [tchRepub, if_pos hc]
    refine RateOnly.foldl (fun v d hd => ?_) _
    split
    · exact rateOnly_follow (List.mem_range.mp hd) _ ‹_›
    · exact .refl v
  · refine ⟨tchPub c s, ?_, rfl, rfl, rfl, rfl, getE_tchPub_same c s, fun e he => getE_tchPub_other he s, fun _ => if_neg hc⟩
    rw [tchRepub, if_neg hc]
    exact .refl _

/-! ## The channel that locks -/

/-- The channel in LOCKED with its event, before publication. -/
def lockedShown (c : Nat) (s : State) : State :=
  raiseEvt (R.TCH_EVT_STATE_CHG.bitAt c) (22 + c) ((s.setTc c { s.tc c with lockN := 0 }).put (R.TCH_CH_STAT_STATE c) 3)

section
variable {c : Nat} (hc : c < 8) (s : State)

theorem rdWord_lockedShown_other {k : Nat} (h1 : k ≠ 0x070000) (h2 : k ≠ 0x071020 + 0x100 * c) (hi : winOf k ≠ 0x14) (hp : winOf k ≠ 0x15) :
    rdWord (lockedShown c s) k = rdWord s k := by
  rw [lockedShown, rdWord_raiseEvt_other _ _ _ h1 hi hp, rdWord_put_other _ _ _ h2]
  rfl

theorem lockedShown_blocks : (lockedShown c s).edge = s.edge ∧ (lockedShown c s).bnd = s.bnd ∧ (lockedShown c s).out = s.out ∧
    (lockedShown c s).sel = s.sel := by
  rw [lockedShown, raiseEvt_edge, raiseEvt_bnd, raiseEvt_out, raiseEvt_sel]
  exact ⟨rfl, rfl, rfl, rfl⟩

include hc

theorem lockedShown_state : (lockedShown c s).get (R.TCH_CH_STAT_STATE c) = 3 := by
  have hw : winOf (0x071020 + 0x100 * c) = 0x07 := winOf_eq (by omega) (by omega) (by decide)
  rw [lockedShown, get_eq_of_rdWord (rdWord_raiseEvt_other _ _ _ ?_ (by rw [R.TCH_CH_STAT_STATE, hw]; decide) (by rw [R.TCH_CH_STAT_STATE, hw]; decide)),
    get_put_same _ _ _ (by simp [Fits, R.TCH_CH_STAT_STATE])]
  · rfl
  · simp only [R.TCH_CH_STAT_STATE, R.TCH_EVT_STATE_CHG, Fld.bitAt]
    omega

theorem lockedShown_evt : (lockedShown c s).get (R.TCH_EVT_STATE_CHG.bitAt c) = 1 :=
  raiseEvt_get_same _ _ _ ⟨le_rfl, by simp only [R.TCH_EVT_STATE_CHG, Fld.bitAt]; omega⟩ (show winOf 0x070000 ≠ 0x14 by decide)
    (show winOf 0x070000 ≠ 0x15 by decide)

end

/-- Settles O12: the state and its event are written once, and publication copies them. -/
theorem channelLocksAfterLockCount : Obligations.ChannelLocksAfterLockCount := by
  intro c s hr hst hn hc
  have hexec : exec (.tchLocked c) s = live s (tchRepub c (lockedShown c s)) := exec_tchLocked hst hn hc
  have hlt : c.val < 8 := c.isLt
  have hstate := lockedShown_state hlt s
  have hevt := lockedShown_evt hlt s
  have hregs {k : Nat} := rdWord_lockedShown_other (c := c.val) s (k := k)
  obtain ⟨hedge, hbnd, hout, hsel⟩ := lockedShown_blocks (c := c.val) s
  generalize lockedShown c s = v at *
  obtain ⟨u, hrate, huregs, hubnd, huout, husel, huE, huEo, hsame⟩ := tchRepub_spec c v
  generalize tchRepub c v = t at *
  have hu (f : Fld) : u.get f = v.get f := get_of_regs huregs f
  have hother (d : Fin 8) (h : d ≠ c) : v.get (R.TCH_CH_STAT_STATE d) = s.get (R.TCH_CH_STAT_STATE d) := by
    have hd : d.val ≠ c.val := fun e => h (Fin.ext e)
    have hw : winOf (R.TCH_CH_STAT_STATE d).addr = 0x07 := winOf_eq (by simp only [R.TCH_CH_STAT_STATE]; omega) (by simp only [R.TCH_CH_STAT_STATE]; omega) (by decide)
    refine get_eq_of_rdWord (hregs ?_ ?_ (by simp [hw]) (by simp [hw]))
    all_goals simp only [R.TCH_CH_STAT_STATE]; omega
  refine ⟨_, hexec.trans (live_of_no_reset hr t), (hrate.state c).trans ((hu _).trans hstate),
    (hrate.stateE c (by rw [hu, hstate]; decide)).trans (huE.trans hstate),
    (get_eq_of_rdWord hrate.evt).trans ((hu _).trans hevt), fun d hd => ⟨(hrate.state d).trans ((hu _).trans (hother d hd)), fun h => ?_⟩,
    fun k h7 hi hp => (hrate.regs k h7).trans ?_, hrate.bnd.trans (hubnd.trans hbnd), hrate.out.trans (huout.trans hout), hrate.sel.trans (husel.trans hsel)⟩
  · have hE : u.getE (R.TCH_CH_STAT_STATE d) = s.getE (R.TCH_CH_STAT_STATE d) :=
      (huEo d fun e => hd (Fin.ext e)).trans (getE_eq_of_edge hedge _)
    rcases h with h | h
    · rw [← hE, ← hsame h]
      rfl
    · exact (hrate.stateE d (by rwa [hu, hother d hd])).trans hE
  · have hk {j : Nat} (hj : 0x070000 ≤ j) (hj' : j < 0x080000) : k ≠ j := fun e => h7 (e ▸ winOf_eq hj hj' (by decide))
    rw [show rdWord u k = rdWord v k by simp only [rdWord, huregs], hregs (hk (by omega) (by omega)) (hk (by omega) (by omega)) hi hp]

end Sys2Proof.Machine
end

section
/-! The APLLs and the outputs (08). -/

namespace Sys2Proof.Machine

/-! ## The state of an APLL -/

@[simp] theorem apll_setApll_same (s : State) (k : Nat) (v : ApllSt) : (s.setApll k v).apll k = v := tget_tset_same _ _ _ _

theorem apll_setApll_other (s : State) {k j : Nat} (h : j ≠ k) (v : ApllSt) : (s.setApll k v).apll j = s.apll j := tget_tset_other _ _ _ _ h

@[simp] theorem apll_put (s : State) (f : Fld) (v : Nat) (k : Nat) : (s.put f v).apll k = s.apll k := rfl

@[simp] theorem apll_tick (s : State) (dt k : Nat) : (s.tick dt).apll k = s.apll k := rfl

@[simp] theorem get_tick (s : State) (dt : Nat) (f : Fld) : (s.tick dt).get f = s.get f := rfl

@[simp] theorem flag_tick (s : State) (dt : Nat) (f : Fld) : (s.tick dt).flag f = s.flag f := rfl

/-! ## The loss of lock (08 R208, R209) -/

section
variable {k : Nat} {s : State}

theorem lockLost_settling (h : (s.apll k).st = 3) :
    let u := (s.setApll k { s.apll k with lockHeld := false }).put (R.APL_APLL_STAT_LOCK k) 0
    lockLost k s = u.setApll k { u.apll k with st := 2, tries := 0 } := by
  simp only [lockLost, h]

theorem lockLost_locked (h : (s.apll k).st = 4) :
    let u := (s.setApll k { s.apll k with lockHeld := false }).put (R.APL_APLL_STAT_LOCK k) 0
    let v := apllEvt k 0 (apllMuffle k (u.setApll k { u.apll k with st := 2, tries := 0, unl := (s.apll k).unl + 1, losses := s.strokes :: (s.apll k).losses.take 255 }))
    lockLost k s = if u.get (R.APL_APLL_CTL_RELOCK_MAX k) ≠ 0 ∧ u.get (R.APL_APLL_CTL_RELOCK_MAX k) < recentUnl u k + 1 then apllFence k v
      else faultRaise (16 + k) v := by
  simp only [lockLost, h]
  rfl

end

theorem exec_lockLost {k : Fin 4} {why : LockLoss} {dt : Nat} {s : State} (hg : lockGone s k why = true) (hl : s.flag (R.APL_APLL_STAT_LOCK k) = true) :
    exec (.lockLost k why dt) s = live s (lockLost k (s.tick dt)) := by
  have hg' : lockGone (s.tick dt) k why = true := by cases why <;> exact hg
  exact congrArg (live s) (if_pos (by simp [hg', hl]))

theorem exec_lockCriterionMet {k : Fin 4} {n err : Nat} {dt : Nat} {s : State} (hst : (s.apll k).st = 2)
    (hn : 2 ^ s.get (R.APL_APLL_LOCK_CFG_LOCK_N k) ≤ n) (he : err * 1000 ≤ s.get (R.APL_APLL_LOCK_CFG_LOCK_WIN k) * 65536) :
    let u := if (s.apll k).tries = 0 then s.tick dt else bandStore k (s.apll k).band (s.tick dt)
    exec (.lockCriterionMet k n err dt) s = live s
      ((u.setApll k { u.apll k with st := 3, stable := 0, lockHeld := false, tries := 0 }).put (R.APL_APLL_STAT_LOCK k) 1) :=
  congrArg (live s) (if_pos ⟨hst, by simp [lockMet, hn, he]⟩)

/-- Settles O14. -/
theorem apllEventsComplete : Obligations.ApllEventsComplete := by
  refine ⟨?_, ?_, ?_, ?_, ?_, ?_, ?_, ?_, ?_, ?_⟩
  · exact fun k s hr hst hq => gives_of_live_if hr ⟨hst, hq⟩ rfl
  · exact fun k band s hr hst => gives_of_live_if hr hst rfl
  · exact fun k s hr hst => gives_of_live_if hr hst rfl
  · intro k up s hr hst b
    refine ⟨fun h => ?_, fun h => ?_, fun h => ?_⟩
    all_goals refine gives_of_live_eq hr rfl ((if_pos hst).trans ?_)
    · simp only [h]; rfl
    · simp only [h]; rfl
    · obtain ⟨n, hn⟩ := Nat.exists_eq_add_of_le' h
      simp only [hn]
  · exact fun k n err dt s hr hst hn he => gives_of_live hr (exec_lockCriterionMet hst hn he)
  · intro k why dt s hr hg hl hst
    exact gives_of_live_eq hr (exec_lockLost hg hl) (lockLost_settling (s := s.tick dt) hst)
  · intro k why dt s hr hg hl hst
    exact gives_of_live_eq hr (exec_lockLost hg hl) (lockLost_locked (s := s.tick dt) hst)
  · exact fun k s => ⟨rfl, rfl, fun n least => by simp [lockGone]⟩
  · exact fun k s hr hst h0 hs => gives_of_live_if hr ⟨hst, h0, hs⟩ rfl
  · exact fun k dt s hr hst => gives_of_live_if hr hst rfl

/-! ## The lock criterion -/

/-- What a band stored in plan p changes: the plan's word of bands, and the APLL's own state. -/
structure BandOnly (k p : Nat) (s t : State) : Prop where
  regs : ∀ a, a ≠ (R.APL_APLL_PLAN_W3_BAND k p).addr → rdWord t a = rdWord s a
  apll : ∀ j, j ≠ k → t.apll j = s.apll j
  outs : t.out.outs = s.out.outs
  edge : t.edge = s.edge
  irq : t.irq = s.irq
  tch : t.tch = s.tch

theorem BandOnly.refl (k p : Nat) (s : State) : BandOnly k p s s := ⟨fun _ _ => rfl, fun _ _ => rfl, rfl, rfl, rfl, rfl⟩

theorem BandOnly.trans {k p : Nat} {s t u : State} (a : BandOnly k p s t) (b : BandOnly k p t u) : BandOnly k p s u :=
  ⟨fun x h => (b.regs x h).trans (a.regs x h), fun j h => (b.apll j h).trans (a.apll j h), b.outs.trans a.outs, b.edge.trans a.edge,
    b.irq.trans a.irq, b.tch.trans a.tch⟩

/-- An APLL's own state set. -/
theorem bandOnly_setApll (k p : Nat) (v : ApllSt) (s : State) : BandOnly k p s (s.setApll k v) :=
  ⟨fun _ _ => rfl, fun _ h => apll_setApll_other s h v, rfl, rfl, rfl, rfl⟩

/-- A field of the plan's word of bands written. -/
theorem bandOnly_put {k p : Nat} {f : Fld} (h : f.addr = (R.APL_APLL_PLAN_W3_BAND k p).addr) (v : Nat) (s : State) : BandOnly k p s (s.put f v) :=
  ⟨fun _ ha => rdWord_put_other _ _ _ (h ▸ ha), fun _ _ => rfl, rfl, rfl, rfl, rfl⟩

theorem bandStore_only (k b : Nat) (s : State) : BandOnly k (s.apll k).plan s (bandStore k b s) := by
  have h1 := bandOnly_put (k := k) (f := R.APL_APLL_PLAN_W3_BAND k (s.apll k).plan) rfl b s
  have h2 := h1.trans (bandOnly_put (f := R.APL_APLL_PLAN_W3_BAND_VALID k (s.apll k).plan) rfl 1 _)
  refine (h2.trans ?_).trans ((bandOnly_setApll k _ _ _).trans (bandOnly_setApll k _ _ _))
  exact bandOnly_put (f := R.APL_APLL_PLAN_W3_BAND_TJ k (s.apll k).plan) rfl _ _

/-- An APLL that enters SETTLING with LOCK set (08 R208, R209). -/
def lockSet (k : Nat) (u : State) : State :=
  (u.setApll k { u.apll k with st := 3, stable := 0, lockHeld := false, tries := 0 }).put (R.APL_APLL_STAT_LOCK k) 1

theorem lockSet_lock (k : Nat) (u : State) : (lockSet k u).get (R.APL_APLL_STAT_LOCK k) = 1 := by
  rw [lockSet, get_put_same _ _ _ (by simp [Fits, R.APL_APLL_STAT_LOCK])]
  simp [R.APL_APLL_STAT_LOCK]

theorem lockSet_apll_same (k : Nat) (u : State) : (lockSet k u).apll k = { u.apll k with st := 3, stable := 0, lockHeld := false, tries := 0 } :=
  apll_setApll_same u k _

theorem lockSet_apll_other {k j : Nat} (h : j ≠ k) (u : State) : (lockSet k u).apll j = u.apll j := apll_setApll_other u h _

theorem rdWord_lockSet_other {k a : Nat} (h : a ≠ (R.APL_APLL_STAT_LOCK k).addr) (u : State) : rdWord (lockSet k u) a = rdWord u a :=
  rdWord_put_other _ _ _ h

theorem lockSet_frame (k : Nat) (u : State) : (lockSet k u).out.outs = u.out.outs ∧ (lockSet k u).edge = u.edge ∧ (lockSet k u).irq = u.irq ∧
    (lockSet k u).tch = u.tch := by
  simp [lockSet, State.setApll]

/-- Settles O15: the band word is written where the band was a neighbour's (08 R210), and then LOCK alone. -/
theorem lockCriterionSetsLock : Obligations.LockCriterionSetsLock := by
  intro k n err dt s hr hst hn he
  have hx := exec_lockCriterionMet (dt := dt) hst hn he
  have htick : (s.apll k).tries = 0 → (if (s.apll k).tries = 0 then s.tick dt else bandStore k (s.apll k).band (s.tick dt)) = s.tick dt := fun h => if_pos h
  have hband : BandOnly k (s.apll k).plan (s.tick dt) (if (s.apll k).tries = 0 then s.tick dt else bandStore k (s.apll k).band (s.tick dt)) := by
    split
    · exact .refl _ _ _
    · exact bandStore_only k _ (s.tick dt)
  generalize (if (s.apll k).tries = 0 then s.tick dt else bandStore k (s.apll k).band (s.tick dt)) = u at hx htick hband
  have hlock := lockSet_lock k u
  have hme := lockSet_apll_same k u
  have hothers (j : Nat) (h : j ≠ k) : (lockSet k u).apll j = s.apll j := (lockSet_apll_other h u).trans (hband.apll j h)
  have hregs (a : Nat) (h1 : a ≠ (R.APL_APLL_STAT_LOCK k).addr) (h2 : a ≠ (R.APL_APLL_PLAN_W3_BAND k (s.apll k).plan).addr) :
      rdWord (lockSet k u) a = rdWord s a := (rdWord_lockSet_other h1 u).trans (hband.regs a h2)
  have hregs0 (h0 : (s.apll k).tries = 0) (a : Nat) (h1 : a ≠ (R.APL_APLL_STAT_LOCK k).addr) : rdWord (lockSet k u) a = rdWord s a := by
    rw [rdWord_lockSet_other h1, htick h0]
    rfl
  obtain ⟨houts, hedge, hirq, htch⟩ := lockSet_frame k u
  change exec _ s = live s (lockSet k u) at hx
  generalize lockSet k u = t at *
  refine ⟨_, hx.trans (live_of_no_reset hr t), hlock, congrArg ApllSt.st hme, congrArg ApllSt.stable hme, fun j hj => ?_,
    fun o => congrArg (tget ({} : OutSt) · o) (houts.trans hband.outs), hregs, hregs0, hedge.trans hband.edge, hirq.trans hband.irq, htch.trans hband.tch⟩
  have hjk : (j : Nat) ≠ k := fun h => hj (Fin.ext h)
  refine ⟨hothers j hjk, get_eq_of_rdWord (hregs _ ?_ ?_)⟩
  · simp only [R.APL_APLL_STAT_LOCK]; omega
  · simp only [R.APL_APLL_STAT_LOCK, R.APL_APLL_PLAN_W3_BAND]; omega

end Sys2Proof.Machine
end

section
/-! The GNSS signal path (09) and the time solution (10). -/

namespace Sys2Proof.Machine

/-! ## The front end's transfers (09 R233, R234) -/

section
variable {k : Nat} {s : State}

/-- An entry of a run of the table. -/
theorem feEntry_of_run (hf : s.gns.fe = some k) (ha : s.gns.agcRun = none) (rx : Nat) :
    let m := 2 ^ (s.get (R.GNS_FE_TBL_CTRL_LEN k) + 1)
    let v := rx % m
    let u := if s.flag (R.GNS_FE_TBL_CTRL_READ k) then s.put (R.GNS_FE_TBL_RX_RX k) v else s
    feEntry rx s = if u.flag (R.GNS_FE_TBL_CTRL_VERIFY k) && v != u.get (R.GNS_FE_TBL_DATA_DATA k) % m then
        feEnd (raiseEvt R.GNS_EVT_FE_ERR 184 ((u.put R.GNS_FE_STAT_ERR 1).put R.GNS_FE_STAT_ERR_IDX k))
      else if u.gns.feAbort then feEnd u
      else if u.get R.GNS_FE_CFG_N_ENT ≤ k + 1 then feEnd (raiseEvt R.GNS_EVT_FE_DONE 184 u)
      else u.setGns { u.gns with fe := some (k + 1), feAt := u.now, feHold := u.flag (R.GNS_FE_TBL_CTRL_HOLD_CS k) } := by
  intro m v u
  have hu : u.gns.agcRun = none := by
    simp only [u]
    split <;> exact ha
  simp only [feEntry, hf, ha, Option.isSome_none, Bool.or_false]
  change (match u.gns.agcRun with | some _ => _ | none => _) = _
  rw [hu]

/-- An entry of an AGC read. -/
theorem feEntry_of_agcRead {b : Nat} (hf : s.gns.fe = some k) (ha : s.gns.agcRun = some b) (rx : Nat) :
    let v := rx % 2 ^ (s.get (R.GNS_FE_TBL_CTRL_LEN k) + 1)
    feEntry rx s = feEnd ((s.put (R.GNS_FE_TBL_RX_RX k) v).put (if b = 0 then R.GNS_AGC_REF_AGC_B1 else R.GNS_AGC_REF_AGC_B5) v) := by
  simp [feEntry, hf, ha]

end

theorem exec_feEntryDone {rx : BitVec 32} {dt : Nat} {s : State} (hb : bankLow s 3 = false) (ho : feOver (s.tick dt) = true) :
    exec (.feEntryDone rx dt) s = live s (feEntry rx.toNat (s.tick dt)) := by
  refine congrArg (live s) ((if_pos ho).trans (congrArg (feEntry · (s.tick dt)) (if_neg ?_)))
  simpa [bankLow] using hb

/-! ## Search -/

/-- A dwell is packed from what the queue takes in. -/
theorem searchPlan_of_queue {s : State} {e : AcqEntry} {r : List AcqEntry} (hon : gnsOn s = true) (hok : s.flag R.GNS_STAT_SCLK_OK = true) (hd : s.gns.dwell = [])
    (hq : packOrder s (s.gns.queue.filter (entryLive s) ++ (searchList s).filter (fun e =>
      !(s.gns.queue.filter (entryLive s)).any (fun x => x.sys == e.sys && x.svid == e.svid && x.sig == e.sig))) = e :: r) :
    let p := (e :: r).foldl (packOne s (sigBand e.sig)) {}
    let u := (s.putB R.GNS_STAT_CODE_AIDED (codeAided s)).putB R.GNS_STAT_DOP_AIDED (!outputStale s .aiding && s.gns.aid.any (·.dop.isSome))
    let g : GnsSt := { s.gns with queue := p.rest, dwell := p.take, dwellFrom := s.strokes, dwellNc := p.take.foldl (fun a e => max a e.nc) 0 }
    searchPlan s = (u.setGns g).put R.GNS_STAT_SRCH_STATE 2 := by
  simp only [searchPlan, hon, hok, hd, List.isEmpty_nil, Bool.not_true, Bool.or_false, Bool.false_eq_true, if_false, hq]
  rfl

/-- A dwell whose time is over is tested, the strongest peak first. -/
theorem dwellDone_of_over {l : List DwellHit} {noise : List Nat} {s : State} (hon : gnsOn s = true) (hd : s.gns.dwell ≠ [])
    (ht : s.gns.dwellFrom + 8 * s.gns.dwellNc ≤ s.strokes) :
    let u := (s.setGns { s.gns with dwell := [] }).addSat R.GNS_ACQ_STAT_DWELLS 1
    let u := ((dwellOrder l s.gns.dwell).filter (fun p => entryLive u p.2)).foldl (fun s p => acqTest l noise p.1 p.2 s) (pmcAdd 320 1 {} u)
    dwellDone l noise s = u.put R.GNS_STAT_SRCH_STATE (if u.gns.queue.isEmpty && (searchList u).isEmpty then 0 else 1) :=
  if_neg (by simp [hon, hd, ht])

/-- Settles O16. -/
theorem gnssSearchCommandsComplete : Obligations.GnssSearchCommandsComplete := by
  refine ⟨?_, ?_, ?_, ?_, ?_, ?_, ?_, ?_, ?_, ?_, ?_, ?_, ?_, ?_, ?_⟩
  · exact fun dt s hr hd hl hs => gives_of_live_if hr ⟨hd, by simpa [State.flag] using hl, hs⟩ rfl
  · exact fun s hr hg ho => gives_of_live_if hr ⟨hg, by simp [ho]⟩ rfl
  · exact fun s hr hb ha hd => gives_of_live_ifNot hr (by simp [hb, ha, hd]) rfl
  · exact fun s hr hb => gives_of_live_if hr hb rfl
  · exact fun rx k dt s hr hb hf ha ho => gives_of_live_eq hr (exec_feEntryDone hb ho) (feEntry_of_run (s := s.tick dt) hf ha _)
  · exact fun rx k b dt s hr hb hf ha ho => gives_of_live_eq hr (exec_feEntryDone hb ho) (feEntry_of_agcRead (s := s.tick dt) hf ha _)
  · exact fun b s hr hd he hn => gives_of_live_if hr ⟨he, hd, hn⟩ rfl
  · intro b x s hr hon hb ht
    refine gives_of_live_if hr ⟨hon, hb, ?_⟩ rfl
    simpa [msPeriod] using ht
  · exact fun b n s hr ha hb => gives_of_live_if hr ⟨ha, hb⟩ rfl
  · exact fun l s hr hu ht => gives_of_live_eq hr rfl (taskHand_of_runs hu ht)
  · exact fun l s => rfl
  · exact fun e r s hr hon hok hd hq => gives_of_live_eq hr rfl (searchPlan_of_queue hon hok hd hq)
  · exact fun l noise s hr hon hd ht => gives_of_live_eq hr rfl (dwellDone_of_over hon hd ht)
  · intro n s hr c b x sig hx hb hon hl hd hq
    exact gives_of_live_if hr ⟨hx, hb, hon, hl, hd, Bool.eq_false_iff.mp hq⟩ rfl
  · exact fun s hr => gives_of_live hr rfl

/-! ## Tracking and the time solution -/

/-- One channel's measurements of the millisecond. -/
theorem trackTick_one {x : ChTick} {s : State} (hon : gnsOn s = true) (hx : x.ch < 96) (hi : (s.gch x.ch).idle = false) (hu : unitDown s (.gnssCh x.ch) = false) :
    let c := chTick s x (s.gch x.ch)
    let n := bit (c.b1.slip && !(s.gch x.ch).b1.slip) + bit (c.b5.slip && !(s.gch x.ch).b5.slip)
    trackTick [x] s = if n = 0 then s.setGch x.ch c else pmcAdd 324 n {} (s.setGch x.ch c) :=
  (if_pos hon).trans (if_neg (by simp [hi, hu]; omega))

/-- A band that times out, where the row to PLL does not match. -/
theorem bandTimeout_of_over {st lim n b : Nat} {s : State} (hst : ((s.gch n).band b).st = st) (hlim : lim ≤ ((s.gch n).band b).age)
    (hno : ((s.gch n).band b).good < s.get R.GNS_LOCK_TIME_PLI_CNT ∨ ((s.gch n).band b).good = 0) :
    bandTimeout st lim n b s = chFree n (bandDrop n b s) :=
  if_pos ⟨hst, hlim, by simpa using hno⟩

theorem measPinExpire_of_over {j : Iface} {p : Nat × Nat} {s : State} (hp : tget none s.gns.pins j.num = some p) (hl : p.2 + 800 ≤ s.strokes) :
    exec (.measPinExpire j) s = live s (s.setGns { s.gns with pins := tset none s.gns.pins j.num none }) := by
  change execMeasPinExpire j s = _
  simp [execMeasPinExpire, hp, hl]

/-- Settles O17. -/
theorem gnssTrackCommandsComplete : Obligations.GnssTrackCommandsComplete := by
  refine ⟨?_, ?_, ?_, ?_, ?_, ?_, ?_, ?_, ?_, ?_, ?_, ?_, ?_, ?_, ?_, ?_, ?_, ?_⟩
  · exact fun x s hr hon hx hi hu => gives_of_live_eq hr rfl (trackTick_one hon hx hi hu)
  · exact fun n b s hr hst hg h0 => gives_of_live_if hr ⟨hst, hg, h0⟩ rfl
  · exact fun n b s hr hst hl h0 => gives_of_live_if hr ⟨hst, hl, h0⟩ rfl
  · exact fun n b s hr hst hl hno => gives_of_live_eq hr rfl (bandTimeout_of_over hst hl hno)
  · exact fun n b s hr hst hl hno => gives_of_live_eq hr rfl (bandTimeout_of_over hst hl hno)
  · intro n b s hr x m h0 hboc hrun
    exact gives_of_live_ifNot hr (by simp only [not_or, not_not, not_lt]; exact ⟨h0, hboc, hrun⟩) rfl
  · exact fun n s hr => gives_of_live hr rfl
  · intro w v s hr
    exact writeIsQueued_of_rowWrite hr rfl (by simp only []; omega) (by simp only []; omega)
  · exact fun j s hr => ⟨gives_of_live hr rfl, gives_of_live hr rfl⟩
  · exact fun j p s hr hp hl => gives_of_live hr (measPinExpire_of_over hp hl)
  · exact fun o s hr hs hu ht => gives_of_live_eq hr rfl ((if_pos hs).trans (taskHand_of_runs hu ht))
  · exact fun o s => rfl
  · exact fun s hr => gives_of_live hr rfl
  · exact fun v s hr => ⟨writeIsQueued_of_rowWrite hr rfl (by decide) (by decide), writeIsQueued_of_rowWrite hr rfl (by decide) (by decide)⟩
  · exact fun s hr => gives_of_live hr rfl
  · exact fun s hr hst => gives_of_live_if hr hst rfl
  · exact fun s hr hst h0 hl => gives_of_live_if hr ⟨hst, h0, hl⟩ rfl
  · exact fun s hr hst hl => gives_of_live_if hr ⟨hst, hl⟩ rfl

end Sys2Proof.Machine
end

section
/-! The epoch's latch (09 R251). -/

namespace Sys2Proof.Machine

/-- A channel's entry in an epoch's record (09 R251): its NCOs on the latched sample; a channel that is free has none. -/
def chLatched (s : State) (l : List ChLatch) (n : Nat) : Option (Nat × GnsCh × BandLatch × BandLatch) :=
  let c := s.gch n
  if c.idle then none
  else
    let x := (l.find? (fun x => x.ch == n)).getD { ch := n, t := 0, b1 := { code := 0, phase := 0, dop := c.b1.dop }, b5 := { code := 0, phase := 0, dop := c.b5.dop } }
    some (n, c, bandLatch s x.t 0 (bandNco s c 0 x.b1 x.b5) c.b1, bandLatch s x.t 1 (bandNco s c 1 x.b1 x.b5) c.b5)

/-- An entry names a channel that is not free. -/
theorem busy_of_mem_chLatched {s : State} {l : List ChLatch} {e : Nat × GnsCh × BandLatch × BandLatch}
    (h : e ∈ (List.range 96).filterMap (chLatched s l)) : (s.gch e.1).idle = false ∧ e.1 < 96 := by
  obtain ⟨n, hn, he⟩ := List.mem_filterMap.mp h
  cases hi : (s.gch n).idle with
  | true => simp [chLatched, hi] at he
  | false =>
    simp only [chLatched, hi, Bool.false_eq_true, if_false, Option.some.injEq] at he
    subst he
    exact ⟨hi, List.mem_range.mp hn⟩

/-- The record that an armed epoch's latch makes (09 R251, R253). -/
def epochRec (s : State) (target : Int) (idx code : Nat) (l : List ChLatch) : GnsRec :=
  let st := latchStamp s s.raw code
  { seq := (s.gns.seq + 1) % 2 ^ 32, target := target, latch := st.1, res := etTotal s.etm st.1 / 2 ^ 38 - target / 64,
    rate := s.get R.GNS_SCLK_RATE_SCLK_RATE, idx := idx % 2 ^ 32, ji1 := s.get R.GNS_JAM_JI_B1, ji5 := s.get R.GNS_JAM_JI_B5,
    eflags := bit st.2 + 2 * bit s.gns.gap + 4 * bit s.gns.span + 8 * bit s.gns.notchChg + 16 * bit (s.flag R.GNS_STAT_CODE_AIDED),
    joint := s.flag R.GNS_CTL_JOINT_EN, chs := (List.range 96).filterMap (chLatched s l) }

/-- The notches as the next record compares them. -/
def notchRefs (s : State) : Tbl NotchSt :=
  (List.range 8).foldl (fun t k => tset {} t k { tget {} t k with ref := s.getI (R.GNS_NOTCH_FREQ_FREQ (k / 4) (k % 4)) }) s.gns.notches

/-- The baseband's state once the record of epoch a is made. -/
def epochDone (s : State) (a : Int) (r : GnsRec) : GnsSt :=
  { s.gns with
    armed := none, last := a, gap := false, span := false, notchChg := false, notches := notchRefs s, seq := r.seq,
    pend := some (r, s.strokes + 2) }

/-- The armed latch at its instant makes the record, and leaves everything but the baseband's own state. -/
theorem epochLatch_of_armed {s : State} {a : Int × Nat} (idx code : Nat) (l : List ChLatch) (ha : s.gns.armed = some a) (hon : gnsOn s = true)
    (hd : 0 ≤ rawDiff ((latchStamp s s.raw code).1 / 4096) a.2) :
    epochLatch idx code l s = s.setGns (epochDone s a.1 (epochRec s a.1 idx code l)) := by
  simp only [epochLatch, ha, hon, Bool.not_true, Bool.false_eq_true, if_false, not_lt.mpr hd]
  rfl

/-- What the record says of its epoch. -/
theorem epochRec_eq (s : State) (a : Int) (idx code : Nat) (l : List ChLatch) :
    (epochRec s a idx code l).target = a ∧ (epochRec s a idx code l).seq = (s.gns.seq + 1) % 2 ^ 32 ∧ (epochRec s a idx code l).idx = idx % 2 ^ 32 ∧
      (epochRec s a idx code l).latch = (latchStamp s s.raw code).1 ∧ (epochRec s a idx code l).chs = (List.range 96).filterMap (chLatched s l) :=
  ⟨rfl, rfl, rfl, rfl, rfl⟩

theorem epochDone_eq (s : State) (a : Int) (r : GnsRec) :
    (epochDone s a r).pend = some (r, s.strokes + 2) ∧ (epochDone s a r).armed = none ∧ (epochDone s a r).last = a ∧ (epochDone s a r).seq = r.seq ∧
      (epochDone s a r).chs = s.gns.chs ∧ (epochDone s a r).queue = s.gns.queue := by
  simp [epochDone]

/-- Settles O18. -/
theorem epochLatchMakesTheRecord : Obligations.EpochLatchMakesTheRecord := by
  intro idx code l dt a s hr ha hon hd
  have hx : exec (.epochLatch idx code l dt) s = live s (epochLatch idx.toNat code.toNat l (s.tick dt)) := rfl
  rw [epochLatch_of_armed (s := s.tick dt) idx.toNat code.toNat l ha hon hd] at hx
  obtain ⟨htarget, hseq, hidx, hlatch, hchs⟩ := epochRec_eq (s.tick dt) a.1 idx.toNat code.toNat l
  generalize epochRec (s.tick dt) a.1 idx.toNat code.toNat l = r at *
  obtain ⟨hpend, harmed, hlast, hgseq, hgchs, hqueue⟩ := epochDone_eq (s.tick dt) a.1 r
  generalize epochDone (s.tick dt) a.1 r = g at *
  refine ⟨_, r, hx.trans (live_of_no_reset hr _), hpend, htarget, hseq, ?_, hlatch, fun e he => ?_, harmed, hlast, hgseq, hgchs, hqueue, ?_⟩
  · rw [hidx, Nat.mod_eq_of_lt idx.isLt]
  · exact busy_of_mem_chLatched (s := s.tick dt) (hchs ▸ he)
  · simp

end Sys2Proof.Machine
end

section
/-! The serial lanes (11). -/

namespace Sys2Proof.Machine

section
variable {k : Nat} {s : State}

/-! ## The stages' rows (11 R285 to R288) -/

theorem laneProbe_of_due {found : Bool} (hst : laneStage s k = 1) (he : s.flag (R.LAN_LANE_CFG_DET_EN k) = true)
    (hat : ∀ t, (s.lane k).probeAt = some t → t ≤ s.now) :
    let n := if found then (s.lane k).probes + 1 else 0
    let o : LaneSt := { s.lane k with probes := n, probeAt := some (s.now + s.get (R.LAN_LANE_TMR0_DET_PER k) * msCounts) }
    let u := (s.setLane k o).putB (R.LAN_LANE_STAT_PARTNER k) found
    laneProbe k found s = if 2 ≤ n then stageGo k (laneStartStage u k) u else u := by
  refine if_neg (not_or.mpr ⟨not_not.mpr hst, not_or.mpr ⟨by simp [he], ?_⟩⟩)
  cases hp : (s.lane k).probeAt with
  | none => simp
  | some t => simpa using hat t hp

theorem laneTrained_of_trained {ctle dfe : Nat} {fec : Bool} (hst : laneStage s k = 2) (hp : lanePrl s k = true → prlTrained s k = true) :
    let u := (s.put (R.LAN_LANE_RXEQ_CTLE k) ctle).put (R.LAN_LANE_RXEQ_DFE1 k) dfe
    laneTrained k ctle dfe fec s =
      stageGo k 3 (if laneAn u k then u.setLane k { u.lane k with fec := fec || u.flag (R.LAN_LANE_AN_ADV_F2 k) } else u) := by
  refine if_neg (not_or.mpr ⟨not_not.mpr hst, ?_⟩)
  cases h : lanePrl s k with
  | false => simp
  | true => simp [hp h]

theorem laneAccept_port {a : Nat} (hst : laneStage s k = 4) (hp : lanePrl s k = false) (ha : hcdOk s k a = true) : laneAccept k a s = laneUp k s :=
  if_pos ⟨hst, by simpa [hp] using ha⟩

theorem laneAccept_prl {a : Nat} (hst : laneStage s k = 4) (hp : lanePrl s k = true) (hpart : (s.path (lanePath k)).part.isSome = true)
    (he : (s.path (lanePath k)).exch.any (fun e => decide (16 ≤ e.2)) = true) : laneAccept k a s = laneUp k s :=
  if_pos ⟨hst, by simp [hp, hpart, he]⟩

theorem laneRefuse_port {a : Nat} (hst : laneStage s k = 4) (hp : lanePrl s k = false) (ha : hcdOk s k a = false) : laneRefuse k a s = laneFail k 5 s := by
  simp [laneRefuse, hst, hp, ha]

theorem laneRefuse_prl {a : Nat} (hst : laneStage s k = 4) (hp : lanePrl s k = true)
    (he : (s.path (lanePath k)).exch.any (fun e => e.2 == 0) = true) : laneRefuse k a s = laneFail k 7 s :=
  (if_neg (not_not.mpr hst)).trans ((if_pos hp).trans (if_pos he))

end

theorem exec_prbsLock {k : Fin 16} {l : List Bool} {dt : Nat} {s : State} (hst : laneStage s k = 6) (hl : patLocks s k l = true)
    (hf : s.flag (R.LAN_LANE_PRBS_STAT_LOCK k) = false) :
    exec (.prbsLock k l dt) s = live s (raiseEvt (R.LAN_LANE_EVT_PRBS_LOCK k) (100 + k) ((s.tick dt).put (R.LAN_LANE_PRBS_STAT_LOCK k) 1)) :=
  congrArg (live s) (if_pos ⟨hst, hl, congrArg (!·) hf⟩)

/-- Settles O19. -/
theorem laneCommandsComplete : Obligations.LaneCommandsComplete := by
  refine ⟨?_, ?_, ?_, ?_, ?_, ?_, ?_, ?_, ?_, ?_, ?_, ?_, ?_, ?_, ?_, ?_, ?_, ?_, ?_⟩
  · exact fun k v dt s hr => gives_of_live hr rfl
  · exact fun k en dt s hr => gives_of_live hr rfl
  · exact fun q v dt s hr => gives_of_live hr rfl
  · exact fun k found dt s hr hst he hat => gives_of_live_eq hr rfl (congrArg (laneSettle k) (laneProbe_of_due (s := s.tick dt) hst he hat))
  · exact fun k ctle dfe fec dt s hr hst hp => gives_of_live_eq hr rfl (congrArg prlSync (laneTrained_of_trained hst hp))
  · intro k dt s hr u
    refine ⟨fun hst h => ?_, fun hst h => ?_, fun hst h => ?_, fun hst h => ?_⟩
    all_goals exact gives_of_live_if hr ⟨hst, h⟩ rfl
  · exact fun k align dt s hr hst => gives_of_live_eq hr rfl (congrArg prlSync (if_neg (not_not.mpr hst)))
  · intro k a dt s hr u hst
    refine ⟨fun hp ha => ?_, fun hp hpart he => ?_, fun hp ha => ?_, fun hp he => ?_⟩
    · exact gives_of_live_eq hr rfl (congrArg prlSync (laneAccept_port hst hp ha))
    · exact gives_of_live_eq hr rfl (congrArg prlSync (laneAccept_prl hst hp hpart he))
    · exact gives_of_live_eq hr rfl (congrArg prlSync (laneRefuse_port hst hp ha))
    · exact gives_of_live_eq hr rfl (congrArg prlSync (laneRefuse_prl hst hp he))
  · exact fun k dt s hr => gives_of_live hr rfl
  · exact fun k dt s hr => gives_of_live hr rfl
  · exact fun k dt s hr hc => gives_of_live_eq hr rfl (congrArg prlSync (if_neg (by simp [State.lane] at hc ⊢; exact hc)))
  · exact fun k hiBer dt s hr ha => gives_of_live_if hr ha rfl
  · exact fun q dt s hr => gives_of_live hr rfl
  · exact fun k s => ⟨fun h => if_pos h, fun h => if_neg (Bool.eq_false_iff.mp h)⟩
  · exact fun k l dt s hr hst hl hf => gives_of_live hr (exec_prbsLock hst hl hf)
  · exact fun k bad dt s hr hf hb => gives_of_live_if hr ⟨hf, hb⟩ rfl
  · exact fun k s hr hst hi => ⟨gives_of_live_if hr ⟨hst, hi⟩ rfl, gives_of_live_if hr ⟨hst, hi⟩ rfl⟩
  · exact fun k s hr => gives_of_live hr rfl
  · exact fun k s hr => gives_of_live hr rfl

/-! ## The pattern that locks (11 R292) -/

section
variable (k : Fin 16) (s : State)

/-- A lane's registers are in window 12. -/
theorem winOf_lane {a : Nat} (h1 : 0x0C0000 ≤ a) (h2 : a < 0x0D0000) : winOf a ≠ 0x14 ∧ winOf a ≠ 0x15 := by
  rw [winOf_eq (w := 0x0C) h1 h2 (by decide)]
  decide

/-- The block with a pattern locked on lane k. -/
def prbsLocked : State := raiseEvt (R.LAN_LANE_EVT_PRBS_LOCK k) (100 + k) (s.put (R.LAN_LANE_PRBS_STAT_LOCK k) 1)

theorem winOf_prbsEvt : winOf (R.LAN_LANE_EVT_PRBS_LOCK k).addr ≠ 0x14 ∧ winOf (R.LAN_LANE_EVT_PRBS_LOCK k).addr ≠ 0x15 := by
  apply winOf_lane <;> simp only [R.LAN_LANE_EVT_PRBS_LOCK] <;> omega

theorem prbsLocked_frame : (prbsLocked k s).edge = s.edge ∧ (prbsLocked k s).lan = s.lan ∧ (prbsLocked k s).prl = s.prl ∧ (prbsLocked k s).mac = s.mac :=
  ⟨raiseEvt_edge .., raiseEvt_lan .., raiseEvt_prl .., raiseEvt_mac ..⟩

theorem rdWord_prbsLocked_other {a : Nat} (h14 : winOf a ≠ 0x14) (h15 : winOf a ≠ 0x15) (hs : a ≠ (R.LAN_LANE_PRBS_STAT_LOCK k).addr)
    (he : a ≠ (R.LAN_LANE_EVT_PRBS_LOCK k).addr) : rdWord (prbsLocked k s) a = rdWord s a := by
  rw [prbsLocked, rdWord_raiseEvt_other _ _ _ he h14 h15, rdWord_put_other _ _ _ hs]

theorem prbsLocked_evt : (prbsLocked k s).get (R.LAN_LANE_EVT_PRBS_LOCK k) = 1 :=
  raiseEvt_get_same _ _ _ (by simp [Fits, R.LAN_LANE_EVT_PRBS_LOCK]) (winOf_prbsEvt k).1 (winOf_prbsEvt k).2

theorem prbsLocked_lock : (prbsLocked k s).get (R.LAN_LANE_PRBS_STAT_LOCK k) = 1 := by
  have hwin : winOf (R.LAN_LANE_PRBS_STAT_LOCK k).addr ≠ 0x14 ∧ winOf (R.LAN_LANE_PRBS_STAT_LOCK k).addr ≠ 0x15 := by
    apply winOf_lane <;> simp only [R.LAN_LANE_PRBS_STAT_LOCK] <;> omega
  have hne : (R.LAN_LANE_PRBS_STAT_LOCK k).addr ≠ (R.LAN_LANE_EVT_PRBS_LOCK k).addr := by
    simp only [R.LAN_LANE_PRBS_STAT_LOCK, R.LAN_LANE_EVT_PRBS_LOCK]; omega
  rw [prbsLocked, get_eq_of_rdWord (rdWord_raiseEvt_other _ _ _ hne hwin.1 hwin.2), get_put_same _ _ _ (by simp [Fits, R.LAN_LANE_PRBS_STAT_LOCK])]
  simp [R.LAN_LANE_PRBS_STAT_LOCK]

end

/-- Settles O20: LOCK and the event are bits of two registers of the lane, and the event raises its interrupt and its counter. -/
theorem patternLockSetsItsFlag : Obligations.PatternLockSetsItsFlag := by
  intro k l dt s hr hst hl hf
  have hx : exec (.prbsLock k l dt) s = live s (prbsLocked k (s.tick dt)) := exec_prbsLock hst hl hf
  have hlock := prbsLocked_lock k (s.tick dt)
  have hevt := prbsLocked_evt k (s.tick dt)
  have hregs (a : Nat) (h14 : winOf a ≠ 0x14) (h15 : winOf a ≠ 0x15) (hs : a ≠ (R.LAN_LANE_PRBS_STAT_LOCK k).addr)
      (he : a ≠ (R.LAN_LANE_EVT_PRBS_LOCK k).addr) : rdWord (prbsLocked k (s.tick dt)) a = rdWord s a := rdWord_prbsLocked_other k (s.tick dt) h14 h15 hs he
  obtain ⟨hedge, hlan, hprl, hmac⟩ := prbsLocked_frame k (s.tick dt)
  generalize prbsLocked k (s.tick dt) = t at *
  have hlane (a : Nat) (h1 : 0x0C0000 ≤ a) (h2 : a < 0x0D0000) := hregs a (winOf_lane h1 h2).1 (winOf_lane h1 h2).2
  refine ⟨_, hx.trans (live_of_no_reset hr t), hlock, hevt, ?_, ?_, fun j hj => ?_, hregs, hedge, hlan, hprl, hmac⟩
  · refine get_eq_of_rdWord (hlane _ ?_ ?_ ?_ ?_) <;> simp only [R.LAN_LANE_BITS_LO_BITS, R.LAN_LANE_PRBS_STAT_LOCK, R.LAN_LANE_EVT_PRBS_LOCK] <;> omega
  · refine get_eq_of_rdWord (hlane _ ?_ ?_ ?_ ?_) <;> simp only [R.LAN_LANE_ERR_LO_ERR, R.LAN_LANE_PRBS_STAT_LOCK, R.LAN_LANE_EVT_PRBS_LOCK] <;> omega
  · have hjk : (j : Nat) ≠ k := fun h => hj (Fin.ext h)
    constructor
    · refine get_eq_of_rdWord (hlane _ ?_ ?_ ?_ ?_) <;> simp only [R.LAN_LANE_STAT_STAGE, R.LAN_LANE_PRBS_STAT_LOCK, R.LAN_LANE_EVT_PRBS_LOCK] <;> omega
    · refine get_eq_of_rdWord (hlane _ ?_ ?_ ?_ ?_) <;> simp only [R.LAN_LANE_PRBS_STAT_LOCK, R.LAN_LANE_EVT_PRBS_LOCK] <;> omega

end Sys2Proof.Machine
end

section
/-! The MACs and the host's frames (12). -/

namespace Sys2Proof.Machine

/-! ## Submission (12 R319) -/

theorem flag_setMac (s : State) (m : MacSt) (f : Fld) : (s.setMac m).flag f = s.flag f := rfl

/-- The frame that a submission with no stamp, no one-step field and no Follow_Up makes of the transmit buffer. -/
def submitted (s : State) : TxFrame :=
  { src := 0, bytes := s.mac.htx.take (s.get R.MAC_HTX_DESC_W0_LEN), ip := s.flag R.MAC_HTX_DESC_W0_CSUM_IP, udp := s.flag R.MAC_HTX_DESC_W0_CSUM_UDP, at' := s.now }

theorem htxSubmit_of_checked {s : State} {k : Nat} (hk : s.get R.MAC_HTX_DESC_W0_PORT = k)
    (hlen : s.mac.htx.length = (s.get R.MAC_HTX_DESC_W0_LEN + 3) / 4 * 4)
    (hmax : s.get R.MAC_HTX_DESC_W0_LEN + 4 ≤ s.get (R.MAC_PORT_CFG_MAX_LEN k) + 4 * frameTags (submitted s).bytes) (hp : lanePrl s k = false)
    (hfree : htxUnits (s.get R.MAC_HTX_DESC_W0_LEN) ≤ htxFree s) (hfu : s.flag R.MAC_HTX_DESC_W0_FU = false) (hts : s.flag R.MAC_HTX_DESC_W0_TS_REQ = false)
    (hos : s.flag R.MAC_HTX_DESC_W0_ONESTEP = false) (ha : laneActive s k = true) :
    htxSubmit s = (s.setMac { s.mac with htx := [] }).setPort k { s.port k with tx := (s.port k).tx ++ [submitted s] } := by
  subst hk
  refine (if_neg (not_not.mpr hlen)).trans ((if_neg (not_lt.mpr hmax)).trans ((if_neg (Bool.eq_false_iff.mp hp)).trans
    ((if_neg (not_lt.mpr hfree)).trans ((if_neg ?_).trans ?_))))
  · simp [flag_setMac, hfu]
  · simp only [flag_setMac, hts, hos, Bool.false_eq_true, if_false]
    exact if_pos ha

/-- Settles O22. -/
theorem submitQueuesTheFrame : Obligations.SubmitQueuesTheFrame := by
  intro k s hr len hk hlen hmax hp hfree hfu hts hos ha
  have hx : exec .htxSubmit s = live s _ := congrArg (live s) (htxSubmit_of_checked hk hlen hmax hp hfree hfu hts hos ha)
  refine ⟨_, submitted s, hx.trans (live_of_no_reset hr _), ?_, rfl, rfl, rfl, rfl, rfl, fun n hn => ?_, rfl, rfl, rfl, rfl, rfl, rfl, rfl⟩
  · exact congrArg MacPort.tx (tget_tset_same _ _ _ _)
  · exact tget_tset_other _ _ _ _ hn

/-! ## The received frames (12 R320) -/

/-- A word is read from the frame at the head. -/
theorem hrxRead_of_frame {f : RxFrame} {r : List RxFrame} {s : State} (hq : s.mac.hrx = f :: r) (hd : domOn s (4 + f.port / 4) = true) :
    hrxRead s = (frameWord f.bytes s.mac.hrxPos, s.setMac { s.mac with hrxPos := min f.bytes.length (s.mac.hrxPos + 4) }) := by
  simp only [hrxRead, hq, List.head?_cons, hd, if_true]

/-- Settles O23. -/
theorem receiveBufferIsReadInOrder : Obligations.ReceiveBufferIsReadInOrder := by
  intro f r s hr hq hd hpos
  have hread := hrxRead_of_frame hq hd
  have hx : exec .hrxDataRead s = live s _ := congrArg (fun p : Nat × State => live s p.2) hread
  have hpop : exec .hrxPop s = live s (hrxPop s) := rfl
  refine ⟨⟨_, hx.trans (live_of_no_reset hr _), congrArg Prod.fst hread, rfl, ?_, min_le_left _ _, fun h => min_eq_right h, rfl, rfl, rfl, rfl⟩,
    ⟨_, hpop.trans (live_of_no_reset hr _), congrArg List.tail hq, rfl, rfl, rfl, rfl, rfl⟩⟩
  exact le_min hpos (Nat.le_add_right _ _)

/-- Settles O21. -/
theorem macCommandsComplete : Obligations.MacCommandsComplete := by
  refine ⟨?_, ?_, ?_, ?_, ?_, ?_, ?_, ?_, ?_⟩
  · intro k b wf bf dt s hr hp hu ha
    refine ⟨gives_of_live hr rfl, fun hb => gives_of_live_eq hr rfl ((if_neg ?_).trans (if_pos (by simpa using hb)))⟩
    change ¬ (lanePrl s k || unitDown s (.mac k) || !(laneActive s k || false)) = true
    simp [hp, hu, ha]
  · exact fun v s hr hl => gives_of_live_if hr hl rfl
  · exact fun s hr hlen hmax hp hfree hfu hts hos ha => gives_of_live_eq hr rfl (htxSubmit_of_checked rfl hlen hmax hp hfree hfu hts hos ha)
  · exact fun s hr => gives_of_live hr rfl
  · exact fun k wf bf cut dt f rest s hr hn hup => gives_of_live hr rfl
  · intro j k s hr hq hd
    refine gives_of_live_eq hr rfl (congrArg Prod.snd (if_neg ?_))
    simp [hd, hq]
  · exact fun f r s hr hq hd => gives_of_live_eq hr rfl (congrArg Prod.snd (hrxRead_of_frame hq hd))
  · exact fun s hr => gives_of_live hr rfl
  · intro k dt s hr he
    refine ⟨fun hd => gives_of_live_if hr ?_ rfl, fun hc => gives_of_live_if hr ?_ rfl⟩
    · simp [he, hd]
    · simp [he, hc]

end Sys2Proof.Machine
end

section
/-! The Mallets' requests, and the session table's READ and a cancelled session (13). -/

namespace Sys2Proof.Machine

/-! ## The head of a Mallet's queue -/

section
variable {m bf w : Nat} {f : MalFrame} {r : List MalFrame} {s : State}

/-- The head that waits for no edge goes to its row's handler. -/
theorem onHead_of_head {ok : List Nat → Bool} (hq : (s.mal m).q.head? = some f) (hw : f.wait = none) (hu : unitDown s (.mallet m) = false)
    (hd : domOn s 2 = true) (hok : ok f.f.bytes = true) (h : MalFrame → State → State) : onHead m ok h s = h f s := by
  simp [onHead, malHead, hq, hw, hu, hd, hok]

section
variable (hq : (s.mal m).q = f :: r) (hw : f.wait = some w) (hlt : w < s.strokes)
include hq hw hlt

/-- After its edge the head that waited is built, by its kind. -/
theorem retryHead_ntp (hk : frameKind f.f.bytes = 3) : retryHead m bf s = ntpBuild m bf f s := by
  simp [retryHead, hq, hw, hk, not_le.mpr hlt, ntpRequest]

theorem retryHead_nts (hk : frameKind f.f.bytes = 6) : retryHead m bf s = ntsRequest m bf f s := by
  simp [retryHead, hq, hw, hk, not_le.mpr hlt]

theorem retryHead_arp (hk : frameKind f.f.bytes = 4) : retryHead m bf s = arpRequest m bf f s := by
  simp [retryHead, hq, hw, hk, not_le.mpr hlt]

theorem retryHead_ns (hk : frameKind f.f.bytes = 5) : retryHead m bf s = nsRequest m bf f s := by
  simp [retryHead, hq, hw, hk, not_le.mpr hlt]

/-- A PTP message that waited acts without being verified again. -/
theorem retryHead_ptp (hk : frameKind f.f.bytes = 1 ∨ frameKind f.f.bytes = 2) (hp : ptpParse s f.f.port f.f.bytes = 0) :
    retryHead m bf s = ptpAct m bf f s := by
  rcases hk with hk | hk <;> simp [retryHead, hq, hw, hk, not_le.mpr hlt, ptpFrameRx, hp]

end

/-- A queued PTP message of a type. -/
theorem isPtp_iff {ty : Nat} {b : List Nat} : isPtp ty b = true ↔ (frameKind b = 1 ∨ frameKind b = 2) ∧ ptpType (ptpOf b) = ty := by
  simp [isPtp]

theorem ptpAct_delayReq (hty : ptpType (ptpOf f.f.bytes) = 1) : ptpAct m bf f s = delayReqRx m bf f (ptpOf f.f.bytes) s := by
  simp [ptpAct, hty]

theorem ptpAct_signal (hty : ptpType (ptpOf f.f.bytes) = 12) : ptpAct m bf f s = signalRx m bf f (ptpOf f.f.bytes) s := by
  simp [ptpAct, hty]

/-- An ARP request whose answer has its reservation. -/
theorem arpRequest_of_reserved {x : (Nat × Bool) × Nat} (he : s.flag R.TSV_CTL_ARP_EN = true)
    (hop : be16 (sub f.f.bytes (etAt f.f.bytes + 2) 28) 6 = 1) :
    let b := f.f.bytes
    let a := sub b (etAt b + 2) 28
    let frame := ethFrame (sub b 6 6) (portAddr s f.f.port) (sub b 12 (4 * frameTags b)) 0x0806 (arpBody s f.f.port 2 (sub a 24 4) (sub a 8 6) (sub a 14 4))
    reserve s f.f.port bf (lineLen frame.length) = some x →
    arpRequest m bf f s = malEmit m f.f.port x { src := 1, bytes := frame, tag := f.f.tag } (malPop m s) := by
  intro b a frame hx
  refine (if_neg (by simp [he, hop])).trans ?_
  change (match reserve s f.f.port bf (lineLen frame.length) with | none => malWait m f s | some r => _) = _
  rw [hx]

end

/-- Settles O24. -/
theorem malletRequestsComplete : Obligations.MalletRequestsComplete := by
  refine ⟨?_, ?_, ?_, ?_⟩
  · intro m bf dt f r s hr hq hw hu hd
    have hhead : ((s.tick dt).mal m).q.head? = some f := congrArg List.head? hq
    refine ⟨fun hk => ?_, fun hk => ?_, fun hk => ?_, fun hk => ?_⟩
    all_goals exact gives_of_live_eq hr rfl (onHead_of_head hhead hw hu hd (by simp [hk]) _)
  · intro m bf dt w f r s hr hq hw hlt u
    have hq' : (u.mal m).q = f :: r := hq
    have hlt' : w < u.strokes := hlt
    refine ⟨fun hk => ?_, fun hk => ?_, fun hk => ?_, fun hk => ?_, fun hk hp => ?_, fun hk hp => ?_⟩
    all_goals refine gives_of_live_eq hr rfl (congrArg (retryDue m bf) ?_)
    · exact retryHead_ntp hq' hw hlt' hk
    · exact retryHead_nts hq' hw hlt' hk
    · exact retryHead_arp hq' hw hlt' hk
    · exact retryHead_ns hq' hw hlt' hk
    · exact (retryHead_ptp hq' hw hlt' (isPtp_iff.mp hk).1 hp).trans (ptpAct_delayReq (isPtp_iff.mp hk).2)
    · exact (retryHead_ptp hq' hw hlt' (isPtp_iff.mp hk).1 hp).trans (ptpAct_signal (isPtp_iff.mp hk).2)
  · intro m bf dt w f l r s hr hq hw hlt hk u b a frame he hop hx
    have harp : retryHead m bf u = arpRequest m bf f u := retryHead_arp (s := u) hq hw hlt hk
    exact gives_of_live_eq hr rfl (congrArg (retryDue m bf) (harp.trans (arpRequest_of_reserved (s := u) he hop hx)))
  · intro j dt s hr hst he
    refine gives_of_live_if hr ⟨hst, ?_⟩ rfl
    simpa using he

/-! ## The session table (13 R351, R352) -/

/-- The sixteen entry words are words of their own. -/
theorem rdWord_foldl_put_other {g : Nat → Fld} {v : Nat → Nat} {a : Nat} (l : List Nat) (h : ∀ w ∈ l, a ≠ (g w).addr) (s : State) :
    rdWord (l.foldl (fun s w => s.put (g w) (v w)) s) a = rdWord s a := by
  induction l generalizing s with
  | nil => rfl
  | cons w l ih =>
    rw [List.foldl_cons, ih (fun x hx => h x (List.mem_cons_of_mem _ hx)), rdWord_put_other _ _ _ (h w List.mem_cons_self)]

/-- Each of a list of fields of distinct registers reads what was put into it. -/
theorem get_foldl_put {g : Nat → Fld} {v : Nat → Nat} {w : Nat} (hf : ∀ x, Fits (g x)) (hne : ∀ x y, x ≠ y → (g x).addr ≠ (g y).addr) {l : List Nat}
    (hl : l.Nodup) (hw : w ∈ l) (s : State) :
    (l.foldl (fun s w => s.put (g w) (v w)) s).get (g w) = v w % 2 ^ ((g w).hi - (g w).lo + 1) := by
  induction l generalizing s with
  | nil => cases hw
  | cons x l ih =>
    obtain ⟨hx, hl⟩ := List.nodup_cons.mp hl
    rw [List.foldl_cons]
    rcases List.mem_cons.mp hw with rfl | hw
    · rw [get_eq_of_rdWord (rdWord_foldl_put_other l (fun y hy => hne w y (fun h => hx (h ▸ hy))) _), get_put_same _ _ _ (hf w)]
    · exact ih hl hw _

theorem foldl_put_frame {g : Nat → Fld} {v : Nat → Nat} (l : List Nat) (s : State) :
    let t := l.foldl (fun s w => s.put (g w) (v w)) s
    t.tsv = s.tsv ∧ t.mac = s.mac ∧ t.edge = s.edge := by
  induction l generalizing s with
  | nil => exact ⟨rfl, rfl, rfl⟩
  | cons w l ih => exact ih _

/-- Settles O28. -/
theorem sessionReadCopiesTheEntry : Obligations.SessionReadCopiesTheEntry := by
  intro s hr
  have hx : exec .sessRead s = live s (sessRead s) := rfl
  have haddr (x y : Nat) (h : x ≠ y) : (R.TSV_SESS_W_ENTRY x).addr ≠ (R.TSV_SESS_W_ENTRY y).addr := by
    simp only [R.TSV_SESS_W_ENTRY]; omega
  have hfit (x : Nat) : Fits (R.TSV_SESS_W_ENTRY x) := by simp [Fits, R.TSV_SESS_W_ENTRY]
  have hword (w : Nat) (hw : w < 16) : (sessRead s).get (R.TSV_SESS_W_ENTRY w) = ofLe (sub (sessBytes s (s.get R.TSV_SESS_IDX_IDX)) (4 * w) 4) % 2 ^ 32 := by
    rw [sessRead, get_foldl_put hfit haddr List.nodup_range (List.mem_range.mpr hw)]
    rfl
  have hbusy : (sessRead s).get R.TSV_SESS_CMD_BUSY = 1 := by
    rw [sessRead, get_eq_of_rdWord (rdWord_foldl_put_other _ (fun w hw => ?_) _), get_put_same _ _ _ (by simp [Fits, R.TSV_SESS_CMD_BUSY])]
    · decide
    · have := List.mem_range.mp hw
      simp only [R.TSV_SESS_W_ENTRY, R.TSV_SESS_CMD_BUSY]; omega
  have hregs (a : Nat) (ha : ∀ w < 16, a ≠ (R.TSV_SESS_W_ENTRY w).addr) (hb : a ≠ R.TSV_SESS_CMD_BUSY.addr) : rdWord (sessRead s) a = rdWord s a := by
    rw [sessRead, rdWord_foldl_put_other _ (fun w hw => ha w (List.mem_range.mp hw)), rdWord_put_other _ _ _ hb]
  obtain ⟨htsv, hmac, hedge⟩ : (sessRead s).tsv = s.tsv ∧ (sessRead s).mac = s.mac ∧ (sessRead s).edge = s.edge := by
    rw [sessRead]
    exact foldl_put_frame (List.range 16) (s.put R.TSV_SESS_CMD_BUSY 1)
  generalize sessRead s = t at *
  exact ⟨_, hx.trans (live_of_no_reset hr t), hword, hbusy, hregs, htsv, hmac, hedge⟩

@[simp] theorem sess_sessFree_same (n : Nat) (s : State) : (sessFree n s).sess n = {} :=
  tget_tset_same ({} : Sess) s.tsv.sess n {}

theorem sess_sessFree_other {n k : Nat} (h : k ≠ n) (s : State) : (sessFree n s).sess k = s.sess k :=
  tget_tset_other ({} : Sess) {} s.tsv.sess {} h

theorem sessFree_frame (n : Nat) (s : State) : (sessFree n s).regs = s.regs ∧ (sessFree n s).edge = s.edge ∧ (sessFree n s).mac = s.mac ∧
    (sessFree n s).key = s.key := ⟨rfl, rfl, rfl, rfl⟩

/-- Settles O29. -/
theorem cancelledSessionGoesFree : Obligations.CancelledSessionGoesFree := by
  intro n dt s hr hst hsince
  have hx : exec (.cancelTimeout n dt) s = live s (sessFree n (s.tick dt)) := congrArg (live s) (if_pos ⟨hst, hsince⟩)
  have hfree := sess_sessFree_same n (s.tick dt)
  have hothers (k : Nat) (hk : k ≠ n) : (sessFree n (s.tick dt)).sess k = s.sess k := sess_sessFree_other hk (s.tick dt)
  obtain ⟨hregs, hedge, hmac, hkey⟩ := sessFree_frame n (s.tick dt)
  generalize sessFree n (s.tick dt) = t at *
  exact ⟨_, hx.trans (live_of_no_reset hr t), hfree, hothers, hregs, hedge, hmac, hkey⟩

end Sys2Proof.Machine
end

section
/-! The PTP messages received (13 R346 to R353). -/

namespace Sys2Proof.Machine

section
variable {m bf : Nat} {f : MalFrame} {s w : State}

/-- A verified message acts on the block that has counted it. -/
theorem ptpFrameRx_of_ready (h : ptpReady m f s w) : ptpFrameRx m bf f s = ptpAct m bf f w := by
  obtain ⟨_, hwait, _, _, hparse, v, hverify, hcounted⟩ := h
  simp [ptpFrameRx, hparse, hwait, hverify, hcounted]

/-- A row of a received message runs its handler on the message that stands ready. -/
theorem onHead_of_ready {ok : List Nat → Bool} (h : ptpReady m f s w) (hok : ok f.f.bytes = true) : onHead m ok (ptpFrameRx m bf) s = ptpAct m bf f w := by
  obtain ⟨hq, hwait, hu, hd, _⟩ := id h
  exact (onHead_of_head hq hwait hu hd hok _).trans (ptpFrameRx_of_ready h)

/-! ## The handlers by type -/

section
variable {n : Nat} (hwho : clientOf w f.f.port f.f.bytes = some n)
include hwho

theorem ptpAct_sync (hty : ptpType (ptpOf f.f.bytes) = 0) : ptpAct m bf f w = ptpTaken m f.f (syncRx n f.f (ptpOf f.f.bytes) (heard n w)) := by
  simp [ptpAct, hty, hwho]

theorem ptpAct_followUp (hty : ptpType (ptpOf f.f.bytes) = 8) : ptpAct m bf f w = ptpTaken m f.f (followUpRx n (ptpOf f.f.bytes) (heard n w)) := by
  simp [ptpAct, hty, hwho]

theorem ptpAct_delayResp (hty : ptpType (ptpOf f.f.bytes) = 9) : ptpAct m bf f w = ptpTaken m f.f (delayRespRx n (ptpOf f.f.bytes) (heard n w)) := by
  simp [ptpAct, hty, hwho]

theorem ptpAct_announce (hty : ptpType (ptpOf f.f.bytes) = 11) :
    ptpAct m bf f w = ptpTaken m f.f (announceRx n f.f (ptpOf f.f.bytes) (heard n (annKeep f.f.port f.f.bytes w))) := by
  simp [ptpAct, hty, hwho]

end

/-- An Announce that no client takes is kept for the port. -/
theorem ptpAct_announce_noClient (hty : ptpType (ptpOf f.f.bytes) = 11) (hwho : clientOf w f.f.port f.f.bytes = none) (hs : sessOf w f.f.port f.f.bytes = none) :
    ptpAct m bf f w = ptpTaken m f.f (w.setTsv { w.tsv with anns := tset none w.tsv.anns f.f.port (some (msgDataset (ptpOf f.f.bytes))) }) := by
  simp [ptpAct, hty, hwho, annKeep, hs]

/-- A Sync gives t2, and a one-step Sync t1 with it. -/
theorem syncRx_eq (n : Nat) (x : RxFrame) (msg : List Nat) (u : State) :
    let v := { u.sess n with
      t1 := if tbit (msg.getD 6 0) 1 then none else some (msgTime msg 34 + msgCf msg), t2 := some (x.stamp, x.inv), syncAt := u.now,
      rxSync := some (msgSeq msg), cfSync := msgCf msg }
    syncRx n x msg u = exchange n (u.setSess n v) := rfl

theorem followUpRx_of_sync {n : Nat} {msg : List Nat} {u : State} (hseq : (u.sess n).rxSync = some (msgSeq msg)) (h2 : (u.sess n).t2 ≠ none)
    (h1 : (u.sess n).t1 = none) :
    followUpRx n msg u = exchange n (u.setSess n { u.sess n with t1 := some (msgTime msg 34 + msgCf msg + (u.sess n).cfSync) }) :=
  if_pos ⟨hseq, Option.isSome_iff_ne_none.mpr h2, by simp [h1]⟩

theorem delayRespRx_of_req {n : Nat} {msg : List Nat} {u : State} (hid : sub msg 44 10 = portId u (u.sess n).port) (hseq : msgSeq msg = (u.sess n).dreqId)
    (h3 : (u.sess n).t3 ≠ none) :
    delayRespRx n msg u = exchange n (u.setSess n { u.sess n with t4 := some (msgTime msg 34 + msgCf msg) }) :=
  if_pos ⟨hid, hseq, Option.isSome_iff_ne_none.mpr h3⟩

/-! ## Delay_Req (13 R349) -/

section
variable {msg : List Nat} {r : (Nat × Bool) × Nat} (hre : reEpochs s = false)
include hre

/-- A granted session's Delay_Req is answered. -/
theorem delayReqRx_unicast {n : Nat} (huni : tbit (msg.getD 6 0) 2 = true) (hs : sessOf s f.f.port f.f.bytes = some n) (hrole : (s.sess n).role = 0)
    (hg : granted s n 9 = true) :
    let u := sealNote f.f.port (some n) s
    sealGate u f.f.port (some n) ≤ 1 → reserve u f.f.port bf (drespLen u f.f.port (some n)) = some r →
    delayReqRx m bf f msg s = drespEmit m f.f.port (some n) f.f msg r u := by
  intro u hgate hx
  have h2 : sealGate u f.f.port (some n) ≠ 2 := by omega
  have h3 : sealGate u f.f.port (some n) ≠ 3 := by omega
  simp only [u] at h2 h3 hx
  simp [-List.getD_eq_getElem?_getD, delayReqRx, hre, huni, hs, hrole, hg, Option.filter, h2, h3, hx, u]

/-- A multicast Delay_Req of a master port is answered. -/
theorem delayReqRx_multicast (huni : tbit (msg.getD 6 0) 2 = false) (hmc : s.flag (R.TSV_PORT_CFG_MC_EN f.f.port) = true) (hma : isMaster s f.f.port = true) :
    let u := sealNote f.f.port none s
    sealGate u f.f.port none ≤ 1 → reserve u f.f.port bf (drespLen u f.f.port none) = some r →
    delayReqRx m bf f msg s = drespEmit m f.f.port none f.f msg r u := by
  intro u hgate hx
  have h2 : sealGate u f.f.port none ≠ 2 := by omega
  have h3 : sealGate u f.f.port none ≠ 3 := by omega
  simp only [u] at h2 h3 hx
  simp [-List.getD_eq_getElem?_getD, delayReqRx, hre, huni, hmc, hma, h2, h3, hx, u]

end

end

/-- The frames that ANNOUNCE_RX takes: PTP frames of no other row, and those for the host path (13 R346, R347). -/
def announceRow (b : List Nat) : Bool :=
  (frameKind b == 1 || frameKind b == 2 || frameKind b == 0) && !(isPtp 0 b || isPtp 8 b || isPtp 1 b || isPtp 9 b || isSig [4, 5, 6, 7] b)

theorem announceRow_of_announce {b : List Nat} (h : isPtp 11 b = true) : announceRow b = true := by
  obtain ⟨hk, hty⟩ := isPtp_iff.mp h
  rcases hk with hk | hk <;> simp [announceRow, isPtp, isSig, hk, hty]

theorem exec_announceRx (m : Fin 8) (bf dt : Nat) (s : State) :
    exec (.announceRx m bf dt) s = live s (onHead m announceRow (ptpFrameRx m bf) (s.tick dt)) := rfl

/-- Settles O25. -/
theorem ptpMessagesReceivedComplete : Obligations.PtpMessagesReceivedComplete := by
  intro m bf dt f s w hr hw k msg who
  refine ⟨?_, ?_, ?_, ?_, ?_⟩
  · intro n hp hwho u
    refine gives_of_live_eq hr rfl ((onHead_of_ready hw hp).trans ((ptpAct_sync hwho (isPtp_iff.mp hp).2).trans ?_))
    rw [syncRx_eq]
  · intro n hp hwho u hseq h2 h1
    refine gives_of_live_eq hr rfl ((onHead_of_ready hw hp).trans ((ptpAct_followUp hwho (isPtp_iff.mp hp).2).trans ?_))
    rw [followUpRx_of_sync hseq h2 h1]
  · intro n hp hwho u hid hseq h3
    refine gives_of_live_eq hr rfl ((onHead_of_ready hw hp).trans ((ptpAct_delayResp hwho (isPtp_iff.mp hp).2).trans ?_))
    rw [delayRespRx_of_req hid hseq h3]
  · refine fun hp => ⟨fun n hwho => ?_, fun hwho hs => ?_⟩
    all_goals refine gives_of_live_eq hr (exec_announceRx m bf dt s) ((onHead_of_ready hw (announceRow_of_announce hp)).trans ?_)
    · exact ptpAct_announce hwho (isPtp_iff.mp hp).2
    · exact ptpAct_announce_noClient (isPtp_iff.mp hp).2 hwho hs
  · refine fun r hp hre => ⟨fun n huni hs hrole hg hgate hx => ?_, fun huni hmc hma hgate hx => ?_⟩
    all_goals refine gives_of_live_eq hr rfl ((onHead_of_ready hw hp).trans ((ptpAct_delayReq (isPtp_iff.mp hp).2).trans ?_))
    · exact delayReqRx_unicast hre huni hs hrole hg hgate hx
    · exact delayReqRx_multicast hre huni hmc hma hgate hx

end Sys2Proof.Machine
end

section
/-! The unicast negotiation (13 R350, R352). -/

namespace Sys2Proof.Machine

/-! ## The rows -/

/-- A Signaling message whose one unicast TLV is of type ty is of the rows that name ty. -/
theorem isSig_of_one {tys : List Nat} {b d : List Nat} {ty : Nat} (hp : isPtp 12 b = true) (ht : sigTlvs (ptpOf b) = [(ty, d)]) (hty : tys.contains ty = true) :
    isSig tys b = true := by
  simp only [isSig, hp, ht, List.head?_cons, Option.elim_some, hty, Bool.and_self]

section
variable {k m bf : Nat} {f : RxFrame} {mf : MalFrame} {d msg : List Nat} {ty : Nat} {w : State}

/-- A message with one TLV takes that TLV. -/
theorem sigAll_of_one (ht : sigTlvs msg = [(ty, d)]) : sigAll k f msg w = sigTlv k f (ty, d) w := by
  simp [sigAll, ht]

theorem sigAnsLen_of_one (ht : sigTlvs msg = [(ty, d)]) : sigAnsLen msg = if ty = 4 then 12 else if ty = 6 then 6 else 0 := by
  simp [sigAnsLen, ht]

/-- A TLV that has no answer: the message is consumed. -/
theorem signalRx_of_silent (ht : sigTlvs msg = [(ty, d)]) (hlen : sigAnsLen msg = 0) :
    signalRx m bf mf msg w = ptpTaken m mf.f (sigTlv mf.f.port mf.f (ty, d) w).2 := by
  simp [signalRx, hlen, sigAll_of_one ht]

/-- A TLV with an answer of len bytes: it is emitted at its reservation. -/
theorem signalRx_of_answered {len : Nat} {r : (Nat × Bool) × Nat} (ht : sigTlvs msg = [(ty, d)]) (hlen : sigAnsLen msg = len) (h0 : len ≠ 0)
    (hgate : sealGate w mf.f.port (sessOf w mf.f.port mf.f.bytes) ≤ 1) (hx : reserve w mf.f.port bf (sigLineLen w mf.f.port mf.f len) = some r) :
    signalRx m bf mf msg w = sigEmit m mf.f msg r w (sigTlv mf.f.port mf.f (ty, d) w).1 (sigTlv mf.f.port mf.f (ty, d) w).2 := by
  have h3 : sealGate w mf.f.port (sessOf w mf.f.port mf.f.bytes) ≠ 3 := by omega
  have h2 : ¬ 2 ≤ sealGate w mf.f.port (sessOf w mf.f.port mf.f.bytes) := by omega
  simp [signalRx, hlen, h0, h3, h2, hx, sigAll_of_one ht]

/-! ## One TLV (13 R350, R352) -/

/-- A request granted: to the session of the sender, or to a new one. -/
theorem sigTlv_request {n : Nat} (hok : grantOk w k (d.headD 0 / 16) (sbyte (d.getD 1 0)) (some n) = true)
    (hn : sessOf w k f.bytes = some n ∨ sessOf w k f.bytes = none ∧ sessFreeIdx w = some n) :
    let who := sessOf w k f.bytes
    let ty := d.headD 0 / 16
    let log := sbyte (d.getD 1 0)
    let dur := min (ofBe (sub d 2 4)) (w.get R.TSV_UNI_CFG_GRANT_MAX)
    let v := if who = none then sessNew k f w else w.sess n
    let v := setGrant { v with lastRx := w.strokes } ty (some { log := log, until' := w.now + dur * secCounts, dur := dur })
    sigTlv k f (4, d) w = (tlv 5 ([ty * 16, d.getD 1 0] ++ beBytes 4 dur ++ [0, 1]), pmcAdd 199 1 { port := some k } (w.setSess n v)) := by
  rcases hn with hn | ⟨hn, hfree⟩
  · simp only [sigTlv, hn, hok, if_true, Option.isSome_some, Option.getD_some, reduceCtorEq, if_false]
  · simp only [sigTlv, hn, hfree, hok, if_true, Option.isSome_none, Option.getD_some, Bool.false_eq_true, if_false]

/-- A CANCEL: the grant goes, and the session with its last one. -/
theorem sigTlv_cancel {n : Nat} (hn : sessOf w k f.bytes = some n) :
    let ty := d.headD 0 / 16
    let u := w.setSess n (setGrant { w.sess n with lastRx := w.strokes, sflags := withBit (w.sess n).sflags 3 true } ty none)
    sigTlv k f (6, d) w = (tlv 7 [ty * 16, 0], if grantTypes.all (fun x => !granted u n x) then sessFree n u else u) := by
  simp only [sigTlv, hn]
  rfl

/-- The acknowledgement of a CANCEL. -/
theorem sigTlv_acknowledge {n : Nat} (hn : sessOf w k f.bytes = some n) :
    let v := setGrant { w.sess n with lastRx := w.strokes } (d.headD 0 / 16) none
    let u := w.setSess n v
    sigTlv k f (7, d) w = ([], if v.st = 4 ∧ grantTypes.all (fun x => (grantOf v x).isNone) then sessFree n u else u) := by
  simp only [sigTlv, hn]
  rfl

/-- A grant set leaves the session's state. -/
theorem setGrant_st (v : Sess) (ty : Nat) (g : Option Grant) : (setGrant v ty g).st = v.st := by
  simp only [setGrant]
  split <;> [rfl; split <;> rfl]

/-- The client's session with a grant of type ty, which its peer gave for dur seconds (13 R352). -/
def withGrant (w : State) (n : Nat) (d : List Nat) : Sess :=
  setGrant { w.sess n with lastRx := w.strokes } (d.headD 0 / 16)
    (some { log := sbyte (d.getD 1 0), until' := w.now + ofBe (sub d 2 4) * secCounts, dur := ofBe (sub d 2 4) })

/-- A grant taken by a client session that asked for it, asks again, or runs. -/
theorem sigTlv_grant {n : Nat} (hn : sessOf w k f.bytes = some n) (hrole : (w.sess n).role = 1) (hst : (w.sess n).st = 1 ∨ (w.sess n).st = 3 ∨ (w.sess n).st = 2)
    (hty : grantTypes.contains (d.headD 0 / 16) = true) (hdur : ofBe (sub d 2 4) ≠ 0) :
    let u := w.setSess n (withGrant w n d)
    let act := sessGo n 2 u
    let up := { act.sess n with
      sflags := withBit (withBit (withGrant w n d).sflags 0 false) 1 false, nextRaw := u.now, annAt := u.now, syncAt := u.now }
    sigTlv k f (5, d) w = ([], if (w.sess n).st = 1 ∧ grantTypes.all (fun x => granted u n x) then act.setSess n up else
      if (w.sess n).st = 3 then act else u) := by
  intro u act up
  have hv : (withGrant w n d).st = (w.sess n).st := setGrant_st _ _ _
  rw [← hv]
  simp only [sigTlv, hn]
  refine (if_neg (by decide)).trans ((if_neg (by decide)).trans ((if_neg (by decide)).trans ((if_pos ⟨trivial, hrole, hst, hty⟩).trans ((if_neg hdur).trans ?_))))
  rfl

end

/-- Settles O26. -/
theorem unicastNegotiationCompletes : Obligations.UnicastNegotiationCompletes := by
  intro m bf dt tlvType f d s w hr hw k msg who ty log hp ht
  have hact : ptpAct m bf f w = signalRx m bf f msg w := ptpAct_signal (isPtp_iff.mp hp).2
  refine ⟨?_, ?_, ?_, ?_⟩
  · intro n r h4 hok hn hgate hx dur v
    subst h4
    refine gives_of_live_eq hr rfl ((onHead_of_ready hw (isSig_of_one hp ht (by decide))).trans (hact.trans ?_))
    rw [signalRx_of_answered ht (sigAnsLen_of_one ht) (by decide) hgate hx, sigTlv_request hok hn]
  · intro n r h6 hn hgate hx u
    subst h6
    refine gives_of_live_eq hr rfl ((onHead_of_ready hw (isSig_of_one hp ht (by decide))).trans (hact.trans ?_))
    rw [signalRx_of_answered ht (sigAnsLen_of_one ht) (by decide) hgate hx, sigTlv_cancel hn]
  · intro n h7 hn v u
    subst h7
    refine gives_of_live_eq hr rfl ((onHead_of_ready hw (isSig_of_one hp ht (by decide))).trans (hact.trans ?_))
    rw [signalRx_of_silent ht (sigAnsLen_of_one ht), sigTlv_acknowledge hn]
  · intro n h5 hn hrole hty hdur dur v u act
    subst h5
    have hgrant (hst : (w.sess n).st = 1 ∨ (w.sess n).st = 3 ∨ (w.sess n).st = 2) : exec (.grantRx m bf dt) s = live s (ptpTaken m f.f (sigTlv k f.f (5, d) w).2) :=
      congrArg (live s) ((onHead_of_ready hw (isSig_of_one hp ht (by decide))).trans (hact.trans (signalRx_of_silent ht (sigAnsLen_of_one ht))))
    refine ⟨fun hst => ?_, fun hst => ?_, fun hst hall => ?_, fun hst hall => ?_⟩
    · refine gives_of_live_eq hr (hgrant (by simp [hst])) ?_
      rw [sigTlv_grant hn hrole (by simp [hst]) hty hdur, if_neg (by simp [hst]), if_neg (by simp [hst])]
      rfl
    · refine gives_of_live_eq hr (hgrant (by simp [hst])) ?_
      rw [sigTlv_grant hn hrole (by simp [hst]) hty hdur, if_neg (by simp [hst]), if_pos hst]
      rfl
    · refine gives_of_live_eq hr (hgrant (by simp [hst])) ?_
      rw [sigTlv_grant hn hrole (by simp [hst]) hty hdur, if_neg (fun h => Bool.eq_false_iff.mp hall h.2), if_neg (by simp [hst])]
      rfl
    · refine gives_of_live_eq hr (hgrant (by simp [hst])) ?_
      rw [sigTlv_grant hn hrole (by simp [hst]) hty hdur, if_pos ⟨hst, hall⟩]
      rfl

end Sys2Proof.Machine
end

section
/-! The PTP messages sent, the sessions' timers and the session table's commands (13 R347 to R353). -/

namespace Sys2Proof.Machine

/-! ## Messages that nothing stands in the way of (14 R382) -/

section
variable {k bf : Nat} {n : Option Nat} {r : (Nat × Bool) × Nat} {s : State}

theorem syncSend_of_reserved :
    let u := sealNote k n s
    sealGate u k n ≤ 1 → reserve u k bf (syncLen u k n) = some r → syncSend k n bf s = syncEmit k n r u := by
  intro u hgate hx
  refine (if_neg (not_le.mpr (Nat.lt_succ_of_le hgate))).trans ?_
  change (match reserve u k bf (syncLen u k n) with | none => originWait (ptpMal k n) _ u | some r => _) = _
  rw [hx]

theorem dreqSend_of_reserved {i : Nat} :
    let p := (s.sess i).port
    let u := sealNote p (some i) s
    sealGate u p (some i) ≤ 1 → reserve u p bf (dreqLen u p i) = some r → dreqSend i bf s = dreqEmit p i r u := by
  intro p u hgate hx
  refine (if_neg (not_le.mpr (Nat.lt_succ_of_le hgate))).trans ?_
  change (match reserve u p bf (dreqLen u p i) with | none => originWait (ptpMal p (some i)) _ u | some r => _) = _
  rw [hx]

/-- A general message is sealed as its gate lets it, and originated. -/
theorem ptpGeneral_of_gate {msg : List Nat} :
    let u := sealNote k n s
    sealGate u k n ≤ 1 → ptpGeneral k n msg s = ptpOriginate k n msg u :=
  fun hgate => if_neg (not_le.mpr (Nat.lt_succ_of_le hgate))

end

/-! ## The messages sent -/

section
variable {k bf : Nat} {s : State}

theorem syncTx_of_due {i : Nat} (hon : ptpOn s k = true) (hma : isMaster s k = true) (hre : reEpochs s = false) (hst : (s.sess i).st = 2) (hrole : (s.sess i).role = 0)
    (hport : (s.sess i).port = k) (hg : granted s i 0 = true) (hdue : (s.sess i).nextRaw ≤ s.now) : syncTx k (some i) bf s = syncSend k (some i) bf s :=
  (if_neg (by simp [hon, hma, hre])).trans (if_pos ⟨hst, hrole, hport, hg, hdue⟩)

theorem syncTx_multicast (hon : ptpOn s k = true) (hma : isMaster s k = true) (hre : reEpochs s = false) (hmc : s.flag (R.TSV_PORT_CFG_MC_EN k) = true)
    (hdue : tget 0 s.tsv.next (4 * k + 1) ≤ s.now) : syncTx k none bf s = syncSend k none bf s :=
  (if_neg (by simp [hon, hma, hre])).trans (if_pos ⟨hmc, hdue⟩)

/-- The head of the port's stamps is a stamp of a Mallet's Sync: its Follow_Up. -/
theorem followUpTx_stamp {e : Nat} {l : List Nat} {d : FuDue} (hq : (s.port k).tsq = e :: l) (h16 : tbit e 16 = false) (h20 : tbit e 20 = true) (h18 : tbit e 18 = false)
    (hd : s.tsv.fus.find? (fun d => d.port == k && d.tag == e % 65536) = some d) :
    let u := (tsqPop k s).setTsv { s.tsv with fus := s.tsv.fus.filter (fun d => !(d.port == k && d.tag == e % 65536)) }
    reEpochs u = false → followUpTx k s = ptpGeneral d.port d.sess (followUpMsg u d (e / 2 ^ 32 % 2 ^ 60)) u := by
  intro u hre
  simp only [followUpTx, hq, List.head?_cons, h16, h20, h18, hd, Bool.not_true, Bool.false_eq_true, if_false, false_or]
  exact if_neg (Bool.eq_false_iff.mp hre)

/-- It is a gap marker: the Follow_Ups of the tags that it names are suppressed. -/
theorem followUpTx_gap {e : Nat} {l : List Nat} (hq : (s.port k).tsq = e :: l) (h16 : tbit e 16 = true) :
    let gap := (e % 65536, e / 2 ^ 32 % 65536)
    let hit := s.tsv.fus.filter (fun d => d.port == k && inRun gap d.tag)
    let u := s.setTsv { s.tsv with fus := s.tsv.fus.filter (fun d => !(d.port == k && inRun gap d.tag)) }
    hit ≠ [] → followUpTx k s = (tsqPop k u).addSat (R.MAC_PORT_FU_SUPP_FU_SUPP k) hit.length := by
  intro gap hit u hne
  simp only [followUpTx, hq, List.head?_cons, h16, if_true]
  exact if_neg (mt List.isEmpty_iff.mp hne)

/-- Free bytes are drawn at no cost of time. -/
theorem freshBytes_now (n : Nat) (s : State) : (freshBytes n s).2.now = s.now := by
  induction n generalizing s with
  | zero => rfl
  | succ n ih => exact ih _

theorem announceMsg_now (n : Option Nat) (seq : Nat) (log : Int) : (announceMsg k n seq log s).2.now = s.now := freshBytes_now 10 s

theorem announceTx_of_due {i : Nat} (hon : ptpOn s k = true) (hma : isMaster s k = true) (hst : (s.sess i).st = 2) (hrole : (s.sess i).role = 0)
    (hport : (s.sess i).port = k) (hg : granted s i 11 = true) (hdue : (s.sess i).nextAnn ≤ s.now) :
    let log := sbyte ((s.sess i).logs.getD 0 0)
    let r := announceMsg k (some i) (s.sess i).annSeq log s
    let v : Sess := { s.sess i with annSeq := ((s.sess i).annSeq + 1) % 65536, nextAnn := max ((s.sess i).nextAnn + logCounts log) r.2.now }
    announceTx k (some i) s = ptpGeneral k (some i) r.1 (r.2.setSess i v) := by
  intro log r v
  have hnow : r.2.now = s.now := announceMsg_now _ _ _
  simp only [v, hnow]
  exact (if_neg (by simp [hon, hma])).trans (if_pos ⟨hst, hrole, hport, hg, hdue⟩)

theorem announceTx_multicast (hon : ptpOn s k = true) (hma : isMaster s k = true) (hmc : s.flag (R.TSV_PORT_CFG_MC_EN k) = true)
    (hdue : tget 0 s.tsv.next (4 * k) ≤ s.now) :
    let log := s.getI (R.TSV_PORT_LOG_ANN_LOG k)
    let q := portSeq k 0 s
    let r := announceMsg k none q.1 log q.2
    let t : TsvSt := { r.2.tsv with next := tset 0 r.2.tsv.next (4 * k) (max (tget 0 s.tsv.next (4 * k) + logCounts log) r.2.now) }
    announceTx k none s = ptpGeneral k none r.1 (r.2.setTsv t) := by
  intro log q r t
  have hnow : r.2.now = s.now := announceMsg_now _ _ _
  simp only [t, hnow]
  exact (if_neg (by simp [hon, hma])).trans (if_pos ⟨hmc, hdue⟩)

theorem dreqTx_of_due {i : Nat} (hon : ptpOn s (s.sess i).port = true) (hrole : (s.sess i).role ≠ 0) (hst : (s.sess i).st = 2 ∨ (s.sess i).st = 3)
    (hdue : (s.sess i).nextRaw ≤ s.now) (hg : (s.sess i).role = 2 ∨ granted s i 9 = true) : dreqTx i bf s = dreqSend i bf s :=
  if_pos ⟨hon, hrole, hst, hdue, hg⟩

end

/-! ## The sessions' timers and the table's commands -/

section
variable {n : Nat} {s : State}

theorem grantRenew_of_quarter (hst : (s.sess n).st = 2) (hrole : (s.sess n).role = 1) :
    let l := grantTypes.filter (fun ty => (grantOf (s.sess n) ty).elim false (fun g => decide (4 * (g.until' - s.now) ≤ g.dur * secCounts)))
    l ≠ [] → grantRenew n s = sendRequests n l (sessGo n 3 s) :=
  fun hl => if_pos ⟨hst, hrole, by simpa using hl⟩

theorem grantExpire_served (hst : (s.sess n).st = 2 ∨ (s.sess n).st = 3) (hrole : (s.sess n).role = 0) (hg : grantTypes.all (fun ty => !granted s n ty) = true) :
    grantExpire n s = sessFree n s :=
  (if_neg (by omega)).trans ((if_pos hrole).trans (if_pos hg))

theorem grantExpire_client (hst : (s.sess n).st = 2 ∨ (s.sess n).st = 3) (hrole : (s.sess n).role = 1) (hg : grantTypes.any (fun ty => !granted s n ty) = true) :
    let u := sessGo n 1 s
    grantExpire n s = raiseEvt R.TSV_EVT_SESS_TIMEOUT 187 (u.setSess n { u.sess n with sflags := withBit (s.sess n).sflags 0 true }) :=
  (if_neg (by omega)).trans ((if_neg (by omega)).trans (if_pos ⟨hrole, hg⟩))

theorem sessLos_of_silence (hrole : (s.sess n).role ≠ 0) (h1 : 1 ≤ (s.sess n).st) (h3 : (s.sess n).st ≤ 3) (hlos : (s.sess n).los = false) :
    let log := if (s.sess n).role = 2 then s.getI (R.TSV_PORT_LOG_SYNC_LOG (s.sess n).port) else sbyte ((s.sess n).logs.getD 1 0)
    let u := s.setSess n { s.sess n with los := true }
    annOut s (s.sess n) = true ∨ (s.sess n).syncAt + 3 * logCounts log ≤ s.now →
      sessLos n s = match vMon u 4 n with | some m => vPush m { los := true, raw := u.raw * 4096 } u | none => u :=
  fun hout => (if_pos ⟨hrole, h1, h3, by simp [hlos], hout⟩).trans rfl

end

/-- WRITE to a FREE index (13 R351): a unicast client asks for its grants, a multicast client runs. -/
theorem sessWrite_of_free {s : State} (hst : (s.sess (s.get R.TSV_SESS_IDX_IDX)).st = 0) :
    let n := s.get R.TSV_SESS_IDX_IDX
    let v := sessFrom s (sessWords s)
    let u := s.put R.TSV_SESS_CMD_BUSY 1
    (v.role = 1 → sessWrite s = sendRequests n grantTypes (u.setSess n { v with st := 1 })) ∧ (v.role = 2 → sessWrite s = u.setSess n { v with st := 2 }) := by
  intro n v u
  refine ⟨fun h1 => ?_, fun h2 => ?_⟩
  · exact (if_pos ⟨Or.inl h1, hst⟩).trans (if_neg (by simp only [v] at h1; omega))
  · exact (if_pos ⟨Or.inr h2, hst⟩).trans (if_pos h2)

/-- Settles O27. -/
theorem ptpSessionCommandsComplete : Obligations.PtpSessionCommandsComplete := by
  refine ⟨?_, ?_, ?_, ?_, ?_, ?_, ?_, ?_, ?_, ?_, ?_, ?_, ?_, ?_, ?_, ?_, ?_⟩
  · intro k n bf dt r s hr hon hma hre hst hrole hport hg hdue u hgate hx
    exact gives_of_live_eq hr rfl ((syncTx_of_due (s := s.tick dt) hon hma hre hst hrole hport hg hdue).trans (syncSend_of_reserved hgate hx))
  · intro k bf dt r s hr hon hma hre hmc hdue u hgate hx
    exact gives_of_live_eq hr rfl ((syncTx_multicast (s := s.tick dt) hon hma hre hmc hdue).trans (syncSend_of_reserved hgate hx))
  · intro k dt e l d s hr hq h16 h20 h18 hd u u' v hre hgate
    exact gives_of_live_eq hr rfl ((followUpTx_stamp (s := s.tick dt) hq h16 h20 h18 hd hre).trans (ptpGeneral_of_gate hgate))
  · intro k dt e l s hr hq h16 gap hit u hne
    exact gives_of_live_eq hr rfl (followUpTx_gap (s := s.tick dt) hq h16 hne)
  · intro k n dt s hr hon hma hst hrole hport hg hdue log r v u hgate
    exact gives_of_live_eq hr rfl ((announceTx_of_due (s := s.tick dt) hon hma hst hrole hport hg hdue).trans (ptpGeneral_of_gate hgate))
  · intro k dt s hr hon hma hmc hdue log q r u hgate
    exact gives_of_live_eq hr rfl ((announceTx_multicast (s := s.tick dt) hon hma hmc hdue).trans (ptpGeneral_of_gate hgate))
  · intro n bf dt r s hr v u hon hrole hst hdue hg hgate hx
    exact gives_of_live_eq hr rfl ((dreqTx_of_due (s := s.tick dt) hon hrole hst hdue hg).trans (dreqSend_of_reserved hgate hx))
  · intro n dt s hr l hst hrole hl
    exact gives_of_live_eq hr rfl (grantRenew_of_quarter (s := s.tick dt) hst hrole hl)
  · refine fun n dt s hr hst => ⟨fun hrole hg => ?_, fun hrole hg => ?_⟩
    · exact gives_of_live_eq hr rfl (grantExpire_served (s := s.tick dt) hst hrole hg)
    · exact gives_of_live_eq hr rfl (grantExpire_client (s := s.tick dt) hst hrole hg)
  · exact fun n dt s hr hst hsince => gives_of_live_if hr ⟨hst, hsince⟩ rfl
  · exact fun n dt s hr hst hsince => gives_of_live_if hr ⟨hst, hsince⟩ rfl
  · intro n dt s hr hrole h1 h3 hlos log hout u
    exact gives_of_live_eq hr rfl (sessLos_of_silence (s := s.tick dt) hrole h1 h3 hlos hout)
  · exact fun s hr => gives_of_live hr rfl
  · intro dt s hr hst n v u
    obtain ⟨h1, h2⟩ := sessWrite_of_free (s := s.tick dt) hst
    exact ⟨fun hrole => gives_of_live_eq hr rfl (h1 hrole), fun hrole => gives_of_live_eq hr rfl (h2 hrole)⟩
  · exact fun dt s hr hst => gives_of_live_ifNot hr hst rfl
  · exact fun s hr => gives_of_live hr rfl
  · exact fun l s hr hu ht => gives_of_live_eq hr rfl (taskHand_of_runs hu ht)

end Sys2Proof.Machine
end

section
/-! The key engine (14). -/

namespace Sys2Proof.Machine

/-! ## Re-masking (14 R377) -/

/-- t holds the keys of s under other masks: each slot's key in clear, its attributes, uses, generation and state. -/
structure Remasked (s t : State) : Prop where
  clear : ∀ k, (t.slot k).key = (s.slot k).key
  attrs : ∀ k x m, { t.slot k with stored := x, mask := m } = { s.slot k with stored := x, mask := m }
  due : t.key.remaskAt = s.key.remaskAt
  clock : t.flag R.ETM_STAT_BACKUP_CLK = s.flag R.ETM_STAT_BACKUP_CLK
  strokes : t.strokes = s.strokes

namespace Remasked

theorem refl (s : State) : Remasked s s := ⟨fun _ => rfl, fun _ _ _ => rfl, rfl, rfl, rfl⟩

theorem trans {s t u : State} (a : Remasked s t) (b : Remasked t u) : Remasked s u :=
  ⟨fun k => (b.clear k).trans (a.clear k), fun k x m => (b.attrs k x m).trans (a.attrs k x m), b.due.trans a.due, b.clock.trans a.clock, b.strokes.trans a.strokes⟩

theorem foldl {f : State → Nat → State} (h : ∀ s k, Remasked s (f s k)) (l : List Nat) (s : State) : Remasked s (l.foldl f s) := by
  induction l generalizing s with
  | nil => exact .refl s
  | cons k l ih => exact (h s k).trans (ih _)

end Remasked

@[simp] theorem slot_setSlot_same (s : State) (k : Nat) (v : KeySlot) : (s.setSlot k v).slot k = v :=
  tget_tset_same ({} : KeySlot) s.key.slots k v

theorem slot_setSlot_other (s : State) {k j : Nat} (v : KeySlot) (h : j ≠ k) : (s.setSlot k v).slot j = s.slot j :=
  tget_tset_other ({} : KeySlot) {} s.key.slots v h

theorem slot_rngDraw (n : Nat) (s : State) (k : Nat) : (rngDraw n s).2.slot k = s.slot k := rfl

/-- The stored value under the new mask is the key under it. -/
theorem key_remasked (c : KeySlot) (m : Nat) : ({ c with stored := c.stored ^^^ (c.mask ^^^ m), mask := m } : KeySlot).key = c.key := by
  simp only [KeySlot.key]
  rw [← Nat.xor_assoc, Nat.xor_assoc _ m m, Nat.xor_self, Nat.xor_zero]

theorem remaskSlot_remasked (k : Nat) (s : State) : Remasked s (remaskSlot k s) := by
  unfold remaskSlot
  extract_lets c r
  split
  · exact .refl s
  · have hslot (j : Nat) : (r.2.setSlot k { c with stored := c.stored ^^^ (c.mask ^^^ r.1), mask := r.1 }).slot j =
        if j = k then { c with stored := c.stored ^^^ (c.mask ^^^ r.1), mask := r.1 } else s.slot j := by
      split
      next h => rw [h, slot_setSlot_same]
      next h => rw [slot_setSlot_other _ _ h, slot_rngDraw]
    refine ⟨fun j => ?_, fun j x m => ?_, rfl, rfl, rfl⟩
    all_goals rw [hslot j]; split
    · next h => rw [key_remasked, h]
    · rfl
    · next h => rw [h]
    · rfl

/-- A pass moves the instant that the next one is counted from to the Stroke that this one was due in (14 R377; log entries 3 and 88). -/
theorem remaskPass_due (s : State) :
    ∃ u, Remasked s u ∧ remaskPass s = keyCnt 4 (u.setKey { u.key with
      remaskAt := if s.flag R.ETM_STAT_BACKUP_CLK then s.strokes - 1 else s.key.remaskAt + (s.strokes - 1 - s.key.remaskAt) / 80 * 80 }) := by
  have hwake : Remasked s (if s.get (R.PWR_DOM_STATE 2) = 2 then s.addSat (R.PWR_DOM_WAKE_CNT 2) 1 else s) := by
    split
    · refine ⟨fun _ => rfl, fun _ _ _ => rfl, rfl, ?_, rfl⟩
      rw [State.flag, State.flag, get_eq_of_rdWord (rdWord_addSat_other s _ _ (by decide))]
    · exact .refl s
  have h := hwake.trans (.foldl (fun s k => remaskSlot_remasked k s) (List.range 64) _)
  exact ⟨_, h, by rw [← h.due, ← h.clock, ← h.strokes]; rfl⟩

/-- Settles O31. -/
theorem remaskKeepsEveryKey : Obligations.RemaskKeepsEveryKey := by
  intro s hr hdue
  have hx : exec .remaskPass s = live s (remaskPass s) := congrArg (live s) (if_pos (decide_eq_true hdue))
  obtain ⟨u, hu, heq⟩ := remaskPass_due s
  have hkey : (remaskPass s).key = { u.key with
      remaskAt := if s.flag R.ETM_STAT_BACKUP_CLK then s.strokes - 1 else s.key.remaskAt + (s.strokes - 1 - s.key.remaskAt) / 80 * 80 } := by
    rw [heq]
    exact congrArg State.key (pmcAdd_only _ 1 {} _ (by decide)).1
  generalize remaskPass s = t at *
  have hat : s.key.remaskAt < t.key.remaskAt ∧ t.key.remaskAt < s.strokes := by
    rw [hkey]
    simp only [remaskPer] at hdue
    split <;> simp_all <;> omega
  have hslot (k : Nat) : t.slot k = u.slot k := by rw [State.slot, State.slot, hkey]
  refine ⟨_, hx.trans (live_of_no_reset hr t), hat.1, hat.2, fun k => ⟨?_, fun x m => ?_⟩⟩
  · exact (congrArg KeySlot.key (hslot k)).trans (hu.clear k)
  · exact (congrArg (fun c : KeySlot => { c with stored := x, mask := m }) (hslot k)).trans (hu.attrs k x m)

/-! ## ABORT (14 R370) -/

/-- The staging data's words. -/
theorem rdWord_stgErase_other {s : State} {a : Nat} (h : ∀ w < 12, a ≠ 0x0F0120 + 4 * w) : rdWord (stgErase s) a = rdWord s a := by
  rw [stgErase]
  have hl : ∀ w ∈ List.range 12, a ≠ 0x0F0120 + 4 * w := fun w hw => h w (List.mem_range.mp hw)
  generalize List.range 12 = l at hl
  induction l generalizing s with
  | nil => rfl
  | cons w l ih =>
    rw [List.foldl_cons, ih (fun x hx => hl x (List.mem_cons_of_mem _ hx)), rdWord_wrWord_other _ _ (hl w List.mem_cons_self)]

theorem stgErase_frame (s : State) : (stgErase s).key = s.key ∧ (stgErase s).nvm = s.nvm ∧ (stgErase s).edge = s.edge := by
  rw [stgErase]
  generalize List.range 12 = l
  induction l generalizing s with
  | nil => exact ⟨rfl, rfl, rfl⟩
  | cons w l ih => exact ih (wrWord s (0x0F0120 + 4 * w) 0)

theorem keyIdle_frame (s : State) : (keyIdle s).key = { s.key with staged := [] } ∧ (keyIdle s).nvm = s.nvm ∧ (keyIdle s).edge = s.edge :=
  stgErase_frame _

/-- The engine IDLE: the words of STAT and of the staging data alone are written. -/
theorem rdWord_keyIdle_other {s : State} {a : Nat} (hs : a ≠ R.KEY_STAT_TXN_STATE.addr) (h : ∀ w < 12, a ≠ 0x0F0120 + 4 * w) :
    rdWord (keyIdle s) a = rdWord s a := by
  rw [keyIdle, rdWord_stgErase_other h, rdWord_put_other _ _ _ hs]
  rfl

theorem keyIdle_state (s : State) : (keyIdle s).get R.KEY_STAT_TXN_STATE = 0 := by
  rw [keyIdle, get_eq_of_rdWord (rdWord_stgErase_other fun w _ => ?_), get_put_same _ _ _ (by simp [Fits, R.KEY_STAT_TXN_STATE]), Nat.zero_mod]
  simp only [R.KEY_STAT_TXN_STATE]
  omega

/-- Settles O32. -/
theorem abortLeavesTheStore : Obligations.AbortLeavesTheStore := by
  intro j s hr hst how
  have hx : exec (.keyAbort j) s = live s (keyIdle s) := congrArg (live s) (if_pos (by simp [keyOwns, hst, how]))
  obtain ⟨hkey, hnvm, hedge⟩ := keyIdle_frame s
  have hslots : (keyIdle s).key.slots = s.key.slots ∧ (keyIdle s).key.staged = [] := by rw [hkey]; exact ⟨rfl, rfl⟩
  have hjnl : (keyIdle s).nvm.jnl0 = s.nvm.jnl0 ∧ (keyIdle s).nvm.jnl1 = s.nvm.jnl1 := by rw [hnvm]; exact ⟨rfl, rfl⟩
  have hstate := keyIdle_state s
  have hregs (a : Nat) (h : winOf a ≠ 0x0F) : rdWord (keyIdle s) a = rdWord s a := by
    have hout (h1 : 0x0F0000 ≤ a) : ¬ a < 0x100000 := fun h2 => h (winOf_eq h1 h2 (by decide))
    refine rdWord_keyIdle_other ?_ fun w hw => ?_
    · simp only [R.KEY_STAT_TXN_STATE]; omega
    · omega
  generalize keyIdle s = t at *
  exact ⟨_, hx.trans (live_of_no_reset hr t), hslots.1, hslots.2, hstate, hjnl.1, hjnl.2, hregs, hedge⟩

/-! ## Staging (14 R370, R371) -/

/-- A staged operation that carries a new slot. -/
def stagedKey (op slot : Nat) (m : KeySlot × State) : State :=
  m.2.setKey { m.2.key with staged := m.2.key.staged ++ [{ op := op, slot := slot, new := m.1, val := 0 }] }

section
variable {j : Iface} {s : State}

/-- Only an unwrapping takes a use of the parent, and one that passes does. -/
theorem stageCheck_plain_uses : (stageCheck s j 1).2.2 = false := by
  unfold stageCheck
  dsimp only
  split <;> [rfl; split <;> rfl]

theorem stageCheck_generate_uses : (stageCheck s j 3).2.2 = false := by
  unfold stageCheck
  dsimp only
  split <;> [rfl; split <;> rfl]

theorem stageCheck_wrapped_uses (h : (stageCheck s j 2).1 = 0) : (stageCheck s j 2).2.2 = true := by
  unfold stageCheck at h ⊢
  dsimp only at h ⊢
  cases ho : keyOwns s j with
  | false => simp [ho] at h
  | true =>
    by_cases hl : 16 ≤ s.key.staged.length
    · simp [ho, hl] at h
    · simp only [ho, hl, Bool.not_true, Bool.false_eq_true, if_false] at h ⊢
      simp [h]

/-- No floor commit precedes an operation but the unwrapping. -/
theorem stageFloor_of_ne {op : Nat} (h : op ≠ 2) (s : State) : stageFloor j op s = s := if_neg fun h' => h h'.1

theorem keyStage_plain :
    let u := s.put R.KEY_STG_OP_OP 1
    (stageCheck u j 1).1 = 0 →
    keyStage j 1 s = stagedKey 1 (u.get R.KEY_STG_OP_SLOT) (maskKey (stgSlot u (stagedSlots u)) (stageCheck u j 1).2.1 (stgErase u)) := by
  intro u h
  have hf : stageFloor j 1 u = u := stageFloor_of_ne (by decide) u
  have huse : (stageCheck u j 1).2.2 = false := stageCheck_plain_uses
  simp only [u] at h hf huse
  simp [keyStage, hf, h, huse, stagedKey, u]

theorem keyStage_wrapped :
    let v := stageFloor j 2 (s.put R.KEY_STG_OP_OP 2)
    let new := stgSlot v (stagedSlots v)
    (stageCheck v j 2).1 = 0 →
    keyStage j 2 s = stagedKey 2 (v.get R.KEY_STG_OP_SLOT) (maskKey new (stageCheck v j 2).2.1 (stgErase (keyCnt 2 (keyTake new.parent 1 v)))) := by
  intro v new h
  have huse : (stageCheck v j 2).2.2 = true := stageCheck_wrapped_uses h
  simp only [v] at h huse
  simp [keyStage, h, huse, stagedKey, v, new]

theorem keyStage_generate :
    let w := s.put R.KEY_STG_OP_OP 3
    (stageCheck w j 3).1 = 0 →
    keyStage j 3 s = stagedKey 3 (w.get R.KEY_STG_OP_SLOT) (maskKey (stgSlot w (stagedSlots w)) (rngDraw 256 w).1 (rngDraw 256 w).2) := by
  intro w h
  have hf : stageFloor j 3 w = w := stageFloor_of_ne (by decide) w
  have huse : (stageCheck w j 3).2.2 = false := stageCheck_generate_uses
  simp only [w] at h hf huse
  simp [keyStage, hf, h, huse, stagedKey, w]

/-! STG_OP's other fields, and what the checks read, stand as OP is written. -/

section
variable (op : Nat)

theorem get_slot_putOp : (s.put R.KEY_STG_OP_OP op).get R.KEY_STG_OP_SLOT = s.get R.KEY_STG_OP_SLOT :=
  get_put_other _ _ _ _ (by simp [Fits, R.KEY_STG_OP_OP]) (by simp [Fits, R.KEY_STG_OP_SLOT]) (by simp [Apart, R.KEY_STG_OP_OP, R.KEY_STG_OP_SLOT])

theorem get_useMax_putOp : (s.put R.KEY_STG_OP_OP op).get R.KEY_STG_USES_USE_MAX = s.get R.KEY_STG_USES_USE_MAX := get_put_ne _ _ _ (by decide)

theorem keyOwns_putOp : keyOwns (s.put R.KEY_STG_OP_OP op) j = keyOwns s j := by
  rw [keyOwns, keyOwns, get_put_ne _ _ _ (by decide), get_put_ne _ _ _ (by decide)]

theorem stagedSlots_putOp : stagedSlots (s.put R.KEY_STG_OP_OP op) = stagedSlots s := rfl

end

/-- An operation that carries no key, where its check passes. -/
theorem keyStage_noKey {op : Nat} (hop : 3 < op) (h : stageCheck (s.put R.KEY_STG_OP_OP op) j op = (0, 0, false)) :
    let o : KeyOp := { op := op, slot := s.get R.KEY_STG_OP_SLOT, new := {}, val := s.get R.KEY_STG_USES_USE_MAX }
    keyStage j op s = (s.put R.KEY_STG_OP_OP op).setKey { s.key with staged := s.key.staged ++ [o] } := by
  have hf : stageFloor j op (s.put R.KEY_STG_OP_OP op) = s.put R.KEY_STG_OP_OP op := stageFloor_of_ne (by omega) _
  have h2 : ¬ op ≤ 2 := by omega
  have h3 : ¬ op ≤ 3 := by omega
  simp [keyStage, hf, h, get_slot_putOp, get_useMax_putOp, h2, h3]

section
variable (ho : keyOwns s j = true) (hl : s.key.staged.length < 16)
include ho hl

theorem stageCheck_invalidate (h2 : 2 ≤ s.get R.KEY_STG_OP_SLOT) (hst : (kslot (stagedSlots s) (s.get R.KEY_STG_OP_SLOT)).state ≠ 0) :
    stageCheck (s.put R.KEY_STG_OP_OP 4) j 4 = (0, 0, false) := by
  simp [stageCheck, keyOwns_putOp, ho, not_le.mpr hl, get_slot_putOp, stagedSlots_putOp, hst, not_lt.mpr h2]

theorem stageCheck_setUses (hm : (kslot (stagedSlots s) (s.get R.KEY_STG_OP_SLOT)).useMax ≠ 0)
    (hu : s.get R.KEY_STG_USES_USE_MAX ≤ (kslot (stagedSlots s) (s.get R.KEY_STG_OP_SLOT)).uses) :
    stageCheck (s.put R.KEY_STG_OP_OP 5) j 5 = (0, 0, false) := by
  simp [stageCheck, keyOwns_putOp, ho, not_le.mpr hl, get_slot_putOp, get_useMax_putOp, stagedSlots_putOp, hm, not_lt.mpr hu]

theorem stageCheck_reclaim (hst : (kslot (stagedSlots s) (s.get R.KEY_STG_OP_SLOT)).state = 3) :
    stageCheck (s.put R.KEY_STG_OP_OP 6) j 6 = (0, 0, false) := by
  simp [stageCheck, keyOwns_putOp, ho, not_le.mpr hl, get_slot_putOp, stagedSlots_putOp, hst]

end

end

/-! ## Attestation (14 R383) -/

/-- The message captured with a usable key. -/
theorem attGo_of_usable {j : Iface} {s : State} :
    let u := (s.put (R.KEY_ATT_STAT_DONE.ifc j) 0).put (R.KEY_ATT_STAT_NOKEY.ifc j) 0
    let u := (List.range 8).foldl (fun u w => u.put ((R.KEY_ATT_RESP_W0_RESP.word w).ifc j) 0) u
    let v := (u.put (R.KEY_ATT_STAT_ATT_LC.ifc j) (u.get R.GEN_LC_STATE)).put (R.KEY_ATT_STAT_BUSY.ifc j) 1
    let v := (List.range 8).foldl (fun v w => v.put ((R.KEY_ATT_DIGEST_W0_DIGEST.word w).ifc j) (rdWord v (0x160040 + 4 * w))) v
    let v := v.setKey { v.key with att := tset none v.key.att j.num (some (attMsg s j)) }
    keyGate u 3 2 1 ≠ 1 → ((u.slot 3).priv = 2 → isCust u j = true) → u.get R.GEN_LC_STATE ≠ 4 →
    attGo j s = if keyGate v 3 2 1 = 2 then floorAsk 3 v else v := by
  intro u₀ u v₀ v₁ v hgate hpriv hlc
  refine if_neg ?_
  change ¬ (keyGate u 3 2 1 == 1 || ((u.slot 3).priv == 2 && !isCust u j) || u.get R.GEN_LC_STATE == 4) = true
  simp only [Bool.or_eq_true, Bool.and_eq_true, Bool.not_eq_true', beq_iff_eq, not_or, not_and, Bool.not_eq_false]
  exact ⟨⟨hgate, hpriv⟩, hlc⟩

theorem attDone_of_captured {j : Iface} {s : State} {msg : List Nat} (hm : tget none s.key.att j.num = some msg) (hf : s.key.floorDue.contains 3 = false) :
    let u := keyCnt 1 (keyTake 3 1 (s.setKey { s.key with att := tset none s.key.att j.num none }))
    let u := (List.range 8).foldl (fun u w => u.put ((R.KEY_ATT_RESP_W0_RESP.word w).ifc j) (ofLe (((hmacOf (s.slot 3).key msg).drop (4 * w)).take 4))) u
    attDone j s = (u.put (R.KEY_ATT_STAT_BUSY.ifc j) 0).put (R.KEY_ATT_STAT_DONE.ifc j) 1 := by
  simp only [attDone, hm, hf, Bool.false_eq_true, if_false]

/-! ## The commands -/

/-- The seal is written (14 R372). -/
theorem keyCommitDone_of_sealing {s : State} (hst : s.get R.KEY_STAT_TXN_STATE = 2) (hc : s.flag R.KEY_STAT_COMPACTING = false) (hf : s.key.floorDue = []) :
    keyCommitDone s = keyApply (jnlSeal (stagedTxn s) s) :=
  if_pos ⟨hst, by simp [hc], by simp [hf]⟩

/-- Settles O30. -/
theorem keyCommandsComplete : Obligations.KeyCommandsComplete := by
  refine ⟨?_, ?_, ?_, ?_, ?_, ?_, ?_, ?_, ?_, ?_, ?_, ?_, ?_, ?_⟩
  · exact fun s hr hdue => gives_of_live_if hr (decide_eq_true hdue) rfl
  · exact fun j dt s hr hst => gives_of_live_if hr hst rfl
  · intro j s hr staged u v new w
    refine ⟨fun h => ?_, fun h => ?_, fun h => ?_⟩
    · exact gives_of_live_eq hr rfl (keyStage_plain h)
    · exact gives_of_live_eq hr rfl (keyStage_wrapped h)
    · exact gives_of_live_eq hr rfl (keyStage_generate h)
  · intro j s hr ho hl slot c uses
    refine ⟨fun h2 hst => ?_, fun hm hu => ?_, fun hst => ?_⟩
    · exact gives_of_live_eq hr rfl (keyStage_noKey (by decide) (stageCheck_invalidate ho hl h2 hst))
    · exact gives_of_live_eq hr rfl (keyStage_noKey (by decide) (stageCheck_setUses ho hl hm hu))
    · exact gives_of_live_eq hr rfl (keyStage_noKey (by decide) (stageCheck_reclaim ho hl hst))
  · intro j s hr ho
    refine ⟨fun hne => ?_, fun he => ?_, gives_of_live_if hr ho rfl⟩
    · exact gives_of_live_eq hr rfl ((if_pos ho).trans (if_pos (by simpa using hne)))
    · exact gives_of_live_eq hr rfl ((if_pos ho).trans (if_neg (by simp [he])))
  · exact fun dt s hr hst hs => gives_of_live_if hr ⟨hst, hs⟩ rfl
  · exact fun s hst hc hf => gives_of_done (congrArg (fun t => done s (custSettle t)) (keyCommitDone_of_sealing hst hc hf))
  · exact fun tmo s hr hst => gives_of_live_if hr hst rfl
  · exact fun s hr _ => gives_of_live hr rfl
  · exact fun k s hr hk => gives_of_live_if hr hk rfl
  · exact fun s hr => gives_of_live hr rfl
  · exact fun s hr hn => gives_of_live_if hr ⟨hn, rfl⟩ rfl
  · intro j s hr u₀ u v₀ v₁ v hgate hpriv hlc
    exact gives_of_live_eq hr rfl (attGo_of_usable hgate hpriv hlc)
  · exact fun j msg s hr hm hf => gives_of_live_eq hr rfl (attDone_of_captured hm hf)

end Sys2Proof.Machine
end

section
/-! The Porarir links, the path pairs and the domain (15, 16). -/

namespace Sys2Proof.Machine

/-! ## A received cell (15 R388) -/

section
variable {l kind : Nat} {b : List Nat} {s u : State} (hp : lanePrl (prlSync s) l = true) (h2 : 2 ≤ laneStage (prlSync s) l) (h5 : laneStage (prlSync s) l ≤ 5)
include hp h2 h5

/-- A whole cell is taken in by the row of its kind. -/
theorem cellIn_of_ok (hok : cellOk b = true) (hk : b.getD 0 0 = kind) : cellIn l kind b s = (true, prlSync s) := by
  unfold cellIn
  dsimp only
  rw [if_neg (by simp [hp, not_lt.mpr h2, not_lt.mpr h5]), if_neg (by simp [hok]), hk, beq_self_eq_true]

/-- A cell that fails its check is dropped. -/
theorem cellIn_of_bad (hok : cellOk b = false) : cellIn l kind b s = (false, cellBad (lanePath l) (prlSync s)) := by
  unfold cellIn
  dsimp only
  rw [if_neg (by simp [hp, not_lt.mpr h2, not_lt.mpr h5]), if_pos (by simp [hok])]

end

/-- A row acts on the cell that it takes in. -/
theorem cellIn_run {l kind : Nat} {b : List Nat} {s u : State} (h : cellIn l kind b s = (true, u)) (f : State → State) :
    (if (cellIn l kind b s).1 then f (cellIn l kind b s).2 else (cellIn l kind b s).2) = f u := by
  rw [h]
  exact if_pos rfl

/-- A row leaves a dropped cell alone. -/
theorem cellIn_drop {l kind : Nat} {b : List Nat} {s u : State} (h : cellIn l kind b s = (false, u)) (f : State → State) :
    (if (cellIn l kind b s).1 then f (cellIn l kind b s).2 else (cellIn l kind b s).2) = u := by
  rw [h]
  exact if_neg Bool.false_ne_true

/-! ## The handlers of a path's lane (15 R393 to R405) -/

section
variable {l : Nat} {c : List Nat} {s : State}

/-- What a partner's TIME cell brings to its path (15 R394). -/
def timeGot (l wf : Nat) (c : List Nat) (s : State) : PrlPath :=
  let st := wordStamp (s.lane l).rx (laneRate s l) wf 0
  { s.path (lanePath l) with
    rx := some (be16 c 2, etOf (etTotal s.etm st.1), st.2, false)
    data := some { bytes := sub c 7 49, at' := ((s.now : Int) - rawDiff s.raw (st.1 / 4096)).toNat } }

section
variable (ha : laneActive s l = true) (hi : isPath s (lanePath l) = true)
include ha hi

theorem timeRx_alone {wf : Nat} (hx : pathExchange s (lanePath l) c (wordStamp (s.lane l).rx (laneRate s l) wf 0) = none) :
    timeRx l wf c s = pmcCount (256 + lanePath l) (s.setPath (lanePath l) (timeGot l wf c s)) := by
  simp only [timeRx, ha, hi, hx, Bool.not_true, Bool.or_self, Bool.false_eq_true, if_false]
  rfl

theorem timeRx_exchange {wf : Nat} {r : PrlEx × Int} (hx : pathExchange s (lanePath l) c (wordStamp (s.lane l).rx (laneRate s l) wf 0) = some r) :
    let o := s.path (lanePath l)
    let v := { timeGot l wf c s with ex := some r.1, delay := r.2 / 64, n := if o.st = 1 then o.n + 1 else o.n }
    timeRx l wf c s = pmcCount (256 + lanePath l) (s.setPath (lanePath l) v) := by
  simp only [timeRx, ha, hi, hx, Bool.not_true, Bool.or_self, Bool.false_eq_true, if_false]
  rfl

/-- Is a toll the partner's that the exchange recorded (15 R399)? -/
def tollGood (o : PrlPath) (c : List Nat) : Bool := o.part.any (fun r => decide (be16 c 4 = r.1 ∧ c.getD 6 0 = r.2.1 + 8 * r.2.2))

theorem tollRx_wrong (hg : tollGood (s.path (lanePath l)) c = false) (hst : (s.path (lanePath l)).st ≠ 0) : tollRx l c s = pathDown (lanePath l) 3 s :=
  (if_neg (by simp [ha, hi])).trans ((if_pos (congrArg (!·) hg)).trans (if_neg hst))

section
variable (hg : tollGood (s.path (lanePath l)) c = true)
include hg

theorem tollRx_up (hst : (s.path (lanePath l)).st ≠ 0) :
    let far := if tbit (c.getD 7 0) 0 then 0 else (s.path (lanePath l)).far + 1
    let u := s.setPath (lanePath l) { s.path (lanePath l) with tollAt := some s.now, far := far }
    tollRx l c s = if u.get R.PRL_CFG_TOLL_MISS ≤ far then pathDown (lanePath l) 4 u else u :=
  (if_neg (by simp [ha, hi])).trans ((if_neg (Bool.eq_false_iff.mp (congrArg (!·) hg))).trans (if_pos hst))

theorem tollRx_down (hst : (s.path (lanePath l)).st = 0) :
    let p := lanePath l
    let rxok := tbit (c.getD 7 0) 0
    let u := s.setPath p { s.path p with tollAt := some s.now, far := if rxok then 0 else (s.path p).far + 1 }
    tollRx l c s = if rxok && !(s.path p).barred && u.flag (R.PRL_PP_CTL_EN (p / 2)) && !pairErr u (p / 2) then
      u.setPath p { u.path p with st := 1, n := 0, far := 0 } else u :=
  (if_neg (by simp [ha, hi])).trans ((if_neg (Bool.eq_false_iff.mp (congrArg (!·) hg))).trans (if_neg (not_not.mpr hst)))

end

/-- A message's fragment joins its path's copy. -/
theorem msgRx_eq :
    let p := lanePath l
    let kind := c.getD 0 0 - 8
    let r := asmStep (tget none (s.path p).asm kind) (be16 c 2) (c.getD 1 0 % 16) (tbit (c.getD 1 0) 4) (sub c 4 56)
    let u := s.setPath p { s.path p with asm := tset none (s.path p).asm kind r.1 }
    let u := if r.2.1 = 0 then u else u.addSat (R.PRL_PP_MSGCNT2_FRAG_ERR (p / 2)) r.2.1
    (r.2.2 = none → msgRx l c s = u) ∧ ∀ m, r.2.2 = some m → msgRx l c s = msgDedup p kind (be16 c 2) m u := by
  intro p kind r u₀ u
  have h : msgRx l c s = match r.2.2 with | some m => msgDedup p kind (be16 c 2) m u | none => u :=
    (if_neg (by simp [ha, hi])).trans rfl
  refine ⟨fun hr => ?_, fun m hr => ?_⟩
  all_goals rw [h, hr]

end

/-- An EXCH cell that no condition refuses (15 R392). -/
theorem exchRx_good (hst : laneStage s l = 4) (hi : isPath s (lanePath l) = true) (hpart : (s.path (lanePath l)).part = none)
    (hno : (s.path (lanePath l)).exch.any (fun e => e.2 == 0) = false) (hbad : exchBad s (lanePath l) c = 0) :
    let p := lanePath l
    let o := s.path p
    let n := match o.exch with
      | some e => if e.1 = c then e.2 + 1 else 1
      | none => 1
    let u := s.setPath p { o with exch := some (c, n) }
    exchRx l c s = if 16 ≤ n then
      (u.setPath p { u.path p with part := some (be16 c 6, c.getD 10 0 % 8, c.getD 10 0 / 8 % 2) }).put (R.PRL_PP_PATH_HOP_FAC_PARTNER (p / 2) (p % 2)) (be16 c 12)
      else u :=
  (if_neg (by simp only [hst, hi, hpart, hno]; decide)).trans (if_neg (not_not.mpr hbad))

end

/-! ## The other commands -/

theorem cellBoundary_of_stage {l wf req : Nat} {ready : Bool} {s : State} (hp : lanePrl (prlSync s) l = true) (h2 : 2 ≤ laneStage (prlSync s) l)
    (h5 : laneStage (prlSync s) l ≤ 5) :
    let r := nextCell l wf req ready (prlSync s)
    let u := msgClean (lanePath l / 2) r.2
    cellBoundary l wf req ready s = { u with prl := { u.prl with cells := tset [] u.prl.cells l r.1 } } :=
  if_neg (by simp [hp, not_lt.mpr h2, not_lt.mpr h5])

section
variable {kind k : Nat} {b : List Nat} {s : State} (h1 : 1 ≤ b.length) (h894 : b.length ≤ 894)
include h1 h894

theorem msgSend_room (hq : (tget [] (s.pair k).qs kind).length < 32) :
    let o := s.pair k
    let n := o.seqs.getD kind 0
    let v := { o with qs := tset [] o.qs kind (tget [] o.qs kind ++ [{ seq := n, bytes := b }]), seqs := o.seqs.set kind ((n + 1) % 65536) }
    msgSend kind k b s = s.setPair k v :=
  (if_neg (by omega)).trans (if_neg (not_le.mpr hq))

theorem msgSend_full (hq : 32 ≤ (tget [] (s.pair k).qs kind).length) :
    msgSend kind k b s = raiseEvt (R.PRL_EVT2_MSG_DROP.bitAt k) 190 (s.addSat (R.PRL_PP_MSGCNT2_MSG_DROP k) 1) :=
  (if_neg (by omega)).trans (if_pos hq)

end

/-! ## The end of a relay hold (16 R424) -/

section
variable {e : DomHold} {rest : List DomHold} {s : State} (hend : s.dom.table.filter (fun x => decide (x.until' ≤ s.now)) = [e]) (ht : s.dom.table = e :: rest)

include hend in
/-- One hold has ended. -/
theorem relayHolds_one : relayHolds s = holdDone e s := by rw [relayHolds, hend]; rfl

include ht in
theorem table_without : s.dom.table.filter (fun x => x != e) = rest.filter (fun x => x != e) := by
  rw [ht, List.filter_cons_of_neg (by simp)]

include hend ht in
theorem relayHolds_pending (hp : e.pending ≠ 0) :
    let u := s.setDom { s.dom with table := rest.filter (fun x => x != e) ++ [{ e with pending := 0, until' := holdEnd s }] }
    relayHolds s = reportSend e.subject e.code 1 e.wh e.pending u := by
  intro u
  rw [relayHolds_one hend]
  refine (if_neg hp).trans ?_
  rw [table_without ht]

include hend ht in
theorem relayHolds_quiet (hp : e.pending = 0) : relayHolds s = s.setDom { s.dom with table := rest.filter (fun x => x != e) } := by
  rw [relayHolds_one hend]
  refine (if_pos hp).trans ?_
  rw [table_without ht]

end

/-- Settles O33. -/
theorem porarirCommandsComplete : Obligations.PorarirCommandsComplete := by
  refine ⟨?_, ?_, ?_, ?_, ?_, ?_, ?_⟩
  · intro l wf req ready dt s hr u hp h2 h5
    exact gives_of_live_eq hr rfl (cellBoundary_of_stage hp h2 h5)
  · intro l b wf dt s hr u hp h2 h5 hok c p o
    refine ⟨fun hk ha hi => ?_, fun hk ha hi => ?_, fun hk hst => ?_, fun hk hst hi hpart hno hbad => ?_, fun hk ha hi => ?_⟩
    · intro st got
      have hrow := cellIn_run (cellIn_of_ok hp h2 h5 hok hk) (timeRx l wf.toNat c)
      exact ⟨fun hx => gives_of_live_eq hr rfl (hrow.trans (timeRx_alone ha hi hx)), fun r hx => gives_of_live_eq hr rfl (hrow.trans (timeRx_exchange ha hi hx))⟩
    · intro good rxok far v
      have hrow := cellIn_run (cellIn_of_ok hp h2 h5 hok hk) (tollRx l c)
      exact ⟨fun hg hst => gives_of_live_eq hr rfl (hrow.trans (tollRx_wrong ha hi hg hst)), fun hg hst => gives_of_live_eq hr rfl (hrow.trans (tollRx_up ha hi hg hst)),
        fun hg hst => gives_of_live_eq hr rfl (hrow.trans (tollRx_down ha hi hg hst))⟩
    · exact gives_of_live_eq hr rfl (cellIn_run (cellIn_of_ok hp h2 h5 hok hk) (trnRx l c))
    · exact gives_of_live_eq hr rfl ((cellIn_run (cellIn_of_ok hp h2 h5 hok hk) (exchRx l c)).trans (exchRx_good hst hi hpart hno hbad))
    · intro kind r v₀ v
      have hkind : c.getD 0 0 = if 8 ≤ c.getD 0 0 then c.getD 0 0 else 8 := (if_pos hk).symm
      have hrow := cellIn_run (cellIn_of_ok hp h2 h5 hok hkind) (msgRx l c)
      obtain ⟨hnone, hsome⟩ := msgRx_eq ha hi
      exact ⟨fun hx => gives_of_live_eq hr rfl (hrow.trans (hnone hx)), fun m hx => gives_of_live_eq hr rfl (hrow.trans (hsome m hx))⟩
  · intro k h dt n s hr u hst hat hover
    have hsilent : (u.path (2 * k + h)).tollAt.any (fun t => decide (t + tollSpan u ≤ u.now)) = true := by
      rw [hat]
      exact decide_eq_true hover
    exact gives_of_live_if hr ⟨hst, hsilent⟩ rfl
  · exact fun k s hr hst => gives_of_live_if hr hst rfl
  · intro kind k b s hr h1 h894 o q n
    have hlen : (cellBytes b).length = b.length := List.length_map _
    refine ⟨fun hq => ?_, fun hq => ?_⟩
    · exact gives_of_live_eq hr rfl (msgSend_room (by omega) (by omega) hq)
    · exact gives_of_live_eq hr rfl (msgSend_full (by omega) (by omega) hq)
  · exact fun s hr hu ht => gives_of_live_eq hr rfl (taskHand_of_runs hu ht)
  · intro dt s hr ended
    refine ⟨gives_of_live hr rfl, fun e rest ht hend hp => ?_, fun e rest ht hend hp => ?_⟩
    · exact gives_of_live_eq hr rfl (relayHolds_pending (s := s.tick dt) hend ht hp)
    · exact gives_of_live_eq hr rfl (relayHolds_quiet (s := s.tick dt) hend ht hp)

/-! ## A dropped cell (15 R388) -/

section
variable (p : Nat) (s : State)

/-- A dropped cell counts; of the registers only its count's and those of the interrupts and counters change. -/
theorem cellBad_only (hp : p < 16) : IrqOnly ((s.setPath p { s.path p with crc := (s.path p).crc + 1 }).addSat (R.PRL_PP_PATH_CNT_CRC_ERR (p / 2) (p % 2)) 1) (cellBad p s) :=
  pmcAdd_only _ 1 {} _ (by omega)

theorem cellBad_frame (hp : p < 16) : (cellBad p s).path p = { s.path p with crc := (s.path p).crc + 1 } ∧ (∀ q, q ≠ p → (cellBad p s).path q = s.path q) ∧
    (cellBad p s).lan = s.lan ∧ (cellBad p s).dom = s.dom ∧ (cellBad p s).edge = s.edge := by
  obtain ⟨h, -⟩ := cellBad_only p s hp
  rw [h]
  exact ⟨tget_tset_same ({} : PrlPath) _ _ _, fun q hq => tget_tset_other ({} : PrlPath) _ _ _ hq, rfl, rfl, rfl⟩

theorem rdWord_cellBad (hp : p < 16) {a : Nat} (ha : a ≠ (R.PRL_PP_PATH_CNT_CRC_ERR (p / 2) (p % 2)).addr) (h14 : winOf a ≠ 0x14) (h15 : winOf a ≠ 0x15) :
    rdWord (cellBad p s) a = rdWord s a := by
  rw [(cellBad_only p s hp).2 a h14 h15, rdWord_addSat_other _ _ _ ha]
  rfl

end

/-- Settles O34: each receiving row takes the cell in first. -/
theorem corruptCellIsDropped : Obligations.CorruptCellIsDropped := by
  intro l b wf dt s hr settled hp h2 h5 hbad
  have hl : lanePath l < 16 := by unfold lanePath; omega
  have hcell (kind : Nat) : cellIn l kind (cellBytes b) (s.tick dt) = (false, cellBad (lanePath l) settled) := cellIn_of_bad hp h2 h5 hbad
  have htime : exec (.timeCellRx l b wf dt) s = live s _ := congrArg (live s) (cellIn_drop (hcell 1) (timeRx l wf.toNat (cellBytes b)))
  have htoll : exec (.tollRx l b dt) s = live s _ := congrArg (live s) (cellIn_drop (hcell 2) (tollRx l (cellBytes b)))
  have htrn : exec (.trnCellRx l b dt) s = live s _ := congrArg (live s) (cellIn_drop (hcell 3) (trnRx l (cellBytes b)))
  have hexch : exec (.exchCellRx l b dt) s = live s _ := congrArg (live s) (cellIn_drop (hcell 4) (exchRx l (cellBytes b)))
  have hmsg : exec (.msgCellRx l b dt) s = live s _ := congrArg (live s) (cellIn_drop (hcell _) (msgRx l (cellBytes b)))
  obtain ⟨hpath, hothers, hlan, hdom, hedge⟩ := cellBad_frame (lanePath l) settled hl
  have hregs (a : Nat) := rdWord_cellBad (lanePath l) settled hl (a := a)
  generalize cellBad (lanePath l) settled = t at *
  have hlive := live_of_no_reset hr t
  exact ⟨_, htime.trans hlive, htoll.trans hlive, htrn.trans hlive, hexch.trans hlive, hmsg.trans hlive, hpath, hothers, hlan, hdom, hedge, hregs⟩

end Sys2Proof.Machine
end

section
/-! Faults and the recorder (17). -/

namespace Sys2Proof.Machine

/-! ## A fault source raised (17 R429, R434) -/

/-- The block with a raise of the source counted. -/
def raiseCounted (src : Nat) (s : State) : State := pmcCount 352 (s.addSat (R.FLT_SRC_RAISE_CNT src) 1)

/-- What a raise records of the source's home unit. -/
def raiseDetail (src : Nat) (s : State) : Nat := match homeUnit src with | some u => unitStat s u | none => 0

/-- The live shadow that covers the source. -/
def coveredBy (src : Nat) (s : State) : Option Shadow := s.flt.shadows.find? (fun sh => sh.covers.contains src && shadowLive s sh)

section
variable {src : Nat} {rp : Report} {s : State} (hsrc : src ≤ 266) (hd : detectorHeld s src = false)
include hsrc hd

/-- A source that a shadow covers is recorded as a consequence; a local partner report originates its message all the same. -/
theorem faultRaiseRep_covered {sh : Shadow} (hc : coveredBy src (raiseCounted src s) = some sh) :
    let u := raiseConseq src sh rp (raiseDetail src (raiseCounted src s)) (raiseCounted src s)
    faultRaiseRep src rp s = if fltKind src = 2 ∧ src < 250 then originate rp.subject src rp.wh u else u := by
  refine (if_neg (by simp [hd, not_lt.mpr hsrc])).trans ?_
  change (match coveredBy src (raiseCounted src s) with | some _ => _ | none => _) = _
  rw [hc]
  rfl

/-- A source that no shadow covers reacts, as a report or with its latch. -/
theorem faultRaiseRep_clear (hc : coveredBy src (raiseCounted src s) = none) :
    let u := raiseReport src { rp with code := if src = 250 then rp.code else src } (raiseCounted src s)
    faultRaiseRep src rp s = if fltKind src = 2 then (if src < 250 then originate rp.subject src rp.wh u else u)
      else raiseLatch src (raiseDetail src (raiseCounted src s)) (raiseCounted src s) := by
  refine (if_neg (by simp [hd, not_lt.mpr hsrc])).trans ?_
  change (match coveredBy src (raiseCounted src s) with | some _ => _ | none => _) = _
  rw [hc]
  rfl

end

/-! ## The other commands of fault handling -/

section
variable {u : HwUnit} {s : State}

/-- A unit is down from its reset's start, whether the reset's time has passed or not. -/
theorem unitDown_of_resetting {p : HwUnit × Nat → Bool} (h : s.flt.resetting.any (fun r => r.1 == u && p r) = true) : unitDown s u = true := by
  obtain ⟨r, hr, hp⟩ := List.any_eq_true.mp h
  exact Bool.or_eq_true_iff.mpr (.inr (List.any_eq_true.mpr ⟨r, hr, (Bool.and_eq_true_iff.mp hp).1⟩))

/-- Its reset entries taken away, a unit that nothing holds is up (17 R433). -/
theorem unitDown_released (hh : unitHeld s u = false) :
    unitDown { s with flt := { s.flt with resetting := s.flt.resetting.filter (fun r => r.1 != u) } } u = false := by
  refine Bool.or_eq_false_iff.mpr ⟨hh, List.any_eq_false.mpr fun r hr => ?_⟩
  simpa using (List.mem_filter.mp hr).2

/-- A unit whose reset time has passed is released, where its domain is on, no fence holds it and no flush of the recorder runs. -/
theorem blockEnd_of_passed (ha : s.flt.resetting.any (fun r => r.1 == u && decide (r.2 ≤ s.now)) = true)
    (hf : u = .recorder → s.flag R.REC_STAT_FLUSHING = false) (ho : unitOff s u = false) (hh : unitHeld s u = false) :
    blockEnd u s = releaseUnit u { s with flt := { s.flt with resetting := s.flt.resetting.filter (fun r => r.1 != u) } } := by
  have hb : blockRelease u s = { s with flt := { s.flt with resetting := s.flt.resetting.filter (fun r => r.1 != u) } } := by
    refine if_pos ?_
    rw [ha, ho]
    by_cases hu : u = .recorder
    · simp [hf hu]
    · simp [hu]
  rw [blockEnd, hb, unitDown_of_resetting ha, unitDown_released hh]
  rfl

end

theorem chipStart_of_due {q : Nat × Nat} {s : State} (hq : s.flt.chipReq = some q) (h : s.flag R.REC_STAT_FLUSHING = false ∨ q.2 ≤ s.now) :
    chipStart s = resetBegin .fault q.1 s := by
  rw [chipStart, hq]
  exact if_pos (by simpa using h)

section
variable {n : Nat} {s : State} (hn : s.flt.errnUntil = some n) (hp : n ≤ s.now)
include hn hp

/-- ERR_N releases after its minimum where no latched source holds it (17 R437). -/
theorem errnUpdate_release (hh : errnHeld s = false) :
    errnUpdate s = (({ s with flt := { s.flt with errnUntil := none } } : State).putB R.FLT_STAT_ERR_N_ACT false) := by
  simp [errnUpdate, hh, hn, not_lt.mpr hp]

end

theorem errnUpdate_held {s : State} (hh : errnHeld s = true) : errnUpdate s = s.putB R.FLT_STAT_ERR_N_ACT true := by simp [errnUpdate, hh]

/-- Settles O37. -/
theorem faultCommandsComplete : Obligations.FaultCommandsComplete := by
  refine ⟨?_, ?_, ?_, ?_, ?_, ?_, ?_⟩
  · intro src subject wit code dt s hr hsrc hd rp u detail covers
    refine ⟨fun sh hc => ?_, fun hc hk hlt => ?_, fun hc hk hle => ?_, fun hc hk => ?_⟩
    · exact gives_of_live_eq hr rfl (faultRaiseRep_covered hsrc hd hc)
    · refine gives_of_live_eq hr rfl ((faultRaiseRep_clear hsrc hd hc).trans ((if_pos hk).trans ((if_pos hlt).trans ?_)))
      rw [if_neg (by omega)]
      rfl
    · exact gives_of_live_eq hr rfl ((faultRaiseRep_clear hsrc hd hc).trans ((if_pos hk).trans (if_neg (not_lt.mpr hle))))
    · exact gives_of_live_eq hr rfl ((faultRaiseRep_clear hsrc hd hc).trans (if_neg hk))
  · exact fun u dt s hr ha hf ho hh => gives_of_live_eq hr rfl (blockEnd_of_passed (s := s.tick dt) ha hf ho hh)
  · exact fun dt s hr => gives_of_live hr rfl
  · exact fun src s hr => gives_of_live hr rfl
  · exact fun s hr => gives_of_live hr rfl
  · exact fun dt q s hr hq h => gives_of_live_eq hr rfl (chipStart_of_due (s := s.tick dt) hq h)
  · exact fun dt n s hr hn hp =>
      ⟨fun hh => gives_of_live_eq hr rfl (errnUpdate_release (s := s.tick dt) hn hp hh),
       fun hh => gives_of_live_eq hr rfl (errnUpdate_held (s := s.tick dt) hh)⟩

/-! ## The recorder's commands -/

/-- Settles O38. -/
theorem recorderCommandsComplete : Obligations.RecorderCommandsComplete := by
  refine ⟨?_, ?_, ?_, ?_, ?_, ?_⟩
  · exact fun s hf => gives_of_done (congrArg (done s) (if_pos hf))
  · exact fun s hr => ⟨fun hf => gives_of_live_ifNot hr (Bool.eq_false_iff.mp hf) rfl, fun hf =>
      gives_of_live_eq hr rfl ((if_pos hf).trans (by simp))⟩
  · exact fun s hr => ⟨gives_of_live hr rfl, gives_of_live hr rfl, gives_of_live hr rfl⟩
  · exact fun j area seq s hr => gives_of_live hr rfl
  · exact fun j s hr _ => gives_of_live hr rfl
  · exact fun dt s hr => ⟨fun h => gives_of_live_if hr h rfl, fun h => gives_of_live_ifNot hr h rfl⟩

/-! ## A clear request and an erased area -/

/-- Settles O39. -/
theorem faultClearWaitsForTheEdge : Obligations.FaultClearWaitsForTheEdge := by
  intro src s hr
  have hsrc : (fltClrReq src.toNat s).get R.FLT_CLR_SRC = src.toNat :=
    (get_put_ne _ _ _ (by decide)).trans ((get_put_same s _ _ (by simp [Fits, R.FLT_CLR_SRC])).trans (Nat.mod_eq_of_lt src.isLt))
  have hres : (fltClrReq src.toNat s).get R.FLT_CLR_STAT_RESULT = 7 := get_put_same _ _ 7 (by simp [Fits, R.FLT_CLR_STAT_RESULT])
  exact ⟨_, gives_of_live hr rfl, hres, hsrc, rfl,
    fun a h1 h2 => (rdWord_put_other _ _ _ h2).trans (rdWord_put_other s _ _ h1), rfl, rfl, rfl⟩

/-- The area's words are its use count and its FULL flag. -/
theorem eraseFixed_rdWord (s : State) {a : Nat} (h13 : winOf a ≠ 0x13) (h14 : winOf a ≠ 0x14) (h15 : winOf a ≠ 0x15) :
    rdWord (eraseFixed s) a = rdWord s a := by
  have h1 : a ≠ R.REC_STAT_FIXED_FULL.addr := fun e => h13 (e ▸ by decide)
  have h2 : a ≠ R.REC_USE_FIXED_USED.addr := fun e => h13 (e ▸ by decide)
  have h := (logRec_only 0x188 [] s).2 a h13 h14 h15
  rw [eraseFixed, rdWord_put_other _ _ _ h1, rdWord_put_other _ _ _ h2]
  exact h

/-- Settles O40. -/
theorem eraseFixedLeavesRoll : Obligations.EraseFixedLeavesRoll := by
  intro s hr
  have hroll : (eraseFixed s).rcd.roll = s.rcd.roll := (capture_keepsLog 0x188 [] {} s).2
  have hused : (eraseFixed s).get R.REC_USE_FIXED_USED = 0 :=
    (get_put_ne _ _ _ (by decide)).trans (get_put_same _ _ _ (by simp [Fits, R.REC_USE_FIXED_USED]))
  have hfull : (eraseFixed s).get R.REC_STAT_FIXED_FULL = 0 := get_put_same _ _ _ (by simp [Fits, R.REC_STAT_FIXED_FULL])
  exact ⟨_, gives_of_live hr rfl, rfl, hused, hfull, hroll, logRec_flt _ _ _, logRec_key _ _ _, logRec_edge _ _ _, fun _ => eraseFixed_rdWord s⟩

end Sys2Proof.Machine
end

section
/-! The interrupt controller and the counters (18). -/

namespace Sys2Proof.Machine

/-! ## The lowest deliverable source (18 R457) -/

/-- A search finds the deliverable source that none before it is. -/
theorem irqFirst_eq {s : State} {t src : Nat} (hd : irqDeliv s t src = true) (fuel k : Nat) (h1 : k ≤ src) (h2 : src < k + fuel)
    (hlow : ∀ i, k ≤ i → i < src → irqDeliv s t i = false) : irqFirst s t fuel k = some src := by
  induction fuel generalizing k with
  | zero => omega
  | succ fuel ih =>
    by_cases e : k = src
    · exact if_pos (e ▸ hd) |>.trans (by rw [e])
    · have hk : irqDeliv s t k = false := hlow k le_rfl (by omega)
      exact (if_neg (Bool.eq_false_iff.mp hk)).trans (ih (k + 1) (by omega) (by omega) fun i hi => hlow i (by omega))

/-! ## Claims (18 R457) -/

section
variable {m : Master} {t : Nat} {s : State}

/-- Every requester but the recorder claims at the controller. -/
theorem claimBy_of_ne (hm : m ≠ .recorder) : claimBy m t s = irqClaimOp t (isHost m) (accCtx s m (0x140100 + 0x20 * t)) s := by
  cases m with
  | recorder => exact absurd rfl hm
  | spi | i2c | inband | solverA | solverB => rfl

section
variable {host : Bool} {c : PmcCtx} (hh : (host && decide (4 ≤ t)) = false)
include hh

/-- A claim takes the lowest source into SERVICE. -/
theorem irqClaimOp_some (hst : (s.tgt t).st ≠ .service) {src : Nat} (hl : irqLowest s t = some src) : irqClaimOp t host c s =
    (src, pmcAdd (70 + t) 1 c (irqUnhold src ((irqSetPend src false s).setTgt t { s.tgt t with st := .service, active := src }))) := by
  simp only [irqClaimOp, hst, hl, hh, if_false, Bool.false_eq_true]

/-- A claim at an asserted target that has no source any more is spurious. -/
theorem irqClaimOp_spurious (hl : irqLowest s t = none) (ha : (s.tgt t).st = .asserted) : irqClaimOp t host c s =
    (255, pmcAdd (76 + t) 1 c ((s.setTgt t { s.tgt t with st := .idle, count := 0 }).addSat (R.IRQ_TGT_COUNTS_SPUR_CNT t) 1)) := by
  simp only [irqClaimOp, hl, hh, if_false, Bool.false_eq_true, ha, if_true, reduceCtorEq]

end

theorem irqClaimOp_service {host : Bool} {c : PmcCtx} (hst : (s.tgt t).st = .service) : irqClaimOp t host c s = ((s.tgt t).active, s) := if_pos hst

/-- A host's claim at target 4 or 5 changes nothing. -/
theorem irqClaimOp_host {c : PmcCtx} (h4 : 4 ≤ t) : (irqClaimOp t true c s).2 = s := by
  unfold irqClaimOp
  dsimp only
  split
  · rfl
  · split
    · simp [h4]
    · split <;> simp [h4]

/-- A claim where nothing is asked for changes nothing. -/
theorem irqClaimOp_idle {host : Bool} {c : PmcCtx} (hl : irqLowest s t = none) (ha : (s.tgt t).st ≠ .asserted) : (irqClaimOp t host c s).2 = s := by
  simp only [irqClaimOp, hl, ha, if_false]
  split
  · rfl
  · rfl

/-- A claim of the recorder's, in SERVICE, of a host's at targets 4 and 5, and where nothing is asked for, changes nothing. -/
theorem claimBy_none (h : m = .recorder ∨ (s.tgt t).st = .service ∨ (isHost m = true ∧ 4 ≤ t) ∨ (irqLowest s t = none ∧ (s.tgt t).st ≠ .asserted)) :
    (claimBy m t s).2 = s := by
  by_cases hm : m = .recorder
  · rw [hm]
    rfl
  rw [claimBy_of_ne hm]
  rcases h with h | h | ⟨h, h4⟩ | ⟨hl, ha⟩
  · exact absurd h hm
  · rw [irqClaimOp_service h]
  · rw [h, irqClaimOp_host h4]
  · exact irqClaimOp_idle hl ha

end

theorem mayClaim {m : Master} {t : Nat} (h : isHost m = true → t < 4) : (isHost m && decide (4 ≤ t)) = false := by
  simpa using h

/-! ## The other commands of the controller -/

section
variable {src t : Nat} {s : State}

section
variable (h1 : 1 ≤ src) (h2 : src ≤ 254) (hen : s.flag (R.IRQ_SRC_EN src) = true)
include h1 h2 hen

/-- A request edge of a pending source merges; another pends and arrives at its target (18 R453). -/
theorem irqRequest_merged (hp : irqPend s src = true) : irqRequest src s = pmcSettle (pmcCount0 88 s) := by
  rw [irqRequest, irqRequest0, if_neg (by omega), if_pos hen, if_pos hp]

theorem irqRequest_fresh (hp : irqPend s src = false) :
    irqRequest src s = pmcSettle (tgtArrive (s.get (R.IRQ_SRC_TARGET src)) src (irqSetPend src true s)) := by
  rw [irqRequest, irqRequest0, if_neg (by omega), if_pos hen, if_neg (Bool.eq_false_iff.mp hp)]

end

section
variable {id : Nat}

theorem irqComplete_last (hst : (s.tgt t).st = .service) (ha : (s.tgt t).active = id) :
    let u := s.setTgt t { s.tgt t with st := .idle, active := 0, count := 0 }
    irqLowest u t = none → irqCompleteOp t id s = pmcSettle u := by
  intro u hl
  refine congrArg pmcSettle ((if_pos ⟨hst, ha⟩).trans ?_)
  change (match irqLowest u t with | some _ => _ | none => _) = _
  rw [hl]

theorem irqComplete_more (hst : (s.tgt t).st = .service) (ha : (s.tgt t).active = id) :
    let u := s.setTgt t { s.tgt t with st := .idle, active := 0, count := 0 }
    irqLowest u t ≠ none → irqCompleteOp t id s = pmcSettle (tgtAssert t (u.setTgt t { u.tgt t with count := (s.tgt t).count })) := by
  intro u hl
  obtain ⟨src, hl⟩ := Option.ne_none_iff_exists'.mp hl
  refine congrArg pmcSettle ((if_pos ⟨hst, ha⟩).trans ?_)
  change (match irqLowest u t with | some _ => _ | none => _) = _
  rw [hl]

theorem irqComplete_wrong (h : (s.tgt t).st ≠ .service ∨ (s.tgt t).active ≠ id) (h0 : id ≠ 0) (h255 : id ≠ 255) :
    irqCompleteOp t id s = pmcSettle (s.put (R.IRQ_TGT_STAT_CPL_ERR t) 1) :=
  congrArg pmcSettle ((if_neg (by tauto)).trans (if_neg (by tauto)))

end

/-- EN of a source that has one (18 R453). -/
theorem irqEnOp_eq {en : Bool} (h1 : 1 ≤ src) (h2 : src ≤ 215) (h3 : src ≤ 195 ∨ 200 ≤ src) :
    let v := s.putB (R.IRQ_SRC_EN src) en
    let t := v.get (R.IRQ_SRC_TARGET src)
    irqEnOp src en s = if irqPend v src then
      pmcSettle (if en ∧ ¬ s.flag (R.IRQ_SRC_EN src) then tgtArrive t src v else tgtSettle t v) else v :=
  if_neg (by simp; omega)

section
variable {due : Nat} (hg : (s.tgt t).st = .gather) (hd : tgtDue s t = some due)
include hg hd

theorem tgtGather_assert (hs : s.flag (R.IRQ_TGT_CFG_SLEEP t) = false) : tgtGather t s = tgtAssert t s := by
  rw [tgtGather, if_pos hg, hd]
  exact if_neg (Bool.eq_false_iff.mp hs)

theorem tgtGather_hold (hs : s.flag (R.IRQ_TGT_CFG_SLEEP t) = true) : tgtGather t s = tgtHold t due s := by
  rw [tgtGather, if_pos hg, hd]
  exact if_pos hs

end

/-- A held source that has waited its latency moves to its fallback (18 R460). -/
theorem irqFallbackOp_due {d : Nat} (hd : tget none s.irq.heldFrom src = some d) (hs : s.flag (R.IRQ_TGT_CFG_SLEEP (s.get (R.IRQ_SRC_TARGET src))) = true)
    (hf : s.flag (R.IRQ_SRC_FB_EN src) = true) (hv : irqDeliv s (s.get (R.IRQ_SRC_TARGET src)) src = true)
    (hw : d + s.get (R.IRQ_TGT_SLEEP_LAT_SLEEP_LAT (s.get (R.IRQ_SRC_TARGET src))) * 250 ≤ s.now)
    (ho : s.flag (R.IRQ_TGT_CFG_SLEEP (s.get (R.IRQ_SRC_FB src))) = false) :
    irqFallbackOp src s = pmcCount (82 + s.get (R.IRQ_SRC_TARGET src)) (irqMove src (s.get (R.IRQ_SRC_FB src)) (s.put (R.IRQ_SRC_REDIR src) 1)) := by
  simp only [irqFallbackOp, hd]
  exact if_pos ⟨hs, hf, hv, hw, Bool.eq_false_iff.mp ho⟩

end

/-- Settles O41. -/
theorem interruptCommandsComplete : Obligations.InterruptCommandsComplete := by
  refine ⟨?_, ?_, ?_, ?_, ?_, ?_, ?_, ?_, ?_, ?_, ?_⟩
  · exact fun src dt s hr h1 h2 hen =>
      ⟨fun hp => gives_of_live_eq hr rfl (irqRequest_merged (s := s.tick dt) h1 h2 hen hp),
       fun hp => gives_of_live_eq hr rfl (irqRequest_fresh (s := s.tick dt) h1 h2 hen hp)⟩
  · intro m t s hr hm hh hst g c
    refine ⟨fun src hl => ?_, fun hl ha => ?_⟩
    · exact gives_of_live_eq hr rfl ((congrArg Prod.snd (claimBy_of_ne hm)).trans (congrArg Prod.snd (irqClaimOp_some (mayClaim hh) hst hl)))
    · exact gives_of_live_eq hr rfl ((congrArg Prod.snd (claimBy_of_ne hm)).trans (congrArg Prod.snd (irqClaimOp_spurious (mayClaim hh) hl ha)))
  · exact fun m t s hr h => gives_of_live_eq hr rfl (claimBy_none h)
  · exact fun t id s hr =>
      ⟨fun hst ha => ⟨fun hl => gives_of_live_eq hr rfl (irqComplete_last hst ha hl), fun hl => gives_of_live_eq hr rfl (irqComplete_more hst ha hl)⟩,
       fun h h0 h255 => gives_of_live_eq hr rfl (irqComplete_wrong h (by simpa [BitVec.toNat_eq] using h0) (by simpa [BitVec.toNat_eq] using h255))⟩
  · exact fun src t dt s hr h1 h2 => gives_of_live_if hr ⟨h1, h2, by omega⟩ rfl
  · intro src en dt s hr h1 h2 h3 v t
    have h := irqEnOp_eq (s := s.tick dt) (en := en) h1 h2 h3
    refine ⟨fun hp => ?_, fun hp he hw => ?_, fun hp hw => ?_⟩
    · exact gives_of_live_eq hr rfl (h.trans (if_neg (Bool.eq_false_iff.mp hp)))
    · exact gives_of_live_eq hr rfl (h.trans ((if_pos hp).trans (congrArg pmcSettle (if_pos ⟨he, Bool.eq_false_iff.mp hw⟩))))
    · refine gives_of_live_eq hr rfl (h.trans ((if_pos hp).trans (congrArg pmcSettle (if_neg fun hn => ?_))))
      exact hw.elim (fun e => Bool.eq_false_iff.mp e hn.1) hn.2
  · exact fun t dt due s hr hg hd =>
      ⟨fun hs => gives_of_live_eq hr rfl (congrArg pmcSettle (tgtGather_assert (s := s.tick dt) hg hd hs)),
       fun hs => gives_of_live_eq hr rfl (congrArg pmcSettle (tgtGather_hold (s := s.tick dt) hg hd hs))⟩
  · exact fun t dt s hr =>
      ⟨gives_of_live_eq hr rfl (if_neg (by omega)), gives_of_live hr rfl⟩
  · exact fun src dt d s hr hd hs hf hv hw ho => gives_of_live_eq hr rfl (irqFallbackOp_due (s := s.tick dt) hd hs hf hv hw ho)
  · exact fun s hr => gives_of_live hr rfl
  · exact fun j s hr => gives_of_live hr rfl

/-! ## A target in SERVICE keeps its source, whatever else is requested (18 R456, R457) -/

/-- Target t serves source src. -/
def Serves (t src : Nat) (s : State) : Prop := (s.tgt t).st = .service ∧ (s.tgt t).active = src

theorem tgt_setTgt_same (s : State) (t : Nat) (v : Tgt) : (s.setTgt t v).tgt t = v := tget_tset_same ({} : Tgt) s.irq.tgts t v

theorem tgt_setTgt_other (s : State) {t u : Nat} (v : Tgt) (h : t ≠ u) : (s.setTgt u v).tgt t = s.tgt t :=
  tget_tset_other ({} : Tgt) {} s.irq.tgts v h

theorem tgt_pmcAdd0 (n k : Nat) (c : PmcCtx) (s : State) (t : Nat) : (pmcAdd0 n k c s).tgt t = s.tgt t := by
  rw [State.tgt, pmcAdd0_irq, State.tgt]

section
variable {t src : Nat} {s : State} (hs : Serves t src s)
include hs

theorem Serves.ne_of_st {u : Nat} (h : (s.tgt u).st ≠ .service) : t ≠ u := fun e => h (e ▸ hs.1)

theorem Serves.setTgt_other {u : Nat} (h : t ≠ u) (v : Tgt) : Serves t src (s.setTgt u v) := by
  rwa [Serves, tgt_setTgt_other s v h]

theorem Serves.pmcAdd0 (n k : Nat) (c : PmcCtx) : Serves t src (pmcAdd0 n k c s) := by
  rwa [Serves, tgt_pmcAdd0]

theorem Serves.tgtAssert {u : Nat} (h : t ≠ u) : Serves t src (tgtAssert u s) :=
  Serves.pmcAdd0 (s := (s.setTgt u _).addSat _ 1) (hs.setTgt_other h _) _ _ _

theorem Serves.tgtGather (u : Nat) : Serves t src (tgtGather u s) := by
  unfold Machine.tgtGather
  split
  next hg =>
    have hne : t ≠ u := hs.ne_of_st (by rw [hg]; decide)
    split
    · split
      · exact hs
      · exact hs.tgtAssert hne
    · exact hs
  · exact hs

theorem Serves.setCount (u n : Nat) : Serves t src (s.setTgt u { s.tgt u with count := n }) := by
  by_cases h : t = u
  · subst h
    rw [Serves, tgt_setTgt_same]
    exact hs
  · exact hs.setTgt_other h _

theorem Serves.tgtFurther (u : Nat) : Serves t src (tgtFurther u s) := by
  have h := hs.setCount u (satW 8 ((s.tgt u).count + 1))
  unfold Machine.tgtFurther
  dsimp only
  split
  · exact h
  · exact h.tgtGather u

theorem Serves.tgtArrive (u k : Nat) : Serves t src (tgtArrive u k s) := by
  unfold Machine.tgtArrive
  dsimp only
  split
  next hi => exact (hs.setTgt_other (hs.ne_of_st (by rw [hi]; decide)) _).tgtGather u
  · exact Serves.tgtFurther (s := irqSetPend k true _) (Serves.tgtGather (s := irqSetPend k false s) hs u) u

theorem Serves.irqRequest0 (k : Nat) : Serves t src (irqRequest0 k s) := by
  unfold Machine.irqRequest0
  split
  · exact hs
  · split
    · split
      · exact hs.pmcAdd0 _ _ _
      · exact Serves.tgtArrive (s := irqSetPend k true s) hs _ k
    · exact hs

theorem Serves.pmcSettle : Serves t src (pmcSettle s) := by
  have h : Serves t src { s with pmc := { s.pmc with ovfDue := false } } := hs
  unfold Machine.pmcSettle
  split
  · exact h.irqRequest0 193
  · exact hs

theorem Serves.pmcAdd (n k : Nat) (c : PmcCtx) : Serves t src (pmcAdd n k c s) := (hs.pmcAdd0 n k c).pmcSettle

end

section
variable {s t : State} (h : IrqOnly s t)
include h

theorem IrqOnly.edge_eq : t.edge = s.edge := by rw [h.1]

theorem IrqOnly.flt_eq : t.flt = s.flt := by rw [h.1]

theorem IrqOnly.rcd_eq : t.rcd = s.rcd := by rw [h.1]

theorem IrqOnly.etm_eq : t.etm = s.etm := by rw [h.1]

end

/-- What a claim takes changes the controller and the counters alone. -/
theorem claimed_only {t src : Nat} (c : PmcCtx) (s : State) (v : Tgt) (ht : t < 6) (hs : src < 256) :
    IrqOnly s (pmcAdd (70 + t) 1 c (irqUnhold src ((irqSetPend src false s).setTgt t v))) :=
  (((irqSetPend_only src false s hs).trans (irqOnly_irq _ _)).trans (irqOnly_irq _ _)).trans (pmcAdd_only _ _ _ _ (by omega))

theorem claimed_serves {t src : Nat} (c : PmcCtx) (s : State) {v : Tgt} (hst : v.st = .service) (ha : v.active = src) :
    Serves t src (pmcAdd (70 + t) 1 c (irqUnhold src ((irqSetPend src false s).setTgt t v))) := by
  refine Serves.pmcAdd ?_ _ _ _
  have h : (irqUnhold src ((irqSetPend src false s).setTgt t v)).tgt t = v := tgt_setTgt_same (irqSetPend src false s) t v
  rw [Serves, h]
  exact ⟨hst, ha⟩

/-- Settles O42. -/
theorem claimTakesTheLowestSource : Obligations.ClaimTakesTheLowestSource := by
  intro m t src s hr hm hh hst h1 h2 hd hlow
  have hl : irqLowest s t = some src.val := irqFirst_eq hd 255 1 h1 (by omega) hlow
  have hc := (claimBy_of_ne (t := t) (s := s) hm).trans (irqClaimOp_some (mayClaim hh) hst hl)
  have h := claimed_only (accCtx s m (0x140100 + 0x20 * t)) s { s.tgt t with st := .service, active := src } t.isLt src.isLt
  have hsv := claimed_serves (t := t) (accCtx s m (0x140100 + 0x20 * t)) s (v := { s.tgt t with st := .service, active := src }) rfl rfl
  generalize pmcAdd (70 + t) 1 (accCtx s m (0x140100 + 0x20 * t)) _ = u at hc h hsv
  obtain ⟨hsrv, hact⟩ := hsv
  have hx : exec (.irqClaim m t) s = live s u := congrArg (fun r : Nat × State => live s r.2) hc
  exact ⟨congrArg Prod.fst hc, _, hx.trans (live_of_no_reset hr u), hsrv, hact, h.2, h.edge_eq, h.flt_eq, h.rcd_eq, h.etm_eq⟩

end Sys2Proof.Machine
end

section
/-! Power, resets and the life cycle (19), and the rails (21). -/

namespace Sys2Proof.Machine

/-! ## Power (19 R471 to R490) -/

section
variable {s : State}

/-- A domain that has stopped its outputs enters its lower state, and wakes again where it is in use (19 R471, R496). -/
theorem domEntry_of_quiet {d : Nat} (h : 2 ≤ tget 0 s.pwr.changing d) (hq : domQuiet s d = true) :
    let u := domDone d (tget 0 s.pwr.changing d - 1) s
    domEntry d s = if u.flag (R.PWR_DOM_IN_USE d) ∧ !tbit u.pwr.shed d then domStart d 0 u else u := if_pos ⟨h, hq⟩

/-- The episode's end records what was shed (19 R483). -/
theorem pfailEnd_of_due {n : Nat} (hn : s.pwr.rearm = some n) (hf : s.flag R.PWR_STAT_PFAIL = true)
    (hd : n + s.get R.PWR_PFAIL_CFG_REARM * msCounts ≤ s.up) :
    let u := s.setPwr { s.pwr with rearm := none, shed := 0, shedAny := false }
    let u := pwrEvt R.PWR_EVT_PFAIL_CLR ((u.put R.PWR_STAT_PFAIL 0).put R.PWR_STAT_SHED 0)
    pfailEnd s = if s.pwr.shedAny then logRec 0x195 (leBytes 4 (rdWord u 0x010028)) u else u := by
  rw [pfailEnd, hn]
  exact if_pos ⟨hf, hd⟩

theorem spllLoss_running (hb : s.flag R.PWR_STAT_BACKUP = false) (hr : s.pwr.rst = none) : spllLoss s = spllLeave true s :=
  (if_neg (Bool.eq_false_iff.mp hb)).trans (if_neg (by simp [hr]))

/-- In a reset a loss of lock changes the clock alone. -/
theorem spllLoss_reset (hb : s.flag R.PWR_STAT_BACKUP = false) (hr : s.pwr.rst ≠ none) :
    spllLoss s = spllUnlock ((s.setPwr { s.pwr with strokesB := 0 }).put R.PWR_STAT_BACKUP 1) :=
  (if_neg (Bool.eq_false_iff.mp hb)).trans (if_pos (Option.isSome_iff_ne_none.mpr hr))

theorem spllLoss_backup (hb : s.flag R.PWR_STAT_BACKUP = true) :
    spllLoss s = if s.flag R.PWR_SPLL_STAT_LOCK then spllUnlock s else s.put R.PWR_SPLL_CNT_STABLE_CNT 0 := if_pos hb

end

/-- Settles O44. -/
theorem powerCommandsComplete : Obligations.PowerCommandsComplete := by
  refine ⟨?_, ?_, ?_, ?_, ?_, ?_, ?_, ?_, ?_, ?_, ?_, ?_, ?_, ?_, ?_⟩
  · exact fun d dt s hr h => gives_of_live_if hr h rfl
  · exact fun d dt s hr h hq => gives_of_live_eq hr rfl (domEntry_of_quiet (s := s.tick dt) h hq)
  · exact fun s => gives_of_done rfl
  · exact fun s h => gives_of_done (congrArg (done s) (if_neg (Bool.eq_false_iff.mp h)))
  · exact fun s hr h => gives_of_live_ifNot hr (Bool.eq_false_iff.mp h) rfl
  · exact fun s hr h => gives_of_live_if hr h rfl
  · exact fun dt s => gives_of_done rfl
  · exact fun dt s h => gives_of_done (congrArg (done s) (if_pos h))
  · exact fun dt n s hn hf hd => gives_of_done (congrArg (done s) (pfailEnd_of_due (s := s.tick dt) hn hf hd))
  · intro stopped dt s u
    refine ⟨fun hb hr => ?_, fun hb hr => ?_, fun hb hl => ?_, fun hb hl => ?_⟩
    · exact gives_of_done (congrArg (done s) (spllLoss_running (s := u) hb hr))
    · exact gives_of_done (congrArg (done s) (spllLoss_reset (s := u) hb hr))
    · exact gives_of_done (congrArg (done s) ((spllLoss_backup (s := u) hb).trans (if_pos hl)))
    · exact gives_of_done (congrArg (done s) ((spllLoss_backup (s := u) hb).trans (if_neg (Bool.eq_false_iff.mp hl))))
  · exact fun s hr hn h => gives_of_live_eq hr rfl ((if_pos hn).trans (if_pos h))
  · exact fun s hr h => gives_of_live_if hr h rfl
  · exact fun w v s hr => gives_of_live hr rfl
  · intro s h
    exact ⟨gives_of_done (congrArg (done s) (if_pos h)), gives_of_done (congrArg (done s) (if_pos (.inl h)))⟩
  · exact fun b s => ⟨gives_of_done rfl, gives_of_done rfl⟩

/-! ## The resets (19 R484 to R487) -/

section
variable {t : Nat} {r : RstSt} {s : State}

theorem resetBegin_running {kind : ResetKind} {src : Nat} (h : s.pwr.rst ≠ none) : resetBegin kind src s = s :=
  if_pos (Option.isSome_iff_ne_none.mpr h)

/-- A reset that no fault asked for starts the flush. -/
theorem resetBegin_flush {kind : ResetKind} {src : Nat} (h : s.pwr.rst = none) (hk : kind ≠ .fault) :
    let u := s.setPwr { s.pwr with rst := some { kind := kind, src := src, from' := s.up } }
    let u := ({ u with flt := { u.flt with errnUntil := none, chipReq := none } } : State).put R.FLT_STAT_ERR_N_ACT 0
    let u := if u.get R.KEY_STAT_TXN_STATE = 1 then logRec 0x178 [] (keyIdle u) else u
    resetBegin kind src s = flushStart false u :=
  (if_neg (by simp [h])).trans (if_neg hk)

theorem resetEnd_of_over (hr : s.pwr.rst = some r) (hk : r.kind ≠ .por)
    (h : r.kind = .fault ∨ s.flag R.REC_STAT_FLUSHING = false ∨ 12 * msCounts ≤ t) :
    resetEnd t s = resetRelease r (s.flag R.REC_STAT_FLUSHING) true { s with up := max s.up (r.from' + t) } := by
  rw [resetEnd, hr]
  refine if_neg fun hn => ?_
  rcases hn with hp | ⟨hf, hfl, hlt⟩
  · exact hk hp
  · rcases h with h | h | h
    · exact hf h
    · exact Bool.eq_false_iff.mp h hfl
    · exact absurd hlt (not_lt.mpr h)

theorem strapsSampled_por {v : Nat} (hr : s.pwr.rst = some r) (hk : r.kind = .por) : strapsSampled v s = s.setPwr { s.pwr with straps := v } := by
  rw [strapsSampled, hr]
  exact if_pos hk

theorem porEnd_of_over {n : Nat} {locked : Bool} (hr : s.pwr.rst = some r) (hk : r.kind = .por) (hn : r.rails = some n) (ht : msCounts ≤ t)
    (hl : locked = true ∨ 21 * msCounts ≤ t) : porEnd t locked s = resetRelease r false locked { s with up := max s.up (n + t) } := by
  simp only [porEnd, hr, hn]
  exact if_pos ⟨hk, ht, hl⟩

end

/-- The OTP write over, the life cycle's state changes and the chip reset begins (19 R493). -/
theorem lcWritten_of_ready {tgt : Nat} {s : State} (ht : s.pwr.lcReq = some tgt) (hl : lcReady s = true) :
    let u := (s.setPwr { s.pwr with lcReq := none }).put R.GEN_LC_STATE tgt
    let u := if s.get R.GEN_LC_STATE = 3 ∧ tgt = 2 then u.addSat R.GEN_LC_RETURNS 1 else u
    lcWritten s = resetBegin .lc 0 (lcErase (s.get R.GEN_LC_STATE) tgt (logRec 0x193 [s.get R.GEN_LC_STATE, tgt] u)) := by
  rw [lcWritten, ht]
  exact if_pos hl

/-- A life-cycle request shown in its register. -/
def lcShown (tgt confirm res : Nat) (s : State) : State :=
  ((s.put R.GEN_LC_REQ_TARGET tgt).put R.GEN_LC_REQ_CONFIRM confirm).put R.GEN_LC_REQ_RESULT res

/-- A request's answer shows in its register, and an accepted request waits (19 R493). -/
theorem lcRequest_eq (tgt confirm : Nat) (s : State) : lcRequest tgt confirm s =
    (lcShown tgt confirm (lcResult s tgt confirm) s).setPwr (if lcResult s tgt confirm = 0 then { s.pwr with lcReq := some tgt } else s.pwr) := by
  by_cases h : lcResult s tgt confirm = 0
  · rw [if_pos h]
    exact if_pos h
  · rw [if_neg h]
    exact if_neg h

/-- Settles O45. -/
theorem resetCommandsComplete : Obligations.ResetCommandsComplete := by
  refine ⟨?_, ?_, ?_, ?_, ?_, ?_, ?_, ?_⟩
  · exact fun s => gives_of_done rfl
  · exact fun h s => gives_of_done rfl
  · intro dt s
    refine ⟨fun hr => ?_, fun hr => ?_⟩
    · exact gives_of_done (congrArg (done s) (resetBegin_flush (s := s.tick dt) hr (by decide)))
    · exact gives_of_done (congrArg (done s) (resetBegin_running (s := s.tick dt) hr))
  · exact fun dt s hr => gives_of_live_if hr rfl rfl
  · exact fun t r s hr hk h => gives_of_done (congrArg (done s) (resetEnd_of_over hr hk h))
  · intro t n locked straps r s hr hk hn ht hl
    refine gives_of_done (congrArg (done s) ?_)
    rw [strapsSampled_por hr hk]
    exact porEnd_of_over (s := s.setPwr { s.pwr with straps := straps.toNat }) hr hk hn ht hl
  · exact fun target confirm s hr h => gives_of_live_eq hr rfl (by rw [lcRequest_eq, h, if_pos rfl]; rfl)
  · exact fun tgt s ht hl => gives_of_done (congrArg (done s) (lcWritten_of_ready ht hl))

/-! ## A life-cycle request judged (19 R492, R493) -/

section
variable {tgt confirm : Nat} {s : State}

theorem lcResult_le : lcResult s tgt confirm ≤ 4 := by
  unfold lcResult
  grind

theorem lcResult_busy (h : s.pwr.lcReq ≠ none) : lcResult s tgt confirm = 4 := if_pos (Option.isSome_iff_ne_none.mpr h)

section
variable (h : s.pwr.lcReq = none)
include h

theorem lcResult_confirm (hc : confirm ≠ 0xC5) : lcResult s tgt confirm = 2 := (if_neg (by simp [h])).trans (if_pos hc)

variable (hc : confirm = 0xC5)
include hc

theorem lcResult_pair (ha : lcAllowed (s.get R.GEN_LC_STATE) tgt = false) : lcResult s tgt confirm = 1 :=
  (if_neg (by simp [h])).trans ((if_neg (not_not.mpr hc)).trans (if_pos (by simp [ha])))

theorem lcResult_allowed (ha : lcAllowed (s.get R.GEN_LC_STATE) tgt = true) :
    lcResult s tgt confirm = if s.get R.GEN_LC_STATE = 3 ∧ tgt = 2 ∧ 8 ≤ s.get R.GEN_LC_RETURNS then 3 else 0 :=
  (if_neg (by simp [h])).trans ((if_neg (not_not.mpr hc)).trans (if_neg (by simp [ha])))

end

theorem lcAllowed_eq_false {st : Nat} (h : st = 4 ∨ tgt ≤ 1 ∨ 5 ≤ tgt ∨ st = tgt ∨ (st = 1 ∧ tgt = 3)) : lcAllowed st tgt = false := by
  simp [lcAllowed]
  omega

theorem lcAllowed_eq_true {st : Nat} (h : (st = 1 ∧ tgt = 2) ∨ (st = 2 ∧ tgt = 3) ∨ (st = 3 ∧ tgt = 2) ∨ (tgt = 4 ∧ 1 ≤ st ∧ st ≤ 3)) :
    lcAllowed st tgt = true := by
  simp [lcAllowed]
  omega

/-- The request's register is its own. -/
theorem rdWord_lcShown (res : Nat) {a : Nat} (ha : a ≠ R.GEN_LC_REQ_TARGET.addr) : rdWord (lcShown tgt confirm res s) a = rdWord s a := by
  rw [lcShown, rdWord_put_other _ R.GEN_LC_REQ_RESULT _ ha, rdWord_put_other _ R.GEN_LC_REQ_CONFIRM _ ha, rdWord_put_other _ _ _ ha]

theorem lcShown_parts (res : Nat) : (lcShown tgt confirm res s).edge = s.edge ∧ (lcShown tgt confirm res s).nvm = s.nvm ∧
    (lcShown tgt confirm res s).key = s.key := by
  simp [lcShown]

theorem get_result_lcShown {res : Nat} (h : res ≤ 4) : (lcShown tgt confirm res s).get R.GEN_LC_REQ_RESULT = res :=
  (get_put_same _ _ _ (by simp [Fits, R.GEN_LC_REQ_RESULT])).trans (Nat.mod_eq_of_lt (by simp [R.GEN_LC_REQ_RESULT]; omega))

/-- What a request changes: its own register, and where it is accepted the request that waits. -/
theorem lcRequest_changes :
    let t := lcRequest tgt confirm s
    t.get R.GEN_LC_REQ_RESULT = lcResult s tgt confirm ∧
      t.pwr = (if lcResult s tgt confirm = 0 then { s.pwr with lcReq := some tgt } else s.pwr) ∧
      (∀ a, a ≠ R.GEN_LC_REQ_TARGET.addr → rdWord t a = rdWord s a) ∧ t.edge = s.edge ∧ t.nvm = s.nvm ∧ t.key = s.key := by
  have hres := get_result_lcShown (tgt := tgt) (confirm := confirm) (s := s) (lcResult_le (tgt := tgt) (confirm := confirm) (s := s))
  have hword (a : Nat) (ha : a ≠ R.GEN_LC_REQ_TARGET.addr) := rdWord_lcShown (tgt := tgt) (confirm := confirm) (s := s) (lcResult s tgt confirm) ha
  obtain ⟨hedge, hnvm, hkey⟩ := lcShown_parts (tgt := tgt) (confirm := confirm) (s := s) (lcResult s tgt confirm)
  rw [lcRequest_eq]
  generalize lcShown tgt confirm (lcResult s tgt confirm) s = u at hres hword hedge hnvm hkey
  exact ⟨hres, rfl, hword, hedge, hnvm, hkey⟩

end

/-- Settles O47. -/
theorem lifeCycleRequestIsJudged : Obligations.LifeCycleRequestIsJudged := by
  intro target confirm s hr st tgt
  have hx : exec (.lcRequest target confirm) s = live s (lcRequest tgt confirm.toNat s) := rfl
  obtain ⟨hres, hpwr, hword, hedge, hnvm, hkey⟩ := lcRequest_changes (tgt := tgt) (confirm := confirm.toNat) (s := s)
  have hst := get_eq_of_rdWord (f := R.GEN_LC_STATE) (hword _ (by decide))
  generalize lcRequest tgt confirm.toNat s = t at hx hres hpwr hword hedge hnvm hkey hst
  have judged {n : Nat} (h : lcResult s tgt confirm.toNat = n) (hn : n ≠ 0) : t.get R.GEN_LC_REQ_RESULT = n ∧ t.pwr = s.pwr :=
    ⟨hres.trans h, hpwr.trans (if_neg (h ▸ hn))⟩
  have hconf (h : confirm ≠ 0xC5) : confirm.toNat ≠ 0xC5 := by simpa [BitVec.toNat_eq] using h
  refine ⟨_, hx.trans (live_of_no_reset hr t), hst, fun h => ?_, fun h hc => ?_, fun h hc hp => ?_, fun h hc h3 h2 h8 => ?_, fun h hc hp => ?_,
    hword, hedge, hnvm, hkey⟩
  · exact judged (lcResult_busy h) (by decide)
  · exact judged (lcResult_confirm h (hconf hc)) (by decide)
  · exact judged (lcResult_pair h (by rw [hc]; rfl) (lcAllowed_eq_false hp)) (by decide)
  · refine judged ((lcResult_allowed h (by rw [hc]; rfl) (lcAllowed_eq_true ?_)).trans (if_pos ⟨h3, h2, h8⟩)) (by decide)
    omega
  · have h0 : lcResult s tgt confirm.toNat = 0 :=
      (lcResult_allowed h (by rw [hc]; rfl) (lcAllowed_eq_true (by omega))).trans (if_neg (by omega))
    exact ⟨hres.trans h0, hpwr.trans (if_pos h0)⟩

end Sys2Proof.Machine
end

section
/-! Start-up, the image and the NVM's stores (20 R498 to R513). -/

namespace Sys2Proof.Machine

/-! ## The image (20 R498 to R505) -/

section
variable {s : State}

/-- FETCH orders the candidates by their IMG_SEQ (20 R500). -/
theorem headersRead_of_fetch {a b : List Nat} (h : s.get R.CFG_STAT_STATE = 0) :
    let x := if hdrGood a then [0] else []
    let y := if hdrGood b then [1] else []
    let u := s.setCfg { s.cfg with cands := if imgLe a 8 4 < imgLe b 8 4 then y ++ x else x ++ y }
    headersRead a b s = checkNext (u.put R.CFG_STAT_STATE 1) := if_neg (not_not.mpr h)

theorem candChecked_of_check {b : List Nat} {slot : Nat} {r : List Nat} (h : s.get R.CFG_STAT_STATE = 1) (hc : s.cfg.cands = slot :: r) :
    candChecked b s = if imgReason s b = 0 then imgPass slot b s else imgReject slot (imgReason s b) s := by
  refine (if_neg (not_not.mpr h)).trans ?_
  rw [hc]

theorem restoreDone_of_applied (h : s.get R.CFG_STAT_STATE = 3) (hd : s.cfg.runDue = false) (hw : s.gen.waiting = []) :
    restoreDone s = (storesRest s).setCfg { (storesRest s).cfg with runDue := true } := if_pos ⟨h, by simp [hd], by simp [hw]⟩

end

/-! ## The stores (20 R512) -/

section
variable {s : State}

theorem storeAsk_onFull (m : Nat) (s : State) : (storeAsk m s).flag R.CFG_NVM_CFG_ON_FULL = s.flag R.CFG_NVM_CFG_ON_FULL := by
  rw [State.flag, State.flag, storeAsk, get_put_ne _ _ _ (by decide)]

/-- The block with the LEARNED store asked for by its timer. -/
def learnAsked (s : State) : State :=
  let h := s.get R.CFG_NVM_CFG_LEARN_HRS * 3600 * 8000
  storeAsk 2 (s.setCfg { s.cfg with learnAt := (s.strokes - 1) / h * h })

/-- The LEARNED store asked for where the model has become FULL. -/
def fullAsked (s : State) : State :=
  if s.cfg.fullDue ∧ s.flag R.CFG_NVM_CFG_ON_FULL then storeAsk 2 (s.setCfg { s.cfg with fullDue := false }) else s

/-- The policy looks at the timer, then at the model's state. -/
theorem learnTimer_eq (s : State) :
    let h := s.get R.CFG_NVM_CFG_LEARN_HRS * 3600 * 8000
    learnTimer s = fullAsked (if h ≠ 0 ∧ s.cfg.learnAt + h ≤ s.strokes - 1 then learnAsked s else s) := rfl

theorem learnAsked_onFull : (learnAsked s).flag R.CFG_NVM_CFG_ON_FULL = s.flag R.CFG_NVM_CFG_ON_FULL := storeAsk_onFull 2 (s.setCfg _)

theorem fullAsked_of_not (hf : s.cfg.fullDue = false) : fullAsked s = s := if_neg fun hn => Bool.eq_false_iff.mp hf hn.1

theorem fullAsked_of_full (hf : s.cfg.fullDue = true) (ho : s.flag R.CFG_NVM_CFG_ON_FULL = true) :
    fullAsked s = storeAsk 2 (s.setCfg { s.cfg with fullDue := false }) := if_pos ⟨hf, ho⟩

theorem storeErased_of_erase (h : s.get R.CFG_NVM_STAT_NVM_STATE = 1) (hc : s.cfg.capDue = false) :
    let a := storeArea s.nvm (s.get R.CFG_NVM_STAT_CUR)
    let q := storeNext s.nvm (s.get R.CFG_NVM_STAT_CUR)
    storeErased s =
      (s.setNvm { s.nvm with copies := tset none s.nvm.copies a none, torn := tset none s.nvm.torn a (some q) }).put R.CFG_NVM_STAT_NVM_STATE 2 :=
  if_pos ⟨h, by simp [hc]⟩

end

/-- Settles O50. -/
theorem startUpCommandsComplete : Obligations.StartUpCommandsComplete := by
  refine ⟨?_, ?_, ?_, ?_, ?_, ?_, ?_, ?_, ?_, ?_, ?_, ?_, ?_, ?_, ?_, ?_⟩
  · exact fun ha hb s hr h => gives_of_live_eq hr rfl (headersRead_of_fetch h)
  · exact fun img slot r s hr h hc =>
      ⟨fun h0 => gives_of_live_eq hr rfl ((candChecked_of_check h hc).trans (if_pos h0)),
       fun h0 => gives_of_live_eq hr rfl ((candChecked_of_check h hc).trans (if_neg h0))⟩
  · exact fun s hr h =>
      ⟨fun hw hle => gives_of_live_if hr ⟨h, hw, hle⟩ rfl, fun hw hn => gives_of_live hr rfl⟩
  · exact fun s hr h hd hw => gives_of_live_eq hr rfl (restoreDone_of_applied h hd hw)
  · exact fun s hr h => gives_of_live_ifNot hr (Bool.eq_false_iff.mp h) rfl
  · exact fun m s hr => gives_of_live hr rfl
  · intro s hr h n u
    refine ⟨fun h0 hle hf => ?_, fun hd hf ho => ?_, fun h0 hle hf ho => ?_⟩
    · refine gives_of_live_eq hr rfl ((learnTimer_eq s).trans ?_)
      rw [if_pos ⟨h0, hle⟩]
      exact fullAsked_of_not (s := learnAsked s) hf
    · refine gives_of_live_eq hr rfl ((learnTimer_eq s).trans ?_)
      rw [if_neg fun hn => hd.elim hn.1 (not_lt.mpr hn.2)]
      exact fullAsked_of_full hf ho
    · refine gives_of_live_eq hr rfl ((learnTimer_eq s).trans ?_)
      rw [if_pos ⟨h0, hle⟩]
      exact fullAsked_of_full (s := learnAsked s) hf (learnAsked_onFull.trans ho)
  · exact fun s hr h hp hg => gives_of_live_if hr ⟨h, hp, hg⟩ rfl
  · exact fun s hr h hc => gives_of_live_eq hr rfl (storeErased_of_erase h hc)
  · exact fun s hr h => ⟨gives_of_live_eq hr rfl (if_pos h), gives_of_live_eq hr rfl (if_pos h)⟩
  · exact fun c s hr h hc => gives_of_done (congrArg (done s) (if_neg (by simp [hr])))
  · exact fun yielded dt s hr h hd => gives_of_live_if hr ⟨h, hd⟩ rfl
  · exact fun s hr h => gives_of_live_if hr h rfl
  · exact fun s hr => gives_of_live hr rfl
  · intro k s hr u
    refine ⟨fun hl he => ?_, fun hl he => ?_⟩
    · exact gives_of_live_if hr ⟨hl, by rw [he]; rfl⟩ rfl
    · exact gives_of_live_if hr ⟨hl, he⟩ rfl
  · exact fun v s hr h => gives_of_live_if hr h rfl

/-! ## MIN_SEQ (20 R510) -/

/-- Settles O54. -/
theorem minSeqOnlyRises : Obligations.MinSeqOnlyRises := by
  intro v s hr
  have hx : exec (.minSeqWrite v) s = live s (minSeqWrite v.toNat s) := rfl
  by_cases h : s.get R.CFG_MIN_SEQ_MIN_SEQ < v.toNat
  · have hget : (s.put R.CFG_MIN_SEQ_MIN_SEQ v.toNat).get R.CFG_MIN_SEQ_MIN_SEQ = v.toNat :=
      (get_put_same s _ _ (by simp [Fits, R.CFG_MIN_SEQ_MIN_SEQ])).trans (Nat.mod_eq_of_lt v.isLt)
    rw [minSeqWrite, if_pos h] at hx
    exact ⟨_, hx.trans (live_of_no_reset hr _), hget.trans (max_eq_right h.le).symm, fun k hk => rdWord_put_other s _ _ hk, rfl, rfl, rfl, rfl⟩
  · rw [minSeqWrite, if_neg h] at hx
    exact ⟨_, hx.trans (live_of_no_reset hr s), (max_eq_left (not_lt.mp h)).symm, fun _ _ => rfl, rfl, rfl, rfl, rfl⟩

end Sys2Proof.Machine
end

section
/-! Host access and privilege (20 R514 to R521). -/

namespace Sys2Proof.Machine

/-! ## Aligned transactions (20 R516) -/

section
variable {j : Iface} {a : Nat} {s : State} (h4 : a % 4 = 0)
include h4

theorem hostWrite_aligned {l : List Nat} : hostWrite j a l false s = writeWords j a l s :=
  (if_neg (not_not.mpr h4)).trans (if_neg Bool.false_ne_true)

theorem hostRead_aligned {n : Nat} : hostRead j a n false s = readWords j n a (s.setHst { s.hst with out := [] }) :=
  (if_neg (not_not.mpr h4)).trans (if_neg Bool.false_ne_true)

end

/-- The device's address has seven bits. -/
theorem toNat_i2cAddr (s : State) : (BitVec.ofNat 7 (i2cAddr s)).toNat = i2cAddr s :=
  Nat.mod_eq_of_lt (by simp only [i2cAddr]; omega)

/-! ## Privilege (20 R518, R519) -/

section
variable {j : Iface} {who : Option MgmtWho} {s : State}

section
variable (hc : tget [] s.hst.chal j.num ≠ []) (hg : keyGate s 2 3 1 ≠ 1)
include hc hg

/-- VERIFY of a response that answers the challenge under a usable KS_2. -/
theorem custVerify_good
    (hm : hmacOf (s.slot 2).key (custMsg s j (who.elim 0 (·.key))) = (List.range 8).flatMap (fun w => leBytes 4 (s.get ((R.HST_RESP_W0_RESP.word w).ifc j)))) :
    custVerify j who s = custSettle (custGain j who false (chalPut j [] (keyUseNow 2 (msgWake s)))) := by
  have hcan : (!(tget [] s.hst.chal j.num).isEmpty && keyGate s 2 3 1 != 1) = true := by simp [hc, hg]
  simp only [custVerify, hcan, hm, Bool.true_and, beq_self_eq_true, if_true]

theorem custVerify_wrong
    (hm : hmacOf (s.slot 2).key (custMsg s j (who.elim 0 (·.key))) ≠ (List.range 8).flatMap (fun w => leBytes 4 (s.get ((R.HST_RESP_W0_RESP.word w).ifc j)))) :
    let v := chalPut j [] (keyUseNow 2 (msgWake s))
    custVerify j who s = custFail j (v.setHst { v.hst with failAt := tset none v.hst.failAt j.num (some (v.now + secCounts)) }) := by
  have hcan : (!(tget [] s.hst.chal j.num).isEmpty && keyGate s 2 3 1 != 1) = true := by simp [hc, hg]
  simp only [custVerify, hcan, beq_eq_false_iff_ne.mpr hm, Bool.and_false, Bool.false_eq_true, if_true, if_false]

end

theorem custIdle_of_due (h0 : s.get R.HST_MGMT_CFG_CUST_TMO ≠ 0)
    (h : tget 0 s.hst.last j.num + s.get R.HST_MGMT_CFG_CUST_TMO * 600 * secCounts ≤ s.now) : custIdle s j = true := by
  simp [custIdle, h0, h]

end

/-- A request at the queue's head, well formed and authenticated, is served (20 R521). -/
theorem mgmtRequest_good {r : MgmtReq} {l : List MgmtReq} {slot : Nat} {s : State} (hq : s.hst.reqs = r :: l) :
    let u := s.setHst { s.hst with reqs := l }
    let b := r.msg
    let n := ofBe ((b.drop 2).take 2)
    b.getD 0 0 = 1 → b.getD 1 0 = 1 → 32 + n ≤ b.length → mgmtKey u (ofBe ((b.drop 4).take 4)) = some slot → keyGate u slot 3 1 ≠ 1 →
    (hmacOf (u.slot slot).key (b.take (16 + n))).take 16 = (b.drop (16 + n)).take 16 →
    mgmtRequest s = mgmtServe r slot (keyUseNow slot (msgWake u)) := by
  intro u b n h0 h1 hlen hk hg hm
  have hgood : ((hmacOf (u.slot slot).key (b.take (16 + n))).take 16 == (b.drop (16 + n)).take 16) = true := beq_iff_eq.mpr hm
  rw [mgmtRequest, hq]
  refine (if_neg fun h => h.elim (· h0) fun h => h.elim (· h1) (not_lt.mpr hlen)).trans ?_
  change (match mgmtKey u (ofBe ((b.drop 4).take 4)) with | none => _ | some slot => _) = _
  rw [hk]
  exact (if_neg hg).trans (if_pos hgood)

/-- Settles O51. -/
theorem hostCommandsComplete : Obligations.HostCommandsComplete := by
  refine ⟨?_, ?_, ?_, ?_, ?_, ?_, ?_, ?_, ?_⟩
  · exact fun a l dt s hr h4 =>
      ⟨gives_of_live_eq hr rfl (hostWrite_aligned h4), gives_of_live_eq hr rfl (hostWrite_aligned h4),
       gives_of_live_eq hr rfl ((if_pos (toNat_i2cAddr s)).trans (hostWrite_aligned h4))⟩
  · exact fun a n dt s hr h4 =>
      ⟨gives_of_live_eq hr rfl (hostRead_aligned (s := s.tick dt) h4), gives_of_live_eq hr rfl (hostRead_aligned (s := s.tick dt) h4),
       gives_of_live_eq hr rfl ((if_pos (toNat_i2cAddr s)).trans (hostRead_aligned (s := s.tick dt) h4))⟩
  · exact fun dev a l part n dt s hr hd => ⟨gives_of_live_ifNot hr hd rfl, gives_of_live_ifNot hr hd rfl⟩
  · exact fun dt s hr => gives_of_live hr rfl
  · exact fun op dt s hr h1 h2 h3 h4 h5 => gives_of_live_eq hr rfl (if_neg (by tauto))
  · intro j dt s hr u
    refine ⟨fun h => gives_of_live_if hr h rfl, fun hc hg => ⟨fun hm => ?_, fun hm => ?_⟩, fun hk hl hj => ?_, gives_of_live hr rfl⟩
    · exact gives_of_live_eq hr rfl (custVerify_good hc hg hm)
    · exact gives_of_live_eq hr rfl (custVerify_wrong hc hg hm)
    · exact gives_of_live_if hr ⟨by rw [hk]; rfl, hl, hj⟩ rfl
  · exact fun j dt s hr h0 h => gives_of_live_if hr (custIdle_of_due (s := s.tick dt) h0 h) rfl
  · exact fun j dt s hr h => gives_of_live_if hr h rfl
  · exact fun dt slot r l s hr hq h0 h1 hlen hk hg hm => gives_of_live_eq hr rfl (mgmtRequest_good (s := s.tick dt) hq h0 h1 hlen hk hg hm)

/-! ## Refused transactions (20 R517) -/

theorem ifaceNum_injective {i j : Iface} (h : i.num = j.num) : i = j := by
  cases i <;> cases j <;> simp_all [Iface.num]

section
variable (i j : Iface)

theorem hst_win : winOf (R.HST_STAT_ERR_CODE.ifc j).addr = 0x17 ∧ winOf (R.HST_ERR_ADDR_ADDR.ifc j).addr = 0x17 := by
  cases j <;> decide

theorem hst_fits : Fits (R.HST_STAT_ERR_CODE.ifc j) ∧ Fits (R.HST_ERR_ADDR_ADDR.ifc j) := by
  simp [Fits, Fld.ifc, R.HST_STAT_ERR_CODE, R.HST_ERR_ADDR_ADDR]

/-- Code and address of an error are registers apart, on whichever interfaces. -/
theorem hst_code_ne_addr : (R.HST_STAT_ERR_CODE.ifc i).addr ≠ (R.HST_ERR_ADDR_ADDR.ifc j).addr := by
  simp only [Fld.ifc, R.HST_STAT_ERR_CODE, R.HST_ERR_ADDR_ADDR]
  omega

/-- Each interface shows its errors in registers of its own. -/
theorem hst_addr_ne {i j : Iface} (h : i ≠ j) :
    (R.HST_STAT_ERR_CODE.ifc i).addr ≠ (R.HST_STAT_ERR_CODE.ifc j).addr ∧ (R.HST_ERR_ADDR_ADDR.ifc i).addr ≠ (R.HST_ERR_ADDR_ADDR.ifc j).addr := by
  have hn : i.num ≠ j.num := fun e => h (ifaceNum_injective e)
  simp only [Fld.ifc, R.HST_STAT_ERR_CODE, R.HST_ERR_ADDR_ADDR]
  omega

theorem hst_ne_evt : (R.HST_STAT_ERR_CODE.ifc j).addr ≠ R.HST_EVT_ACC_ERR.addr ∧ (R.HST_ERR_ADDR_ADDR.ifc j).addr ≠ R.HST_EVT_ACC_ERR.addr := by
  cases j <;> decide

end

/-- Writes and an event leave the other blocks' state. -/
theorem raiseEvt_put_parts (f g h : Fld) (n v w : Nat) (s : State) :
    let t := raiseEvt f n ((s.put g v).put h w)
    t.gen = s.gen ∧ t.edge = s.edge ∧ t.key = s.key ∧ t.nvm = s.nvm := by
  simp [raiseEvt]

section
variable (j : Iface) (code a : Nat) (s : State)

/-- A field outside the interrupt and counter windows, apart from the event bit, reads as the error's two writes left it. -/
theorem accErr_get {f : Fld} (he : f.addr ≠ R.HST_EVT_ACC_ERR.addr) (h1 : winOf f.addr ≠ 0x14) (h2 : winOf f.addr ≠ 0x15) :
    (accErr j code a s).get f = ((s.put (R.HST_STAT_ERR_CODE.ifc j) code).put (R.HST_ERR_ADDR_ADDR.ifc j) (a % 2 ^ 24)).get f :=
  get_eq_of_rdWord (rdWord_raiseEvt_other _ 195 _ he h1 h2)

theorem accErr_get_code (hc : code < 16) : (accErr j code a s).get (R.HST_STAT_ERR_CODE.ifc j) = code := by
  rw [accErr_get j code a s (hst_ne_evt j).1 (by simp [(hst_win j).1]) (by simp [(hst_win j).1]), get_put_ne _ _ _ (hst_code_ne_addr j j),
    get_put_same _ _ _ (hst_fits j).1]
  exact Nat.mod_eq_of_lt hc

theorem accErr_get_addr (ha : a < 2 ^ 24) : (accErr j code a s).get (R.HST_ERR_ADDR_ADDR.ifc j) = a := by
  rw [accErr_get j code a s (hst_ne_evt j).2 (by simp [(hst_win j).2]) (by simp [(hst_win j).2]), get_put_same _ _ _ (hst_fits j).2,
    Nat.mod_eq_of_lt ha]
  exact Nat.mod_eq_of_lt ha

theorem accErr_get_evt : (accErr j code a s).get R.HST_EVT_ACC_ERR = 1 :=
  raiseEvt_get_same _ 195 _ (by simp [Fits, R.HST_EVT_ACC_ERR]) (by decide) (by decide)

/-- The other interfaces show what they showed. -/
theorem accErr_get_other {i : Iface} (h : i ≠ j) : (accErr j code a s).get (R.HST_STAT_ERR_CODE.ifc i) = s.get (R.HST_STAT_ERR_CODE.ifc i) ∧
    (accErr j code a s).get (R.HST_ERR_ADDR_ADDR.ifc i) = s.get (R.HST_ERR_ADDR_ADDR.ifc i) := by
  rw [accErr_get j code a s (hst_ne_evt i).1 (by simp [(hst_win i).1]) (by simp [(hst_win i).1]), get_put_ne _ _ _ (hst_code_ne_addr i j),
    get_put_ne _ _ _ (hst_addr_ne h).1, accErr_get j code a s (hst_ne_evt i).2 (by simp [(hst_win i).2]) (by simp [(hst_win i).2]),
    get_put_ne _ _ _ (hst_addr_ne h).2, get_put_ne _ _ _ (hst_code_ne_addr j i).symm]
  exact ⟨rfl, rfl⟩

theorem rdWord_accErr {k : Nat} (h14 : winOf k ≠ 0x14) (h15 : winOf k ≠ 0x15) (h17 : winOf k ≠ 0x17) : rdWord (accErr j code a s) k = rdWord s k := by
  have he : k ≠ R.HST_EVT_ACC_ERR.addr := fun e => h17 (e ▸ by decide)
  have hc : k ≠ (R.HST_STAT_ERR_CODE.ifc j).addr := fun e => h17 (e ▸ (hst_win j).1)
  have ha : k ≠ (R.HST_ERR_ADDR_ADDR.ifc j).addr := fun e => h17 (e ▸ (hst_win j).2)
  rw [accErr, hstEvt, rdWord_raiseEvt_other _ _ _ he h14 h15, rdWord_put_other _ _ _ ha, rdWord_put_other _ _ _ hc]

theorem accErr_parts : (accErr j code a s).gen = s.gen ∧ (accErr j code a s).edge = s.edge ∧ (accErr j code a s).key = s.key ∧
    (accErr j code a s).nvm = s.nvm := by
  rw [accErr, hstEvt]
  exact raiseEvt_put_parts _ _ _ _ _ _ _

end

/-- t is s but for an error that interface j shows: its code and address, the event, and what the interrupt brings. -/
structure ShowsError (j : Iface) (code a : Nat) (s t : State) : Prop where
  code_eq : t.get (R.HST_STAT_ERR_CODE.ifc j) = code
  addr_eq : t.get (R.HST_ERR_ADDR_ADDR.ifc j) = a
  event : t.get R.HST_EVT_ACC_ERR = 1
  others : ∀ i : Iface, i ≠ j → t.get (R.HST_STAT_ERR_CODE.ifc i) = s.get (R.HST_STAT_ERR_CODE.ifc i) ∧
    t.get (R.HST_ERR_ADDR_ADDR.ifc i) = s.get (R.HST_ERR_ADDR_ADDR.ifc i)
  words : ∀ k, winOf k ≠ 0x14 → winOf k ≠ 0x15 → winOf k ≠ 0x17 → rdWord t k = rdWord s k
  parts : t.gen = s.gen ∧ t.edge = s.edge ∧ t.key = s.key ∧ t.nvm = s.nvm

theorem accErr_showsError {j : Iface} {code a : Nat} {s : State} (hc : code < 16) (ha : a < 2 ^ 24) :
    ShowsError j code a s (accErr j code a (hstTouch j s)) where
  code_eq := accErr_get_code j code a _ hc
  addr_eq := accErr_get_addr j code a _ ha
  event := accErr_get_evt j code a _
  others _ h := accErr_get_other j code a (hstTouch j s) h
  words _ h14 h15 h17 := rdWord_accErr j code a (hstTouch j s) h14 h15 h17
  parts := accErr_parts j code a (hstTouch j s)

/-- The time that a transaction takes and the queue are no part of what it shows. -/
theorem ShowsError.settled {j : Iface} {code a dt : Nat} {s t : State} (h : ShowsError j code a (s.tick dt) t) (l : List Instr) :
    ShowsError j code a s { t with pending := l } where
  code_eq := h.code_eq
  addr_eq := h.addr_eq
  event := h.event
  others := h.others
  words := h.words
  parts := h.parts

theorem exec_registerWrite (j : Iface) (a : BitVec 24) (v : BitVec 32) (dt : Nat) (s : State) :
    exec (.registerWrite j a v dt) s = live s (hostWrite j a.toNat [v.toNat] false (s.tick dt)) := rfl

/-- Settles O52. -/
theorem unalignedTransactionIsRefused : Obligations.UnalignedTransactionIsRefused := by
  intro j a v dt s hr h4
  have hx := (exec_registerWrite j a v dt s).trans (congrArg (live s) (hostWrite_unaligned h4))
  have h := (accErr_showsError (j := j) (s := s.tick dt) (show 1 < 16 by decide) a.isLt).settled s.pending
  exact ⟨_, hx.trans (live_of_no_reset hr _), h.code_eq, h.addr_eq, h.event, h.others, h.words, h.parts⟩

/-- A word at an address that no register has is refused before anything else is looked at (22 R556). -/
theorem hostWord_unmapped {j : Iface} {who : Option MgmtWho} {a v : Nat} {s : State} (hk : ks2Usable s = true) (hm : mapped a = false) :
    (hostWord j who a v s).2 = accErr j 6 a (hstTouch j s) := by
  simp [hostWord, custSettle_of_usable hk, hm, writeCode, accDone]

/-- Settles O53. -/
theorem unmappedWriteIsRefused : Obligations.UnmappedWriteIsRefused := by
  intro j a v dt s hr h4 hm hk
  have hw := (hostWrite_one (j := j) (v := v.toNat) (s := s.tick dt) h4 a.isLt).trans (hostWord_unmapped hk hm)
  have hx := (exec_registerWrite j a v dt s).trans (congrArg (live s) hw)
  have h := (accErr_showsError (j := j) (s := s.tick dt) (show 6 < 16 by decide) a.isLt).settled s.pending
  exact ⟨_, hx.trans (live_of_no_reset hr _), h.code_eq, h.addr_eq, h.event, h.words, h.parts⟩

end Sys2Proof.Machine
end
